-- ==== Sys2Proof/Word.lean ====
section
/-! DEFINITION. The byte type and the plainest arithmetic on natural numbers that the model uses. -/
namespace Sys2Proof

/-- One byte, as the spec's records and payloads hold it. -/
abbrev Byte := BitVec 8

/-- `w` cut to its low `n` bits. -/
def low (n w : Nat) : Nat := w % 2 ^ n

/-- Bits `[hi:lo]` of `w`, as the spec's bit maps write them. -/
def bits (w hi lo : Nat) : Nat := (w / 2 ^ lo) % 2 ^ (hi + 1 - lo)

/-- Bit `[i]` of `w`. -/
def bit (w i : Nat) : Bool := bits w i i == 1

/-- 1 for true, 0 for false, as a BOOL object or a one-bit field holds it. -/
def ofBool (b : Bool) : Nat := if b then 1 else 0

/-- Smallest whole number at or above `a ÷ b`. -/
def ceilDiv (a b : Nat) : Nat := (a + b - 1) / b

end Sys2Proof
end

