-- ==== Sys2Proof/Syntax.lean ====
section
/-! DEFINITION. The commands of the UV960: one constructor for each row of spec/opcode_table.json, and the records
that are their operands. -/
namespace Sys2Proof

/-- The two ring paths (R58); for a link, the path it lies on. -/
inductive Path where
  | a | b
  deriving DecidableEq, Repr

/-- Where rows stop (R83): none come on an in link, or this node's own A-out transmitter fails. -/
inductive RowStop where
  | input (link : Path)
  | ownOutput
  /-- the rows on B-in end because the downstream neighbour, whose PATH_B_MODE is COLD, has cooled its B-out (R80) -/
  | cooled
  deriving DecidableEq, Repr

/-- An in link whose block lock and deskew are done, with the rate recovered on it against its reference, in units of FREQ_ADJ (R65). -/
structure Alignment where
  link : Path
  rate : Int := 0
  deriving DecidableEq, Repr

/-- A requester on one of the four access paths, as R49 names it. -/
inductive Requester where
  | ring (source commander : Nat)
  | mailbox
  | kedogil (address udpPort : Nat)
  | farif
  deriving DecidableEq, Repr

/-- An object request body (R47). `data` holds the data bytes that the path carried. -/
structure ObjReq where
  opcode : Nat := 0
  flags : Nat := 0
  target : Nat := 0
  commander : Nat := 0
  index : Nat := 0
  sub : Nat := 0
  reserved : Nat := 0
  tag : Nat := 0
  length : Nat := 0
  segOffset : Nat := 0
  data : List Byte := []
  deriving DecidableEq, Repr

/-- An object response body (R48). -/
structure ObjResp where
  opcode : Nat
  status : Nat
  source : Nat
  commander : Nat
  index : Nat
  sub : Nat
  flags : Nat
  tag : Nat
  segOffset : Nat
  data : List Byte
  deriving DecidableEq, Repr

/-- Who sends a command that is a write of one object: the requester, the commander ID of R33 and the tag. -/
structure Sender where
  who : Requester
  commander : Nat
  tag : Nat
  deriving DecidableEq, Repr

/-- A ring frame: the header fields of R68, less the check, and the payload. -/
structure Frame where
  hops : Nat := 0
  wrapped : Bool := false
  path : Path := .a
  cls : Nat := 0
  type : Nat := 0
  src : Nat := 0
  dst : Nat := 0
  status : Nat := 0
  retx : Bool := false
  posted : Bool := false
  commander : Nat := 0
  tag : Nat := 0
  session : Nat := 0
  seq : Nat := 0
  address : Nat := 0
  param : Nat := 0
  payload : List Byte := []
  deriving DecidableEq, Repr

/-- A row of four lanes as it is received (R60, R61): each lane's sync header, control (`some true`), data or invalid (`none`), and the
32 bytes. -/
structure WireRow where
  sync : List (Option Bool)
  bytes : List Byte
  deriving DecidableEq, Repr

/-- A count for each lane of a link. -/
structure LaneCounts where
  lane0 : Nat
  lane1 : Nat
  lane2 : Nat
  lane3 : Nat
  deriving DecidableEq, Repr

/-- A frame as its rows bring it (R64): the 32 header bytes, the payload bytes, the data rows between header and
trailer, and the trailer's FCRC, STOMP and LINK_WORD. -/
structure RingWire where
  header : List Byte
  payload : List Byte
  rows : Nat
  fcrc : Nat
  stomp : Bool := false
  linkWord : Nat := 0
  deriving DecidableEq, Repr

/-- The content of a NOTICE row (R62). -/
structure Notice where
  kind : Nat
  origin : Nat
  u : Nat := 0
  d : Nat := 0
  time : Nat := 0
  seq : Nat := 0
  deriving DecidableEq, Repr

/-- The content of a HELLO row (R62). -/
structure Hello where
  reverse : Nat
  stepping : Nat
  effectiveId : Nat
  configuredId : Nat
  identity : Nat
  deriving DecidableEq, Repr

/-- The 24 content bytes C0 to C23 of a TIMING row (R114), and when it arrived: the local counter in 1/256 ns. -/
structure TimingRow where
  content : List Byte
  arrival : Nat
  deriving DecidableEq, Repr

/-- An IRIG-B frame as its receiver reads it (R112): the format number (0 to 7, or 124 to 127 for the modulated forms), the
time of its reference marker in ns, its fields, the control-function bits of IEEE C37.118.1, and whether parity and format
are good. -/
structure IrigFrame where
  form : Nat
  mark : Nat
  year : Nat := 0
  day : Nat
  hour : Nat
  minute : Nat
  second : Nat
  utcOffset : Int := 0
  leapWarning : Bool := false
  qualityLocked : Bool := true
  good : Bool := true
  deriving DecidableEq, Repr

/-- What a PTP master tells a port in its Sync (with its Follow_Up, in two steps) and Announce messages, and what the port measures (R111):
the domain, the time the Sync left with its corrections, its arrival at the balls by this node's counter and the mean link delay, in ns,
and the data set by which masters are compared. -/
structure PtpSync where
  domain : Nat := 0
  twoStep : Bool := false
  origin : Nat
  arrival : Nat
  peerDelay : Nat := 0
  priority1 : Nat := 128
  clockClass : Nat := 6
  accuracy : Nat := 0
  variance : Nat := 0
  priority2 : Nat := 128
  identity : Nat := 0
  /-- the UTC offset of the master in s, where its Announce gives one -/
  utcOffset : Option Int := none
  deriving DecidableEq, Repr

/-- An Ethernet frame: addresses and EtherType as numbers, the VLAN tag (PCP and VID), the HSR tag or PRP trailer
(sequence number and LAN identifier 0xA or 0xB), the octets after the EtherType, and whether the FCS is good. -/
structure EthFrame where
  dst : Nat := 0
  src : Nat := 0
  vlan : Option (Nat × Nat) := none
  red : Option (Nat × Nat) := none
  etherType : Nat := 0
  payload : List Byte := []
  /-- octets from the destination address to the FCS -/
  length : Nat := 64
  fcsGood : Bool := true
  deriving DecidableEq, Repr

/-- A CAN frame on the bus: IDE, RTR, FDF, BRS, ESI, DLC, identifier, its data bytes, and the time of its SOF in ns. -/
structure CanFrame where
  extended : Bool := false
  rtr : Bool := false
  fdf : Bool := false
  brs : Bool := false
  esi : Bool := false
  dlc : Nat := 0
  id : Nat := 0
  data : List Byte := []
  sof : Nat := 0
  deriving DecidableEq, Repr

/-- How a frame on a CAN bus ends: `kind` 0 arbitration lost, else as LAST_ERROR codes it (1 stuff, 2 form, 3 ACK, 4 and 5 bit,
6 CRC); whether in the data phase; whether a bit error in the control or data field after arbitration was won; whether a stuff
error during arbitration; whether a dominant bit was seen during the error flag; and how many further steps of 8 the error
flags give under ISO 11898-1. -/
structure CanError where
  kind : Fin 7
  dataPhase : Bool := false
  inField : Bool := false
  arbitrationStuff : Bool := false
  dominantSeen : Bool := false
  flagRuns : Nat := 0
  loopDelay : Option Nat := none
  deriving DecidableEq, Repr


/-- The levels that UA_RX shows at ticks 7, 8 and 9 of a bit; `mid` stands at tick 4 too, where a channel samples a bit once (R310). -/
structure BitLevels where
  early : Bool := true
  mid : Bool := true
  late : Bool := true
  deriving DecidableEq, Repr

/-- What UA_RX shows of a character (R308, R310): its start edge in ns, and its start bit, its data bits, its parity bit if there is one and
its first stop bit in their order; a bit not listed is high. -/
structure UartChar where
  start : Nat := 0
  bits : List BitLevels := []
  deriving DecidableEq, Repr


/-- A cycle of the host bus with the UV960 as its target (R325): the word address of its first beat, and for each beat the byte
enables, bit *i* set where byte *i* is enabled, and the data word that the host drives. -/
structure HostCycle where
  write : Bool := false
  address : Nat := 0
  beats : List (Nat × Nat) := []
  deriving DecidableEq, Repr

/-- An upset of the signal-mapping engine in one execution of a run (R366): its CAUSE, 0 for a word that ECC corrects (R363); for LANE the output word and the bit of its T
code that differ; for the other causes the entry executing, 0xFFFF for none; the replayed run it hits, none where it hits the run
itself; and the time from it to the release of the run executed again, ns. -/
structure SmeFault where
  cause : Nat
  word : Nat := 0
  bit : Nat := 0
  entry : Nat := 0xFFFF
  replay : Option Nat := none
  restartNs : Nat := 0
  deriving DecidableEq, Repr

/-- What the power entry samples in one tick of 1 µs (R384, R401): the feeds, VCOM and the bus in mV, the sense voltage in µV, each
gate above its source in mV, and the level of PE_EN. -/
structure PeSample where
  feed1 : Nat := 0
  feed2 : Nat := 0
  vcom : Nat := 0
  bus : Nat := 0
  sense : Nat := 0
  gateHs : Nat := 0
  gateOr1 : Nat := 0
  gateOr2 : Nat := 0
  peEn : Bool := true
  deriving DecidableEq, Repr

/-- What a start finds (R418): the straps, what loading the sections gave (R432), the ns from the release of reset to the end of the
object load, check-value units and switch cells that fail their tests, the injection test and its repeat (R373), the rewriting of a
marked MRAM device (R189), and in `mramBad` the header, directory and incarnation table of each MRAM device that fail their CRCs
(R192): bits 0, 2 and 4 for device 0, bits 1, 3 and 5 for device 1. -/
structure StartFound where
  bootSel : Nat := 0
  reloadGood : Bool := true
  ns : Nat := 0
  ckTransient : Nat := 0
  ckFail : Nat := 0
  badCells : Nat := 0
  injectGood : Bool := true
  injectAgain : Bool := true
  rewriteGood : Bool := true
  mramBad : Nat := 0
  deriving DecidableEq, Repr

/-- How an activation pause ends (R437): its length in µs, and whether the sections of the new image, and of the old one where step P5
is taken, load with their CRCs. -/
structure PauseEnd where
  us : Nat := 0
  reloadGood : Bool := true
  oldReloadGood : Bool := true
  deriving DecidableEq, Repr

/-- One command from outside: a row of spec/opcode_table.json with its operands. Each docstring names the rule that
the row comes from and its mnemonic. Units count from 0; `feed` and `path` 0 is feed 1, and 1 is feed 2. -/
inductive Instr where
  /-- R28: `OBJECT_READ`. -/
  | objectRead (who : Requester) (req : ObjReq)
  /-- R470: `OBJECT_WRITE`. -/
  | objectWrite (who : Requester) (req : ObjReq)
  /-- R49: `SEG_READ`. -/
  | segRead (who : Requester) (req : ObjReq)
  /-- R49: `SEG_WRITE`. -/
  | segWrite (who : Requester) (req : ObjReq)
  /-- R49: `SEG_ABORT`. -/
  | segAbort (who : Requester) (req : ObjReq)
  /-- R49: `WRITE_SESSION_IDLE`. -/
  | writeSessionIdle (index : BitVec 16)
  /-- R49: `READ_LATCH_LAPSE`. -/
  | readLatchLapse (who : Requester) (index : BitVec 16)
  /-- R50: `REMOTE_TIMEOUT`. -/
  | remoteTimeout (tag : BitVec 16)
  /-- R472: `MEMORY_READ`. -/
  | memoryRead (frame : Frame)
  /-- R23: `MEMORY_WRITE`. -/
  | memoryWrite (frame : Frame)
  /-- R52: `KEDOGIL_DATAGRAM`. -/
  | kedogilDatagram (port : Fin 4) (address : BitVec 32) (udpPort : BitVec 16) (payload : List Byte)
  /-- R53: `DOORBELL`. -/
  | doorbell (value : BitVec 32)
  /-- R53: `MAILBOX_COMPLETE`. -/
  | mailboxComplete
  /-- R54: `FARIF_FRAME`. -/
  | farifFrame (kind : Byte) (body : List Byte) (crc : BitVec 32)
  /-- R36: `STAGE_VALIDATE`. -/
  | stageValidate (snd : Sender)
  /-- R38: `STAGE_DISCARD`. -/
  | stageDiscard (snd : Sender)
  /-- R38: `STAGE_WITHDRAW`. -/
  | stageWithdraw (snd : Sender)
  /-- R36: `COMMIT_APPLY`. -/
  | commitApply
  /-- R37: `COMMIT_TIMEOUT`. -/
  | commitTimeout
  /-- R40: `STORE`. -/
  | store (snd : Sender)
  /-- R40: `STORE_COMPLETE`. -/
  | storeComplete (readBackGood : Bool)
  /-- R42: `STORE_ERASE`. -/
  | storeErase (snd : Sender)
  /-- R56: `HELD_ORDER_WRITE`. -/
  | heldOrderWrite (snd : Sender) (value : Byte)
  /-- R77: `ID_ASSIGN`. -/
  | idAssign (snd : Sender) (value : Byte)
  /-- R75: `HELLO_RX`. -/
  | helloRx (link : Path) (hello : Hello)
  /-- R83: `LOS_ASSERTED`. -/
  | losAsserted (link : Path)
  /-- R83: `SYNC_HEADER_LOSS`. -/
  | syncHeaderLoss (link : Path) (lane : Fin 4)
  /-- R83: `ROW_TIMEOUT`. -/
  | rowTimeout (link : RowStop)
  /-- R83: `ERR_BURST`. -/
  | errBurst (link : Path) (received : List WireRow)
  /-- R74: `LANES_LOCKED`. -/
  | lanesLocked (link : Path)
  /-- R74: `SAVED_LOCK_TIMEOUT`. -/
  | savedLockTimeout (link : Path)
  /-- R74: `TRAINING_TIMEOUT`. -/
  | trainingTimeout (link : Path)
  /-- R74: `ALIGN_COMPLETE`. -/
  | alignComplete (link : Alignment)
  /-- R74: `ALIGN_TIMEOUT`. -/
  | alignTimeout (link : Path)
  /-- R74: `LINK_UP`. -/
  | linkUp (link : Path)
  /-- R74: `LINK_RETRY`. -/
  | linkRetry (link : Path)
  /-- R84: `BREAK_RX`. -/
  | breakRx (link : Path) (notice : Notice)
  /-- R85: `WRAP_D`. -/
  | wrapD
  /-- R85: `WRAP_U`. -/
  | wrapU
  /-- R86: `B_IN_TIMEOUT`. -/
  | bInTimeout
  /-- R91: `REVERT_HOLDOFF_EXPIRY`. -/
  | revertHoldoffExpiry
  /-- R91: `REVERT_CMD`. -/
  | revertCmd (snd : Sender) (value : Byte)
  /-- R92: `REVERT_START_RX`. -/
  | revertStartRx (link : Path) (notice : Notice)
  /-- R92: `MARKER_RX`. -/
  | markerRx (link : Path) (notice : Notice)
  /-- R92: `MARKER_TIMEOUT`. -/
  | markerTimeout (lost : Nat)
  /-- R92: `REVERT_DONE_RX`. -/
  | revertDoneRx (link : Path) (notice : Notice)
  /-- R63: `RESERVED_NOTICE_RX`. -/
  | reservedNoticeRx (link : Path) (notice : Notice)
  /-- R93: `PROVE_INTERVAL_EXPIRY`. -/
  | proveIntervalExpiry
  /-- R93: `PROVE_CMD`. -/
  | proveCmd (snd : Sender) (value : Byte)
  /-- R94: `PROVE_START_RX`. -/
  | proveStartRx (link : Path) (notice : Notice)
  /-- R94: `PROVE_HEAT`. -/
  | proveHeat
  /-- R94: `PROVE_DWELL_EXPIRY`. -/
  | proveDwellExpiry (bitErrors : LaneCounts)
  /-- R94: `LOOP_FRAME_TIMEOUT`. -/
  | loopFrameTimeout
  /-- R94: `PROVE_END_RX`. -/
  | proveEndRx (link : Path) (notice : Notice) (result : Fin 5)
  /-- R97: `C0_LOAD_INTERVAL`. -/
  | c0LoadInterval
  /-- R71: `RING_FRAME_RX`. -/
  | ringFrameRx (link : Path) (wire : RingWire)
  /-- R70: `READ_RESP_RX`. -/
  | readRespRx (frame : Frame)
  /-- R48: `OBJECT_RESP_RX`. -/
  | objectRespRx (frame : Frame)
  /-- R98: `CLAIM_RX`. -/
  | claimRx (frame : Frame)
  /-- R98: `CLAIM_LEASE_EXPIRY`. -/
  | claimLeaseExpiry (commander : Fin 9)
  /-- R100: `CLAIM_DATAGRAM`. -/
  | claimDatagram (port : Fin 4) (address : BitVec 32) (payload : List Byte)
  /-- R105: `LINK_COUNTERS_CLEAR`. -/
  | linkCountersClear (link : Path) (snd : Sender)
  /-- R114: `SYNC_SEND`. -/
  | syncSend
  /-- R115: `SYNC_RX`. -/
  | syncRx (link : Path) (row : TimingRow) (residence : Nat)
  /-- R118: `SYNC_TIMEOUT`. -/
  | syncTimeout
  /-- R114: `DELAY_REQ_SEND`. -/
  | delayReqSend (link : Path)
  /-- R116: `DELAY_REQ_RX`. -/
  | delayReqRx (link : Path) (row : TimingRow)
  /-- R116: `DELAY_RESP_RX`. -/
  | delayRespRx (link : Path) (row : TimingRow)
  /-- R119: `FAST_MEASUREMENT_DONE`. -/
  | fastMeasurementDone
  /-- R127: `PARAMS_RX`. -/
  | paramsRx (link : Path) (row : TimingRow)
  /-- R127: `PARAMS_NEXT_RX`. -/
  | paramsNextRx (link : Path) (row : TimingRow)
  /-- R127: `PARAMS_CHANGE`. -/
  | paramsChange
  /-- R113: `STEP_RX`. -/
  | stepRx (link : Path) (row : TimingRow)
  /-- R113: `TIME_STEP`. -/
  | timeStep
  /-- R114: `TIMING_IGNORED`. -/
  | timingIgnored (row : TimingRow)
  /-- R111: `PTP_SYNC_RX`. -/
  | ptpSyncRx (port : Fin 4) (msg : PtpSync)
  /-- R112: `PPS_IN_EDGE`. -/
  | ppsInEdge (time : Nat)
  /-- R112: `IRIG_FRAME`. -/
  | irigFrame (frame : IrigFrame)
  /-- R110: `HOLDOVER_EXPIRY`. -/
  | holdoverExpiry
  /-- R121: `PPS_OUT_SECOND`. -/
  | ppsOutSecond
  /-- R108: `RTC_WRITE`. -/
  | rtcWrite
  /-- R122: `FIELD_CELL_EDGE`. -/
  | fieldCellEdge (cell : Fin 320) (level : Bool) (time : Nat)
  /-- R125: `SAMPLE_INSTANT`. -/
  | sampleInstant
  /-- R135: `APPLY_INSTANT`. -/
  | applyInstant
  /-- R135: `LAKE_RX`. -/
  | lakeRx (frame : Frame)
  /-- R133: `LAKE_OUTPUT_WRITE`. -/
  | lakeOutputWrite (who : Requester) (slot : Fin 4096) (value : BitVec 64) (commander : Fin 9) (tag : BitVec 16)
  /-- R141: `LOUT_HOLD`. -/
  | loutHold
  /-- R142: `LAKE_COUNTERS_CLEAR`. -/
  | lakeCountersClear (snd : Sender)
  /-- R150: `SWITCH_ADMIT`. -/
  | switchAdmit
  /-- R151: `BACKPRESSURE_OFFER`. -/
  | backpressureOffer (port : Fin 16)
  /-- R146: `OUTPUT_START`. -/
  | outputStart (port : Fin 16) (parity : Option Bool)
  /-- R162: `ETHERNET_RX`. -/
  | ethernetRx (port : Fin 4) (frame : EthFrame)
  /-- R169: `FORGET_TIME_EXPIRY`. -/
  | forgetTimeExpiry (pair : Fin 2)
  /-- R167: `SUPERVISION_SEND`. -/
  | supervisionSend (pair : Fin 2)
  /-- R165: `SAMPLE_FREEZE_WRITE`. -/
  | sampleFreezeWrite (snd : Sender) (value : Byte)
  /-- R172: `FLOW_COUNTERS_CLEAR`. -/
  | flowCountersClear (snd : Sender)
  /-- R174: `PORT_COUNTERS_CLEAR`. -/
  | portCountersClear (port : Fin 16) (snd : Sender)
  /-- R175: `ETH_COUNTERS_CLEAR`. -/
  | ethCountersClear (port : Fin 4) (snd : Sender)
  /-- R176: `RED_COUNTERS_CLEAR`. -/
  | redCountersClear (pair : Fin 2) (snd : Sender)
  /-- R182: `SESSION_SEND`. -/
  | sessionSend (peer : Fin 97) (class2 : Bool)
  /-- R183: `ACCEPTANCE_CHECK`. -/
  | acceptanceCheck (frame : Frame)
  /-- R188: `JOURNAL_WRITE`. -/
  | journalWrite (ns : Nat)
  /-- R189: `JOURNAL_WRITE_FAIL`. -/
  | journalWriteFail (first0 : Bool) (first1 : Bool) (again0 : Bool) (again1 : Bool)
  /-- R184: `ACK_RX`. -/
  | ackRx (frame : Frame)
  /-- R178: `EXECUTION`. -/
  | execution (peer : Fin 97) (class2 : Bool)
  /-- R185: `RETX_TIMEOUT`. -/
  | retxTimeout (peer : Fin 97) (class2 : Bool)
  /-- R185: `EXEC_TIMEOUT`. -/
  | execTimeout (peer : Fin 97) (seq : BitVec 32)
  /-- R194: `RECALL`. -/
  | recallSession
  /-- R194: `RECALL_TIMEOUT`. -/
  | recallTimeout (peer : Fin 97) (class2 : Bool)
  /-- R195: `PENDING_LIMIT_EXPIRY`. -/
  | pendingLimitExpiry (peer : Fin 97) (class2 : Bool)
  /-- R199: `LEQ_POP`. -/
  | leqPop (snd : Sender)
  /-- R200: `FENCE_COMPLETE`. -/
  | fenceComplete (peer : Fin 97)
  /-- R201: `CLASS3_WRITE_RX`. -/
  | class3WriteRx (frame : Frame)
  /-- R202: `LOSS_TIMEOUT`. -/
  | lossTimeout (node : Fin 97)
  /-- R206: `CENSUS_RX`. -/
  | censusRx (notice : Notice)
  /-- R206: `PRESENT_RX`. -/
  | presentRx (notice : Notice)
  /-- R206: `MEMBERSHIP_BOUNDARY`. -/
  | membershipBoundary
  /-- R207: `WELD_REQ_SEND`. -/
  | weldReqSend
  /-- R207: `WELD_REQ_RX`. -/
  | weldReqRx (notice : Notice)
  /-- R208: `UNWELD_CMD`. -/
  | unweldCmd (snd : Sender)
  /-- R208: `UNWELD_DRAIN_END`. -/
  | unweldDrainEnd
  /-- R208: `UNWELD_REQ_RX`. -/
  | unweldReqRx (notice : Notice)
  /-- R211: `JOURNAL_CLEAR`. -/
  | journalClear (snd : Sender)
  /-- R217: `ACCEPT_COUNTERS_CLEAR`. -/
  | acceptCountersClear (snd : Sender)
  /-- R221: `GLITCH_EXPIRY`. -/
  | glitchExpiry (cell : Fin 320)
  /-- R221: `DEBOUNCE_STABLE`. -/
  | debounceStable (cell : Fin 320)
  /-- R222: `CHATTER_SECOND`. -/
  | chatterSecond (cell : Fin 320)
  /-- R224: `OUT_CMD_DRIVE_LOW`. -/
  | outCmdDriveLow (cell : Fin 320) (snd : Sender) (instant : BitVec 64) (fraction : Byte)
  /-- R224: `OUT_CMD_DRIVE_HIGH`. -/
  | outCmdDriveHigh (cell : Fin 320) (snd : Sender) (instant : BitVec 64) (fraction : Byte)
  /-- R224: `OUT_CMD_PULSE_HIGH`. -/
  | outCmdPulseHigh (cell : Fin 320) (snd : Sender) (instant : BitVec 64) (fraction : Byte) (width : BitVec 32)
  /-- R224: `OUT_CMD_PULSE_LOW`. -/
  | outCmdPulseLow (cell : Fin 320) (snd : Sender) (instant : BitVec 64) (fraction : Byte) (width : BitVec 32)
  /-- R224: `OUT_CMD_SAFE`. -/
  | outCmdSafe (cell : Fin 320) (snd : Sender) (instant : BitVec 64) (fraction : Byte)
  /-- R224: `OUT_CMD_CANCEL`. -/
  | outCmdCancel (cell : Fin 320) (snd : Sender) (instant : BitVec 64) (fraction : Byte)
  /-- R225: `OUTPUT_PLACEMENT`. -/
  | outputPlacement (cell : Fin 320)
  /-- R234: `PULSE_TRAILING_EDGE`. -/
  | pulseTrailingEdge (cell : Fin 320)
  /-- R228: `OUT_MISMATCH`. -/
  | outMismatch (cell : Fin 320)
  /-- R219: `BANK_FAULT`. -/
  | bankFault (bank : Fin 8) (mv : BitVec 16)
  /-- R219: `BANK_FAULT_LASTING`. -/
  | bankFaultLasting (bank : Fin 8)
  /-- R219: `BANK_SUPPLY_RETURN`. -/
  | bankSupplyReturn (bank : Fin 8) (mv : BitVec 16)
  /-- R230: `CELL_HOLD_POLICY`. -/
  | cellHoldPolicy (cell : Fin 320)
  /-- R231: `GOV_CHECK`. -/
  | govCheck
  /-- R233: `BUCKET_ROLL`. -/
  | bucketRoll (cell : Fin 320)
  /-- R234: `GOV_RESET`. -/
  | govReset (cell : Fin 320) (snd : Sender)
  /-- R235: `SOE_RECORD_WRITE`. -/
  | soeRecordWrite (source : Option (Fin 320))
  /-- R236: `SOE_READ_WRITE`. -/
  | soeReadWrite (snd : Sender) (value : BitVec 64)
  /-- R237: `CELL_COUNTERS_CLEAR`. -/
  | cellCountersClear (cell : Fin 320) (snd : Sender)
  /-- R247: `ENGINE_TRANSITION`. -/
  | engineTransition (engine : Fin 64)
  /-- R251: `QUEUED_ACTION_DUE`. -/
  | queuedActionDue (engine : Fin 64)
  /-- R252: `COMPARE_FIRE`. -/
  | compareFire (engine : Fin 64) (compare : Fin 2)
  /-- R257: `ENGINE_WAKE`. -/
  | engineWake (engine : Fin 64)
  /-- R253: `STALL_END`. -/
  | stallEnd (engine : Fin 64)
  /-- R253: `LONG_STALL`. -/
  | longStall (engine : Fin 64)
  /-- R254: `SHIFT_END`. -/
  | shiftEnd (engine : Fin 64) (sampled : BitVec 32)
  /-- R255: `SHIFTER_BOUNDARY`. -/
  | shifterBoundary (engine : Fin 64) (sampled : BitVec 32)
  /-- R255: `SHIFTER_RESUME`. -/
  | shifterResume (engine : Fin 64)
  /-- R258: `ENGINE_START`. -/
  | engineStart (engine : Fin 64)
  /-- R258: `ENGINE_STOP`. -/
  | engineStop (engine : Fin 64)
  /-- R260: `MORDANT_SWAP`. -/
  | mordantSwap (engine : Fin 64)
  /-- R262: `FORCED_SWAP`. -/
  | forcedSwap (engine : Fin 64)
  /-- R261: `ENG_CMD_FORCED_SWAP`. -/
  | engCmdForcedSwap (snd : Sender) (engine : Fin 64)
  /-- R258: `ENG_CMD_LOCAL_RESET`. -/
  | engCmdLocalReset (snd : Sender) (engine : Fin 64)
  /-- R267: `ENGINE_COUNTERS_CLEAR`. -/
  | engineCountersClear (snd : Sender) (engine : Fin 64)
  /-- R271: `ENGINE_FRAME_OFFER`. -/
  | engineFrameOffer (engine : Fin 64) (selfCheck : Fin 3)
  /-- R273: `TX_POLL`. -/
  | txPoll (snd : Sender) (engine : Fin 64)
  /-- R275: `RESERVATION_GRANT`. -/
  | reservationGrant (engine : Fin 64)
  /-- R274: `RX_WORDS_ARRIVE`. -/
  | rxWordsArrive (engine : Fin 64)
  /-- R280: `FIFO_FLUSH_RX`. -/
  | fifoFlushRx (snd : Sender) (engine : Fin 64)
  /-- R280: `FIFO_FLUSH_TX`. -/
  | fifoFlushTx (snd : Sender) (engine : Fin 64)
  /-- R280: `FIFO_FLUSH_BOTH`. -/
  | fifoFlushBoth (snd : Sender) (engine : Fin 64)
  /-- R281: `FIFO_COUNTERS_CLEAR`. -/
  | fifoCountersClear (snd : Sender) (engine : Fin 64)
  /-- R289: `CAN_TX_SUBMIT`. -/
  | canTxSubmit (snd : Sender) (controller : Fin 16) (record : List Byte)
  /-- R290: `CAN_SCHEDULE_DUE`. -/
  | canScheduleDue (controller : Fin 16)
  /-- R292: `CAN_START_POINT`. -/
  | canStartPoint (controller : Fin 16)
  /-- R292: `CAN_TX_OK`. -/
  | canTxOk (controller : Fin 16) (sof : Nat) (loopDelay : Nat)
  /-- R294: `CAN_TX_ERROR`. -/
  | canTxError (controller : Fin 16) (error : CanError)
  /-- R295: `CAN_BUS_OFF`. -/
  | canBusOff (controller : Fin 16)
  /-- R295: `CAN_BUS_OFF_RECOVERED`. -/
  | canBusOffRecovered (controller : Fin 16)
  /-- R296: `CAN_STUCK`. -/
  | canStuck (controller : Fin 16) (urgent : Bool)
  /-- R299: `CAN_FRAME_RX`. -/
  | canFrameRx (controller : Fin 16) (frame : CanFrame)
  /-- R298: `PROTOCOL_EXCEPTION`. -/
  | protocolException (controller : Fin 16)
  /-- R301: `CAN_RX_POLL`. -/
  | canRxPoll (snd : Sender) (controller : Fin 16)
  /-- R302: `CAN_TX_HOLD`. -/
  | canTxHold (controller : Fin 16)
  /-- R305: `CAN_ABORT_URGENT`. -/
  | canAbortUrgent (snd : Sender) (controller : Fin 16)
  /-- R305: `CAN_ABORT_NORMAL`. -/
  | canAbortNormal (snd : Sender) (controller : Fin 16)
  /-- R305: `CAN_ABORT_SCHEDULE`. -/
  | canAbortSchedule (snd : Sender) (controller : Fin 16)
  /-- R303: `CAN_LOCAL_RESET`. -/
  | canLocalReset (snd : Sender) (controller : Fin 16)
  /-- R297: `CAN_CLEAR_ID_CLASH`. -/
  | canClearIdClash (snd : Sender) (controller : Fin 16)
  /-- R306: `CAN_COUNTERS_CLEAR`. -/
  | canCountersClear (snd : Sender) (controller : Fin 16)
  /-- R311: `UART_CHARACTER_RX`. -/
  | uartCharacterRx (channel : Fin 32) (char : UartChar)
  /-- R311: `UART_GAP_CLOSE`. -/
  | uartGapClose (channel : Fin 32)
  /-- R312: `UART_BREAK`. -/
  | uartBreak (channel : Fin 32) (start : Nat)
  /-- R312: `LINE_STUCK`. -/
  | lineStuck (channel : Fin 32)
  /-- R314: `UART_RX_POLL`. -/
  | uartRxPoll (snd : Sender) (channel : Fin 32)
  /-- R315: `UART_TX_SUBMIT`. -/
  | uartTxSubmit (snd : Sender) (channel : Fin 32) (record : List Byte)
  /-- R317: `UART_SCHEDULE_DUE`. -/
  | uartScheduleDue (channel : Fin 32)
  /-- R317: `UART_MESSAGE_START`. -/
  | uartMessageStart (channel : Fin 32)
  /-- R320: `UART_MESSAGE_END`. -/
  | uartMessageEnd (channel : Fin 32)
  /-- R318: `DE_LAG_END`. -/
  | deLagEnd (channel : Fin 32)
  /-- R320: `UART_TX_HOLD`. -/
  | uartTxHold (channel : Fin 32)
  /-- R320: `UART_ABORT_QUEUE`. -/
  | uartAbortQueue (snd : Sender) (channel : Fin 32)
  /-- R320: `UART_ABORT_SCHEDULE`. -/
  | uartAbortSchedule (snd : Sender) (channel : Fin 32)
  /-- R321: `UART_LOCAL_RESET`. -/
  | uartLocalReset (snd : Sender) (channel : Fin 32)
  /-- R322: `UART_CLEAR_COLLISION`. -/
  | uartClearCollision (snd : Sender) (channel : Fin 32)
  /-- R323: `UART_COUNTERS_CLEAR`. -/
  | uartCountersClear (snd : Sender) (channel : Fin 32)
  /-- R326: `HOST_TARGET_CYCLE`. -/
  | hostTargetCycle (cycle : HostCycle)
  /-- R327: `INT_STATUS_WRITE`. -/
  | intStatusWrite (value : BitVec 32)
  /-- R327: `CLAIM_LO_WRITE`. -/
  | claimLoWrite (value : BitVec 32)
  /-- R327: `CLAIM_HI_WRITE`. -/
  | claimHiWrite (value : BitVec 32)
  /-- R327: `TGT_ABANDON`. -/
  | tgtAbandon (value : BitVec 32)
  /-- R329: `WINDOW_CYCLE`. -/
  | windowCycle (cycle : HostCycle)
  /-- R329: `TGT_HOLD_EXPIRY`. -/
  | tgtHoldExpiry
  /-- R329: `FABRIC_CYCLE_COMPLETE`. -/
  | fabricCycleComplete
  /-- R330: `CROSSING`. -/
  | crossing (node : Fin 97)
  /-- R331: `MASTER_REQUEST`. -/
  | masterRequest
  /-- R331: `BUS_GRANT`. -/
  | busGrant (cycles : Nat) (data : List Byte)
  /-- R331: `MASTER_RETRY`. -/
  | masterRetry (cycles : Nat) (data : List Byte)
  /-- R331: `MST_WAIT_TIMEOUT`. -/
  | mstWaitTimeout (cycles : Nat) (data : List Byte)
  /-- R347: `BRIDGE_COUNTERS_CLEAR`. -/
  | bridgeCountersClear (snd : Sender)
  /-- R333: `GOOSE_RX`. -/
  | gooseRx (port : Fin 4) (frame : EthFrame)
  /-- R335: `GOOSE_TAL_EXPIRY`. -/
  | gooseTalExpiry (subscription : Fin 128)
  /-- R335: `GOOSE_INVALID_EXPIRY`. -/
  | gooseInvalidExpiry (subscription : Fin 128)
  /-- R338: `GOOSE_REPEAT`. -/
  | gooseRepeat (publication : Fin 32)
  /-- R348: `GOOSE_CLEAR`. -/
  | gooseClear (snd : Sender)
  /-- R339: `ARRIVAL_RUN`. -/
  | arrivalRun (faults : List SmeFault) (selfCheck : Fin 3)
  /-- R339: `CYCLIC_RUN`. -/
  | cyclicRun (faults : List SmeFault) (selfCheck : Fin 3)
  /-- R349: `EVENT_IN_WRITE`. -/
  | eventInWrite (snd : Sender) (input : Fin 64) (data : List Byte)
  /-- R349: `MAP_COUNTERS_CLEAR`. -/
  | mapCountersClear (snd : Sender)
  /-- R357: `JOB_START`. -/
  | jobStart (snd : Sender) (unit : Fin 24)
  /-- R357: `JOB_CONTINUE`. -/
  | jobContinue (snd : Sender) (unit : Fin 24)
  /-- R357: `JOB_ABANDON`. -/
  | jobAbandon (snd : Sender) (unit : Fin 24)
  /-- R357: `JOB_COMPLETE`. -/
  | jobComplete (unit : Fin 24) (status : Byte) (host : List Byte)
  /-- R358: `CTX_VALUE_WRITE`. -/
  | ctxValueWrite (snd : Sender) (unit : Fin 24) (value : BitVec 32)
  /-- R358: `CTX_ALIVE_WRITE`. -/
  | ctxAliveWrite (snd : Sender) (unit : Fin 24) (value : Byte)
  /-- R359: `CK_LOCAL_RESET`. -/
  | ckLocalReset (snd : Sender) (unit : Fin 24)
  /-- R361: `CK_COUNTERS_CLEAR`. -/
  | ckCountersClear (snd : Sender) (unit : Fin 24)
  /-- R371: `SELFTEST`. -/
  | selftest
  /-- R371: `SELFTEST_COMPLETE`. -/
  | selftestComplete (computeFails : Bool) (banks : Fin 16) (areaFails : Bool)
  /-- R377: `SELFTEST_CMD`. -/
  | selftestCmd (snd : Sender)
  /-- R370: `SELFTEST_INTERVAL_EXPIRY`. -/
  | selftestIntervalExpiry
  /-- R374: `DEBUG_HALT`. -/
  | debugHalt (snd : Sender)
  /-- R374: `DEBUG_RESUME`. -/
  | debugResume (snd : Sender)
  /-- R377: `SME_COUNTERS_CLEAR`. -/
  | smeCountersClear (snd : Sender)
  /-- R384: `POWER_ENTRY_TICK`. -/
  | powerEntryTick (sample : PeSample)
  /-- R383: `REMOVAL`. -/
  | removal
  /-- R380: `HK_DOMAIN_RESET`. -/
  | hkDomainReset
  /-- R386: `INSERT_DELAY_EXPIRY`. -/
  | insertDelayExpiry
  /-- R387: `RAMP_COMPLETE`. -/
  | rampComplete
  /-- R387: `RAMP_TIMEOUT`. -/
  | rampTimeout
  /-- R389: `SETTLE_EXPIRY`. -/
  | settleExpiry
  /-- R390: `FAULT_TIME_EXPIRY`. -/
  | faultTimeExpiry
  /-- R390: `SHORT_TRIP`. -/
  | shortTrip
  /-- R391: `RETRY_TIME_EXPIRY`. -/
  | retryTimeExpiry
  /-- R391: `RETRY_COUNT_RESET`. -/
  | retryCountReset
  /-- R392: `PE_EN_LOW`. -/
  | peEnLow
  /-- R392: `PE_EN_HIGH`. -/
  | peEnHigh (lowNs : Nat)
  /-- R395: `REVERSE_TURNOFF`. -/
  | reverseTurnoff (path : Fin 2)
  /-- R396: `BBM_TRANSFER`. -/
  | bbmTransfer
  /-- R397: `PRIO_RETURN_EXPIRY`. -/
  | prioReturnExpiry
  /-- R398: `PE_CMD_TEST_FEED1`. -/
  | peCmdTestFeed1 (snd : Sender)
  /-- R398: `PE_CMD_TEST_FEED2`. -/
  | peCmdTestFeed2 (snd : Sender)
  /-- R397: `PE_CMD_RETURN`. -/
  | peCmdReturn (snd : Sender)
  /-- R398: `TEST_TIME_EXPIRY`. -/
  | testTimeExpiry
  /-- R398: `FEED_RETEST`. -/
  | feedRetest
  /-- R398: `FEED_FAULT_LASTING`. -/
  | feedFaultLasting (feed : Fin 2)
  /-- R398: `FEED_FAULT_CLOSE`. -/
  | feedFaultClose (feed : Fin 2)
  /-- R406: `PE_MEASURE_CLEAR`. -/
  | peMeasureClear (snd : Sender)
  /-- R407: `POR`. -/
  | por
  /-- R408: `PIN_RESET`. -/
  | pinReset (lowNs : Nat) (taken : Bool)
  /-- R410: `WDG_EXPIRY`. -/
  | wdgExpiry
  /-- R409: `RESET_CMD_WARM`. -/
  | resetCmdWarm (snd : Sender)
  /-- R409: `RESET_CMD_FORCED`. -/
  | resetCmdForced (snd : Sender)
  /-- R409: `RESET_BEGIN`. -/
  | resetBegin
  /-- R418: `START_SEQUENCE`. -/
  | startSequence (found : StartFound)
  /-- R453: `RAIL_TIMEOUT`. -/
  | railTimeout (rails : Fin 64)
  /-- R412: `POWER_CMD_RUN`. -/
  | powerCmdRun (snd : Sender)
  /-- R412: `POWER_CMD_DOZE`. -/
  | powerCmdDoze (snd : Sender)
  /-- R412: `POWER_CMD_HOLD`. -/
  | powerCmdHold (snd : Sender)
  /-- R414: `POWER_CMD_STANDBY`. -/
  | powerCmdStandby (snd : Sender)
  /-- R414: `STANDBY_ENTRY`. -/
  | standbyEntry
  /-- R415: `WAKE_N`. -/
  | wakeN
  /-- R415: `WAKE_AT_REACHED`. -/
  | wakeAtReached
  /-- R412: `BACKUP_ENTRY`. -/
  | backupEntry
  /-- R422: `VG_CMD`. -/
  | vgCmd (snd : Sender)
  /-- R434: `IMG_BEGIN`. -/
  | imgBegin (slot : Byte) (total : BitVec 32)
  /-- R434: `ERASE_COMPLETE`. -/
  | eraseComplete
  /-- R434: `IMG_DATA`. -/
  | imgData (offset : BitVec 32) (data : List Byte)
  /-- R434: `IMG_END`. -/
  | imgEnd
  /-- R434: `IMG_ABORT`. -/
  | imgAbort
  /-- R433: `IMG_STATUS`. -/
  | imgStatus
  /-- R434: `DOWNLOAD_TIMEOUT`. -/
  | downloadTimeout
  /-- R445: `RECOVER_START`. -/
  | recoverStart (slot : Byte)
  /-- R435: `FW_CMD_ACTIVATE`. -/
  | fwCmdActivate (snd : Sender)
  /-- R437: `ACTIVATION_PAUSE`. -/
  | activationPause (finish : Option PauseEnd)
  /-- R441: `FW_CMD_CONFIRM`. -/
  | fwCmdConfirm (snd : Sender)
  /-- R440: `FW_CMD_ERASE_EXPORT`. -/
  | fwCmdEraseExport (snd : Sender)
  /-- R441: `TRIAL_EXPIRY`. -/
  | trialExpiry
  /-- R114: `PARAMS_SEND`. -/
  | paramsSend
  /-- R111: `PTP_MASTER_PORT_SEND`. -/
  | ptpMasterPortSend (port : Fin 4)
  /-- R175: `ETH_LINK_STATE_CHANGE`. -/
  | ethLinkStateChange (port : Fin 4) (up : Bool) (speed : Nat)
  /-- R206: `ALONE_TIMEOUT`. -/
  | aloneTimeout
  /-- R293: `CAN_RX_ERROR`. -/
  | canRxError (controller : Fin 16) (error : CanError)
  /-- R303: `CAN_BUS_INTEGRATION`. -/
  | canBusIntegration (controller : Fin 16)
  /-- R312: `UART_BREAK_END`. -/
  | uartBreakEnd (channel : Fin 32)
  /-- R461: `SERVICE_LINK_LOCK`. -/
  | serviceLinkLock (rate : Fin 4)
  /-- R461: `SERVICE_LINK_LOCK_LOST`. -/
  | serviceLinkLockLost
  /-- R419: `VBAT_LOW`. -/
  | vbatLow (mv : Nat)
  /-- R380: `HK_DOMAIN_CLEAN_START`. -/
  | hkDomainCleanStart (rtcPeriods : Nat)
  deriving DecidableEq, Repr

end Sys2Proof
end

