-- ==== Sys2Proof/Decode.lean ====
section
/-! DEFINITION. The reading of a command from a word. No row of spec/opcode_table.json gives bits, so no word spells a command. -/
namespace Sys2Proof

/-- The command that a word of `nbits` bits spells by the table: none, since the table gives its rows no bits (log entry 12). -/
def decodeTableWord (_nbits _w : Nat) : Option Instr := none

end Sys2Proof
end

