-- ==== Sys2Proof/Machine/Bytes.lean ====
section
/-! DEFINITION. Byte order, padding, CRC and the F32 arithmetic of R44. -/
namespace Sys2Proof.Machine

/-- The value of bytes whose first byte is least significant (R26). -/
def leVal : List Byte → Nat
  | [] => 0
  | b :: r => b.toNat + 256 * leVal r

/-- `n` bytes of `v`, least significant first (R26). -/
def leBytes : Nat → Nat → List Byte
  | 0, _ => []
  | n + 1, v => BitVec.ofNat 8 v :: leBytes n (v / 256)

/-- The value of bytes whose first byte is most significant (network order). -/
def beVal (l : List Byte) : Nat := leVal l.reverse

/-- `n` bytes of `v`, most significant first. -/
def beBytes (n v : Nat) : List Byte := (leBytes n v).reverse

/-- `n` bytes starting at offset `o`, zeros where the list is shorter. -/
def slice (l : List Byte) (o n : Nat) : List Byte :=
  let t := (l.drop o).take n
  t ++ List.replicate (n - t.length) 0

/-- The little-endian value of `n` bytes at offset `o`. -/
def leAt (l : List Byte) (o n : Nat) : Nat := leVal (slice l o n)

/-- The bytes `d` written over `l` at offset `o`, with zeros in between where `l` is shorter. -/
def overlay (l : List Byte) (o : Nat) (d : List Byte) : List Byte :=
  slice l 0 o ++ d ++ l.drop (o + d.length)

/-- `l` cut or zero-padded to `n` bytes. -/
def padTo (n : Nat) (l : List Byte) : List Byte := slice l 0 n

/-- The two's-complement reading of `v` in `n` bits. -/
def toSigned (n v : Nat) : Int :=
  if v % 2 ^ n < 2 ^ (n - 1) then (v % 2 ^ n : Nat) else (v % 2 ^ n : Nat) - (2 ^ n : Nat)

/-- The two's-complement bits of `v` in `n` bits. -/
def ofSigned (n : Nat) (v : Int) : Nat := (v % (2 ^ n : Nat)).toNat

/-- `v` held to the range of an `n`-bit two's-complement number, for objects that saturate. -/
def saturate (n : Nat) (v : Int) : Int :=
  max (-(2 ^ (n - 1) : Nat)) (min v ((2 ^ (n - 1) : Nat) - 1))

/-- The bits of a byte, most significant first. -/
def bitsMsb (b : Nat) : List Bool := [7, 6, 5, 4, 3, 2, 1, 0].map (Nat.testBit b)

/-- The bits of a byte, least significant first. -/
def bitsLsb (b : Nat) : List Bool := [0, 1, 2, 3, 4, 5, 6, 7].map (Nat.testBit b)

/-- One bit into a CRC register of `w` bits (the textbook shift register, top bit out first). -/
def crcBit (w poly reg : Nat) (b : Bool) : Nat :=
  let sh := (reg * 2) % 2 ^ w
  if reg.testBit (w - 1) != b then sh ^^^ poly else sh

/-- One byte into a CRC register; with `refin` its bit 0 goes first (R350). -/
def crcByte (w poly : Nat) (refin : Bool) (reg : Nat) (b : Byte) : Nat :=
  (if refin then bitsLsb b.toNat else bitsMsb b.toNat).foldl (crcBit w poly) reg

/-- A list of bytes into a CRC register. -/
def crcRun (w poly : Nat) (refin : Bool) (reg : Nat) (l : List Byte) : Nat :=
  l.foldl (crcByte w poly refin) reg

/-- The low `n` bits of `v`, reflected. -/
def reflect : Nat → Nat → Nat
  | 0, _ => 0
  | n + 1, v => (v % 2) * 2 ^ n + reflect n (v / 2)

/-- The end of a CRC: reflection with REFOUT, then the final XOR (R350). -/
def crcEnd (w : Nat) (refout : Bool) (xorout reg : Nat) : Nat :=
  (if refout then reflect w reg else reg) ^^^ xorout

/-- HCRC of R69: CRC-16, polynomial 0x1021, initial 0xFFFF, no reflection, no inversion. -/
def hcrc (l : List Byte) : Nat := crcRun 16 0x1021 false 0xFFFF l

/-- FCRC of R69: CRC-32, polynomial 0x1EDC_6F41, reflected, initial and final 0xFFFF_FFFF. -/
def fcrc (l : List Byte) : Nat := crcEnd 32 true 0xFFFFFFFF (crcRun 32 0x1EDC6F41 true 0xFFFFFFFF l)

/-- CRC-32 with the ISO-HDLC parameters (R54, R351): polynomial 0x04C1_1DB7, reflected, inverted. -/
def crc32 (l : List Byte) : Nat := crcEnd 32 true 0xFFFFFFFF (crcRun 32 0x04C11DB7 true 0xFFFFFFFF l)

/-- The exact value of a finite F32 as sign, significand and power of two: ±m × 2^(e − 149). -/
def f32Parts (w : Nat) : Bool × Nat × Nat :=
  let e := bits w 30 23
  (bit w 31, if e = 0 then bits w 22 0 else bits w 22 0 + 2 ^ 23, if e = 0 then 0 else e - 1)

/-- Whether the bits are a NaN or an infinity, which R26 refuses. -/
def f32Special (w : Nat) : Bool := bits w 30 23 == 255

/-- The F32 nearest to ±n × 2^(e − 149 − k), ties to even (R44); overflow gives the infinity of IEEE 754. -/
def f32Round (neg : Bool) (n e k : Nat) : Nat :=
  let s := ofBool neg * 2 ^ 31
  if n = 0 then s else
  -- exponent of the result's unit above 2^-149, over the denominator 2^k
  let len := Nat.log2 n + 1
  let sh := max (len + e) (k + 24) - (k + 24)          -- units of 2^(sh-149)
  let num := n * 2 ^ e
  let den := 2 ^ (k + sh)
  let q := num / den
  let r := num % den
  let q' := if 2 * r > den ∨ (2 * r = den ∧ q % 2 = 1) then q + 1 else q
  if q' < 2 ^ 23 then s + q' else
  let (q'', sh') := if q' = 2 ^ 24 then (2 ^ 23, sh + 1) else (q', sh)
  if sh' + 1 ≥ 255 then s + 255 * 2 ^ 23 else s + (sh' + 1) * 2 ^ 23 + (q'' - 2 ^ 23)

/-- F32 product, rounded to the nearest with ties to even (R44). -/
def f32Mul (a b : Nat) : Nat :=
  let (sa, ma, ea) := f32Parts a
  let (sb, mb, eb) := f32Parts b
  f32Round (sa != sb) (ma * mb) (ea + eb) 149

/-- F32 sum (R44), rounded to the nearest with ties to even as the product is (DESIGN CHOICE, log entry 161). -/
def f32Add (a b : Nat) : Nat :=
  let (sa, ma, ea) := f32Parts a
  let (sb, mb, eb) := f32Parts b
  let x : Int := (if sa then -1 else 1) * (ma * 2 ^ ea : Nat)
  let y : Int := (if sb then -1 else 1) * (mb * 2 ^ eb : Nat)
  let z := x + y
  if z = 0 then ofBool (sa && sb) * 2 ^ 31 else f32Round (z < 0) z.natAbs 0 0

/-- `num ÷ den` rounded to a whole number, halves away from zero (R44). -/
def roundHalfAway (num : Int) (den : Nat) : Int :=
  let q := (2 * num.natAbs + den) / (2 * den)
  if num < 0 then -(q : Int) else q

/-- The calibrated result *x* × gain + offset of R44, rounded to a whole unit, halves away from zero. -/
def calibrate (gain offset : Nat) (x : Int) : Int :=
  let (sg, mg, eg) := f32Parts gain
  let (so, mo, eo) := f32Parts offset
  let g : Int := (if sg then -1 else 1) * (mg * 2 ^ eg : Nat)
  let o : Int := (if so then -1 else 1) * (mo * 2 ^ eo : Nat)
  roundHalfAway (x * g + o) (2 ^ 149)

end Sys2Proof.Machine
end

