-- ==== Sys2Proof/Config.lean ====
section
/-! DEFINITION. What the spec leaves open: constants with no body, so that no proof can see a value of theirs.
Log entries 3, 4 and 5 name each of them. -/
namespace Sys2Proof.Config

/-- The free values: the `n`-th value the spec leaves open, where `n` is the counter `State.freeCount` (log entry 3). -/
opaque freeValue : Nat → Nat

/-- Whether the ECDSA signature of an image is good under one of the ROM's keys (R432). The keys are not in the spec,
so the check is uninterpreted; its arguments are the key number, the signed bytes and the signature (log entry 4). -/
opaque signatureValid : Nat → List Byte → List Byte → Bool

/-- The asymmetry correction of a hop delay, in 1/256 ns, from the calibrated fixed delays of the lanes involved (R116): the
spec names the items it comes from and not the arithmetic (log entry 5). -/
opaque hopAsymmetry : List Nat → Int

/-- The lane part of a hop delay, in 1/256 ns, from the same items (R116, R117; log entry 5). -/
opaque lanePart : List Nat → Int

/-- The fibre delay round the ring, in ns, under a membership generation (R114, R117, R137): a property of the fibre laid, which no rule
gives a grandmaster that never followed another (log entry 126). -/
opaque ringFibre : Nat → Nat

/-- The full scale of a calibrated measurement item (R44), in its own unit: the spec sets a limit as a part of it and does not state it
(log entry 30). -/
opaque fullScale : Nat → Nat

/-- The frequency that the node measures on HB_CLK, in kHz (R347; log entry 133). -/
opaque hostClockKhz : Nat

end Sys2Proof.Config
end

