-- ==== Sys2Proof/Machine/Objects.lean ====
section
/-! DEFINITION. The object dictionary: every row of the object tables of files 02 to 17 of the spec (index, subindex,
type, access code, default, persistence class, range), and a name for every object's key. A key is
index × 256 + subindex. Defaults that the spec does not give ("per part", "from image", "found at start") are
those of log entry 2. -/
namespace Sys2Proof.Machine

/-- The object types of R26; OCTETS carry their size, VSTRING and DOMAIN their largest size, DOMAIN also whether empty
is valid and the size of its entries. -/
inductive Ty where
  | bool | u8 | u16 | u32 | u64 | i16 | i32 | f32 | time64
  | octets (n : Nat) | vstring (max : Nat) | domain (max : Nat) (emptyOk : Bool) (entry : Nat)
  deriving DecidableEq, Repr

/-- The access codes of R28. -/
inductive Acc where
  | const | ro | rw | rws | wo
  deriving DecidableEq, Repr

/-- The persistence classes of file 00 (*Kept*). -/
inductive Kept where
  | v | w | p | b | f
  deriving DecidableEq, Repr

/-- One row of an object table. It covers indices `ix` to `ix + n - 1` and subindices `lo` to `hi`. `dflt` is the default
of a scalar, `dfb` that of an OCTETS, VSTRING or DOMAIN; `range` lists the allowed intervals, none meaning any value;
`mask` holds the bits that are not reserved, 0 meaning all. -/
structure Row where
  name : String
  ix : Nat
  n : Nat
  lo : Nat
  hi : Nat
  ty : Ty
  acc : Acc
  kept : Kept
  dflt : Nat := 0
  dfb : List Byte := []
  range : List (Nat × Nat) := []
  mask : Nat := 0
  deriving DecidableEq, Repr

/-- A map result before it is first computed: VALUE 0 with INVALID (R129, R349). -/
def mapResultInvalid : Nat := 2 ^ 32

namespace Obj

/-- `0x1012 STAGING_BASE` (file 02). -/
abbrev stagingBase : Nat := 0x1012 * 256 + 0
/-- `0x1013 STAGING_SIZE` (file 02). -/
abbrev stagingSize : Nat := 0x1013 * 256 + 0
/-- `0x1120:01 STAGE_CMD` (file 02). -/
abbrev stageCmd : Nat := 0x1120 * 256 + 1
/-- `0x1120:02 STAGE_STATE` (file 02). -/
abbrev stageState : Nat := 0x1120 * 256 + 2
/-- `0x1120:03 STAGE_COUNT` (file 02). -/
abbrev stageCount : Nat := 0x1120 * 256 + 3
/-- `0x1120:04 STAGE_FAIL_OBJECT` (file 02). -/
abbrev stageFailObject : Nat := 0x1120 * 256 + 4
/-- `0x1120:05 STAGE_FAIL_STATUS` (file 02). -/
abbrev stageFailStatus : Nat := 0x1120 * 256 + 5
/-- `0x1120:06 COMMIT_AT` (file 02). -/
abbrev commitAt : Nat := 0x1120 * 256 + 6
/-- `0x1120:07 COMMIT_TIMEOUT` (file 02). -/
abbrev commitTimeout : Nat := 0x1120 * 256 + 7
/-- `0x1130:01 STORE_CMD` (file 02). -/
abbrev storeCmd : Nat := 0x1130 * 256 + 1
/-- `0x1130:02 STORE_STATE` (file 02). -/
abbrev storeState : Nat := 0x1130 * 256 + 2
/-- `0x1130:03 STORE_COUNT` (file 02). -/
abbrev storeCount : Nat := 0x1130 * 256 + 3
/-- `0x1130:04 STORE_TIME` (file 02). -/
abbrev storeTime : Nat := 0x1130 * 256 + 4
/-- `0x1130:05 CONFIG_VALID` (file 02). -/
abbrev configValid : Nat := 0x1130 * 256 + 5
/-- `0x8000 + k:01 F_GAIN` (file 02). -/
abbrev fGain (n : Nat) : Nat := (0x8000 + n) * 256 + 1
/-- `0x8000 + k:02 F_OFFSET` (file 02). -/
abbrev fOffset (n : Nat) : Nat := (0x8000 + n) * 256 + 2
/-- `0x9000 + k:01 U_GAIN` (file 02). -/
abbrev uGain (n : Nat) : Nat := (0x9000 + n) * 256 + 1
/-- `0x9000 + k:02 U_OFFSET` (file 02). -/
abbrev uOffset (n : Nat) : Nat := (0x9000 + n) * 256 + 2
/-- `0x9000 + k:03 E_GAIN` (file 02). -/
abbrev eGain (n : Nat) : Nat := (0x9000 + n) * 256 + 3
/-- `0x9000 + k:04 E_OFFSET` (file 02). -/
abbrev eOffset (n : Nat) : Nat := (0x9000 + n) * 256 + 4
/-- `0x26F0 KEDOGIL_ENABLE` (file 02). -/
abbrev kedogilEnable : Nat := 0x26F0 * 256 + 0
/-- `0x26F1:01 to :08 ALLOW_ADDR` (file 02). -/
abbrev allowAddr (i : Nat) : Nat := 0x26F1 * 256 + (1 + i)
/-- `0x26F1:09 to :10 ALLOW_MASK` (file 02). -/
abbrev allowMask (i : Nat) : Nat := 0x26F1 * 256 + (9 + i)
/-- `0x26F2 KEDOGIL_DROPPED` (file 02). -/
abbrev kedogilDropped : Nat := 0x26F2 * 256 + 0
/-- `0x26F3 KEDOGIL_REPLAYED` (file 02). -/
abbrev kedogilReplayed : Nat := 0x26F3 * 256 + 0
/-- `0x1000 VENDOR_ID` (file 02). -/
abbrev vendorId : Nat := 0x1000 * 256 + 0
/-- `0x1001 DEVICE_NAME` (file 02). -/
abbrev deviceName : Nat := 0x1001 * 256 + 0
/-- `0x1002 ORDERING_CODE` (file 02). -/
abbrev orderingCode : Nat := 0x1002 * 256 + 0
/-- `0x1003 STEPPING` (file 02). -/
abbrev stepping : Nat := 0x1003 * 256 + 0
/-- `0x1004 TEMP_GRADE` (file 02). -/
abbrev tempGrade : Nat := 0x1004 * 256 + 0
/-- `0x1005 SERIAL_NUMBER` (file 02). -/
abbrev serialNumber : Nat := 0x1005 * 256 + 0
/-- `0x1006 UNIQUE_ID` (file 02). -/
abbrev uniqueId : Nat := 0x1006 * 256 + 0
/-- `0x1007 DICT_REVISION` (file 02). -/
abbrev dictRevision : Nat := 0x1007 * 256 + 0
/-- `0x1008 CONFIG_FORMAT` (file 02). -/
abbrev configFormat : Nat := 0x1008 * 256 + 0
/-- `0x1009 STORED_FORMAT` (file 02). -/
abbrev storedFormat : Nat := 0x1009 * 256 + 0
/-- `0x100A FW_VERSION` (file 02). -/
abbrev fwVersion : Nat := 0x100A * 256 + 0
/-- `0x100B ROM_VERSION` (file 02). -/
abbrev romVersion : Nat := 0x100B * 256 + 0
/-- `0x1010 DRAM_SIZE` (file 02). -/
abbrev dramSize : Nat := 0x1010 * 256 + 0
/-- `0x1011 MRAM_PRESENT` (file 02). -/
abbrev mramPresent : Nat := 0x1011 * 256 + 0
/-- `0x1020 NAME_PLATE` (file 02). -/
abbrev namePlate : Nat := 0x1020 * 256 + 0
/-- `0x1021 LOCATION` (file 02). -/
abbrev location : Nat := 0x1021 * 256 + 0
/-- `0x1100 NODE_STATE` (file 02). -/
abbrev nodeState : Nat := 0x1100 * 256 + 0
/-- `0x1101 NODE_ID` (file 02). -/
abbrev nodeId : Nat := 0x1101 * 256 + 0
/-- `0x1102 STATE_ENTERED` (file 02). -/
abbrev stateEntered : Nat := 0x1102 * 256 + 0
/-- `0x1103 STATE_REASON` (file 02). -/
abbrev stateReason : Nat := 0x1103 * 256 + 0
/-- `0x1104 FAULT_SUMMARY` (file 02). -/
abbrev faultSummary : Nat := 0x1104 * 256 + 0
/-- `0x1105 START_COUNT` (file 02). -/
abbrev startCount : Nat := 0x1105 * 256 + 0
/-- `0x1107 HELD_ORDER` (file 02). -/
abbrev heldOrder : Nat := 0x1107 * 256 + 0
/-- `0x1110 UPTIME` (file 02). -/
abbrev uptime : Nat := 0x1110 * 256 + 0
/-- `0x1124 REMOTE_TIMEOUT` (file 02). -/
abbrev remoteTimeout : Nat := 0x1124 * 256 + 0
/-- `0x2000:01 PATH_B_MODE` (file 03). -/
abbrev pathBMode : Nat := 0x2000 * 256 + 1
/-- `0x2000:02 REVERT_HOLDOFF` (file 03). -/
abbrev revertHoldoff : Nat := 0x2000 * 256 + 2
/-- `0x2000:03 PROVE_INTERVAL` (file 03). -/
abbrev proveInterval : Nat := 0x2000 * 256 + 3
/-- `0x2000:04 PROVE_DWELL` (file 03). -/
abbrev proveDwell : Nat := 0x2000 * 256 + 4
/-- `0x2000:05 ERR_BURST_LIMIT` (file 03). -/
abbrev errBurstLimit : Nat := 0x2000 * 256 + 5
/-- `0x2000:06 LINK_RETRY_INTERVAL` (file 03). -/
abbrev linkRetryInterval : Nat := 0x2000 * 256 + 6
/-- `0x2001:01 RING_STATE` (file 03). -/
abbrev ringState : Nat := 0x2001 * 256 + 1
/-- `0x2001:02 RING_NODES` (file 03). -/
abbrev ringNodes : Nat := 0x2001 * 256 + 2
/-- `0x2001:03 COORDINATOR` (file 03). -/
abbrev coordinator : Nat := 0x2001 * 256 + 3
/-- `0x2001:04 WRAP_SEGMENT` (file 03). -/
abbrev wrapSegment : Nat := 0x2001 * 256 + 4
/-- `0x2001:05 LAST_GAP` (file 03). -/
abbrev lastGap : Nat := 0x2001 * 256 + 5
/-- `0x2001:06 MEMBERSHIP_GEN` (file 03). -/
abbrev membershipGen : Nat := 0x2001 * 256 + 6
/-- `0x2002:01 ID_ASSIGN` (file 03). -/
abbrev idAssign : Nat := 0x2002 * 256 + 1
/-- `0x2002:02 ID_STATE` (file 03). -/
abbrev idState : Nat := 0x2002 * 256 + 2
/-- `0x2002:03 EFFECTIVE_ID` (file 03). -/
abbrev effectiveId : Nat := 0x2002 * 256 + 3
/-- `0x2010:01 PATH_A_STATE` (file 03). -/
abbrev pathAState : Nat := 0x2010 * 256 + 1
/-- `0x2010:02 PATH_B_STATE` (file 03). -/
abbrev pathBState : Nat := 0x2010 * 256 + 2
/-- `0x2010:03 A_OUT_STATE` (file 03). -/
abbrev aOutState : Nat := 0x2010 * 256 + 3
/-- `0x2010:04 B_OUT_STATE` (file 03). -/
abbrev bOutState : Nat := 0x2010 * 256 + 4
/-- `0x2010:05 B_SAVED_VALID` (file 03). -/
abbrev bSavedValid : Nat := 0x2010 * 256 + 5
/-- `0x2010:06 B_SAVED_TIME` (file 03). -/
abbrev bSavedTime : Nat := 0x2010 * 256 + 6
/-- `0x2010:07 LAST_PROVE_RESULT` (file 03). -/
abbrev lastProveResult : Nat := 0x2010 * 256 + 7
/-- `0x2010:08 LAST_PROVE_TIME` (file 03). -/
abbrev lastProveTime : Nat := 0x2010 * 256 + 8
/-- `0x2011 PROVE_CMD` (file 03). -/
abbrev proveCmd : Nat := 0x2011 * 256 + 0
/-- `0x2012 REVERT_CMD` (file 03). -/
abbrev revertCmd : Nat := 0x2012 * 256 + 0
/-- `0x2013 NOTICE_IGNORED` (file 03). -/
abbrev noticeIgnored : Nat := 0x2013 * 256 + 0
/-- `0x2014 ORPHAN_RESPONSES` (file 03). -/
abbrev orphanResponses : Nat := 0x2014 * 256 + 0
/-- `0x2020 + k:01 ROW_CODE_ERRORS` (file 03). -/
abbrev rowCodeErrors (n : Nat) : Nat := (0x2020 + n) * 256 + 1
/-- `0x2020 + k:02 HCRC_ERRORS` (file 03). -/
abbrev hcrcErrors (n : Nat) : Nat := (0x2020 + n) * 256 + 2
/-- `0x2020 + k:03 FCRC_ERRORS` (file 03). -/
abbrev fcrcErrors (n : Nat) : Nat := (0x2020 + n) * 256 + 3
/-- `0x2020 + k:04 STOMPED_RX` (file 03). -/
abbrev stompedRx (n : Nat) : Nat := (0x2020 + n) * 256 + 4
/-- `0x2020 + k:05 LOS_EVENTS` (file 03). -/
abbrev losEvents (n : Nat) : Nat := (0x2020 + n) * 256 + 5
/-- `0x2020 + k:06 LOCK_LOSSES` (file 03). -/
abbrev lockLosses (n : Nat) : Nat := (0x2020 + n) * 256 + 6
/-- `0x2020 + k:07 TRANSIENT_FAULTS` (file 03). -/
abbrev transientFaults (n : Nat) : Nat := (0x2020 + n) * 256 + 7
/-- `0x2020 + k:08 LASTING_FAULTS` (file 03). -/
abbrev lastingFaults (n : Nat) : Nat := (0x2020 + n) * 256 + 8
/-- `0x2020 + k:09 BAD_TYPE_DISCARDS` (file 03). -/
abbrev badTypeDiscards (n : Nat) : Nat := (0x2020 + n) * 256 + 9
/-- `0x2020 + k:0A HOP_LIMIT_DISCARDS` (file 03). -/
abbrev hopLimitDiscards (n : Nat) : Nat := (0x2020 + n) * 256 + 10
/-- `0x2020 + k:0B C0_LOAD_EXCEED` (file 03). -/
abbrev c0LoadExceed (n : Nat) : Nat := (0x2020 + n) * 256 + 11
/-- `0x2020 + k:0C LATE_WRAPS` (file 03). -/
abbrev lateWraps (n : Nat) : Nat := (0x2020 + n) * 256 + 12
/-- `0x2020 + k:0D REVERT_DROPS` (file 03). -/
abbrev revertDrops (n : Nat) : Nat := (0x2020 + n) * 256 + 13
/-- `0x2020 + k:0E WRAPS` (file 03). -/
abbrev wraps (n : Nat) : Nat := (0x2020 + n) * 256 + 14
/-- `0x2020 + k:0F CLEAR` (file 03). -/
abbrev linkClear (n : Nat) : Nat := (0x2020 + n) * 256 + 15
/-- `0x1140:01 CLAIM_LEASE` (file 03). -/
abbrev claimLease : Nat := 0x1140 * 256 + 1
/-- `0x1140:02 to :09 CMDR_NODE` (file 03). -/
abbrev cmdrNode (i : Nat) : Nat := 0x1140 * 256 + (2 + i)
/-- `0x1140:0A CLAIM_UDP_ENABLE` (file 03). -/
abbrev claimUdpEnable : Nat := 0x1140 * 256 + 10
/-- `0x1141 + i − 1:01 CLAIM` (file 03). -/
abbrev cmdrClaim (n : Nat) : Nat := (0x1141 + n) * 256 + 1
/-- `0x1141 + i − 1:02 LIVE` (file 03). -/
abbrev cmdrLive (n : Nat) : Nat := (0x1141 + n) * 256 + 2
/-- `0x1141 + i − 1:03 LAST_RENEW` (file 03). -/
abbrev lastRenew (n : Nat) : Nat := (0x1141 + n) * 256 + 3
/-- `0x1141 + i − 1:04 LAPSES` (file 03). -/
abbrev lapses (n : Nat) : Nat := (0x1141 + n) * 256 + 4
/-- `0x1150 HOLDER` (file 03). -/
abbrev holder : Nat := 0x1150 * 256 + 0
/-- `0x1151 HOLDER_CLAIM` (file 03). -/
abbrev holderClaim : Nat := 0x1151 * 256 + 0
/-- `0x1152 CLAIM_DISCARDS` (file 03). -/
abbrev claimDiscards : Nat := 0x1152 * 256 + 0
/-- `0x1153 CLAIM_REFUSALS` (file 03). -/
abbrev claimRefusals : Nat := 0x1153 * 256 + 0
/-- `0x2100:01 TIME_NOW` (file 04). -/
abbrev timeNow : Nat := 0x2100 * 256 + 1
/-- `0x2100:02 TIME_STATE` (file 04). -/
abbrev timeState : Nat := 0x2100 * 256 + 2
/-- `0x2100:03 GM_ID` (file 04). -/
abbrev gmId : Nat := 0x2100 * 256 + 3
/-- `0x2100:04 OFFSET` (file 04). -/
abbrev timeOffset : Nat := 0x2100 * 256 + 4
/-- `0x2100:05 FREQ_ADJ` (file 04). -/
abbrev freqAdj : Nat := 0x2100 * 256 + 5
/-- `0x2100:06 TIME_FLAGS` (file 04). -/
abbrev timeFlags : Nat := 0x2100 * 256 + 6
/-- `0x2100:07 INBOUND_PATH` (file 04). -/
abbrev inboundPath : Nat := 0x2100 * 256 + 7
/-- `0x2100:08 HOP_DELAY_A` (file 04). -/
abbrev hopDelayA : Nat := 0x2100 * 256 + 8
/-- `0x2100:09 HOP_DELAY_B` (file 04). -/
abbrev hopDelayB : Nat := 0x2100 * 256 + 9
/-- `0x2100:0A LOOP_SCALE` (file 04). -/
abbrev loopScale : Nat := 0x2100 * 256 + 10
/-- `0x2100:0B UTC_OFFSET` (file 04). -/
abbrev utcOffset : Nat := 0x2100 * 256 + 11
/-- `0x2101:01 GM_PRIORITY` (file 04). -/
abbrev gmPriority : Nat := 0x2101 * 256 + 1
/-- `0x2101:02 TIME_SOURCE` (file 04). -/
abbrev timeSource : Nat := 0x2101 * 256 + 2
/-- `0x2101:03 PTP_PORT` (file 04). -/
abbrev ptpPort : Nat := 0x2101 * 256 + 3
/-- `0x2101:04 FREE_RUN_OK` (file 04). -/
abbrev freeRunOk : Nat := 0x2101 * 256 + 4
/-- `0x2101:05 HOLDOVER_LIMIT` (file 04). -/
abbrev holdoverLimit : Nat := 0x2101 * 256 + 5
/-- `0x2101:06 SLEW_LIMIT` (file 04). -/
abbrev slewLimit : Nat := 0x2101 * 256 + 6
/-- `0x2101:07 STEP_THRESHOLD` (file 04). -/
abbrev stepThreshold : Nat := 0x2101 * 256 + 7
/-- `0x2101:08 SOURCE_TC` (file 04). -/
abbrev sourceTc : Nat := 0x2101 * 256 + 8
/-- `0x2101:09 FOLLOW_BW` (file 04). -/
abbrev followBw : Nat := 0x2101 * 256 + 9
/-- `0x2101:0A UTC_OFFSET_CFG` (file 04). -/
abbrev utcOffsetCfg : Nat := 0x2101 * 256 + 10
/-- `0x2101:0B IRIG_YEAR` (file 04). -/
abbrev irigYear : Nat := 0x2101 * 256 + 11
/-- `0x2101:0C IRIG_EXT` (file 04). -/
abbrev irigExt : Nat := 0x2101 * 256 + 12
/-- `0x2101:0D LOOP_ALARM_NS` (file 04). -/
abbrev loopAlarmNs : Nat := 0x2101 * 256 + 13
/-- `0x2101:0E PPS_MODE` (file 04). -/
abbrev ppsMode : Nat := 0x2101 * 256 + 14
/-- `0x2101:0F PPS_WIDTH` (file 04). -/
abbrev ppsWidth : Nat := 0x2101 * 256 + 15
/-- `0x2102 TIMING_IGNORED` (file 04). -/
abbrev timingIgnored : Nat := 0x2102 * 256 + 0
/-- `0x2110 + e:01 PTP_ROLE` (file 04). -/
abbrev ptpRole (n : Nat) : Nat := (0x2110 + n) * 256 + 1
/-- `0x2110 + e:02 PTP_DOMAIN` (file 04). -/
abbrev ptpDomain (n : Nat) : Nat := (0x2110 + n) * 256 + 2
/-- `0x2110 + e:03 PRIORITY1` (file 04). -/
abbrev priority1 (n : Nat) : Nat := (0x2110 + n) * 256 + 3
/-- `0x2110 + e:04 PRIORITY2` (file 04). -/
abbrev priority2 (n : Nat) : Nat := (0x2110 + n) * 256 + 4
/-- `0x2110 + e:05 PORT_STATE` (file 04). -/
abbrev portState (n : Nat) : Nat := (0x2110 + n) * 256 + 5
/-- `0x2110 + e:06 PEER_DELAY` (file 04). -/
abbrev peerDelay (n : Nat) : Nat := (0x2110 + n) * 256 + 6
/-- `0x2110 + e:07 MASTER_OFFSET` (file 04). -/
abbrev masterOffset (n : Nat) : Nat := (0x2110 + n) * 256 + 7
/-- `0x2200:01 EPOCH_LENGTH` (file 04). -/
abbrev epochLength : Nat := 0x2200 * 256 + 1
/-- `0x2200:02 EPOCH_PHASE` (file 04). -/
abbrev epochPhase : Nat := 0x2200 * 256 + 2
/-- `0x2200:03 APPLY_DELAY` (file 04). -/
abbrev applyDelay : Nat := 0x2200 * 256 + 3
/-- `0x2200:04 STALE_INVALID` (file 04). -/
abbrev staleInvalid : Nat := 0x2200 * 256 + 4
/-- `0x2200:05 EPOCH_NOW` (file 04). -/
abbrev epochNow : Nat := 0x2200 * 256 + 5
/-- `0x2200:06 RING_EPOCH` (file 04). -/
abbrev ringEpoch : Nat := 0x2200 * 256 + 6
/-- `0x2200:07 RING_APPLY` (file 04). -/
abbrev ringApply : Nat := 0x2200 * 256 + 7
/-- `0x2200:08 APPLY_MIN` (file 04). -/
abbrev applyMin : Nat := 0x2200 * 256 + 8
/-- `0x2200:09 NEXT_SAMPLE` (file 04). -/
abbrev nextSample : Nat := 0x2200 * 256 + 9
/-- `0x2210 PUB_COUNT` (file 04). -/
abbrev pubCount : Nat := 0x2210 * 256 + 0
/-- `0x2211 LOUT_HOLD` (file 04). -/
abbrev loutHold : Nat := 0x2211 * 256 + 0
/-- `0x2212 LOUT_MISSED` (file 04). -/
abbrev loutMissed : Nat := 0x2212 * 256 + 0
/-- `0x2220 + j:01 to :80 PUB_SOURCE` (file 04). -/
abbrev pubSource (n : Nat) (i : Nat) : Nat := (0x2220 + n) * 256 + (1 + i)
/-- `0x2240 SUB_COUNT` (file 04). -/
abbrev subCount : Nat := 0x2240 * 256 + 0
/-- `0x2241 + j:01 to :80 SUB_ENTRY` (file 04). -/
abbrev subEntry (n : Nat) (i : Nat) : Nat := (0x2241 + n) * 256 + (1 + i)
/-- `0x2250:01 LAKE_FRAMES_RX` (file 04). -/
abbrev lakeFramesRx : Nat := 0x2250 * 256 + 1
/-- `0x2250:02 LATE_FRAMES` (file 04). -/
abbrev lateFrames : Nat := 0x2250 * 256 + 2
/-- `0x2250:03 EPOCH_DISCARDS` (file 04). -/
abbrev epochDiscards : Nat := 0x2250 * 256 + 3
/-- `0x2250:04 STALE_SLOTS` (file 04). -/
abbrev staleSlots : Nat := 0x2250 * 256 + 4
/-- `0x2250:05 SKIPPED_APPLIES` (file 04). -/
abbrev skippedApplies : Nat := 0x2250 * 256 + 5
/-- `0x2250:06 CEILING_EXCEED` (file 04). -/
abbrev ceilingExceed : Nat := 0x2250 * 256 + 6
/-- `0x2250:07 LAKE_FLAGS` (file 04). -/
abbrev lakeFlags : Nat := 0x2250 * 256 + 7
/-- `0x2250:08 CLEAR` (file 04). -/
abbrev lakeClear : Nat := 0x2250 * 256 + 8
/-- `0x2250:09 LAKE_VOLUME` (file 04). -/
abbrev lakeVolume : Nat := 0x2250 * 256 + 9
/-- `0x2400:01 CELLS_FREE` (file 05). -/
abbrev cellsFree : Nat := 0x2400 * 256 + 1
/-- `0x2400:02 CELLS_RETIRED` (file 05). -/
abbrev cellsRetired : Nat := 0x2400 * 256 + 2
/-- `0x2400:03 PARITY_TRANSIENT` (file 05). -/
abbrev parityTransient : Nat := 0x2400 * 256 + 3
/-- `0x2400:04 PARITY_LASTING` (file 05). -/
abbrev parityLasting : Nat := 0x2400 * 256 + 4
/-- `0x2400:05 MAX_RESIDENCE` (file 05). -/
abbrev maxResidence : Nat := 0x2400 * 256 + 5
/-- `0x2400:06 CLASS2_WEIGHT` (file 05). -/
abbrev class2Weight : Nat := 0x2400 * 256 + 6
/-- `0x2400:07 CLASS3_WEIGHT` (file 05). -/
abbrev class3Weight : Nat := 0x2400 * 256 + 7
/-- `0x2400:08 MIRROR_LIMIT` (file 05). -/
abbrev mirrorLimit : Nat := 0x2400 * 256 + 8
/-- `0x2400:09 SAMPLE_LIMIT` (file 05). -/
abbrev sampleLimit : Nat := 0x2400 * 256 + 9
/-- `0x2400:0A LIMIT_SUM` (file 05). -/
abbrev limitSum : Nat := 0x2400 * 256 + 10
/-- `0x2410 + p:01 to :04 IN_LIMIT` (file 05). -/
abbrev inLimit (n : Nat) (i : Nat) : Nat := (0x2410 + n) * 256 + (1 + i)
/-- `0x2410 + p:05 to :08 OUT_LIMIT` (file 05). -/
abbrev outLimit (n : Nat) (i : Nat) : Nat := (0x2410 + n) * 256 + (5 + i)
/-- `0x2410 + p:09 to :0C IN_USED` (file 05). -/
abbrev inUsed (n : Nat) (i : Nat) : Nat := (0x2410 + n) * 256 + (9 + i)
/-- `0x2410 + p:0D to :10 OUT_USED` (file 05). -/
abbrev outUsed (n : Nat) (i : Nat) : Nat := (0x2410 + n) * 256 + (13 + i)
/-- `0x2430 FLOW_TABLE` (file 05). -/
abbrev flowTable : Nat := 0x2430 * 256 + 0
/-- `0x2431 FLOW_ENTRIES` (file 05). -/
abbrev flowEntries : Nat := 0x2431 * 256 + 0
/-- `0x2440:01 to :40 FLOW_COUNTER` (file 05). -/
abbrev flowCounter (i : Nat) : Nat := 0x2440 * 256 + (1 + i)
/-- `0x2440:41 CLEAR` (file 05). -/
abbrev flowClear : Nat := 0x2440 * 256 + 65
/-- `0x2450:01 INSERT_SHARE_2` (file 05). -/
abbrev insertShare2 : Nat := 0x2450 * 256 + 1
/-- `0x2450:02 INSERT_SHARE_3` (file 05). -/
abbrev insertShare3 : Nat := 0x2450 * 256 + 2
/-- `0x2450:03 QUOTA_BYTES_2` (file 05). -/
abbrev quotaBytes2 : Nat := 0x2450 * 256 + 3
/-- `0x2450:04 QUOTA_BYTES_3` (file 05). -/
abbrev quotaBytes3 : Nat := 0x2450 * 256 + 4
/-- `0x2450:05 INSERTED_2` (file 05). -/
abbrev inserted2 : Nat := 0x2450 * 256 + 5
/-- `0x2450:06 INSERTED_3` (file 05). -/
abbrev inserted3 : Nat := 0x2450 * 256 + 6
/-- `0x2450:07 QUOTA_LIMITED` (file 05). -/
abbrev quotaLimited : Nat := 0x2450 * 256 + 7
/-- `0x2460:01 TAP_DEST` (file 05). -/
abbrev tapDest : Nat := 0x2460 * 256 + 1
/-- `0x2460:02 TAP_MAC` (file 05). -/
abbrev tapMac : Nat := 0x2460 * 256 + 2
/-- `0x2460:03 MIRROR_IN` (file 05). -/
abbrev mirrorIn : Nat := 0x2460 * 256 + 3
/-- `0x2460:04 MIRROR_OUT` (file 05). -/
abbrev mirrorOut : Nat := 0x2460 * 256 + 4
/-- `0x2460:05 TAP_COPIES` (file 05). -/
abbrev tapCopies : Nat := 0x2460 * 256 + 5
/-- `0x2460:06 MIRROR_DROPS` (file 05). -/
abbrev mirrorDrops : Nat := 0x2460 * 256 + 6
/-- `0x2468:01 SAMPLE_RATIO` (file 05). -/
abbrev sampleRatio : Nat := 0x2468 * 256 + 1
/-- `0x2468:02 SAMPLE_PORTS` (file 05). -/
abbrev samplePorts : Nat := 0x2468 * 256 + 2
/-- `0x2468:03 SAMPLE_BYTES` (file 05). -/
abbrev sampleBytes : Nat := 0x2468 * 256 + 3
/-- `0x2468:04 SAMPLE_FREEZE` (file 05). -/
abbrev sampleFreeze : Nat := 0x2468 * 256 + 4
/-- `0x2468:05 SAMPLES_TAKEN` (file 05). -/
abbrev samplesTaken : Nat := 0x2468 * 256 + 5
/-- `0x2468:06 SAMPLES_SKIPPED` (file 05). -/
abbrev samplesSkipped : Nat := 0x2468 * 256 + 6
/-- `0x2469 SAMPLE_BUFFER` (file 05). -/
abbrev sampleBuffer : Nat := 0x2469 * 256 + 0
/-- `0x2480 + p:01 to :04 FRAMES_IN` (file 05). -/
abbrev framesIn (n : Nat) (i : Nat) : Nat := (0x2480 + n) * 256 + (1 + i)
/-- `0x2480 + p:05 to :08 FRAMES_OUT` (file 05). -/
abbrev framesOut (n : Nat) (i : Nat) : Nat := (0x2480 + n) * 256 + (5 + i)
/-- `0x2480 + p:09 to :0C IN_DROPS` (file 05). -/
abbrev inDrops (n : Nat) (i : Nat) : Nat := (0x2480 + n) * 256 + (9 + i)
/-- `0x2480 + p:0D to :10 OUT_DROPS` (file 05). -/
abbrev outDrops (n : Nat) (i : Nat) : Nat := (0x2480 + n) * 256 + (13 + i)
/-- `0x2480 + p:11 CUT_THROUGH` (file 05). -/
abbrev cutThrough (n : Nat) : Nat := (0x2480 + n) * 256 + 17
/-- `0x2480 + p:12 BACKPRESSURE_US` (file 05). -/
abbrev backpressureUs (n : Nat) : Nat := (0x2480 + n) * 256 + 18
/-- `0x2480 + p:13 AGED` (file 05). -/
abbrev aged (n : Nat) : Nat := (0x2480 + n) * 256 + 19
/-- `0x2480 + p:14 PARITY_DROPS` (file 05). -/
abbrev parityDrops (n : Nat) : Nat := (0x2480 + n) * 256 + 20
/-- `0x2480 + p:15 STOMPED` (file 05). -/
abbrev stomped (n : Nat) : Nat := (0x2480 + n) * 256 + 21
/-- `0x2480 + p:16 BYTES_IN` (file 05). -/
abbrev bytesIn (n : Nat) : Nat := (0x2480 + n) * 256 + 22
/-- `0x2480 + p:17 BYTES_OUT` (file 05). -/
abbrev bytesOut (n : Nat) : Nat := (0x2480 + n) * 256 + 23
/-- `0x2480 + p:18 CLEAR` (file 05). -/
abbrev portClear (n : Nat) : Nat := (0x2480 + n) * 256 + 24
/-- `0x2600 + e:01 ETH_MODE` (file 05). -/
abbrev ethMode (n : Nat) : Nat := (0x2600 + n) * 256 + 1
/-- `0x2600 + e:02 MAC_ADDR` (file 05). -/
abbrev macAddr (n : Nat) : Nat := (0x2600 + n) * 256 + 2
/-- `0x2600 + e:03 IPV4_ADDR` (file 05). -/
abbrev ipv4Addr (n : Nat) : Nat := (0x2600 + n) * 256 + 3
/-- `0x2600 + e:04 PCP_MAP` (file 05). -/
abbrev pcpMap (n : Nat) : Nat := (0x2600 + n) * 256 + 4
/-- `0x2600 + e:05 LINK_STATE` (file 05). -/
abbrev linkState (n : Nat) : Nat := (0x2600 + n) * 256 + 5
/-- `0x2600 + e:06 SPEED` (file 05). -/
abbrev speed (n : Nat) : Nat := (0x2600 + n) * 256 + 6
/-- `0x2640 + e:01 RX_FRAMES` (file 05). -/
abbrev rxFrames (n : Nat) : Nat := (0x2640 + n) * 256 + 1
/-- `0x2640 + e:02 TX_FRAMES` (file 05). -/
abbrev ethTxFrames (n : Nat) : Nat := (0x2640 + n) * 256 + 2
/-- `0x2640 + e:03 FCS_ERRORS` (file 05). -/
abbrev fcsErrors (n : Nat) : Nat := (0x2640 + n) * 256 + 3
/-- `0x2640 + e:04 RUNTS` (file 05). -/
abbrev runts (n : Nat) : Nat := (0x2640 + n) * 256 + 4
/-- `0x2640 + e:05 OVERSIZE` (file 05). -/
abbrev oversize (n : Nat) : Nat := (0x2640 + n) * 256 + 5
/-- `0x2640 + e:06 NO_FLOW` (file 05). -/
abbrev noFlow (n : Nat) : Nat := (0x2640 + n) * 256 + 6
/-- `0x2640 + e:07 FLOW_DROPS` (file 05). -/
abbrev flowDrops (n : Nat) : Nat := (0x2640 + n) * 256 + 7
/-- `0x2640 + e:08 CLEAR` (file 05). -/
abbrev ethClear (n : Nat) : Nat := (0x2640 + n) * 256 + 8
/-- `0x2610 + q:01 RED_MODE` (file 05). -/
abbrev redMode (n : Nat) : Nat := (0x2610 + n) * 256 + 1
/-- `0x2610 + q:02 FORGET_TIME` (file 05). -/
abbrev forgetTime (n : Nat) : Nat := (0x2610 + n) * 256 + 2
/-- `0x2610 + q:03 LIFE_CHECK` (file 05). -/
abbrev lifeCheck (n : Nat) : Nat := (0x2610 + n) * 256 + 3
/-- `0x2610 + q:04 SUP_ADDR_LSB` (file 05). -/
abbrev supAddrLsb (n : Nat) : Nat := (0x2610 + n) * 256 + 4
/-- `0x2618 + q:01 DUP_DISCARDS` (file 05). -/
abbrev dupDiscards (n : Nat) : Nat := (0x2618 + n) * 256 + 1
/-- `0x2618 + q:02 WRONG_LAN` (file 05). -/
abbrev wrongLan (n : Nat) : Nat := (0x2618 + n) * 256 + 2
/-- `0x2618 + q:03 OWN_REMOVED` (file 05). -/
abbrev ownRemoved (n : Nat) : Nat := (0x2618 + n) * 256 + 3
/-- `0x2618 + q:04 TABLE_EVICTIONS` (file 05). -/
abbrev tableEvictions (n : Nat) : Nat := (0x2618 + n) * 256 + 4
/-- `0x2618 + q:05 SUP_RX` (file 05). -/
abbrev supRx (n : Nat) : Nat := (0x2618 + n) * 256 + 5
/-- `0x2618 + q:06 CLEAR` (file 05). -/
abbrev redClear (n : Nat) : Nat := (0x2618 + n) * 256 + 6
/-- `0x2800:01 JOURNAL_STATE` (file 06). -/
abbrev journalState : Nat := 0x2800 * 256 + 1
/-- `0x2800:02 RECORD_WRITES` (file 06). -/
abbrev recordWrites : Nat := 0x2800 * 256 + 2
/-- `0x2800:03 WRITE_MAX` (file 06). -/
abbrev writeMax : Nat := 0x2800 * 256 + 3
/-- `0x2800:04 TRANSIENT` (file 06). -/
abbrev journalTransient : Nat := 0x2800 * 256 + 4
/-- `0x2800:05 LASTING` (file 06). -/
abbrev lasting : Nat := 0x2800 * 256 + 5
/-- `0x2800:06 RECOVERED` (file 06). -/
abbrev recovered : Nat := 0x2800 * 256 + 6
/-- `0x2800:07 LAST_FAULT_DEV` (file 06). -/
abbrev lastFaultDev : Nat := 0x2800 * 256 + 7
/-- `0x2800:08 CLEAR` (file 06). -/
abbrev journalClear : Nat := 0x2800 * 256 + 8
/-- `0x2801:01 RETX_C0` (file 06). -/
abbrev retxC0 : Nat := 0x2801 * 256 + 1
/-- `0x2801:02 RETX_C2` (file 06). -/
abbrev retxC2 : Nat := 0x2801 * 256 + 2
/-- `0x2801:03 EXEC_TIMEOUT` (file 06). -/
abbrev execTimeout : Nat := 0x2801 * 256 + 3
/-- `0x2801:04 WINDOW_C0` (file 06). -/
abbrev windowC0 : Nat := 0x2801 * 256 + 4
/-- `0x2801:05 WINDOW_C2` (file 06). -/
abbrev windowC2 : Nat := 0x2801 * 256 + 5
/-- `0x2801:06 LOSS_TIMEOUT` (file 06). -/
abbrev lossTimeout : Nat := 0x2801 * 256 + 6
/-- `0x2801:07 RECALL_TIMEOUT` (file 06). -/
abbrev recallTimeout : Nat := 0x2801 * 256 + 7
/-- `0x2801:08 PENDING_LIMIT` (file 06). -/
abbrev pendingLimit : Nat := 0x2801 * 256 + 8
/-- `0x2801:09 UNWELD_DRAIN` (file 06). -/
abbrev unweldDrain : Nat := 0x2801 * 256 + 9
/-- `0x280F + p:01 LATE_POLICY_C0` (file 06). -/
abbrev latePolicyC0 (n : Nat) : Nat := (0x2810 + n) * 256 + 1
/-- `0x280F + p:02 LATE_LIMIT_C0` (file 06). -/
abbrev lateLimitC0 (n : Nat) : Nat := (0x2810 + n) * 256 + 2
/-- `0x280F + p:03 LATE_POLICY_C2` (file 06). -/
abbrev latePolicyC2 (n : Nat) : Nat := (0x2810 + n) * 256 + 3
/-- `0x280F + p:04 LATE_LIMIT_C2` (file 06). -/
abbrev lateLimitC2 (n : Nat) : Nat := (0x2810 + n) * 256 + 4
/-- `0x2870 SESSION_TABLE` (file 06). -/
abbrev sessionTable : Nat := 0x2870 * 256 + 0
/-- `0x2871 SESSIONS_IN` (file 06). -/
abbrev sessionsIn : Nat := 0x2871 * 256 + 0
/-- `0x2872 SESSIONS_OUT` (file 06). -/
abbrev sessionsOut : Nat := 0x2872 * 256 + 0
/-- `0x2880:01 LEQ_COUNT` (file 06). -/
abbrev leqCount : Nat := 0x2880 * 256 + 1
/-- `0x2880:02 LEQ_HEAD` (file 06). -/
abbrev leqHead : Nat := 0x2880 * 256 + 2
/-- `0x2880:03 LEQ_POP` (file 06). -/
abbrev leqPop : Nat := 0x2880 * 256 + 3
/-- `0x2880:04 LEQ_LOST` (file 06). -/
abbrev leqLost : Nat := 0x2880 * 256 + 4
/-- `0x2880:05 LEQ_FLAGS` (file 06). -/
abbrev leqFlags : Nat := 0x2880 * 256 + 5
/-- `0x2881 LEQ_ALL` (file 06). -/
abbrev leqAll : Nat := 0x2881 * 256 + 0
/-- `0x2890 + w:01 PW_BASE` (file 06). -/
abbrev pwBase (n : Nat) : Nat := (0x2890 + n) * 256 + 1
/-- `0x2890 + w:02 PW_SIZE` (file 06). -/
abbrev pwSize (n : Nat) : Nat := (0x2890 + n) * 256 + 2
/-- `0x2890 + w:03 PW_POSTED` (file 06). -/
abbrev pwPosted (n : Nat) : Nat := (0x2890 + n) * 256 + 3
/-- `0x28C0:01 UNWELD_CMD` (file 06). -/
abbrev unweldCmd : Nat := 0x28C0 * 256 + 1
/-- `0x28C0:02 UNWELD_MODE` (file 06). -/
abbrev unweldMode : Nat := 0x28C0 * 256 + 2
/-- `0x28C0:03 WELD_STATE` (file 06). -/
abbrev weldState : Nat := 0x28C0 * 256 + 3
/-- `0x28C0:04 LAST_SPLICE_EPOCHS` (file 06). -/
abbrev lastSpliceEpochs : Nat := 0x28C0 * 256 + 4
/-- `0x28C0:05 CENSUS_TIME` (file 06). -/
abbrev censusTime : Nat := 0x28C0 * 256 + 5
/-- `0x28D0:01 ACCEPTED` (file 06). -/
abbrev accepted : Nat := 0x28D0 * 256 + 1
/-- `0x28D0:02 DUPLICATES` (file 06). -/
abbrev duplicates : Nat := 0x28D0 * 256 + 2
/-- `0x28D0:03 OUT_OF_WINDOW` (file 06). -/
abbrev outOfWindow : Nat := 0x28D0 * 256 + 3
/-- `0x28D0:04 RETRANSMITTED` (file 06). -/
abbrev retransmitted : Nat := 0x28D0 * 256 + 4
/-- `0x28D0:05 LATE_APPLIED` (file 06). -/
abbrev lateApplied : Nat := 0x28D0 * 256 + 5
/-- `0x28D0:06 LATE_FAILED` (file 06). -/
abbrev lateFailed : Nat := 0x28D0 * 256 + 6
/-- `0x28D0:07 SESSIONS_LOST` (file 06). -/
abbrev sessionsLost : Nat := 0x28D0 * 256 + 7
/-- `0x28D0:08 BAD_SESSION` (file 06). -/
abbrev badSession : Nat := 0x28D0 * 256 + 8
/-- `0x28D0:09 INTEGRITY` (file 06). -/
abbrev integrity : Nat := 0x28D0 * 256 + 9
/-- `0x28D0:0A CLEAR` (file 06). -/
abbrev acceptClear : Nat := 0x28D0 * 256 + 10
/-- `0x3000 + n:01 MODE` (file 07). -/
abbrev cellMode (n : Nat) : Nat := (0x3000 + n) * 256 + 1
/-- `0x3000 + n:02 OWNER` (file 07). -/
abbrev cellOwner (n : Nat) : Nat := (0x3000 + n) * 256 + 2
/-- `0x3000 + n:03 INVERT` (file 07). -/
abbrev cellInvert (n : Nat) : Nat := (0x3000 + n) * 256 + 3
/-- `0x3000 + n:04 BIAS` (file 07). -/
abbrev bias (n : Nat) : Nat := (0x3000 + n) * 256 + 4
/-- `0x3000 + n:05 FILTER` (file 07). -/
abbrev cellFilter (n : Nat) : Nat := (0x3000 + n) * 256 + 5
/-- `0x3000 + n:06 GLITCH_NS` (file 07). -/
abbrev glitchNs (n : Nat) : Nat := (0x3000 + n) * 256 + 6
/-- `0x3000 + n:07 DEBOUNCE_US` (file 07). -/
abbrev debounceUs (n : Nat) : Nat := (0x3000 + n) * 256 + 7
/-- `0x3000 + n:08 DEBOUNCE_STAMP` (file 07). -/
abbrev debounceStamp (n : Nat) : Nat := (0x3000 + n) * 256 + 8
/-- `0x3000 + n:09 READERS` (file 07). -/
abbrev cellReaders (n : Nat) : Nat := (0x3000 + n) * 256 + 9
/-- `0x3000 + n:0A CHATTER_LIMIT` (file 07). -/
abbrev chatterLimit (n : Nat) : Nat := (0x3000 + n) * 256 + 10
/-- `0x3000 + n:0B SAFE_VALUE` (file 07). -/
abbrev safeValue (n : Nat) : Nat := (0x3000 + n) * 256 + 11
/-- `0x3000 + n:0C HOLD_POLICY` (file 07). -/
abbrev holdPolicy (n : Nat) : Nat := (0x3000 + n) * 256 + 12
/-- `0x3000 + n:0D MISSED` (file 07). -/
abbrev cellMissed (n : Nat) : Nat := (0x3000 + n) * 256 + 13
/-- `0x3000 + n:0E ACTIVE_LEVEL` (file 07). -/
abbrev activeLevel (n : Nat) : Nat := (0x3000 + n) * 256 + 14
/-- `0x3000 + n:0F DRIVE_POWER` (file 07). -/
abbrev drivePower (n : Nat) : Nat := (0x3000 + n) * 256 + 15
/-- `0x3000 + n:10 EVENT_BUDGET` (file 07). -/
abbrev eventBudget (n : Nat) : Nat := (0x3000 + n) * 256 + 16
/-- `0x3000 + n:11 WINDOW_BUDGET` (file 07). -/
abbrev windowBudget (n : Nat) : Nat := (0x3000 + n) * 256 + 17
/-- `0x3000 + n:12 WINDOW_LENGTH` (file 07). -/
abbrev windowLength (n : Nat) : Nat := (0x3000 + n) * 256 + 18
/-- `0x3000 + n:13 GOV_RELATCH` (file 07). -/
abbrev govRelatch (n : Nat) : Nat := (0x3000 + n) * 256 + 19
/-- `0x3000 + n:14 OUT_CMD` (file 07). -/
abbrev outCmd (n : Nat) : Nat := (0x3000 + n) * 256 + 20
/-- `0x3000 + n:15 GOV_RESET` (file 07). -/
abbrev govReset (n : Nat) : Nat := (0x3000 + n) * 256 + 21
/-- `0x3000 + n:16 CELL_STATE` (file 07). -/
abbrev cellState (n : Nat) : Nat := (0x3000 + n) * 256 + 22
/-- `0x3000 + n:17 LEVEL` (file 07). -/
abbrev cellLevel (n : Nat) : Nat := (0x3000 + n) * 256 + 23
/-- `0x3000 + n:18 PENDING` (file 07). -/
abbrev cellPending (n : Nat) : Nat := (0x3000 + n) * 256 + 24
/-- `0x3000 + n:19 LAST_RESULT` (file 07). -/
abbrev lastResult (n : Nat) : Nat := (0x3000 + n) * 256 + 25
/-- `0x3000 + n:1A EVENT_ENERGY` (file 07). -/
abbrev eventEnergy (n : Nat) : Nat := (0x3000 + n) * 256 + 26
/-- `0x3000 + n:1B WINDOW_ENERGY` (file 07). -/
abbrev windowEnergy (n : Nat) : Nat := (0x3000 + n) * 256 + 27
/-- `0x3000 + n:1C EDGES` (file 07). -/
abbrev edges (n : Nat) : Nat := (0x3000 + n) * 256 + 28
/-- `0x3000 + n:1D GOV_CUTS` (file 07). -/
abbrev govCuts (n : Nat) : Nat := (0x3000 + n) * 256 + 29
/-- `0x3000 + n:1E LATE_OUT` (file 07). -/
abbrev lateOut (n : Nat) : Nat := (0x3000 + n) * 256 + 30
/-- `0x3000 + n:1F PLACE_SHIFTED` (file 07). -/
abbrev placeShifted (n : Nat) : Nat := (0x3000 + n) * 256 + 31
/-- `0x3000 + n:20 MISMATCHES` (file 07). -/
abbrev cellMismatches (n : Nat) : Nat := (0x3000 + n) * 256 + 32
/-- `0x3000 + n:21 CLEAR` (file 07). -/
abbrev cellClear (n : Nat) : Nat := (0x3000 + n) * 256 + 33
/-- `0x3200 + b:01 BANK_VOLT` (file 07). -/
abbrev bankVolt (n : Nat) : Nat := (0x3200 + n) * 256 + 1
/-- `0x3200 + b:02 DRIVE_MA` (file 07). -/
abbrev driveMa (n : Nat) : Nat := (0x3200 + n) * 256 + 2
/-- `0x3200 + b:03 SLEW` (file 07). -/
abbrev bankSlew (n : Nat) : Nat := (0x3200 + n) * 256 + 3
/-- `0x3200 + b:04 HYSTERESIS` (file 07). -/
abbrev hysteresis (n : Nat) : Nat := (0x3200 + n) * 256 + 4
/-- `0x3200 + b:05 VIO_MV` (file 07). -/
abbrev vioMv (n : Nat) : Nat := (0x3200 + n) * 256 + 5
/-- `0x3200 + b:06 BANK_STATE` (file 07). -/
abbrev bankState (n : Nat) : Nat := (0x3200 + n) * 256 + 6
/-- `0x3200 + b:07 BANK_FAULTS` (file 07). -/
abbrev bankFaults (n : Nat) : Nat := (0x3200 + n) * 256 + 7
/-- `0x3210:01 SOE_SIZE` (file 07). -/
abbrev soeSize : Nat := 0x3210 * 256 + 1
/-- `0x3210:02 SOE_FULL_MODE` (file 07). -/
abbrev soeFullMode : Nat := 0x3210 * 256 + 2
/-- `0x3210:03 SOE_BASE` (file 07). -/
abbrev soeBase : Nat := 0x3210 * 256 + 3
/-- `0x3210:04 SOE_CAPACITY` (file 07). -/
abbrev soeCapacity : Nat := 0x3210 * 256 + 4
/-- `0x3210:05 SOE_WRITTEN` (file 07). -/
abbrev soeWritten : Nat := 0x3210 * 256 + 5
/-- `0x3210:06 SOE_READ` (file 07). -/
abbrev soeRead : Nat := 0x3210 * 256 + 6
/-- `0x3210:07 SOE_DROPS` (file 07). -/
abbrev soeDrops : Nat := 0x3210 * 256 + 7
/-- `0x3210:08 SOE_FLAGS` (file 07). -/
abbrev soeFlags : Nat := 0x3210 * 256 + 8
/-- `0x4000:01 ENG_CLOCK` (file 08). -/
abbrev engClock : Nat := 0x4000 * 256 + 1
/-- `0x4000:02 RUNNING_MAP` (file 08). -/
abbrev runningMap : Nat := 0x4000 * 256 + 2
/-- `0x4000:03 SLEEPING_MAP` (file 08). -/
abbrev sleepingMap : Nat := 0x4000 * 256 + 3
/-- `0x4000:04 STALLED_MAP` (file 08). -/
abbrev stalledMap : Nat := 0x4000 * 256 + 4
/-- `0x4000:05 ABORTS` (file 08). -/
abbrev aborts : Nat := 0x4000 * 256 + 5
/-- `0x4000:06 SWAP_WAITING_MAP` (file 08). -/
abbrev swapWaitingMap : Nat := 0x4000 * 256 + 6
/-- `0x4100 + n:01 RUN_ENABLE` (file 08). -/
abbrev runEnable (n : Nat) : Nat := (0x4100 + n) * 256 + 1
/-- `0x4100 + n:02 PIN_MAP` (file 08). -/
abbrev pinMap (n : Nat) : Nat := (0x4100 + n) * 256 + 2
/-- `0x4100 + n:03 SWAP_MODE` (file 08). -/
abbrev swapMode (n : Nat) : Nat := (0x4100 + n) * 256 + 3
/-- `0x4100 + n:04 STALL_LIMIT` (file 08). -/
abbrev stallLimit (n : Nat) : Nat := (0x4100 + n) * 256 + 4
/-- `0x4100 + n:05 ENG_CMD` (file 08). -/
abbrev engCmd (n : Nat) : Nat := (0x4100 + n) * 256 + 5
/-- `0x4100 + n:06 ENG_STATE` (file 08). -/
abbrev engState (n : Nat) : Nat := (0x4100 + n) * 256 + 6
/-- `0x4100 + n:07 CUR_STATE` (file 08). -/
abbrev curState (n : Nat) : Nat := (0x4100 + n) * 256 + 7
/-- `0x4100 + n:08 STALL_REASON` (file 08). -/
abbrev stallReason (n : Nat) : Nat := (0x4100 + n) * 256 + 8
/-- `0x4100 + n:09 to :0C COUNTER` (file 08). -/
abbrev engCounter (n : Nat) (i : Nat) : Nat := (0x4100 + n) * 256 + (9 + i)
/-- `0x4100 + n:0D SH_OUT` (file 08). -/
abbrev shOut (n : Nat) : Nat := (0x4100 + n) * 256 + 13
/-- `0x4100 + n:0E SH_IN` (file 08). -/
abbrev shIn (n : Nat) : Nat := (0x4100 + n) * 256 + 14
/-- `0x4100 + n:0F SH_LEFT` (file 08). -/
abbrev shLeft (n : Nat) : Nat := (0x4100 + n) * 256 + 15
/-- `0x4100 + n:10 FLAGS` (file 08). -/
abbrev engFlags (n : Nat) : Nat := (0x4100 + n) * 256 + 16
/-- `0x4100 + n:11 MARK` (file 08). -/
abbrev engMark (n : Nat) : Nat := (0x4100 + n) * 256 + 17
/-- `0x4100 + n:12 PUB` (file 08). -/
abbrev engPub (n : Nat) : Nat := (0x4100 + n) * 256 + 18
/-- `0x4100 + n:13 ACTQ_USED` (file 08). -/
abbrev actqUsed (n : Nat) : Nat := (0x4100 + n) * 256 + 19
/-- `0x4100 + n:14 SWAP_STATE` (file 08). -/
abbrev swapState (n : Nat) : Nat := (0x4100 + n) * 256 + 20
/-- `0x4100 + n:15 TRANSITIONS` (file 08). -/
abbrev transitions (n : Nat) : Nat := (0x4100 + n) * 256 + 21
/-- `0x4100 + n:16 STALLS` (file 08). -/
abbrev stalls (n : Nat) : Nat := (0x4100 + n) * 256 + 22
/-- `0x4100 + n:17 LONG_STALLS` (file 08). -/
abbrev longStalls (n : Nat) : Nat := (0x4100 + n) * 256 + 23
/-- `0x4100 + n:18 LATE_ACTIONS` (file 08). -/
abbrev lateActions (n : Nat) : Nat := (0x4100 + n) * 256 + 24
/-- `0x4100 + n:19 GOV_REFUSED` (file 08). -/
abbrev govRefused (n : Nat) : Nat := (0x4100 + n) * 256 + 25
/-- `0x4100 + n:1A ABORT_RECORD` (file 08). -/
abbrev abortRecord (n : Nat) : Nat := (0x4100 + n) * 256 + 26
/-- `0x4100 + n:1B CANCEL_LIST` (file 08). -/
abbrev cancelList (n : Nat) : Nat := (0x4100 + n) * 256 + 27
/-- `0x4100 + n:1C CLEAR` (file 08). -/
abbrev engClear (n : Nat) : Nat := (0x4100 + n) * 256 + 28
/-- `0x4400 + n PROGRAM` (file 08). -/
abbrev engProgram (n : Nat) : Nat := (0x4400 + n) * 256 + 0
/-- `0x4200 + n:01 TX_MODE` (file 09). -/
abbrev txMode (n : Nat) : Nat := (0x4200 + n) * 256 + 1
/-- `0x4200 + n:02 TX_DEST` (file 09). -/
abbrev txDest (n : Nat) : Nat := (0x4200 + n) * 256 + 2
/-- `0x4200 + n:03 TX_CLASS` (file 09). -/
abbrev txClass (n : Nat) : Nat := (0x4200 + n) * 256 + 3
/-- `0x4200 + n:04 TX_ADDR_MODE` (file 09). -/
abbrev txAddrMode (n : Nat) : Nat := (0x4200 + n) * 256 + 4
/-- `0x4200 + n:05 TX_SPAN` (file 09). -/
abbrev txSpan (n : Nat) : Nat := (0x4200 + n) * 256 + 5
/-- `0x4200 + n:06 TX_LEAD` (file 09). -/
abbrev txLead (n : Nat) : Nat := (0x4200 + n) * 256 + 6
/-- `0x4200 + n:07 TX_COMMANDER` (file 09). -/
abbrev txCommander (n : Nat) : Nat := (0x4200 + n) * 256 + 7
/-- `0x4200 + n:08 TX_HWM` (file 09). -/
abbrev txHwm (n : Nat) : Nat := (0x4200 + n) * 256 + 8
/-- `0x4200 + n:09 TX_LWM` (file 09). -/
abbrev txLwm (n : Nat) : Nat := (0x4200 + n) * 256 + 9
/-- `0x4200 + n:0A RX_HWM` (file 09). -/
abbrev rxHwm (n : Nat) : Nat := (0x4200 + n) * 256 + 10
/-- `0x4200 + n:0B RX_LWM` (file 09). -/
abbrev rxLwm (n : Nat) : Nat := (0x4200 + n) * 256 + 11
/-- `0x4200 + n:0C TX_FC_CELL` (file 09). -/
abbrev txFcCell (n : Nat) : Nat := (0x4200 + n) * 256 + 12
/-- `0x4200 + n:0D RX_FC_CELL` (file 09). -/
abbrev rxFcCell (n : Nat) : Nat := (0x4200 + n) * 256 + 13
/-- `0x4200 + n:0E FC_POLARITY` (file 09). -/
abbrev fcPolarity (n : Nat) : Nat := (0x4200 + n) * 256 + 14
/-- `0x4200 + n:0F TX_FILL` (file 09). -/
abbrev txFill (n : Nat) : Nat := (0x4200 + n) * 256 + 15
/-- `0x4200 + n:10 TX_CREDIT_NOW` (file 09). -/
abbrev txCreditNow (n : Nat) : Nat := (0x4200 + n) * 256 + 16
/-- `0x4200 + n:11 RX_FILL` (file 09). -/
abbrev rxFill (n : Nat) : Nat := (0x4200 + n) * 256 + 17
/-- `0x4200 + n:12 RX_RESERVED` (file 09). -/
abbrev rxReserved (n : Nat) : Nat := (0x4200 + n) * 256 + 18
/-- `0x4200 + n:13 FIFO_FLAGS` (file 09). -/
abbrev fifoFlags (n : Nat) : Nat := (0x4200 + n) * 256 + 19
/-- `0x4200 + n:14 TX_POLL` (file 09). -/
abbrev txPoll (n : Nat) : Nat := (0x4200 + n) * 256 + 20
/-- `0x4200 + n:15 FIFO_CMD` (file 09). -/
abbrev fifoCmd (n : Nat) : Nat := (0x4200 + n) * 256 + 21
/-- `0x4200 + n:16 TX_FRAMES` (file 09). -/
abbrev fifoTxFrames (n : Nat) : Nat := (0x4200 + n) * 256 + 22
/-- `0x4200 + n:17 TX_FAILS` (file 09). -/
abbrev txFails (n : Nat) : Nat := (0x4200 + n) * 256 + 23
/-- `0x4200 + n:18 RX_REFUSED` (file 09). -/
abbrev rxRefused (n : Nat) : Nat := (0x4200 + n) * 256 + 24
/-- `0x4200 + n:19 OPEN_DISCARDS` (file 09). -/
abbrev openDiscards (n : Nat) : Nat := (0x4200 + n) * 256 + 25
/-- `0x4200 + n:1A CLEAR` (file 09). -/
abbrev fifoClear (n : Nat) : Nat := (0x4200 + n) * 256 + 26
/-- `0x5000:01 CAN_CLOCK` (file 10). -/
abbrev canClock : Nat := 0x5000 * 256 + 1
/-- `0x5000:02 ENABLED_MAP` (file 10). -/
abbrev enabledMap : Nat := 0x5000 * 256 + 2
/-- `0x5000:03 BUSOFF_MAP` (file 10). -/
abbrev busoffMap : Nat := 0x5000 * 256 + 3
/-- `0x5000:04 ATTENTION_MAP` (file 10). -/
abbrev attentionMap : Nat := 0x5000 * 256 + 4
/-- `0x5100 + n:01 CAN_MODE` (file 10). -/
abbrev canMode (n : Nat) : Nat := (0x5100 + n) * 256 + 1
/-- `0x5100 + n:02 FD_MODE` (file 10). -/
abbrev fdMode (n : Nat) : Nat := (0x5100 + n) * 256 + 2
/-- `0x5100 + n:03 NOM_BRP` (file 10). -/
abbrev nomBrp (n : Nat) : Nat := (0x5100 + n) * 256 + 3
/-- `0x5100 + n:04 NOM_TSEG1` (file 10). -/
abbrev nomTseg1 (n : Nat) : Nat := (0x5100 + n) * 256 + 4
/-- `0x5100 + n:05 NOM_TSEG2` (file 10). -/
abbrev nomTseg2 (n : Nat) : Nat := (0x5100 + n) * 256 + 5
/-- `0x5100 + n:06 NOM_SJW` (file 10). -/
abbrev nomSjw (n : Nat) : Nat := (0x5100 + n) * 256 + 6
/-- `0x5100 + n:07 NOM_TRIPLE` (file 10). -/
abbrev nomTriple (n : Nat) : Nat := (0x5100 + n) * 256 + 7
/-- `0x5100 + n:08 DATA_BRP` (file 10). -/
abbrev dataBrp (n : Nat) : Nat := (0x5100 + n) * 256 + 8
/-- `0x5100 + n:09 DATA_TSEG1` (file 10). -/
abbrev dataTseg1 (n : Nat) : Nat := (0x5100 + n) * 256 + 9
/-- `0x5100 + n:0A DATA_TSEG2` (file 10). -/
abbrev dataTseg2 (n : Nat) : Nat := (0x5100 + n) * 256 + 10
/-- `0x5100 + n:0B DATA_SJW` (file 10). -/
abbrev dataSjw (n : Nat) : Nat := (0x5100 + n) * 256 + 11
/-- `0x5100 + n:0C SSP_MODE` (file 10). -/
abbrev sspMode (n : Nat) : Nat := (0x5100 + n) * 256 + 12
/-- `0x5100 + n:0D SSP_OFFSET` (file 10). -/
abbrev sspOffset (n : Nat) : Nat := (0x5100 + n) * 256 + 13
/-- `0x5100 + n:0E NO_MATCH` (file 10). -/
abbrev noMatch (n : Nat) : Nat := (0x5100 + n) * 256 + 14
/-- `0x5100 + n:0F SME_CLASS` (file 10). -/
abbrev canSmeClass (n : Nat) : Nat := (0x5100 + n) * 256 + 15
/-- `0x5100 + n:10 RX_FULL_MODE` (file 10). -/
abbrev canRxFullMode (n : Nat) : Nat := (0x5100 + n) * 256 + 16
/-- `0x5100 + n:11 TX_HOLD` (file 10). -/
abbrev canTxHold (n : Nat) : Nat := (0x5100 + n) * 256 + 17
/-- `0x5100 + n:12 TX_MISSED` (file 10). -/
abbrev canTxMissed (n : Nat) : Nat := (0x5100 + n) * 256 + 18
/-- `0x5100 + n:13 STUCK_LIMIT` (file 10). -/
abbrev stuckLimit (n : Nat) : Nat := (0x5100 + n) * 256 + 19
/-- `0x5100 + n:14 TX_SUBMIT` (file 10). -/
abbrev canTxSubmit (n : Nat) : Nat := (0x5100 + n) * 256 + 20
/-- `0x5100 + n:15 TX_ABORT` (file 10). -/
abbrev canTxAbort (n : Nat) : Nat := (0x5100 + n) * 256 + 21
/-- `0x5100 + n:16 CAN_CMD` (file 10). -/
abbrev canCmd (n : Nat) : Nat := (0x5100 + n) * 256 + 22
/-- `0x5100 + n:17 LAST_TX_TIME` (file 10). -/
abbrev canLastTxTime (n : Nat) : Nat := (0x5100 + n) * 256 + 23
/-- `0x5200 + n FILTERS` (file 10). -/
abbrev filters (n : Nat) : Nat := (0x5200 + n) * 256 + 0
/-- `0x5300 + n:01 BUS_STATE` (file 10). -/
abbrev busState (n : Nat) : Nat := (0x5300 + n) * 256 + 1
/-- `0x5300 + n:02 TEC` (file 10). -/
abbrev canTec (n : Nat) : Nat := (0x5300 + n) * 256 + 2
/-- `0x5300 + n:03 REC` (file 10). -/
abbrev canRec (n : Nat) : Nat := (0x5300 + n) * 256 + 3
/-- `0x5300 + n:04 LAST_ERROR` (file 10). -/
abbrev lastError (n : Nat) : Nat := (0x5300 + n) * 256 + 4
/-- `0x5300 + n:05 CAN_FLAGS` (file 10). -/
abbrev canFlags (n : Nat) : Nat := (0x5300 + n) * 256 + 5
/-- `0x5300 + n:06 CLASH_ID` (file 10). -/
abbrev clashId (n : Nat) : Nat := (0x5300 + n) * 256 + 6
/-- `0x5300 + n:07 CLASH_TIME` (file 10). -/
abbrev clashTime (n : Nat) : Nat := (0x5300 + n) * 256 + 7
/-- `0x5300 + n:08 URGENT_USED` (file 10). -/
abbrev urgentUsed (n : Nat) : Nat := (0x5300 + n) * 256 + 8
/-- `0x5300 + n:09 NORMAL_USED` (file 10). -/
abbrev normalUsed (n : Nat) : Nat := (0x5300 + n) * 256 + 9
/-- `0x5300 + n:0A SCHED_USED` (file 10). -/
abbrev canSchedUsed (n : Nat) : Nat := (0x5300 + n) * 256 + 10
/-- `0x5300 + n:0B RX_USED` (file 10). -/
abbrev canRxUsed (n : Nat) : Nat := (0x5300 + n) * 256 + 11
/-- `0x5300 + n:0C RX_POLL` (file 10). -/
abbrev canRxPoll (n : Nat) : Nat := (0x5300 + n) * 256 + 12
/-- `0x5300 + n:0D LOOP_DELAY` (file 10). -/
abbrev loopDelay (n : Nat) : Nat := (0x5300 + n) * 256 + 13
/-- `0x5300 + n:0E TX_OK` (file 10). -/
abbrev txOk (n : Nat) : Nat := (0x5300 + n) * 256 + 14
/-- `0x5300 + n:0F RX_OK` (file 10). -/
abbrev rxOk (n : Nat) : Nat := (0x5300 + n) * 256 + 15
/-- `0x5300 + n:10 RX_NO_MATCH` (file 10). -/
abbrev rxNoMatch (n : Nat) : Nat := (0x5300 + n) * 256 + 16
/-- `0x5300 + n:11 RX_OVERFLOW` (file 10). -/
abbrev canRxOverflow (n : Nat) : Nat := (0x5300 + n) * 256 + 17
/-- `0x5300 + n:12 SME_DROPS` (file 10). -/
abbrev canSmeDrops (n : Nat) : Nat := (0x5300 + n) * 256 + 18
/-- `0x5300 + n:13 STUFF_ERRORS` (file 10). -/
abbrev stuffErrors (n : Nat) : Nat := (0x5300 + n) * 256 + 19
/-- `0x5300 + n:14 FORM_ERRORS` (file 10). -/
abbrev formErrors (n : Nat) : Nat := (0x5300 + n) * 256 + 20
/-- `0x5300 + n:15 ACK_ERRORS` (file 10). -/
abbrev ackErrors (n : Nat) : Nat := (0x5300 + n) * 256 + 21
/-- `0x5300 + n:16 BIT_ERRORS` (file 10). -/
abbrev bitErrors (n : Nat) : Nat := (0x5300 + n) * 256 + 22
/-- `0x5300 + n:17 CRC_ERRORS` (file 10). -/
abbrev crcErrors (n : Nat) : Nat := (0x5300 + n) * 256 + 23
/-- `0x5300 + n:18 BUSOFF_COUNT` (file 10). -/
abbrev busoffCount (n : Nat) : Nat := (0x5300 + n) * 256 + 24
/-- `0x5300 + n:19 CLASHES` (file 10). -/
abbrev clashes (n : Nat) : Nat := (0x5300 + n) * 256 + 25
/-- `0x5300 + n:1A STUCK_EVENTS` (file 10). -/
abbrev stuckEvents (n : Nat) : Nat := (0x5300 + n) * 256 + 26
/-- `0x5300 + n:1B TX_DISCARDED` (file 10). -/
abbrev canTxDiscarded (n : Nat) : Nat := (0x5300 + n) * 256 + 27
/-- `0x5300 + n:1C PEX_COUNT` (file 10). -/
abbrev pexCount (n : Nat) : Nat := (0x5300 + n) * 256 + 28
/-- `0x5300 + n:1D CLEAR` (file 10). -/
abbrev canClear (n : Nat) : Nat := (0x5300 + n) * 256 + 29
/-- `0x5800 + n:01 UART_MODE` (file 11). -/
abbrev uartMode (n : Nat) : Nat := (0x5800 + n) * 256 + 1
/-- `0x5800 + n:02 BAUD` (file 11). -/
abbrev uartBaud (n : Nat) : Nat := (0x5800 + n) * 256 + 2
/-- `0x5800 + n:03 DATA_BITS` (file 11). -/
abbrev dataBits (n : Nat) : Nat := (0x5800 + n) * 256 + 3
/-- `0x5800 + n:04 PARITY` (file 11). -/
abbrev uartParity (n : Nat) : Nat := (0x5800 + n) * 256 + 4
/-- `0x5800 + n:05 STOP_BITS` (file 11). -/
abbrev stopBits (n : Nat) : Nat := (0x5800 + n) * 256 + 5
/-- `0x5800 + n:06 INVERT` (file 11). -/
abbrev uartInvert (n : Nat) : Nat := (0x5800 + n) * 256 + 6
/-- `0x5800 + n:07 GAP_UNIT` (file 11). -/
abbrev gapUnit (n : Nat) : Nat := (0x5800 + n) * 256 + 7
/-- `0x5800 + n:08 GAP_VALUE` (file 11). -/
abbrev gapValue (n : Nat) : Nat := (0x5800 + n) * 256 + 8
/-- `0x5800 + n:09 RX_MAX` (file 11). -/
abbrev rxMax (n : Nat) : Nat := (0x5800 + n) * 256 + 9
/-- `0x5800 + n:0A RX_DEST` (file 11). -/
abbrev rxDest (n : Nat) : Nat := (0x5800 + n) * 256 + 10
/-- `0x5800 + n:0B RX_FULL_MODE` (file 11). -/
abbrev uartRxFullMode (n : Nat) : Nat := (0x5800 + n) * 256 + 11
/-- `0x5800 + n:0C SME_CLASS` (file 11). -/
abbrev uartSmeClass (n : Nat) : Nat := (0x5800 + n) * 256 + 12
/-- `0x5800 + n:0D DE_MODE` (file 11). -/
abbrev deMode (n : Nat) : Nat := (0x5800 + n) * 256 + 13
/-- `0x5800 + n:0E DE_POLARITY` (file 11). -/
abbrev dePolarity (n : Nat) : Nat := (0x5800 + n) * 256 + 14
/-- `0x5800 + n:0F DE_LEAD` (file 11). -/
abbrev deLead (n : Nat) : Nat := (0x5800 + n) * 256 + 15
/-- `0x5800 + n:10 DE_LAG` (file 11). -/
abbrev deLag (n : Nat) : Nat := (0x5800 + n) * 256 + 16
/-- `0x5800 + n:11 ECHO_CHECK` (file 11). -/
abbrev echoCheck (n : Nat) : Nat := (0x5800 + n) * 256 + 17
/-- `0x5800 + n:12 BREAK_BITS` (file 11). -/
abbrev breakBits (n : Nat) : Nat := (0x5800 + n) * 256 + 18
/-- `0x5800 + n:13 TX_HOLD` (file 11). -/
abbrev uartTxHold (n : Nat) : Nat := (0x5800 + n) * 256 + 19
/-- `0x5800 + n:14 TX_MISSED` (file 11). -/
abbrev uartTxMissed (n : Nat) : Nat := (0x5800 + n) * 256 + 20
/-- `0x5800 + n:15 LINE_LIMIT` (file 11). -/
abbrev lineLimit (n : Nat) : Nat := (0x5800 + n) * 256 + 21
/-- `0x5800 + n:16 TX_SUBMIT` (file 11). -/
abbrev uartTxSubmit (n : Nat) : Nat := (0x5800 + n) * 256 + 22
/-- `0x5800 + n:17 TX_ABORT` (file 11). -/
abbrev uartTxAbort (n : Nat) : Nat := (0x5800 + n) * 256 + 23
/-- `0x5800 + n:18 UART_CMD` (file 11). -/
abbrev uartCmd (n : Nat) : Nat := (0x5800 + n) * 256 + 24
/-- `0x5880 + n:01 LINE_STATE` (file 11). -/
abbrev lineState (n : Nat) : Nat := (0x5880 + n) * 256 + 1
/-- `0x5880 + n:02 UART_FLAGS` (file 11). -/
abbrev uartFlags (n : Nat) : Nat := (0x5880 + n) * 256 + 2
/-- `0x5880 + n:03 ACTUAL_BAUD` (file 11). -/
abbrev actualBaud (n : Nat) : Nat := (0x5880 + n) * 256 + 3
/-- `0x5880 + n:04 BAUD_ERROR` (file 11). -/
abbrev baudError (n : Nat) : Nat := (0x5880 + n) * 256 + 4
/-- `0x5880 + n:05 TX_USED` (file 11). -/
abbrev txUsed (n : Nat) : Nat := (0x5880 + n) * 256 + 5
/-- `0x5880 + n:06 SCHED_USED` (file 11). -/
abbrev uartSchedUsed (n : Nat) : Nat := (0x5880 + n) * 256 + 6
/-- `0x5880 + n:07 RX_USED` (file 11). -/
abbrev uartRxUsed (n : Nat) : Nat := (0x5880 + n) * 256 + 7
/-- `0x5880 + n:08 RX_POLL` (file 11). -/
abbrev uartRxPoll (n : Nat) : Nat := (0x5880 + n) * 256 + 8
/-- `0x5880 + n:09 LAST_TX_RESULT` (file 11). -/
abbrev lastTxResult (n : Nat) : Nat := (0x5880 + n) * 256 + 9
/-- `0x5880 + n:0A LAST_TX_TIME` (file 11). -/
abbrev uartLastTxTime (n : Nat) : Nat := (0x5880 + n) * 256 + 10
/-- `0x5880 + n:0B TX_MESSAGES` (file 11). -/
abbrev txMessages (n : Nat) : Nat := (0x5880 + n) * 256 + 11
/-- `0x5880 + n:0C RX_MESSAGES` (file 11). -/
abbrev rxMessages (n : Nat) : Nat := (0x5880 + n) * 256 + 12
/-- `0x5880 + n:0D PARITY_ERRORS` (file 11). -/
abbrev parityErrors (n : Nat) : Nat := (0x5880 + n) * 256 + 13
/-- `0x5880 + n:0E FRAMING_ERRORS` (file 11). -/
abbrev framingErrors (n : Nat) : Nat := (0x5880 + n) * 256 + 14
/-- `0x5880 + n:0F NOISE_EVENTS` (file 11). -/
abbrev noiseEvents (n : Nat) : Nat := (0x5880 + n) * 256 + 15
/-- `0x5880 + n:10 BREAKS` (file 11). -/
abbrev breaks (n : Nat) : Nat := (0x5880 + n) * 256 + 16
/-- `0x5880 + n:11 RX_OVERFLOW` (file 11). -/
abbrev uartRxOverflow (n : Nat) : Nat := (0x5880 + n) * 256 + 17
/-- `0x5880 + n:12 SME_DROPS` (file 11). -/
abbrev uartSmeDrops (n : Nat) : Nat := (0x5880 + n) * 256 + 18
/-- `0x5880 + n:13 COLLISIONS` (file 11). -/
abbrev collisions (n : Nat) : Nat := (0x5880 + n) * 256 + 19
/-- `0x5880 + n:14 TX_DISCARDED` (file 11). -/
abbrev uartTxDiscarded (n : Nat) : Nat := (0x5880 + n) * 256 + 20
/-- `0x5880 + n:15 CLEAR` (file 11). -/
abbrev uartClear (n : Nat) : Nat := (0x5880 + n) * 256 + 21
/-- `0x6000:01 HB_ENABLE` (file 12). -/
abbrev hbEnable : Nat := 0x6000 * 256 + 1
/-- `0x6000:02 MBOX_BASE` (file 12). -/
abbrev mboxBase : Nat := 0x6000 * 256 + 2
/-- `0x6000:03 TGT_HOLD` (file 12). -/
abbrev tgtHold : Nat := 0x6000 * 256 + 3
/-- `0x6000:04 MST_WAIT_LIMIT` (file 12). -/
abbrev mstWaitLimit : Nat := 0x6000 * 256 + 4
/-- `0x6000:05 MST_RETRY_LIMIT` (file 12). -/
abbrev mstRetryLimit : Nat := 0x6000 * 256 + 5
/-- `0x6000:06 FW_COMMANDER` (file 12). -/
abbrev fwCommander : Nat := 0x6000 * 256 + 6
/-- `0x6000:07 INT_EN0` (file 12). -/
abbrev intEn0 : Nat := 0x6000 * 256 + 7
/-- `0x6000:08 INT_EN1` (file 12). -/
abbrev intEn1 : Nat := 0x6000 * 256 + 8
/-- `0x6000:09 SB_SELECT` (file 12). -/
abbrev sbSelect : Nat := 0x6000 * 256 + 9
/-- `0x6000:0A HB_CLK_KHZ` (file 12). -/
abbrev hbClkKhz : Nat := 0x6000 * 256 + 10
/-- `0x6000:0B to :0E FW_BASE` (file 12). -/
abbrev fwBase (i : Nat) : Nat := 0x6000 * 256 + (11 + i)
/-- `0x6001:01 RETRIES` (file 12). -/
abbrev retries : Nat := 0x6001 * 256 + 1
/-- `0x6001:02 CROSS_COUNT` (file 12). -/
abbrev crossCount : Nat := 0x6001 * 256 + 2
/-- `0x6001:03 MST_TIMEOUTS` (file 12). -/
abbrev mstTimeouts : Nat := 0x6001 * 256 + 3
/-- `0x6001:04 MST_RETRIES` (file 12). -/
abbrev mstRetries : Nat := 0x6001 * 256 + 4
/-- `0x6001:05 TGT_ERRORS` (file 12). -/
abbrev tgtErrors : Nat := 0x6001 * 256 + 5
/-- `0x6001:06 CLEAR` (file 12). -/
abbrev bridgeClear : Nat := 0x6001 * 256 + 6
/-- `0x6100:01 GOOSE_RX` (file 12). -/
abbrev gooseRx : Nat := 0x6100 * 256 + 1
/-- `0x6100:02 GOOSE_TX` (file 12). -/
abbrev gooseTx : Nat := 0x6100 * 256 + 2
/-- `0x6100:03 CLEAR` (file 12). -/
abbrev gooseClear : Nat := 0x6100 * 256 + 3
/-- `0x6110 + s:01 SUB_ENABLE` (file 12). -/
abbrev subEnable (n : Nat) : Nat := (0x6110 + n) * 256 + 1
/-- `0x6110 + s:02 SUB_PORT` (file 12). -/
abbrev subPort (n : Nat) : Nat := (0x6110 + n) * 256 + 2
/-- `0x6110 + s:03 SUB_MAC` (file 12). -/
abbrev subMac (n : Nat) : Nat := (0x6110 + n) * 256 + 3
/-- `0x6110 + s:04 SUB_APPID` (file 12). -/
abbrev subAppid (n : Nat) : Nat := (0x6110 + n) * 256 + 4
/-- `0x6110 + s:05 SUB_GOCBREF` (file 12). -/
abbrev subGocbref (n : Nat) : Nat := (0x6110 + n) * 256 + 5
/-- `0x6110 + s:06 SUB_DATSET` (file 12). -/
abbrev subDatset (n : Nat) : Nat := (0x6110 + n) * 256 + 6
/-- `0x6110 + s:07 SUB_CONFREV` (file 12). -/
abbrev subConfrev (n : Nat) : Nat := (0x6110 + n) * 256 + 7
/-- `0x6110 + s:08 SUB_MEMBERS` (file 12). -/
abbrev subMembers (n : Nat) : Nat := (0x6110 + n) * 256 + 8
/-- `0x6110 + s:09 SUB_SIM` (file 12). -/
abbrev subSim (n : Nat) : Nat := (0x6110 + n) * 256 + 9
/-- `0x6110 + s:0A SUB_INVALID_MS` (file 12). -/
abbrev subInvalidMs (n : Nat) : Nat := (0x6110 + n) * 256 + 10
/-- `0x6110 + s:0B SUB_STATE` (file 12). -/
abbrev subState (n : Nat) : Nat := (0x6110 + n) * 256 + 11
/-- `0x6110 + s:0C ST_NUM` (file 12). -/
abbrev stNum (n : Nat) : Nat := (0x6110 + n) * 256 + 12
/-- `0x6110 + s:0D SQ_NUM` (file 12). -/
abbrev sqNum (n : Nat) : Nat := (0x6110 + n) * 256 + 13
/-- `0x6110 + s:0E LAST_RX` (file 12). -/
abbrev lastRx (n : Nat) : Nat := (0x6110 + n) * 256 + 14
/-- `0x6110 + s:0F SUB_DISCARDS` (file 12). -/
abbrev subDiscards (n : Nat) : Nat := (0x6110 + n) * 256 + 15
/-- `0x6190 + p:01 PUB_ENABLE` (file 12). -/
abbrev pubEnable (n : Nat) : Nat := (0x6190 + n) * 256 + 1
/-- `0x6190 + p:02 PUB_PORT` (file 12). -/
abbrev pubPort (n : Nat) : Nat := (0x6190 + n) * 256 + 2
/-- `0x6190 + p:03 PUB_MAC` (file 12). -/
abbrev pubMac (n : Nat) : Nat := (0x6190 + n) * 256 + 3
/-- `0x6190 + p:04 PUB_APPID` (file 12). -/
abbrev pubAppid (n : Nat) : Nat := (0x6190 + n) * 256 + 4
/-- `0x6190 + p:05 PUB_VLAN` (file 12). -/
abbrev pubVlan (n : Nat) : Nat := (0x6190 + n) * 256 + 5
/-- `0x6190 + p:06 PUB_GOCBREF` (file 12). -/
abbrev pubGocbref (n : Nat) : Nat := (0x6190 + n) * 256 + 6
/-- `0x6190 + p:07 PUB_DATSET` (file 12). -/
abbrev pubDatset (n : Nat) : Nat := (0x6190 + n) * 256 + 7
/-- `0x6190 + p:08 PUB_GOID` (file 12). -/
abbrev pubGoid (n : Nat) : Nat := (0x6190 + n) * 256 + 8
/-- `0x6190 + p:09 PUB_CONFREV` (file 12). -/
abbrev pubConfrev (n : Nat) : Nat := (0x6190 + n) * 256 + 9
/-- `0x6190 + p:0A MIN_TIME` (file 12). -/
abbrev minTime (n : Nat) : Nat := (0x6190 + n) * 256 + 10
/-- `0x6190 + p:0B MAX_TIME` (file 12). -/
abbrev maxTime (n : Nat) : Nat := (0x6190 + n) * 256 + 11
/-- `0x6190 + p:0C PUB_GROUPS` (file 12). -/
abbrev pubGroups (n : Nat) : Nat := (0x6190 + n) * 256 + 12
/-- `0x6190 + p:0D PUB_STNUM` (file 12). -/
abbrev pubStnum (n : Nat) : Nat := (0x6190 + n) * 256 + 13
/-- `0x6190 + p:0E PUB_SQNUM` (file 12). -/
abbrev pubSqnum (n : Nat) : Nat := (0x6190 + n) * 256 + 14
/-- `0x6190 + p:0F PUB_SENT` (file 12). -/
abbrev pubSent (n : Nat) : Nat := (0x6190 + n) * 256 + 15
/-- `0x6200 MAP_TABLE` (file 12). -/
abbrev mapTable : Nat := 0x6200 * 256 + 0
/-- `0x6201 OB_TABLE` (file 12). -/
abbrev obTable : Nat := 0x6201 * 256 + 0
/-- `0x6202 HIB_TABLE` (file 12). -/
abbrev hibTable : Nat := 0x6202 * 256 + 0
/-- `0x6203:01 MAP_ENTRIES` (file 12). -/
abbrev mapEntries : Nat := 0x6203 * 256 + 1
/-- `0x6203:02 RUNS` (file 12). -/
abbrev mapRuns : Nat := 0x6203 * 256 + 2
/-- `0x6203:03 CYCLE_OVERRUNS` (file 12). -/
abbrev cycleOverruns : Nat := 0x6203 * 256 + 3
/-- `0x6203:04 OUT_REFUSED` (file 12). -/
abbrev outRefused : Nat := 0x6203 * 256 + 4
/-- `0x6203:05 OB_REPLACED` (file 12). -/
abbrev obReplaced : Nat := 0x6203 * 256 + 5
/-- `0x6203:06 FIELD_MISSING` (file 12). -/
abbrev fieldMissing : Nat := 0x6203 * 256 + 6
/-- `0x6203:07 CLEAR` (file 12). -/
abbrev mapClear : Nat := 0x6203 * 256 + 7
/-- `0x62C0 + c EVENT_IN` (file 12). -/
abbrev eventIn (n : Nat) : Nat := (0x62C0 + n) * 256 + 0
/-- `0x6300 + j:01 to :40 MAP_RESULT` (file 12). -/
abbrev mapResult (n : Nat) (i : Nat) : Nat := (0x6300 + n) * 256 + (1 + i)
/-- `0x7000:01 UNITS` (file 13). -/
abbrev ckUnits : Nat := 0x7000 * 256 + 1
/-- `0x7000:02 OOS_MAP` (file 13). -/
abbrev ckOosMap : Nat := 0x7000 * 256 + 2
/-- `0x7010 + u:01 WIDTH` (file 13). -/
abbrev ckWidth (n : Nat) : Nat := (0x7010 + n) * 256 + 1
/-- `0x7010 + u:02 POLY` (file 13). -/
abbrev ckPoly (n : Nat) : Nat := (0x7010 + n) * 256 + 2
/-- `0x7010 + u:03 INIT` (file 13). -/
abbrev ckInit (n : Nat) : Nat := (0x7010 + n) * 256 + 3
/-- `0x7010 + u:04 XOROUT` (file 13). -/
abbrev ckXorout (n : Nat) : Nat := (0x7010 + n) * 256 + 4
/-- `0x7010 + u:05 REFIN` (file 13). -/
abbrev ckRefin (n : Nat) : Nat := (0x7010 + n) * 256 + 5
/-- `0x7010 + u:06 REFOUT` (file 13). -/
abbrev ckRefout (n : Nat) : Nat := (0x7010 + n) * 256 + 6
/-- `0x7040 + u STREAMS` (file 13). -/
abbrev streams (n : Nat) : Nat := (0x7040 + n) * 256 + 0
/-- `0x7060 + u:01 PROTECTED` (file 13). -/
abbrev ckProtected (n : Nat) : Nat := (0x7060 + n) * 256 + 1
/-- `0x7060 + u:02 VERIFIED` (file 13). -/
abbrev ckVerified (n : Nat) : Nat := (0x7060 + n) * 256 + 2
/-- `0x7060 + u:03 CHECK_FAILS` (file 13). -/
abbrev checkFails (n : Nat) : Nat := (0x7060 + n) * 256 + 3
/-- `0x7060 + u:04 REPEATS` (file 13). -/
abbrev repeats (n : Nat) : Nat := (0x7060 + n) * 256 + 4
/-- `0x7060 + u:05 MISSED` (file 13). -/
abbrev ckMissed (n : Nat) : Nat := (0x7060 + n) * 256 + 5
/-- `0x7060 + u:06 GAPS` (file 13). -/
abbrev ckGaps (n : Nat) : Nat := (0x7060 + n) * 256 + 6
/-- `0x7060 + u:07 SHORT` (file 13). -/
abbrev ckShort (n : Nat) : Nat := (0x7060 + n) * 256 + 7
/-- `0x7060 + u:08 SELFCHECK_TRANSIENT` (file 13). -/
abbrev selfcheckTransient (n : Nat) : Nat := (0x7060 + n) * 256 + 8
/-- `0x7060 + u:09 CK_CMD` (file 13). -/
abbrev ckCmd (n : Nat) : Nat := (0x7060 + n) * 256 + 9
/-- `0x7060 + u:0A CLEAR` (file 13). -/
abbrev ckClear (n : Nat) : Nat := (0x7060 + n) * 256 + 10
/-- `0x7080 + u:01 JOB_ADDR` (file 13). -/
abbrev jobAddr (n : Nat) : Nat := (0x7080 + n) * 256 + 1
/-- `0x7080 + u:02 JOB_LEN` (file 13). -/
abbrev jobLen (n : Nat) : Nat := (0x7080 + n) * 256 + 2
/-- `0x7080 + u:03 JOB_CTX` (file 13). -/
abbrev jobCtx (n : Nat) : Nat := (0x7080 + n) * 256 + 3
/-- `0x7080 + u:04 JOB_CMD` (file 13). -/
abbrev jobCmd (n : Nat) : Nat := (0x7080 + n) * 256 + 4
/-- `0x7080 + u:05 JOB_STATE` (file 13). -/
abbrev jobState (n : Nat) : Nat := (0x7080 + n) * 256 + 5
/-- `0x7080 + u:06 JOB_RESULT` (file 13). -/
abbrev jobResult (n : Nat) : Nat := (0x7080 + n) * 256 + 6
/-- `0x7080 + u:07 JOB_STATUS` (file 13). -/
abbrev jobStatus (n : Nat) : Nat := (0x7080 + n) * 256 + 7
/-- `0x70A0 + u:01 CTX_SELECT` (file 13). -/
abbrev ctxSelect (n : Nat) : Nat := (0x70A0 + n) * 256 + 1
/-- `0x70A0 + u:02 CTX_VALUE` (file 13). -/
abbrev ctxValue (n : Nat) : Nat := (0x70A0 + n) * 256 + 2
/-- `0x70A0 + u:03 CTX_ALIVE` (file 13). -/
abbrev ctxAlive (n : Nat) : Nat := (0x70A0 + n) * 256 + 3
/-- `0x70A0 + u:04 CTX_FLAGS` (file 13). -/
abbrev ctxFlags (n : Nat) : Nat := (0x70A0 + n) * 256 + 4
/-- `0x7400:01 SME_STATE` (file 14). -/
abbrev smeState : Nat := 0x7400 * 256 + 1
/-- `0x7400:02 MORDANT_EPOCH` (file 14). -/
abbrev mordantEpoch : Nat := 0x7400 * 256 + 2
/-- `0x7400:03 MISMATCHES` (file 14). -/
abbrev smeMismatches : Nat := 0x7400 * 256 + 3
/-- `0x7400:04 TRANSIENT` (file 14). -/
abbrev smeTransient : Nat := 0x7400 * 256 + 4
/-- `0x7400:05 WINDOW_COUNT` (file 14). -/
abbrev windowCount : Nat := 0x7400 * 256 + 5
/-- `0x7400:06 SELFTESTS` (file 14). -/
abbrev selftests : Nat := 0x7400 * 256 + 6
/-- `0x7400:07 SELFTEST_RESULT` (file 14). -/
abbrev selftestResult : Nat := 0x7400 * 256 + 7
/-- `0x7400:08 OOS_MAP` (file 14). -/
abbrev smeOosMap : Nat := 0x7400 * 256 + 8
/-- `0x7400:09 LAST_MISMATCH` (file 14). -/
abbrev lastMismatch : Nat := 0x7400 * 256 + 9
/-- `0x7400:0A MAX_RESTART_NS` (file 14). -/
abbrev maxRestartNs : Nat := 0x7400 * 256 + 10
/-- `0x7400:0B SKIPPED_BY_TEST` (file 14). -/
abbrev skippedByTest : Nat := 0x7400 * 256 + 11
/-- `0x7400:0C INJECT_STATE` (file 14). -/
abbrev injectState : Nat := 0x7400 * 256 + 12
/-- `0x7400:0D EXTRA_MORDANT` (file 14). -/
abbrev extraMordant : Nat := 0x7400 * 256 + 13
/-- `0x7400:0E ECC_CORRECTED` (file 14). -/
abbrev eccCorrected : Nat := 0x7400 * 256 + 14
/-- `0x7410:01 TCONST_BUF` (file 14). -/
abbrev tconstBuf : Nat := 0x7410 * 256 + 1
/-- `0x7410:02 SELFTEST_CMD` (file 14). -/
abbrev selftestCmd : Nat := 0x7410 * 256 + 2
/-- `0x7410:03 SELFTEST_INTERVAL` (file 14). -/
abbrev selftestInterval : Nat := 0x7410 * 256 + 3
/-- `0x7410:04 DEBUG_CMD` (file 14). -/
abbrev debugCmd : Nat := 0x7410 * 256 + 4
/-- `0x7410:05 DEBUG_SUPPRESS` (file 14). -/
abbrev debugSuppress : Nat := 0x7410 * 256 + 5
/-- `0x7410:06 CLEAR` (file 14). -/
abbrev smeClear : Nat := 0x7410 * 256 + 6
/-- `0x7800:01 COMBINE` (file 15). -/
abbrev combine : Nat := 0x7800 * 256 + 1
/-- `0x7800:02 PRIO_FEED` (file 15). -/
abbrev prioFeed : Nat := 0x7800 * 256 + 2
/-- `0x7800:03 PRIO_RETURN` (file 15). -/
abbrev prioReturn : Nat := 0x7800 * 256 + 3
/-- `0x7800:04 BBM_US` (file 15). -/
abbrev bbmUs : Nat := 0x7800 * 256 + 4
/-- `0x7800:05 UV_MV` (file 15). -/
abbrev uvMv : Nat := 0x7800 * 256 + 5
/-- `0x7800:06 UV_HYST_MV` (file 15). -/
abbrev uvHystMv : Nat := 0x7800 * 256 + 6
/-- `0x7800:07 WARN_MV` (file 15). -/
abbrev warnMv : Nat := 0x7800 * 256 + 7
/-- `0x7800:08 OV_MV` (file 15). -/
abbrev ovMv : Nat := 0x7800 * 256 + 8
/-- `0x7800:09 OV_HYST_MV` (file 15). -/
abbrev ovHystMv : Nat := 0x7800 * 256 + 9
/-- `0x7800:0A INSERT_DELAY` (file 15). -/
abbrev insertDelay : Nat := 0x7800 * 256 + 10
/-- `0x7800:0B RAMP_RATE` (file 15). -/
abbrev rampRate : Nat := 0x7800 * 256 + 11
/-- `0x7800:0C BUS_CAP_UF` (file 15). -/
abbrev busCapUf : Nat := 0x7800 * 256 + 12
/-- `0x7800:0D SENSE_UOHM` (file 15). -/
abbrev senseUohm : Nat := 0x7800 * 256 + 13
/-- `0x7800:0E ILIM` (file 15). -/
abbrev ilim : Nat := 0x7800 * 256 + 14
/-- `0x7800:0F FAULT_TIME` (file 15). -/
abbrev faultTime : Nat := 0x7800 * 256 + 15
/-- `0x7800:10 SETTLE_TIME` (file 15). -/
abbrev settleTime : Nat := 0x7800 * 256 + 16
/-- `0x7800:11 RETRY_TIME` (file 15). -/
abbrev retryTime : Nat := 0x7800 * 256 + 17
/-- `0x7800:12 RETRY_LIMIT` (file 15). -/
abbrev retryLimit : Nat := 0x7800 * 256 + 18
/-- `0x7800:13 BUS_UV_MV` (file 15). -/
abbrev busUvMv : Nat := 0x7800 * 256 + 19
/-- `0x7800:14 RAMP_LIMIT` (file 15). -/
abbrev rampLimit : Nat := 0x7800 * 256 + 20
/-- `0x7800:15 TEST_TIME` (file 15). -/
abbrev testTime : Nat := 0x7800 * 256 + 21
/-- `0x7810:01 PE_STATE` (file 15). -/
abbrev peState : Nat := 0x7810 * 256 + 1
/-- `0x7810:02 PE_FLAGS` (file 15). -/
abbrev peFlags : Nat := 0x7810 * 256 + 2
/-- `0x7810:03 FEED1_MV` (file 15). -/
abbrev feed1Mv : Nat := 0x7810 * 256 + 3
/-- `0x7810:04 FEED2_MV` (file 15). -/
abbrev feed2Mv : Nat := 0x7810 * 256 + 4
/-- `0x7810:05 BUS_MV` (file 15). -/
abbrev busMv : Nat := 0x7810 * 256 + 5
/-- `0x7810:06 BUS_MA` (file 15). -/
abbrev busMa : Nat := 0x7810 * 256 + 6
/-- `0x7810:07 CARRYING` (file 15). -/
abbrev carrying : Nat := 0x7810 * 256 + 7
/-- `0x7810:08 RETRY_COUNT` (file 15). -/
abbrev retryCount : Nat := 0x7810 * 256 + 8
/-- `0x7810:09 TRIPS` (file 15). -/
abbrev trips : Nat := 0x7810 * 256 + 9
/-- `0x7810:0A REV_TURNOFFS` (file 15). -/
abbrev revTurnoffs : Nat := 0x7810 * 256 + 10
/-- `0x7810:0B TRANSFERS` (file 15). -/
abbrev transfers : Nat := 0x7810 * 256 + 11
/-- `0x7810:0C FEED_TRANSIENT` (file 15). -/
abbrev feedTransient : Nat := 0x7810 * 256 + 12
/-- `0x7810:0D FEED_LASTING` (file 15). -/
abbrev feedLasting : Nat := 0x7810 * 256 + 13
/-- `0x7810:0E WARNINGS` (file 15). -/
abbrev warnings : Nat := 0x7810 * 256 + 14
/-- `0x7810:0F TEST_RESULT` (file 15). -/
abbrev testResult : Nat := 0x7810 * 256 + 15
/-- `0x7810:10 LIMIT_MA` (file 15). -/
abbrev limitMa : Nat := 0x7810 * 256 + 16
/-- `0x7810:11 PRED_INRUSH_MA` (file 15). -/
abbrev predInrushMa : Nat := 0x7810 * 256 + 17
/-- `0x7810:12 PRED_RAMP_MJ` (file 15). -/
abbrev predRampMj : Nat := 0x7810 * 256 + 18
/-- `0x7820:01 PEAK_MA` (file 15). -/
abbrev peakMa : Nat := 0x7820 * 256 + 1
/-- `0x7820:02 PEAK_TIME` (file 15). -/
abbrev peakTime : Nat := 0x7820 * 256 + 2
/-- `0x7820:03 MIN_FEED1_MV` (file 15). -/
abbrev minFeed1Mv : Nat := 0x7820 * 256 + 3
/-- `0x7820:04 MIN_FEED2_MV` (file 15). -/
abbrev minFeed2Mv : Nat := 0x7820 * 256 + 4
/-- `0x7820:05 MAX_FEED1_MV` (file 15). -/
abbrev maxFeed1Mv : Nat := 0x7820 * 256 + 5
/-- `0x7820:06 MAX_FEED2_MV` (file 15). -/
abbrev maxFeed2Mv : Nat := 0x7820 * 256 + 6
/-- `0x7820:07 MIN_BUS_MV` (file 15). -/
abbrev minBusMv : Nat := 0x7820 * 256 + 7
/-- `0x7820:08 LAST_INRUSH_UC` (file 15). -/
abbrev lastInrushUc : Nat := 0x7820 * 256 + 8
/-- `0x7820:09 LAST_RAMP_MJ` (file 15). -/
abbrev lastRampMj : Nat := 0x7820 * 256 + 9
/-- `0x7820:0A LAST_RAMP_US` (file 15). -/
abbrev lastRampUs : Nat := 0x7820 * 256 + 10
/-- `0x7820:0B LAST_LIMIT_MJ` (file 15). -/
abbrev lastLimitMj : Nat := 0x7820 * 256 + 11
/-- `0x7820:0C CLEAR` (file 15). -/
abbrev peClear : Nat := 0x7820 * 256 + 12
/-- `0x7830 PE_CMD` (file 15). -/
abbrev peCmd : Nat := 0x7830 * 256 + 0
/-- `0x7840 PE_LAST_FAULT` (file 15). -/
abbrev peLastFault : Nat := 0x7840 * 256 + 0
/-- `0x1200:01 RESET_CMD` (file 16). -/
abbrev resetCmd : Nat := 0x1200 * 256 + 1
/-- `0x1200:02 LAST_RESET` (file 16). -/
abbrev lastReset : Nat := 0x1200 * 256 + 2
/-- `0x1200:03 LAST_RESET_TIME` (file 16). -/
abbrev lastResetTime : Nat := 0x1200 * 256 + 3
/-- `0x1200:04 RESET_ORIGIN` (file 16). -/
abbrev resetOrigin : Nat := 0x1200 * 256 + 4
/-- `0x1200:05 WDG_PERIOD` (file 16). -/
abbrev wdgPeriod : Nat := 0x1200 * 256 + 5
/-- `0x1200:06 START_TIME` (file 16). -/
abbrev startTime : Nat := 0x1200 * 256 + 6
/-- `0x1201:01 to :07 RESETS` (file 16). -/
abbrev resets (i : Nat) : Nat := 0x1201 * 256 + (1 + i)
/-- `0x1210:01 POWER_CMD` (file 16). -/
abbrev powerCmd : Nat := 0x1210 * 256 + 1
/-- `0x1210:02 POWER_STATE` (file 16). -/
abbrev powerState : Nat := 0x1210 * 256 + 2
/-- `0x1210:03 WAKE_AT` (file 16). -/
abbrev wakeAt : Nat := 0x1210 * 256 + 3
/-- `0x1210:04 WAKE_PIN_EN` (file 16). -/
abbrev wakePinEn : Nat := 0x1210 * 256 + 4
/-- `0x1210:05 LAST_WAKE` (file 16). -/
abbrev lastWake : Nat := 0x1210 * 256 + 5
/-- `0x1220:01 to :10 RETAIN_WORD` (file 16). -/
abbrev retainWord (i : Nat) : Nat := 0x1220 * 256 + (1 + i)
/-- `0x1230:01 ISLAND_STATE` (file 16). -/
abbrev islandState : Nat := 0x1230 * 256 + 1
/-- `0x1230:02 VBAT_MV` (file 16). -/
abbrev vbatMv : Nat := 0x1230 * 256 + 2
/-- `0x1230:03 RTC_TIME` (file 16). -/
abbrev rtcTime : Nat := 0x1230 * 256 + 3
/-- `0x1230:04 BACKUP_ENTRIES` (file 16). -/
abbrev backupEntries : Nat := 0x1230 * 256 + 4
/-- `0xF000:01 VG_NEXT_SEQ` (file 16). -/
abbrev vgNextSeq : Nat := 0xF000 * 256 + 1
/-- `0xF000:02 VG_HELD` (file 16). -/
abbrev vgHeld : Nat := 0xF000 * 256 + 2
/-- `0xF000:03 VG_CAPACITY` (file 16). -/
abbrev vgCapacity : Nat := 0xF000 * 256 + 3
/-- `0xF000:04 VG_READ_FROM` (file 16). -/
abbrev vgReadFrom : Nat := 0xF000 * 256 + 4
/-- `0xF000:05 VG_WINDOW` (file 16). -/
abbrev vgWindow : Nat := 0xF000 * 256 + 5
/-- `0xF000:06 VG_CMD` (file 16). -/
abbrev vgCmd : Nat := 0xF000 * 256 + 6
/-- `0xF001 VG_HEAD` (file 16). -/
abbrev vgHead : Nat := 0xF001 * 256 + 0
/-- `0xF002 OPEN_FAULTS` (file 16). -/
abbrev openFaults : Nat := 0xF002 * 256 + 0
/-- `0xF003 OPEN_COUNT` (file 16). -/
abbrev openCount : Nat := 0xF003 * 256 + 0
/-- `0x1300:01 ACTIVE_SLOT` (file 17). -/
abbrev activeSlot : Nat := 0x1300 * 256 + 1
/-- `0x1300:02 TRIAL` (file 17). -/
abbrev fwTrial : Nat := 0x1300 * 256 + 2
/-- `0x1300:03 TRIAL_LEFT` (file 17). -/
abbrev trialLeft : Nat := 0x1300 * 256 + 3
/-- `0x1300:04 TRIAL_TIME` (file 17). -/
abbrev trialTime : Nat := 0x1300 * 256 + 4
/-- `0x1300:05 FW_CMD` (file 17). -/
abbrev fwCmd : Nat := 0x1300 * 256 + 5
/-- `0x1300:06 ACT_STATE` (file 17). -/
abbrev actState : Nat := 0x1300 * 256 + 6
/-- `0x1300:07 LAST_ACT_RESULT` (file 17). -/
abbrev lastActResult : Nat := 0x1300 * 256 + 7
/-- `0x1300:08 LAST_ACT_PAUSE_US` (file 17). -/
abbrev lastActPauseUs : Nat := 0x1300 * 256 + 8
/-- `0x1300:09 FAILED_STARTS` (file 17). -/
abbrev failedStarts : Nat := 0x1300 * 256 + 9
/-- `0x1300:0A LAST_FAIL_CAUSE` (file 17). -/
abbrev lastFailCause : Nat := 0x1300 * 256 + 10
/-- `0x1310 + s:01 SLOT_STATE` (file 17). -/
abbrev slotState (n : Nat) : Nat := (0x1310 + n) * 256 + 1
/-- `0x1310 + s:02 IMG_VERSION` (file 17). -/
abbrev imgVersion (n : Nat) : Nat := (0x1310 + n) * 256 + 2
/-- `0x1310 + s:03 IMG_DICT_REV` (file 17). -/
abbrev imgDictRev (n : Nat) : Nat := (0x1310 + n) * 256 + 3
/-- `0x1310 + s:04 IMG_CONFIG_FORMAT` (file 17). -/
abbrev imgConfigFormat (n : Nat) : Nat := (0x1310 + n) * 256 + 4
/-- `0x1310 + s:05 IMG_LENGTH` (file 17). -/
abbrev imgLength (n : Nat) : Nat := (0x1310 + n) * 256 + 5
/-- `0x1310 + s:06 IMG_KEY_ID` (file 17). -/
abbrev imgKeyId (n : Nat) : Nat := (0x1310 + n) * 256 + 6
/-- `0x1310 + s:07 IMG_WRITTEN` (file 17). -/
abbrev imgWritten (n : Nat) : Nat := (0x1310 + n) * 256 + 7
/-- `0x1310 + s:08 IMG_HASH` (file 17). -/
abbrev imgHash (n : Nat) : Nat := (0x1310 + n) * 256 + 8
/-- `0x1320:01 DL_STATE` (file 17). -/
abbrev dlState : Nat := 0x1320 * 256 + 1
/-- `0x1320:02 DL_SLOT` (file 17). -/
abbrev dlSlot : Nat := 0x1320 * 256 + 2
/-- `0x1320:03 DL_RECEIVED` (file 17). -/
abbrev dlReceived : Nat := 0x1320 * 256 + 3
/-- `0x1320:04 DL_TOTAL` (file 17). -/
abbrev dlTotal : Nat := 0x1320 * 256 + 4
/-- `0x1320:05 DL_ABORTS` (file 17). -/
abbrev dlAborts : Nat := 0x1320 * 256 + 5
/-- `0x1330:01 EXPORT_FORMAT` (file 17). -/
abbrev exportFormat : Nat := 0x1330 * 256 + 1
/-- `0x1330:02 EXPORT_TIME` (file 17). -/
abbrev exportTime : Nat := 0x1330 * 256 + 2
/-- `0x1330:03 EXPORT_LENGTH` (file 17). -/
abbrev exportLength : Nat := 0x1330 * 256 + 3
/-- `0x1331 EXPORT_CONFIG` (file 17). -/
abbrev exportConfig : Nat := 0x1331 * 256 + 0

end Obj

/-- Rows of the objects 0x1000 to 0x1101 (R55, R56). -/
def rows1000 : List Row :=
  [ { name := "VENDOR_ID", ix := 0x1000, n := 1, lo := 0, hi := 0, ty := .u32, acc := .const, kept := .f, dflt := 0x4854 },
    { name := "DEVICE_NAME", ix := 0x1001, n := 1, lo := 0, hi := 0, ty := .vstring 255, acc := .const, kept := .f, dfb := [0x55, 0x56, 0x39, 0x36, 0x30] },
    { name := "ORDERING_CODE", ix := 0x1002, n := 1, lo := 0, hi := 0, ty := .vstring 255, acc := .const, kept := .f, dfb := [0x55, 0x56, 0x39, 0x36, 0x30, 0x2D, 0x41, 0x54, 0x2D, 0x42, 0x31, 0x2D, 0x54] },
    { name := "STEPPING", ix := 0x1003, n := 1, lo := 0, hi := 0, ty := .u8, acc := .const, kept := .f, dflt := 0x21 },
    { name := "TEMP_GRADE", ix := 0x1004, n := 1, lo := 0, hi := 0, ty := .u8, acc := .const, kept := .f, dflt := 0x1 },
    { name := "SERIAL_NUMBER", ix := 0x1005, n := 1, lo := 0, hi := 0, ty := .u32, acc := .const, kept := .f },
    { name := "UNIQUE_ID", ix := 0x1006, n := 1, lo := 0, hi := 0, ty := .octets 16, acc := .const, kept := .f },
    { name := "DICT_REVISION", ix := 0x1007, n := 1, lo := 0, hi := 0, ty := .u16, acc := .ro, kept := .v },
    { name := "CONFIG_FORMAT", ix := 0x1008, n := 1, lo := 0, hi := 0, ty := .u16, acc := .ro, kept := .v },
    { name := "STORED_FORMAT", ix := 0x1009, n := 1, lo := 0, hi := 0, ty := .u16, acc := .ro, kept := .v },
    { name := "FW_VERSION", ix := 0x100A, n := 1, lo := 0, hi := 0, ty := .u32, acc := .ro, kept := .v },
    { name := "ROM_VERSION", ix := 0x100B, n := 1, lo := 0, hi := 0, ty := .u32, acc := .const, kept := .f },
    { name := "DRAM_SIZE", ix := 0x1010, n := 1, lo := 0, hi := 0, ty := .u32, acc := .ro, kept := .v },
    { name := "MRAM_PRESENT", ix := 0x1011, n := 1, lo := 0, hi := 0, ty := .u8, acc := .ro, kept := .v },
    { name := "STAGING_BASE", ix := 0x1012, n := 1, lo := 0, hi := 0, ty := .u64, acc := .ro, kept := .v },
    { name := "STAGING_SIZE", ix := 0x1013, n := 1, lo := 0, hi := 0, ty := .u64, acc := .ro, kept := .v },
    { name := "NAME_PLATE", ix := 0x1020, n := 1, lo := 0, hi := 0, ty := .vstring 64, acc := .rw, kept := .p },
    { name := "LOCATION", ix := 0x1021, n := 1, lo := 0, hi := 0, ty := .vstring 64, acc := .rw, kept := .p },
    { name := "NODE_STATE", ix := 0x1100, n := 1, lo := 0, hi := 0, ty := .u8, acc := .ro, kept := .v, dflt := 0x2 },
    { name := "NODE_ID", ix := 0x1101, n := 1, lo := 0, hi := 0, ty := .u8, acc := .ro, kept := .p } ]

/-- Rows of the objects 0x1102 to 0x1124 (R39, R56). -/
def rows1102 : List Row :=
  [ { name := "STATE_ENTERED", ix := 0x1102, n := 1, lo := 0, hi := 0, ty := .time64, acc := .ro, kept := .v },
    { name := "STATE_REASON", ix := 0x1103, n := 1, lo := 0, hi := 0, ty := .u8, acc := .ro, kept := .v },
    { name := "FAULT_SUMMARY", ix := 0x1104, n := 1, lo := 0, hi := 0, ty := .u32, acc := .ro, kept := .v, dflt := 0x228 },
    { name := "START_COUNT", ix := 0x1105, n := 1, lo := 0, hi := 0, ty := .u32, acc := .ro, kept := .b },
    { name := "HELD_ORDER", ix := 0x1107, n := 1, lo := 0, hi := 0, ty := .u8, acc := .rw, kept := .v, range := [(0, 1)] },
    { name := "UPTIME", ix := 0x1110, n := 1, lo := 0, hi := 0, ty := .u64, acc := .ro, kept := .v },
    { name := "count", ix := 0x1120, n := 1, lo := 0, hi := 0, ty := .u8, acc := .const, kept := .f, dflt := 0x7 },
    { name := "STAGE_CMD", ix := 0x1120, n := 1, lo := 1, hi := 1, ty := .u8, acc := .wo, kept := .v, range := [(1, 3)] },
    { name := "STAGE_STATE", ix := 0x1120, n := 1, lo := 2, hi := 2, ty := .u8, acc := .ro, kept := .v },
    { name := "STAGE_COUNT", ix := 0x1120, n := 1, lo := 3, hi := 3, ty := .u16, acc := .ro, kept := .v },
    { name := "STAGE_FAIL_OBJECT", ix := 0x1120, n := 1, lo := 4, hi := 4, ty := .u32, acc := .ro, kept := .v },
    { name := "STAGE_FAIL_STATUS", ix := 0x1120, n := 1, lo := 5, hi := 5, ty := .u8, acc := .ro, kept := .v },
    { name := "COMMIT_AT", ix := 0x1120, n := 1, lo := 6, hi := 6, ty := .time64, acc := .rw, kept := .v },
    { name := "COMMIT_TIMEOUT", ix := 0x1120, n := 1, lo := 7, hi := 7, ty := .u16, acc := .rw, kept := .p, dflt := 0x10, range := [(1, 1000)] },
    { name := "REMOTE_TIMEOUT", ix := 0x1124, n := 1, lo := 0, hi := 0, ty := .u16, acc := .rw, kept := .p, dflt := 0xA, range := [(1, 1000)] } ]

/-- Rows of the objects 0x1130 to 0x1153 (R42, R106). -/
def rows1130 : List Row :=
  [ { name := "count", ix := 0x1130, n := 1, lo := 0, hi := 0, ty := .u8, acc := .const, kept := .f, dflt := 0x5 },
    { name := "STORE_CMD", ix := 0x1130, n := 1, lo := 1, hi := 1, ty := .u8, acc := .wo, kept := .v, range := [(1, 2)] },
    { name := "STORE_STATE", ix := 0x1130, n := 1, lo := 2, hi := 2, ty := .u8, acc := .ro, kept := .v },
    { name := "STORE_COUNT", ix := 0x1130, n := 1, lo := 3, hi := 3, ty := .u32, acc := .ro, kept := .b },
    { name := "STORE_TIME", ix := 0x1130, n := 1, lo := 4, hi := 4, ty := .time64, acc := .ro, kept := .v },
    { name := "CONFIG_VALID", ix := 0x1130, n := 1, lo := 5, hi := 5, ty := .bool, acc := .ro, kept := .v },
    { name := "count", ix := 0x1140, n := 1, lo := 0, hi := 0, ty := .u8, acc := .const, kept := .f, dflt := 0xA },
    { name := "CLAIM_LEASE", ix := 0x1140, n := 1, lo := 1, hi := 1, ty := .u8, acc := .rw, kept := .p, dflt := 0x4, range := [(1, 255)] },
    { name := "CMDR_NODE", ix := 0x1140, n := 1, lo := 2, hi := 9, ty := .u8, acc := .rw, kept := .p, range := [(0, 96)] },
    { name := "CLAIM_UDP_ENABLE", ix := 0x1140, n := 1, lo := 10, hi := 10, ty := .u8, acc := .rw, kept := .p, mask := 0xF },
    { name := "count", ix := 0x1141, n := 8, lo := 0, hi := 0, ty := .u8, acc := .const, kept := .f, dflt := 0x4 },
    { name := "CLAIM", ix := 0x1141, n := 8, lo := 1, hi := 1, ty := .u32, acc := .ro, kept := .v },
    { name := "LIVE", ix := 0x1141, n := 8, lo := 2, hi := 2, ty := .bool, acc := .ro, kept := .v },
    { name := "LAST_RENEW", ix := 0x1141, n := 8, lo := 3, hi := 3, ty := .time64, acc := .ro, kept := .v },
    { name := "LAPSES", ix := 0x1141, n := 8, lo := 4, hi := 4, ty := .u32, acc := .ro, kept := .v },
    { name := "HOLDER", ix := 0x1150, n := 1, lo := 0, hi := 0, ty := .u8, acc := .ro, kept := .v },
    { name := "HOLDER_CLAIM", ix := 0x1151, n := 1, lo := 0, hi := 0, ty := .u32, acc := .ro, kept := .v },
    { name := "CLAIM_DISCARDS", ix := 0x1152, n := 1, lo := 0, hi := 0, ty := .u32, acc := .ro, kept := .v },
    { name := "CLAIM_REFUSALS", ix := 0x1153, n := 1, lo := 0, hi := 0, ty := .u32, acc := .ro, kept := .v } ]

/-- Rows of the objects 0x1200 to 0x1220 (R425, R426, R427). -/
def rows1200 : List Row :=
  [ { name := "count", ix := 0x1200, n := 1, lo := 0, hi := 0, ty := .u8, acc := .const, kept := .f, dflt := 0x6 },
    { name := "RESET_CMD", ix := 0x1200, n := 1, lo := 1, hi := 1, ty := .u8, acc := .wo, kept := .v, range := [(1, 2)] },
    { name := "LAST_RESET", ix := 0x1200, n := 1, lo := 2, hi := 2, ty := .u8, acc := .ro, kept := .b },
    { name := "LAST_RESET_TIME", ix := 0x1200, n := 1, lo := 3, hi := 3, ty := .time64, acc := .ro, kept := .b },
    { name := "RESET_ORIGIN", ix := 0x1200, n := 1, lo := 4, hi := 4, ty := .u8, acc := .ro, kept := .b },
    { name := "WDG_PERIOD", ix := 0x1200, n := 1, lo := 5, hi := 5, ty := .u16, acc := .rw, kept := .p, dflt := 0x1F4, range := [(10, 10000)] },
    { name := "START_TIME", ix := 0x1200, n := 1, lo := 6, hi := 6, ty := .u32, acc := .ro, kept := .v },
    { name := "count", ix := 0x1201, n := 1, lo := 0, hi := 0, ty := .u8, acc := .const, kept := .f, dflt := 0x7 },
    { name := "RESETS", ix := 0x1201, n := 1, lo := 1, hi := 7, ty := .u32, acc := .ro, kept := .b },
    { name := "count", ix := 0x1210, n := 1, lo := 0, hi := 0, ty := .u8, acc := .const, kept := .f, dflt := 0x5 },
    { name := "POWER_CMD", ix := 0x1210, n := 1, lo := 1, hi := 1, ty := .u8, acc := .wo, kept := .v, range := [(0, 3)] },
    { name := "POWER_STATE", ix := 0x1210, n := 1, lo := 2, hi := 2, ty := .u8, acc := .ro, kept := .v },
    { name := "WAKE_AT", ix := 0x1210, n := 1, lo := 3, hi := 3, ty := .time64, acc := .rw, kept := .v },
    { name := "WAKE_PIN_EN", ix := 0x1210, n := 1, lo := 4, hi := 4, ty := .bool, acc := .rw, kept := .p, dflt := 0x1 },
    { name := "LAST_WAKE", ix := 0x1210, n := 1, lo := 5, hi := 5, ty := .u8, acc := .ro, kept := .b },
    { name := "count", ix := 0x1220, n := 1, lo := 0, hi := 0, ty := .u8, acc := .const, kept := .f, dflt := 0x10 },
    { name := "RETAIN_WORD", ix := 0x1220, n := 1, lo := 1, hi := 16, ty := .u32, acc := .rw, kept := .b } ]

/-- Rows of the objects 0x1230 to 0x1300 (R427, R446). -/
def rows1230 : List Row :=
  [ { name := "count", ix := 0x1230, n := 1, lo := 0, hi := 0, ty := .u8, acc := .const, kept := .f, dflt := 0x4 },
    { name := "ISLAND_STATE", ix := 0x1230, n := 1, lo := 1, hi := 1, ty := .u8, acc := .ro, kept := .v },
    { name := "VBAT_MV", ix := 0x1230, n := 1, lo := 2, hi := 2, ty := .u16, acc := .ro, kept := .v },
    { name := "RTC_TIME", ix := 0x1230, n := 1, lo := 3, hi := 3, ty := .time64, acc := .ro, kept := .v },
    { name := "BACKUP_ENTRIES", ix := 0x1230, n := 1, lo := 4, hi := 4, ty := .u32, acc := .ro, kept := .b },
    { name := "count", ix := 0x1300, n := 1, lo := 0, hi := 0, ty := .u8, acc := .const, kept := .f, dflt := 0xA },
    { name := "ACTIVE_SLOT", ix := 0x1300, n := 1, lo := 1, hi := 1, ty := .u8, acc := .ro, kept := .v },
    { name := "TRIAL", ix := 0x1300, n := 1, lo := 2, hi := 2, ty := .bool, acc := .ro, kept := .v },
    { name := "TRIAL_LEFT", ix := 0x1300, n := 1, lo := 3, hi := 3, ty := .u32, acc := .ro, kept := .v },
    { name := "TRIAL_TIME", ix := 0x1300, n := 1, lo := 4, hi := 4, ty := .u32, acc := .rw, kept := .p, dflt := 0x258, range := [(0, 86400)] },
    { name := "FW_CMD", ix := 0x1300, n := 1, lo := 5, hi := 5, ty := .u8, acc := .wo, kept := .v, range := [(1, 3)] },
    { name := "ACT_STATE", ix := 0x1300, n := 1, lo := 6, hi := 6, ty := .u8, acc := .ro, kept := .v },
    { name := "LAST_ACT_RESULT", ix := 0x1300, n := 1, lo := 7, hi := 7, ty := .u8, acc := .ro, kept := .v },
    { name := "LAST_ACT_PAUSE_US", ix := 0x1300, n := 1, lo := 8, hi := 8, ty := .u32, acc := .ro, kept := .v },
    { name := "FAILED_STARTS", ix := 0x1300, n := 1, lo := 9, hi := 9, ty := .u8, acc := .ro, kept := .v },
    { name := "LAST_FAIL_CAUSE", ix := 0x1300, n := 1, lo := 10, hi := 10, ty := .u8, acc := .ro, kept := .v } ]

/-- Rows of the objects 0x1310 to 0x1331 (R447, R448). -/
def rows1310 : List Row :=
  [ { name := "count", ix := 0x1310, n := 2, lo := 0, hi := 0, ty := .u8, acc := .const, kept := .f, dflt := 0x8 },
    { name := "SLOT_STATE", ix := 0x1310, n := 2, lo := 1, hi := 1, ty := .u8, acc := .ro, kept := .v },
    { name := "IMG_VERSION", ix := 0x1310, n := 2, lo := 2, hi := 2, ty := .u32, acc := .ro, kept := .v },
    { name := "IMG_DICT_REV", ix := 0x1310, n := 2, lo := 3, hi := 3, ty := .u16, acc := .ro, kept := .v },
    { name := "IMG_CONFIG_FORMAT", ix := 0x1310, n := 2, lo := 4, hi := 4, ty := .u16, acc := .ro, kept := .v },
    { name := "IMG_LENGTH", ix := 0x1310, n := 2, lo := 5, hi := 5, ty := .u32, acc := .ro, kept := .v },
    { name := "IMG_KEY_ID", ix := 0x1310, n := 2, lo := 6, hi := 6, ty := .u8, acc := .ro, kept := .v },
    { name := "IMG_WRITTEN", ix := 0x1310, n := 2, lo := 7, hi := 7, ty := .time64, acc := .ro, kept := .v },
    { name := "IMG_HASH", ix := 0x1310, n := 2, lo := 8, hi := 8, ty := .octets 32, acc := .ro, kept := .v },
    { name := "count", ix := 0x1320, n := 1, lo := 0, hi := 0, ty := .u8, acc := .const, kept := .f, dflt := 0x5 },
    { name := "DL_STATE", ix := 0x1320, n := 1, lo := 1, hi := 1, ty := .u8, acc := .ro, kept := .v },
    { name := "DL_SLOT", ix := 0x1320, n := 1, lo := 2, hi := 2, ty := .u8, acc := .ro, kept := .v },
    { name := "DL_RECEIVED", ix := 0x1320, n := 1, lo := 3, hi := 3, ty := .u32, acc := .ro, kept := .v },
    { name := "DL_TOTAL", ix := 0x1320, n := 1, lo := 4, hi := 4, ty := .u32, acc := .ro, kept := .v },
    { name := "DL_ABORTS", ix := 0x1320, n := 1, lo := 5, hi := 5, ty := .u32, acc := .ro, kept := .v },
    { name := "count", ix := 0x1330, n := 1, lo := 0, hi := 0, ty := .u8, acc := .const, kept := .f, dflt := 0x3 },
    { name := "EXPORT_FORMAT", ix := 0x1330, n := 1, lo := 1, hi := 1, ty := .u16, acc := .ro, kept := .v },
    { name := "EXPORT_TIME", ix := 0x1330, n := 1, lo := 2, hi := 2, ty := .time64, acc := .ro, kept := .v },
    { name := "EXPORT_LENGTH", ix := 0x1330, n := 1, lo := 3, hi := 3, ty := .u32, acc := .ro, kept := .v },
    { name := "EXPORT_CONFIG", ix := 0x1331, n := 1, lo := 0, hi := 0, ty := .domain 2621440 true 1, acc := .ro, kept := .v } ]

/-- Rows of the objects 0x2000 to 0x2002 (R104). -/
def rows2000 : List Row :=
  [ { name := "count", ix := 0x2000, n := 1, lo := 0, hi := 0, ty := .u8, acc := .const, kept := .f, dflt := 0x6 },
    { name := "PATH_B_MODE", ix := 0x2000, n := 1, lo := 1, hi := 1, ty := .u8, acc := .rws, kept := .p, range := [(0, 1)] },
    { name := "REVERT_HOLDOFF", ix := 0x2000, n := 1, lo := 2, hi := 2, ty := .u16, acc := .rw, kept := .p, dflt := 0xA, range := [(1, 3600)] },
    { name := "PROVE_INTERVAL", ix := 0x2000, n := 1, lo := 3, hi := 3, ty := .u16, acc := .rw, kept := .p, dflt := 0x18, range := [(0, 8760)] },
    { name := "PROVE_DWELL", ix := 0x2000, n := 1, lo := 4, hi := 4, ty := .u16, acc := .rw, kept := .p, dflt := 0x64, range := [(10, 10000)] },
    { name := "ERR_BURST_LIMIT", ix := 0x2000, n := 1, lo := 5, hi := 5, ty := .u16, acc := .rw, kept := .p, dflt := 0x10, range := [(1, 4096)] },
    { name := "LINK_RETRY_INTERVAL", ix := 0x2000, n := 1, lo := 6, hi := 6, ty := .u16, acc := .rw, kept := .p, dflt := 0xA, range := [(1, 3600)] },
    { name := "count", ix := 0x2001, n := 1, lo := 0, hi := 0, ty := .u8, acc := .const, kept := .f, dflt := 0x6 },
    { name := "RING_STATE", ix := 0x2001, n := 1, lo := 1, hi := 1, ty := .u8, acc := .ro, kept := .v },
    { name := "RING_NODES", ix := 0x2001, n := 1, lo := 2, hi := 2, ty := .u8, acc := .ro, kept := .v },
    { name := "COORDINATOR", ix := 0x2001, n := 1, lo := 3, hi := 3, ty := .u8, acc := .ro, kept := .v },
    { name := "WRAP_SEGMENT", ix := 0x2001, n := 1, lo := 4, hi := 4, ty := .u16, acc := .ro, kept := .v },
    { name := "LAST_GAP", ix := 0x2001, n := 1, lo := 5, hi := 5, ty := .u32, acc := .ro, kept := .v },
    { name := "MEMBERSHIP_GEN", ix := 0x2001, n := 1, lo := 6, hi := 6, ty := .u32, acc := .ro, kept := .v },
    { name := "count", ix := 0x2002, n := 1, lo := 0, hi := 0, ty := .u8, acc := .const, kept := .f, dflt := 0x3 },
    { name := "ID_ASSIGN", ix := 0x2002, n := 1, lo := 1, hi := 1, ty := .u8, acc := .wo, kept := .v, range := [(0, 96)] },
    { name := "ID_STATE", ix := 0x2002, n := 1, lo := 2, hi := 2, ty := .u8, acc := .ro, kept := .v, dflt := 0x1 },
    { name := "EFFECTIVE_ID", ix := 0x2002, n := 1, lo := 3, hi := 3, ty := .u8, acc := .ro, kept := .v } ]

/-- Rows of the objects 0x2010 to 0x2014 (R104). -/
def rows2010 : List Row :=
  [ { name := "count", ix := 0x2010, n := 1, lo := 0, hi := 0, ty := .u8, acc := .const, kept := .f, dflt := 0x8 },
    { name := "PATH_A_STATE", ix := 0x2010, n := 1, lo := 1, hi := 1, ty := .u8, acc := .ro, kept := .v },
    { name := "PATH_B_STATE", ix := 0x2010, n := 1, lo := 2, hi := 2, ty := .u8, acc := .ro, kept := .v },
    { name := "A_OUT_STATE", ix := 0x2010, n := 1, lo := 3, hi := 3, ty := .u8, acc := .ro, kept := .v },
    { name := "B_OUT_STATE", ix := 0x2010, n := 1, lo := 4, hi := 4, ty := .u8, acc := .ro, kept := .v },
    { name := "B_SAVED_VALID", ix := 0x2010, n := 1, lo := 5, hi := 5, ty := .bool, acc := .ro, kept := .w },
    { name := "B_SAVED_TIME", ix := 0x2010, n := 1, lo := 6, hi := 6, ty := .time64, acc := .ro, kept := .w },
    { name := "LAST_PROVE_RESULT", ix := 0x2010, n := 1, lo := 7, hi := 7, ty := .u8, acc := .ro, kept := .w },
    { name := "LAST_PROVE_TIME", ix := 0x2010, n := 1, lo := 8, hi := 8, ty := .time64, acc := .ro, kept := .w },
    { name := "PROVE_CMD", ix := 0x2011, n := 1, lo := 0, hi := 0, ty := .u8, acc := .wo, kept := .v, range := [(1, 1)] },
    { name := "REVERT_CMD", ix := 0x2012, n := 1, lo := 0, hi := 0, ty := .u8, acc := .wo, kept := .v, range := [(1, 1)] },
    { name := "NOTICE_IGNORED", ix := 0x2013, n := 1, lo := 0, hi := 0, ty := .u32, acc := .ro, kept := .v },
    { name := "ORPHAN_RESPONSES", ix := 0x2014, n := 1, lo := 0, hi := 0, ty := .u32, acc := .ro, kept := .v } ]

/-- Rows of the objects 0x2020 to 0x2021 (R105). -/
def rows2020 : List Row :=
  [ { name := "count", ix := 0x2020, n := 2, lo := 0, hi := 0, ty := .u8, acc := .const, kept := .f, dflt := 0xF },
    { name := "ROW_CODE_ERRORS", ix := 0x2020, n := 2, lo := 1, hi := 1, ty := .u32, acc := .ro, kept := .v },
    { name := "HCRC_ERRORS", ix := 0x2020, n := 2, lo := 2, hi := 2, ty := .u32, acc := .ro, kept := .v },
    { name := "FCRC_ERRORS", ix := 0x2020, n := 2, lo := 3, hi := 3, ty := .u32, acc := .ro, kept := .v },
    { name := "STOMPED_RX", ix := 0x2020, n := 2, lo := 4, hi := 4, ty := .u32, acc := .ro, kept := .v },
    { name := "LOS_EVENTS", ix := 0x2020, n := 2, lo := 5, hi := 5, ty := .u32, acc := .ro, kept := .v },
    { name := "LOCK_LOSSES", ix := 0x2020, n := 2, lo := 6, hi := 6, ty := .u32, acc := .ro, kept := .v },
    { name := "TRANSIENT_FAULTS", ix := 0x2020, n := 2, lo := 7, hi := 7, ty := .u32, acc := .ro, kept := .v },
    { name := "LASTING_FAULTS", ix := 0x2020, n := 2, lo := 8, hi := 8, ty := .u32, acc := .ro, kept := .v },
    { name := "BAD_TYPE_DISCARDS", ix := 0x2020, n := 2, lo := 9, hi := 9, ty := .u32, acc := .ro, kept := .v },
    { name := "HOP_LIMIT_DISCARDS", ix := 0x2020, n := 2, lo := 10, hi := 10, ty := .u32, acc := .ro, kept := .v },
    { name := "C0_LOAD_EXCEED", ix := 0x2020, n := 2, lo := 11, hi := 11, ty := .u32, acc := .ro, kept := .v },
    { name := "LATE_WRAPS", ix := 0x2020, n := 2, lo := 12, hi := 12, ty := .u32, acc := .ro, kept := .v },
    { name := "REVERT_DROPS", ix := 0x2020, n := 2, lo := 13, hi := 13, ty := .u32, acc := .ro, kept := .v },
    { name := "WRAPS", ix := 0x2020, n := 2, lo := 14, hi := 14, ty := .u32, acc := .ro, kept := .v },
    { name := "CLEAR", ix := 0x2020, n := 2, lo := 15, hi := 15, ty := .u8, acc := .wo, kept := .v, range := [(0, 0)] } ]

/-- Rows of the objects 0x2100 to 0x2100 (R139). -/
def rows2100 : List Row :=
  [ { name := "count", ix := 0x2100, n := 1, lo := 0, hi := 0, ty := .u8, acc := .const, kept := .f, dflt := 0xB },
    { name := "TIME_NOW", ix := 0x2100, n := 1, lo := 1, hi := 1, ty := .time64, acc := .ro, kept := .v },
    { name := "TIME_STATE", ix := 0x2100, n := 1, lo := 2, hi := 2, ty := .u8, acc := .ro, kept := .v },
    { name := "GM_ID", ix := 0x2100, n := 1, lo := 3, hi := 3, ty := .u8, acc := .ro, kept := .v },
    { name := "OFFSET", ix := 0x2100, n := 1, lo := 4, hi := 4, ty := .i32, acc := .ro, kept := .v },
    { name := "FREQ_ADJ", ix := 0x2100, n := 1, lo := 5, hi := 5, ty := .i32, acc := .ro, kept := .v },
    { name := "TIME_FLAGS", ix := 0x2100, n := 1, lo := 6, hi := 6, ty := .u8, acc := .ro, kept := .v },
    { name := "INBOUND_PATH", ix := 0x2100, n := 1, lo := 7, hi := 7, ty := .u8, acc := .ro, kept := .v },
    { name := "HOP_DELAY_A", ix := 0x2100, n := 1, lo := 8, hi := 8, ty := .u32, acc := .ro, kept := .w },
    { name := "HOP_DELAY_B", ix := 0x2100, n := 1, lo := 9, hi := 9, ty := .u32, acc := .ro, kept := .w },
    { name := "LOOP_SCALE", ix := 0x2100, n := 1, lo := 10, hi := 10, ty := .i32, acc := .ro, kept := .v },
    { name := "UTC_OFFSET", ix := 0x2100, n := 1, lo := 11, hi := 11, ty := .i16, acc := .ro, kept := .v, dflt := 0x25 } ]

/-- Rows of the objects 0x2101 to 0x2102 (R139). -/
def rows2101 : List Row :=
  [ { name := "count", ix := 0x2101, n := 1, lo := 0, hi := 0, ty := .u8, acc := .const, kept := .f, dflt := 0xF },
    { name := "GM_PRIORITY", ix := 0x2101, n := 1, lo := 1, hi := 1, ty := .u8, acc := .rw, kept := .p, range := [(0, 254)] },
    { name := "TIME_SOURCE", ix := 0x2101, n := 1, lo := 2, hi := 2, ty := .u8, acc := .rws, kept := .p, range := [(0, 2)] },
    { name := "PTP_PORT", ix := 0x2101, n := 1, lo := 3, hi := 3, ty := .u8, acc := .rws, kept := .p, range := [(0, 3)] },
    { name := "FREE_RUN_OK", ix := 0x2101, n := 1, lo := 4, hi := 4, ty := .bool, acc := .rw, kept := .p },
    { name := "HOLDOVER_LIMIT", ix := 0x2101, n := 1, lo := 5, hi := 5, ty := .u32, acc := .rw, kept := .p, dflt := 0xE10, range := [(0, 604800)] },
    { name := "SLEW_LIMIT", ix := 0x2101, n := 1, lo := 6, hi := 6, ty := .u32, acc := .rw, kept := .p, dflt := 0x2710, range := [(1, 100000)] },
    { name := "STEP_THRESHOLD", ix := 0x2101, n := 1, lo := 7, hi := 7, ty := .u32, acc := .rw, kept := .p, dflt := 0x3E8 },
    { name := "SOURCE_TC", ix := 0x2101, n := 1, lo := 8, hi := 8, ty := .u16, acc := .rw, kept := .p, dflt := 0x10, range := [(1, 1000)] },
    { name := "FOLLOW_BW", ix := 0x2101, n := 1, lo := 9, hi := 9, ty := .u16, acc := .rw, kept := .p, dflt := 0x64, range := [(10, 1000)] },
    { name := "UTC_OFFSET_CFG", ix := 0x2101, n := 1, lo := 10, hi := 10, ty := .i16, acc := .rw, kept := .p, dflt := 0x25 },
    { name := "IRIG_YEAR", ix := 0x2101, n := 1, lo := 11, hi := 11, ty := .u16, acc := .rw, kept := .p, range := [(0, 0), (2000, 2199)] },
    { name := "IRIG_EXT", ix := 0x2101, n := 1, lo := 12, hi := 12, ty := .bool, acc := .rw, kept := .p },
    { name := "LOOP_ALARM_NS", ix := 0x2101, n := 1, lo := 13, hi := 13, ty := .u16, acc := .rw, kept := .p, dflt := 0x14, range := [(1, 1000)] },
    { name := "PPS_MODE", ix := 0x2101, n := 1, lo := 14, hi := 14, ty := .u8, acc := .rw, kept := .p, dflt := 0x2, range := [(0, 2)] },
    { name := "PPS_WIDTH", ix := 0x2101, n := 1, lo := 15, hi := 15, ty := .u32, acc := .rw, kept := .p, dflt := 0x2710, range := [(1, 500000)] },
    { name := "TIMING_IGNORED", ix := 0x2102, n := 1, lo := 0, hi := 0, ty := .u32, acc := .ro, kept := .v } ]

/-- Rows of the objects 0x2110 to 0x2211 (R140, R141). -/
def rows2110 : List Row :=
  [ { name := "count", ix := 0x2110, n := 4, lo := 0, hi := 0, ty := .u8, acc := .const, kept := .f, dflt := 0x7 },
    { name := "PTP_ROLE", ix := 0x2110, n := 4, lo := 1, hi := 1, ty := .u8, acc := .rws, kept := .p, range := [(0, 2)] },
    { name := "PTP_DOMAIN", ix := 0x2110, n := 4, lo := 2, hi := 2, ty := .u8, acc := .rws, kept := .p },
    { name := "PRIORITY1", ix := 0x2110, n := 4, lo := 3, hi := 3, ty := .u8, acc := .rws, kept := .p, dflt := 0x80 },
    { name := "PRIORITY2", ix := 0x2110, n := 4, lo := 4, hi := 4, ty := .u8, acc := .rws, kept := .p, dflt := 0x80 },
    { name := "PORT_STATE", ix := 0x2110, n := 4, lo := 5, hi := 5, ty := .u8, acc := .ro, kept := .v, dflt := 0x1 },
    { name := "PEER_DELAY", ix := 0x2110, n := 4, lo := 6, hi := 6, ty := .u32, acc := .ro, kept := .v },
    { name := "MASTER_OFFSET", ix := 0x2110, n := 4, lo := 7, hi := 7, ty := .i32, acc := .ro, kept := .v },
    { name := "count", ix := 0x2200, n := 1, lo := 0, hi := 0, ty := .u8, acc := .const, kept := .f, dflt := 0x9 },
    { name := "EPOCH_LENGTH", ix := 0x2200, n := 1, lo := 1, hi := 1, ty := .u16, acc := .rws, kept := .p, dflt := 0x3E8, range := [(10, 16000)] },
    { name := "EPOCH_PHASE", ix := 0x2200, n := 1, lo := 2, hi := 2, ty := .u32, acc := .rws, kept := .p },
    { name := "APPLY_DELAY", ix := 0x2200, n := 1, lo := 3, hi := 3, ty := .u16, acc := .rws, kept := .p, dflt := 0x1F4, range := [(1, 65535)] },
    { name := "STALE_INVALID", ix := 0x2200, n := 1, lo := 4, hi := 4, ty := .u8, acc := .rw, kept := .p, dflt := 0x4 },
    { name := "EPOCH_NOW", ix := 0x2200, n := 1, lo := 5, hi := 5, ty := .u64, acc := .ro, kept := .v },
    { name := "RING_EPOCH", ix := 0x2200, n := 1, lo := 6, hi := 6, ty := .u16, acc := .ro, kept := .v, dflt := 0x3E8 },
    { name := "RING_APPLY", ix := 0x2200, n := 1, lo := 7, hi := 7, ty := .u16, acc := .ro, kept := .v, dflt := 0x1F4 },
    { name := "APPLY_MIN", ix := 0x2200, n := 1, lo := 8, hi := 8, ty := .u16, acc := .ro, kept := .v },
    { name := "NEXT_SAMPLE", ix := 0x2200, n := 1, lo := 9, hi := 9, ty := .time64, acc := .ro, kept := .v },
    { name := "PUB_COUNT", ix := 0x2210, n := 1, lo := 0, hi := 0, ty := .u16, acc := .rws, kept := .p, range := [(0, 4096)] },
    { name := "LOUT_HOLD", ix := 0x2211, n := 1, lo := 0, hi := 0, ty := .u8, acc := .rws, kept := .p, range := [(0, 1)] } ]

/-- Rows of the objects 0x2212 to 0x2250 (R141, R142). -/
def rows2212 : List Row :=
  [ { name := "LOUT_MISSED", ix := 0x2212, n := 1, lo := 0, hi := 0, ty := .u8, acc := .rws, kept := .p, dflt := 0x1 },
    { name := "count", ix := 0x2220, n := 32, lo := 0, hi := 0, ty := .u8, acc := .const, kept := .f, dflt := 0x80 },
    { name := "PUB_SOURCE", ix := 0x2220, n := 32, lo := 1, hi := 128, ty := .u32, acc := .rws, kept := .p, mask := 0xF000FFFF },
    { name := "SUB_COUNT", ix := 0x2240, n := 1, lo := 0, hi := 0, ty := .u16, acc := .rws, kept := .p, range := [(0, 512)] },
    { name := "count", ix := 0x2241, n := 4, lo := 0, hi := 0, ty := .u8, acc := .const, kept := .f, dflt := 0x80 },
    { name := "SUB_ENTRY", ix := 0x2241, n := 4, lo := 1, hi := 128, ty := .u32, acc := .rws, kept := .p, range := [(0, 0x60FFFFFF)] },
    { name := "count", ix := 0x2250, n := 1, lo := 0, hi := 0, ty := .u8, acc := .const, kept := .f, dflt := 0x9 },
    { name := "LAKE_FRAMES_RX", ix := 0x2250, n := 1, lo := 1, hi := 1, ty := .u32, acc := .ro, kept := .v },
    { name := "LATE_FRAMES", ix := 0x2250, n := 1, lo := 2, hi := 2, ty := .u32, acc := .ro, kept := .v },
    { name := "EPOCH_DISCARDS", ix := 0x2250, n := 1, lo := 3, hi := 3, ty := .u32, acc := .ro, kept := .v },
    { name := "STALE_SLOTS", ix := 0x2250, n := 1, lo := 4, hi := 4, ty := .u32, acc := .ro, kept := .v },
    { name := "SKIPPED_APPLIES", ix := 0x2250, n := 1, lo := 5, hi := 5, ty := .u32, acc := .ro, kept := .v },
    { name := "CEILING_EXCEED", ix := 0x2250, n := 1, lo := 6, hi := 6, ty := .u32, acc := .ro, kept := .v },
    { name := "LAKE_FLAGS", ix := 0x2250, n := 1, lo := 7, hi := 7, ty := .u8, acc := .ro, kept := .v },
    { name := "CLEAR", ix := 0x2250, n := 1, lo := 8, hi := 8, ty := .u8, acc := .wo, kept := .v, range := [(0, 0)] },
    { name := "LAKE_VOLUME", ix := 0x2250, n := 1, lo := 9, hi := 9, ty := .u32, acc := .ro, kept := .v } ]

/-- Rows of the objects 0x2400 to 0x2431 (R170, R171, R172). -/
def rows2400 : List Row :=
  [ { name := "count", ix := 0x2400, n := 1, lo := 0, hi := 0, ty := .u8, acc := .const, kept := .f, dflt := 0xA },
    { name := "CELLS_FREE", ix := 0x2400, n := 1, lo := 1, hi := 1, ty := .u32, acc := .ro, kept := .v, dflt := 0x18000 },
    { name := "CELLS_RETIRED", ix := 0x2400, n := 1, lo := 2, hi := 2, ty := .u32, acc := .ro, kept := .w },
    { name := "PARITY_TRANSIENT", ix := 0x2400, n := 1, lo := 3, hi := 3, ty := .u32, acc := .ro, kept := .v },
    { name := "PARITY_LASTING", ix := 0x2400, n := 1, lo := 4, hi := 4, ty := .u32, acc := .ro, kept := .v },
    { name := "MAX_RESIDENCE", ix := 0x2400, n := 1, lo := 5, hi := 5, ty := .u16, acc := .rw, kept := .p, dflt := 0xA, range := [(0, 1000)] },
    { name := "CLASS2_WEIGHT", ix := 0x2400, n := 1, lo := 6, hi := 6, ty := .u8, acc := .rws, kept := .p, dflt := 0x3 },
    { name := "CLASS3_WEIGHT", ix := 0x2400, n := 1, lo := 7, hi := 7, ty := .u8, acc := .rws, kept := .p, dflt := 0x1 },
    { name := "MIRROR_LIMIT", ix := 0x2400, n := 1, lo := 8, hi := 8, ty := .u32, acc := .rws, kept := .p, dflt := 0x1000, range := [(0, 98304)] },
    { name := "SAMPLE_LIMIT", ix := 0x2400, n := 1, lo := 9, hi := 9, ty := .u32, acc := .rws, kept := .p, dflt := 0x200, range := [(0, 98304)] },
    { name := "LIMIT_SUM", ix := 0x2400, n := 1, lo := 10, hi := 10, ty := .u32, acc := .ro, kept := .v, dflt := 0x16E80 },
    { name := "count", ix := 0x2410, n := 16, lo := 0, hi := 0, ty := .u8, acc := .const, kept := .f, dflt := 0x10 },
    { name := "IN_LIMIT", ix := 0x2410, n := 16, lo := 1, hi := 4, ty := .u32, acc := .rws, kept := .p, range := [(0, 98304)] },
    { name := "OUT_LIMIT", ix := 0x2410, n := 16, lo := 5, hi := 8, ty := .u32, acc := .rws, kept := .p, range := [(0, 98304)] },
    { name := "IN_USED", ix := 0x2410, n := 16, lo := 9, hi := 12, ty := .u32, acc := .ro, kept := .v },
    { name := "OUT_USED", ix := 0x2410, n := 16, lo := 13, hi := 16, ty := .u32, acc := .ro, kept := .v },
    { name := "FLOW_TABLE", ix := 0x2430, n := 1, lo := 0, hi := 0, ty := .domain 524288 true 32, acc := .rws, kept := .p },
    { name := "FLOW_ENTRIES", ix := 0x2431, n := 1, lo := 0, hi := 0, ty := .u16, acc := .ro, kept := .v } ]

/-- Rows of the objects 0x2440 to 0x2460 (R172, R173). -/
def rows2440 : List Row :=
  [ { name := "count", ix := 0x2440, n := 1, lo := 0, hi := 0, ty := .u8, acc := .const, kept := .f, dflt := 0x41 },
    { name := "FLOW_COUNTER", ix := 0x2440, n := 1, lo := 1, hi := 64, ty := .u64, acc := .ro, kept := .v },
    { name := "CLEAR", ix := 0x2440, n := 1, lo := 65, hi := 65, ty := .u8, acc := .wo, kept := .v, range := [(0, 0)] },
    { name := "count", ix := 0x2450, n := 1, lo := 0, hi := 0, ty := .u8, acc := .const, kept := .f, dflt := 0x7 },
    { name := "INSERT_SHARE_2", ix := 0x2450, n := 1, lo := 1, hi := 1, ty := .u16, acc := .rws, kept := .p, dflt := 0x1E, range := [(0, 10000)] },
    { name := "INSERT_SHARE_3", ix := 0x2450, n := 1, lo := 2, hi := 2, ty := .u16, acc := .rws, kept := .p, dflt := 0xA, range := [(0, 10000)] },
    { name := "QUOTA_BYTES_2", ix := 0x2450, n := 1, lo := 3, hi := 3, ty := .u32, acc := .ro, kept := .v, dflt := 0x8E08 },
    { name := "QUOTA_BYTES_3", ix := 0x2450, n := 1, lo := 4, hi := 4, ty := .u32, acc := .ro, kept := .v, dflt := 0x2F58 },
    { name := "INSERTED_2", ix := 0x2450, n := 1, lo := 5, hi := 5, ty := .u32, acc := .ro, kept := .v },
    { name := "INSERTED_3", ix := 0x2450, n := 1, lo := 6, hi := 6, ty := .u32, acc := .ro, kept := .v },
    { name := "QUOTA_LIMITED", ix := 0x2450, n := 1, lo := 7, hi := 7, ty := .u32, acc := .ro, kept := .v },
    { name := "count", ix := 0x2460, n := 1, lo := 0, hi := 0, ty := .u8, acc := .const, kept := .f, dflt := 0x6 },
    { name := "TAP_DEST", ix := 0x2460, n := 1, lo := 1, hi := 1, ty := .u8, acc := .rws, kept := .p, range := [(0, 4)] },
    { name := "TAP_MAC", ix := 0x2460, n := 1, lo := 2, hi := 2, ty := .octets 6, acc := .rws, kept := .p },
    { name := "MIRROR_IN", ix := 0x2460, n := 1, lo := 3, hi := 3, ty := .u16, acc := .rws, kept := .p },
    { name := "MIRROR_OUT", ix := 0x2460, n := 1, lo := 4, hi := 4, ty := .u16, acc := .rws, kept := .p },
    { name := "TAP_COPIES", ix := 0x2460, n := 1, lo := 5, hi := 5, ty := .u32, acc := .ro, kept := .v },
    { name := "MIRROR_DROPS", ix := 0x2460, n := 1, lo := 6, hi := 6, ty := .u32, acc := .ro, kept := .v } ]

/-- Rows of the objects 0x2468 to 0x2469 (R173). -/
def rows2468 : List Row :=
  [ { name := "count", ix := 0x2468, n := 1, lo := 0, hi := 0, ty := .u8, acc := .const, kept := .f, dflt := 0x6 },
    { name := "SAMPLE_RATIO", ix := 0x2468, n := 1, lo := 1, hi := 1, ty := .u16, acc := .rws, kept := .p },
    { name := "SAMPLE_PORTS", ix := 0x2468, n := 1, lo := 2, hi := 2, ty := .u16, acc := .rws, kept := .p },
    { name := "SAMPLE_BYTES", ix := 0x2468, n := 1, lo := 3, hi := 3, ty := .u16, acc := .rws, kept := .p, dflt := 0x80, range := [(32, 256)] },
    { name := "SAMPLE_FREEZE", ix := 0x2468, n := 1, lo := 4, hi := 4, ty := .u8, acc := .rw, kept := .v, range := [(0, 1)] },
    { name := "SAMPLES_TAKEN", ix := 0x2468, n := 1, lo := 5, hi := 5, ty := .u32, acc := .ro, kept := .v },
    { name := "SAMPLES_SKIPPED", ix := 0x2468, n := 1, lo := 6, hi := 6, ty := .u32, acc := .ro, kept := .v },
    { name := "SAMPLE_BUFFER", ix := 0x2469, n := 1, lo := 0, hi := 0, ty := .domain 16777216 true 1, acc := .ro, kept := .v } ]

/-- Rows of the objects 0x2480 to 0x2603 (R174, R175). -/
def rows2480 : List Row :=
  [ { name := "count", ix := 0x2480, n := 16, lo := 0, hi := 0, ty := .u8, acc := .const, kept := .f, dflt := 0x18 },
    { name := "FRAMES_IN", ix := 0x2480, n := 16, lo := 1, hi := 4, ty := .u32, acc := .ro, kept := .v },
    { name := "FRAMES_OUT", ix := 0x2480, n := 16, lo := 5, hi := 8, ty := .u32, acc := .ro, kept := .v },
    { name := "IN_DROPS", ix := 0x2480, n := 16, lo := 9, hi := 12, ty := .u32, acc := .ro, kept := .v },
    { name := "OUT_DROPS", ix := 0x2480, n := 16, lo := 13, hi := 16, ty := .u32, acc := .ro, kept := .v },
    { name := "CUT_THROUGH", ix := 0x2480, n := 16, lo := 17, hi := 17, ty := .u32, acc := .ro, kept := .v },
    { name := "BACKPRESSURE_US", ix := 0x2480, n := 16, lo := 18, hi := 18, ty := .u32, acc := .ro, kept := .v },
    { name := "AGED", ix := 0x2480, n := 16, lo := 19, hi := 19, ty := .u32, acc := .ro, kept := .v },
    { name := "PARITY_DROPS", ix := 0x2480, n := 16, lo := 20, hi := 20, ty := .u32, acc := .ro, kept := .v },
    { name := "STOMPED", ix := 0x2480, n := 16, lo := 21, hi := 21, ty := .u32, acc := .ro, kept := .v },
    { name := "BYTES_IN", ix := 0x2480, n := 16, lo := 22, hi := 22, ty := .u64, acc := .ro, kept := .v },
    { name := "BYTES_OUT", ix := 0x2480, n := 16, lo := 23, hi := 23, ty := .u64, acc := .ro, kept := .v },
    { name := "CLEAR", ix := 0x2480, n := 16, lo := 24, hi := 24, ty := .u8, acc := .wo, kept := .v, range := [(0, 0)] },
    { name := "count", ix := 0x2600, n := 4, lo := 0, hi := 0, ty := .u8, acc := .const, kept := .f, dflt := 0x6 },
    { name := "ETH_MODE", ix := 0x2600, n := 4, lo := 1, hi := 1, ty := .u8, acc := .rws, kept := .p, range := [(0, 2)] },
    { name := "MAC_ADDR", ix := 0x2600, n := 4, lo := 2, hi := 2, ty := .octets 6, acc := .rws, kept := .p },
    { name := "IPV4_ADDR", ix := 0x2600, n := 4, lo := 3, hi := 3, ty := .u32, acc := .rws, kept := .p },
    { name := "PCP_MAP", ix := 0x2600, n := 4, lo := 4, hi := 4, ty := .u16, acc := .rws, kept := .p, dflt := 0xAFF },
    { name := "LINK_STATE", ix := 0x2600, n := 4, lo := 5, hi := 5, ty := .u8, acc := .ro, kept := .v },
    { name := "SPEED", ix := 0x2600, n := 4, lo := 6, hi := 6, ty := .u16, acc := .ro, kept := .v } ]

/-- Rows of the objects 0x2610 to 0x2619 (R176). -/
def rows2610 : List Row :=
  [ { name := "count", ix := 0x2610, n := 2, lo := 0, hi := 0, ty := .u8, acc := .const, kept := .f, dflt := 0x4 },
    { name := "RED_MODE", ix := 0x2610, n := 2, lo := 1, hi := 1, ty := .u8, acc := .rws, kept := .p, range := [(0, 2)] },
    { name := "FORGET_TIME", ix := 0x2610, n := 2, lo := 2, hi := 2, ty := .u16, acc := .rws, kept := .p, dflt := 0x190, range := [(10, 400)] },
    { name := "LIFE_CHECK", ix := 0x2610, n := 2, lo := 3, hi := 3, ty := .u16, acc := .rws, kept := .p, dflt := 0x7D0, range := [(100, 60000)] },
    { name := "SUP_ADDR_LSB", ix := 0x2610, n := 2, lo := 4, hi := 4, ty := .u8, acc := .rws, kept := .p },
    { name := "count", ix := 0x2618, n := 2, lo := 0, hi := 0, ty := .u8, acc := .const, kept := .f, dflt := 0x6 },
    { name := "DUP_DISCARDS", ix := 0x2618, n := 2, lo := 1, hi := 1, ty := .u32, acc := .ro, kept := .v },
    { name := "WRONG_LAN", ix := 0x2618, n := 2, lo := 2, hi := 2, ty := .u32, acc := .ro, kept := .v },
    { name := "OWN_REMOVED", ix := 0x2618, n := 2, lo := 3, hi := 3, ty := .u32, acc := .ro, kept := .v },
    { name := "TABLE_EVICTIONS", ix := 0x2618, n := 2, lo := 4, hi := 4, ty := .u32, acc := .ro, kept := .v },
    { name := "SUP_RX", ix := 0x2618, n := 2, lo := 5, hi := 5, ty := .u32, acc := .ro, kept := .v },
    { name := "CLEAR", ix := 0x2618, n := 2, lo := 6, hi := 6, ty := .u8, acc := .wo, kept := .v, range := [(0, 0)] } ]

/-- Rows of the objects 0x2640 to 0x26F3 (R52, R175). -/
def rows2640 : List Row :=
  [ { name := "count", ix := 0x2640, n := 4, lo := 0, hi := 0, ty := .u8, acc := .const, kept := .f, dflt := 0x8 },
    { name := "RX_FRAMES", ix := 0x2640, n := 4, lo := 1, hi := 1, ty := .u32, acc := .ro, kept := .v },
    { name := "TX_FRAMES", ix := 0x2640, n := 4, lo := 2, hi := 2, ty := .u32, acc := .ro, kept := .v },
    { name := "FCS_ERRORS", ix := 0x2640, n := 4, lo := 3, hi := 3, ty := .u32, acc := .ro, kept := .v },
    { name := "RUNTS", ix := 0x2640, n := 4, lo := 4, hi := 4, ty := .u32, acc := .ro, kept := .v },
    { name := "OVERSIZE", ix := 0x2640, n := 4, lo := 5, hi := 5, ty := .u32, acc := .ro, kept := .v },
    { name := "NO_FLOW", ix := 0x2640, n := 4, lo := 6, hi := 6, ty := .u32, acc := .ro, kept := .v },
    { name := "FLOW_DROPS", ix := 0x2640, n := 4, lo := 7, hi := 7, ty := .u32, acc := .ro, kept := .v },
    { name := "CLEAR", ix := 0x2640, n := 4, lo := 8, hi := 8, ty := .u8, acc := .wo, kept := .v, range := [(0, 0)] },
    { name := "KEDOGIL_ENABLE", ix := 0x26F0, n := 1, lo := 0, hi := 0, ty := .u8, acc := .rw, kept := .p, mask := 0xF },
    { name := "count", ix := 0x26F1, n := 1, lo := 0, hi := 0, ty := .u8, acc := .const, kept := .f, dflt := 0x10 },
    { name := "ALLOW_ADDR", ix := 0x26F1, n := 1, lo := 1, hi := 8, ty := .u32, acc := .rw, kept := .p },
    { name := "ALLOW_MASK", ix := 0x26F1, n := 1, lo := 9, hi := 16, ty := .u32, acc := .rw, kept := .p },
    { name := "KEDOGIL_DROPPED", ix := 0x26F2, n := 1, lo := 0, hi := 0, ty := .u32, acc := .ro, kept := .v },
    { name := "KEDOGIL_REPLAYED", ix := 0x26F3, n := 1, lo := 0, hi := 0, ty := .u32, acc := .ro, kept := .v } ]

/-- Rows of the objects 0x2800 to 0x2801 (R211). -/
def rows2800 : List Row :=
  [ { name := "count", ix := 0x2800, n := 1, lo := 0, hi := 0, ty := .u8, acc := .const, kept := .f, dflt := 0x8 },
    { name := "JOURNAL_STATE", ix := 0x2800, n := 1, lo := 1, hi := 1, ty := .u8, acc := .ro, kept := .v },
    { name := "RECORD_WRITES", ix := 0x2800, n := 1, lo := 2, hi := 2, ty := .u64, acc := .ro, kept := .v },
    { name := "WRITE_MAX", ix := 0x2800, n := 1, lo := 3, hi := 3, ty := .u32, acc := .ro, kept := .v },
    { name := "TRANSIENT", ix := 0x2800, n := 1, lo := 4, hi := 4, ty := .u32, acc := .ro, kept := .v },
    { name := "LASTING", ix := 0x2800, n := 1, lo := 5, hi := 5, ty := .u32, acc := .ro, kept := .w },
    { name := "RECOVERED", ix := 0x2800, n := 1, lo := 6, hi := 6, ty := .u32, acc := .ro, kept := .v },
    { name := "LAST_FAULT_DEV", ix := 0x2800, n := 1, lo := 7, hi := 7, ty := .u8, acc := .ro, kept := .w, dflt := 0xFF },
    { name := "CLEAR", ix := 0x2800, n := 1, lo := 8, hi := 8, ty := .u8, acc := .wo, kept := .v, range := [(0, 0)] },
    { name := "count", ix := 0x2801, n := 1, lo := 0, hi := 0, ty := .u8, acc := .const, kept := .f, dflt := 0x9 },
    { name := "RETX_C0", ix := 0x2801, n := 1, lo := 1, hi := 1, ty := .u16, acc := .rw, kept := .p, dflt := 0xC8, range := [(10, 10000)] },
    { name := "RETX_C2", ix := 0x2801, n := 1, lo := 2, hi := 2, ty := .u32, acc := .rw, kept := .p, dflt := 0x7D0, range := [(100, 1000000)] },
    { name := "EXEC_TIMEOUT", ix := 0x2801, n := 1, lo := 3, hi := 3, ty := .u16, acc := .rw, kept := .p, dflt := 0xA, range := [(1, 10000)] },
    { name := "WINDOW_C0", ix := 0x2801, n := 1, lo := 4, hi := 4, ty := .u16, acc := .rws, kept := .p, dflt := 0x40, range := [(1, 256)] },
    { name := "WINDOW_C2", ix := 0x2801, n := 1, lo := 5, hi := 5, ty := .u16, acc := .rws, kept := .p, dflt := 0x40, range := [(1, 256)] },
    { name := "LOSS_TIMEOUT", ix := 0x2801, n := 1, lo := 6, hi := 6, ty := .u16, acc := .rw, kept := .p, dflt := 0x1E, range := [(1, 3600)] },
    { name := "RECALL_TIMEOUT", ix := 0x2801, n := 1, lo := 7, hi := 7, ty := .u16, acc := .rw, kept := .p, dflt := 0x32, range := [(1, 10000)] },
    { name := "PENDING_LIMIT", ix := 0x2801, n := 1, lo := 8, hi := 8, ty := .u16, acc := .rw, kept := .p, dflt := 0x7D0, range := [(1, 60000)] },
    { name := "UNWELD_DRAIN", ix := 0x2801, n := 1, lo := 9, hi := 9, ty := .u16, acc := .rw, kept := .p, dflt := 0x64, range := [(0, 60000)] } ]

/-- Rows of the objects 0x2810 to 0x289F (R213, R214, R215). -/
def rows2810 : List Row :=
  [ { name := "count", ix := 0x2810, n := 96, lo := 0, hi := 0, ty := .u8, acc := .const, kept := .f, dflt := 0x4 },
    { name := "LATE_POLICY_C0", ix := 0x2810, n := 96, lo := 1, hi := 1, ty := .u8, acc := .rw, kept := .p, dflt := 0x1, range := [(0, 1)] },
    { name := "LATE_LIMIT_C0", ix := 0x2810, n := 96, lo := 2, hi := 2, ty := .u32, acc := .rw, kept := .p, dflt := 0x2710 },
    { name := "LATE_POLICY_C2", ix := 0x2810, n := 96, lo := 3, hi := 3, ty := .u8, acc := .rw, kept := .p, dflt := 0x1, range := [(0, 1)] },
    { name := "LATE_LIMIT_C2", ix := 0x2810, n := 96, lo := 4, hi := 4, ty := .u32, acc := .rw, kept := .p },
    { name := "SESSION_TABLE", ix := 0x2870, n := 1, lo := 0, hi := 0, ty := .domain 16777216 true 1, acc := .ro, kept := .v },
    { name := "SESSIONS_IN", ix := 0x2871, n := 1, lo := 0, hi := 0, ty := .u16, acc := .ro, kept := .v },
    { name := "SESSIONS_OUT", ix := 0x2872, n := 1, lo := 0, hi := 0, ty := .u16, acc := .ro, kept := .v },
    { name := "count", ix := 0x2880, n := 1, lo := 0, hi := 0, ty := .u8, acc := .const, kept := .f, dflt := 0x5 },
    { name := "LEQ_COUNT", ix := 0x2880, n := 1, lo := 1, hi := 1, ty := .u16, acc := .ro, kept := .v },
    { name := "LEQ_HEAD", ix := 0x2880, n := 1, lo := 2, hi := 2, ty := .octets 24, acc := .ro, kept := .v },
    { name := "LEQ_POP", ix := 0x2880, n := 1, lo := 3, hi := 3, ty := .u8, acc := .wo, kept := .v, range := [(1, 1)] },
    { name := "LEQ_LOST", ix := 0x2880, n := 1, lo := 4, hi := 4, ty := .u32, acc := .ro, kept := .v },
    { name := "LEQ_FLAGS", ix := 0x2880, n := 1, lo := 5, hi := 5, ty := .u8, acc := .ro, kept := .v },
    { name := "LEQ_ALL", ix := 0x2881, n := 1, lo := 0, hi := 0, ty := .domain 16777216 true 1, acc := .ro, kept := .v },
    { name := "count", ix := 0x2890, n := 16, lo := 0, hi := 0, ty := .u8, acc := .const, kept := .f, dflt := 0x3 },
    { name := "PW_BASE", ix := 0x2890, n := 16, lo := 1, hi := 1, ty := .u64, acc := .rws, kept := .p, mask := 0xFFFFFFFFFFFF },
    { name := "PW_SIZE", ix := 0x2890, n := 16, lo := 2, hi := 2, ty := .u64, acc := .rws, kept := .p, range := [(0, 68719476736)] },
    { name := "PW_POSTED", ix := 0x2890, n := 16, lo := 3, hi := 3, ty := .bool, acc := .rws, kept := .p } ]

/-- Rows of the objects 0x28C0 to 0x28D0 (R216, R217). -/
def rows28C0 : List Row :=
  [ { name := "count", ix := 0x28C0, n := 1, lo := 0, hi := 0, ty := .u8, acc := .const, kept := .f, dflt := 0x5 },
    { name := "UNWELD_CMD", ix := 0x28C0, n := 1, lo := 1, hi := 1, ty := .u8, acc := .wo, kept := .v, range := [(1, 1)] },
    { name := "UNWELD_MODE", ix := 0x28C0, n := 1, lo := 2, hi := 2, ty := .u8, acc := .rw, kept := .p, range := [(0, 1)] },
    { name := "WELD_STATE", ix := 0x28C0, n := 1, lo := 3, hi := 3, ty := .u8, acc := .ro, kept := .v },
    { name := "LAST_SPLICE_EPOCHS", ix := 0x28C0, n := 1, lo := 4, hi := 4, ty := .u16, acc := .ro, kept := .v },
    { name := "CENSUS_TIME", ix := 0x28C0, n := 1, lo := 5, hi := 5, ty := .time64, acc := .ro, kept := .v },
    { name := "count", ix := 0x28D0, n := 1, lo := 0, hi := 0, ty := .u8, acc := .const, kept := .f, dflt := 0xA },
    { name := "ACCEPTED", ix := 0x28D0, n := 1, lo := 1, hi := 1, ty := .u64, acc := .ro, kept := .v },
    { name := "DUPLICATES", ix := 0x28D0, n := 1, lo := 2, hi := 2, ty := .u32, acc := .ro, kept := .v },
    { name := "OUT_OF_WINDOW", ix := 0x28D0, n := 1, lo := 3, hi := 3, ty := .u32, acc := .ro, kept := .v },
    { name := "RETRANSMITTED", ix := 0x28D0, n := 1, lo := 4, hi := 4, ty := .u32, acc := .ro, kept := .v },
    { name := "LATE_APPLIED", ix := 0x28D0, n := 1, lo := 5, hi := 5, ty := .u32, acc := .ro, kept := .v },
    { name := "LATE_FAILED", ix := 0x28D0, n := 1, lo := 6, hi := 6, ty := .u32, acc := .ro, kept := .v },
    { name := "SESSIONS_LOST", ix := 0x28D0, n := 1, lo := 7, hi := 7, ty := .u32, acc := .ro, kept := .v },
    { name := "BAD_SESSION", ix := 0x28D0, n := 1, lo := 8, hi := 8, ty := .u32, acc := .ro, kept := .v },
    { name := "INTEGRITY", ix := 0x28D0, n := 1, lo := 9, hi := 9, ty := .u32, acc := .ro, kept := .v },
    { name := "CLEAR", ix := 0x28D0, n := 1, lo := 10, hi := 10, ty := .u8, acc := .wo, kept := .v, range := [(0, 0)] } ]

/-- Rows of the objects 0x3000 to 0x313F (R237). -/
def rows3000 : List Row :=
  [ { name := "count", ix := 0x3000, n := 320, lo := 0, hi := 0, ty := .u8, acc := .const, kept := .f, dflt := 0x21 },
    { name := "MODE", ix := 0x3000, n := 320, lo := 1, hi := 1, ty := .u8, acc := .rws, kept := .p, range := [(0, 2)] },
    { name := "OWNER", ix := 0x3000, n := 320, lo := 2, hi := 2, ty := .u8, acc := .rws, kept := .p, dflt := 0xFF, range := [(0, 63), (255, 255)] },
    { name := "INVERT", ix := 0x3000, n := 320, lo := 3, hi := 3, ty := .bool, acc := .rws, kept := .p },
    { name := "BIAS", ix := 0x3000, n := 320, lo := 4, hi := 4, ty := .u8, acc := .rws, kept := .p, range := [(0, 2)] },
    { name := "FILTER", ix := 0x3000, n := 320, lo := 5, hi := 5, ty := .u8, acc := .rws, kept := .p, range := [(0, 2)] },
    { name := "GLITCH_NS", ix := 0x3000, n := 320, lo := 6, hi := 6, ty := .u16, acc := .rws, kept := .p },
    { name := "DEBOUNCE_US", ix := 0x3000, n := 320, lo := 7, hi := 7, ty := .u16, acc := .rws, kept := .p },
    { name := "DEBOUNCE_STAMP", ix := 0x3000, n := 320, lo := 8, hi := 8, ty := .u8, acc := .rws, kept := .p, range := [(0, 1)] },
    { name := "READERS", ix := 0x3000, n := 320, lo := 9, hi := 9, ty := .u8, acc := .rws, kept := .p, mask := 0x3 },
    { name := "CHATTER_LIMIT", ix := 0x3000, n := 320, lo := 10, hi := 10, ty := .u16, acc := .rws, kept := .p },
    { name := "SAFE_VALUE", ix := 0x3000, n := 320, lo := 11, hi := 11, ty := .u8, acc := .rws, kept := .p, dflt := 0x2, range := [(0, 2)] },
    { name := "HOLD_POLICY", ix := 0x3000, n := 320, lo := 12, hi := 12, ty := .u8, acc := .rws, kept := .p, dflt := 0x1, range := [(0, 1)] },
    { name := "MISSED", ix := 0x3000, n := 320, lo := 13, hi := 13, ty := .u8, acc := .rws, kept := .p, dflt := 0x1 },
    { name := "ACTIVE_LEVEL", ix := 0x3000, n := 320, lo := 14, hi := 14, ty := .u8, acc := .rws, kept := .p, dflt := 0x1, range := [(0, 1)] },
    { name := "DRIVE_POWER", ix := 0x3000, n := 320, lo := 15, hi := 15, ty := .u32, acc := .rws, kept := .p, range := [(0, 50000)] },
    { name := "EVENT_BUDGET", ix := 0x3000, n := 320, lo := 16, hi := 16, ty := .u32, acc := .rws, kept := .p, range := [(0, 10000000)] },
    { name := "WINDOW_BUDGET", ix := 0x3000, n := 320, lo := 17, hi := 17, ty := .u32, acc := .rws, kept := .p, range := [(0, 100000000)] },
    { name := "WINDOW_LENGTH", ix := 0x3000, n := 320, lo := 18, hi := 18, ty := .u32, acc := .rws, kept := .p, dflt := 0x2710, range := [(160, 3600000)] },
    { name := "GOV_RELATCH", ix := 0x3000, n := 320, lo := 19, hi := 19, ty := .u8, acc := .rws, kept := .p, range := [(0, 1)] },
    { name := "OUT_CMD", ix := 0x3000, n := 320, lo := 20, hi := 20, ty := .octets 16, acc := .wo, kept := .v },
    { name := "GOV_RESET", ix := 0x3000, n := 320, lo := 21, hi := 21, ty := .u8, acc := .wo, kept := .v, range := [(1, 1)] },
    { name := "CELL_STATE", ix := 0x3000, n := 320, lo := 22, hi := 22, ty := .u16, acc := .ro, kept := .v },
    { name := "LEVEL", ix := 0x3000, n := 320, lo := 23, hi := 23, ty := .bool, acc := .ro, kept := .v },
    { name := "PENDING", ix := 0x3000, n := 320, lo := 24, hi := 24, ty := .u8, acc := .ro, kept := .v },
    { name := "LAST_RESULT", ix := 0x3000, n := 320, lo := 25, hi := 25, ty := .u8, acc := .ro, kept := .v },
    { name := "EVENT_ENERGY", ix := 0x3000, n := 320, lo := 26, hi := 26, ty := .u32, acc := .ro, kept := .w },
    { name := "WINDOW_ENERGY", ix := 0x3000, n := 320, lo := 27, hi := 27, ty := .u32, acc := .ro, kept := .w },
    { name := "EDGES", ix := 0x3000, n := 320, lo := 28, hi := 28, ty := .u32, acc := .ro, kept := .v },
    { name := "GOV_CUTS", ix := 0x3000, n := 320, lo := 29, hi := 29, ty := .u32, acc := .ro, kept := .v },
    { name := "LATE_OUT", ix := 0x3000, n := 320, lo := 30, hi := 30, ty := .u32, acc := .ro, kept := .v },
    { name := "PLACE_SHIFTED", ix := 0x3000, n := 320, lo := 31, hi := 31, ty := .u32, acc := .ro, kept := .v },
    { name := "MISMATCHES", ix := 0x3000, n := 320, lo := 32, hi := 32, ty := .u32, acc := .ro, kept := .v },
    { name := "CLEAR", ix := 0x3000, n := 320, lo := 33, hi := 33, ty := .u8, acc := .wo, kept := .v, range := [(0, 0)] } ]

/-- Rows of the objects 0x3200 to 0x3210 (R239, R240). -/
def rows3200 : List Row :=
  [ { name := "count", ix := 0x3200, n := 8, lo := 0, hi := 0, ty := .u8, acc := .const, kept := .f, dflt := 0x7 },
    { name := "BANK_VOLT", ix := 0x3200, n := 8, lo := 1, hi := 1, ty := .u8, acc := .rws, kept := .p, range := [(0, 3)] },
    { name := "DRIVE_MA", ix := 0x3200, n := 8, lo := 2, hi := 2, ty := .u8, acc := .rws, kept := .p, dflt := 0x8, range := [(4, 4), (8, 8), (12, 12)] },
    { name := "SLEW", ix := 0x3200, n := 8, lo := 3, hi := 3, ty := .u8, acc := .rws, kept := .p, range := [(0, 1)] },
    { name := "HYSTERESIS", ix := 0x3200, n := 8, lo := 4, hi := 4, ty := .bool, acc := .rws, kept := .p, dflt := 0x1 },
    { name := "VIO_MV", ix := 0x3200, n := 8, lo := 5, hi := 5, ty := .u16, acc := .ro, kept := .v },
    { name := "BANK_STATE", ix := 0x3200, n := 8, lo := 6, hi := 6, ty := .u8, acc := .ro, kept := .v },
    { name := "BANK_FAULTS", ix := 0x3200, n := 8, lo := 7, hi := 7, ty := .u32, acc := .ro, kept := .v },
    { name := "count", ix := 0x3210, n := 1, lo := 0, hi := 0, ty := .u8, acc := .const, kept := .f, dflt := 0x8 },
    { name := "SOE_SIZE", ix := 0x3210, n := 1, lo := 1, hi := 1, ty := .u16, acc := .rws, kept := .p, range := [(0, 4096)] },
    { name := "SOE_FULL_MODE", ix := 0x3210, n := 1, lo := 2, hi := 2, ty := .u8, acc := .rws, kept := .p, range := [(0, 1)] },
    { name := "SOE_BASE", ix := 0x3210, n := 1, lo := 3, hi := 3, ty := .u64, acc := .ro, kept := .w },
    { name := "SOE_CAPACITY", ix := 0x3210, n := 1, lo := 4, hi := 4, ty := .u32, acc := .ro, kept := .w },
    { name := "SOE_WRITTEN", ix := 0x3210, n := 1, lo := 5, hi := 5, ty := .u64, acc := .ro, kept := .w },
    { name := "SOE_READ", ix := 0x3210, n := 1, lo := 6, hi := 6, ty := .u64, acc := .rw, kept := .w },
    { name := "SOE_DROPS", ix := 0x3210, n := 1, lo := 7, hi := 7, ty := .u32, acc := .ro, kept := .v },
    { name := "SOE_FLAGS", ix := 0x3210, n := 1, lo := 8, hi := 8, ty := .u8, acc := .ro, kept := .v } ]

/-- Rows of the objects 0x4000 to 0x4000 (R266). -/
def rows4000 : List Row :=
  [ { name := "count", ix := 0x4000, n := 1, lo := 0, hi := 0, ty := .u8, acc := .const, kept := .f, dflt := 0x6 },
    { name := "ENG_CLOCK", ix := 0x4000, n := 1, lo := 1, hi := 1, ty := .u16, acc := .const, kept := .f, dflt := 0x190 },
    { name := "RUNNING_MAP", ix := 0x4000, n := 1, lo := 2, hi := 2, ty := .u64, acc := .ro, kept := .v },
    { name := "SLEEPING_MAP", ix := 0x4000, n := 1, lo := 3, hi := 3, ty := .u64, acc := .ro, kept := .v },
    { name := "STALLED_MAP", ix := 0x4000, n := 1, lo := 4, hi := 4, ty := .u64, acc := .ro, kept := .v },
    { name := "ABORTS", ix := 0x4000, n := 1, lo := 5, hi := 5, ty := .u32, acc := .ro, kept := .v },
    { name := "SWAP_WAITING_MAP", ix := 0x4000, n := 1, lo := 6, hi := 6, ty := .u64, acc := .ro, kept := .v } ]

/-- Rows of the objects 0x4100 to 0x413F (R267). -/
def rows4100 : List Row :=
  [ { name := "count", ix := 0x4100, n := 64, lo := 0, hi := 0, ty := .u8, acc := .const, kept := .f, dflt := 0x1C },
    { name := "RUN_ENABLE", ix := 0x4100, n := 64, lo := 1, hi := 1, ty := .bool, acc := .rws, kept := .p },
    { name := "PIN_MAP", ix := 0x4100, n := 64, lo := 2, hi := 2, ty := .octets 16, acc := .rws, kept := .p, dfb := List.replicate 16 0xFF },
    { name := "SWAP_MODE", ix := 0x4100, n := 64, lo := 3, hi := 3, ty := .u8, acc := .rws, kept := .p, range := [(0, 1)] },
    { name := "STALL_LIMIT", ix := 0x4100, n := 64, lo := 4, hi := 4, ty := .u32, acc := .rw, kept := .p, range := [(0, 60000000)] },
    { name := "ENG_CMD", ix := 0x4100, n := 64, lo := 5, hi := 5, ty := .u8, acc := .wo, kept := .v, range := [(1, 2)] },
    { name := "ENG_STATE", ix := 0x4100, n := 64, lo := 6, hi := 6, ty := .u8, acc := .ro, kept := .v },
    { name := "CUR_STATE", ix := 0x4100, n := 64, lo := 7, hi := 7, ty := .u8, acc := .ro, kept := .v },
    { name := "STALL_REASON", ix := 0x4100, n := 64, lo := 8, hi := 8, ty := .u8, acc := .ro, kept := .v },
    { name := "COUNTER", ix := 0x4100, n := 64, lo := 9, hi := 12, ty := .u32, acc := .ro, kept := .v },
    { name := "SH_OUT", ix := 0x4100, n := 64, lo := 13, hi := 13, ty := .u32, acc := .ro, kept := .v },
    { name := "SH_IN", ix := 0x4100, n := 64, lo := 14, hi := 14, ty := .u32, acc := .ro, kept := .v },
    { name := "SH_LEFT", ix := 0x4100, n := 64, lo := 15, hi := 15, ty := .u16, acc := .ro, kept := .v },
    { name := "FLAGS", ix := 0x4100, n := 64, lo := 16, hi := 16, ty := .u8, acc := .ro, kept := .v },
    { name := "MARK", ix := 0x4100, n := 64, lo := 17, hi := 17, ty := .time64, acc := .ro, kept := .v },
    { name := "PUB", ix := 0x4100, n := 64, lo := 18, hi := 18, ty := .u32, acc := .ro, kept := .v },
    { name := "ACTQ_USED", ix := 0x4100, n := 64, lo := 19, hi := 19, ty := .u8, acc := .ro, kept := .v },
    { name := "SWAP_STATE", ix := 0x4100, n := 64, lo := 20, hi := 20, ty := .u8, acc := .ro, kept := .v },
    { name := "TRANSITIONS", ix := 0x4100, n := 64, lo := 21, hi := 21, ty := .u64, acc := .ro, kept := .v },
    { name := "STALLS", ix := 0x4100, n := 64, lo := 22, hi := 22, ty := .u32, acc := .ro, kept := .v },
    { name := "LONG_STALLS", ix := 0x4100, n := 64, lo := 23, hi := 23, ty := .u32, acc := .ro, kept := .v },
    { name := "LATE_ACTIONS", ix := 0x4100, n := 64, lo := 24, hi := 24, ty := .u32, acc := .ro, kept := .v },
    { name := "GOV_REFUSED", ix := 0x4100, n := 64, lo := 25, hi := 25, ty := .u32, acc := .ro, kept := .v },
    { name := "ABORT_RECORD", ix := 0x4100, n := 64, lo := 26, hi := 26, ty := .octets 32, acc := .ro, kept := .v },
    { name := "CANCEL_LIST", ix := 0x4100, n := 64, lo := 27, hi := 27, ty := .octets 256, acc := .ro, kept := .v },
    { name := "CLEAR", ix := 0x4100, n := 64, lo := 28, hi := 28, ty := .u8, acc := .wo, kept := .v, range := [(0, 0)] } ]

/-- Rows of the objects 0x4200 to 0x423F (R281). -/
def rows4200 : List Row :=
  [ { name := "count", ix := 0x4200, n := 64, lo := 0, hi := 0, ty := .u8, acc := .const, kept := .f, dflt := 0x1A },
    { name := "TX_MODE", ix := 0x4200, n := 64, lo := 1, hi := 1, ty := .u8, acc := .rws, kept := .p, range := [(0, 1)] },
    { name := "TX_DEST", ix := 0x4200, n := 64, lo := 2, hi := 2, ty := .u64, acc := .rws, kept := .p, mask := 0xFFFFFFFFFFFF },
    { name := "TX_CLASS", ix := 0x4200, n := 64, lo := 3, hi := 3, ty := .u8, acc := .rws, kept := .p, dflt := 0x2, range := [(0, 3)] },
    { name := "TX_ADDR_MODE", ix := 0x4200, n := 64, lo := 4, hi := 4, ty := .u8, acc := .rws, kept := .p, range := [(0, 1)] },
    { name := "TX_SPAN", ix := 0x4200, n := 64, lo := 5, hi := 5, ty := .u32, acc := .rws, kept := .p, range := [(0, 4294967292)] },
    { name := "TX_LEAD", ix := 0x4200, n := 64, lo := 6, hi := 6, ty := .u32, acc := .rws, kept := .p, dflt := 0x64, range := [(0, 1000000)] },
    { name := "TX_COMMANDER", ix := 0x4200, n := 64, lo := 7, hi := 7, ty := .u8, acc := .rws, kept := .p, range := [(0, 8)] },
    { name := "TX_HWM", ix := 0x4200, n := 64, lo := 8, hi := 8, ty := .u16, acc := .rws, kept := .p },
    { name := "TX_LWM", ix := 0x4200, n := 64, lo := 9, hi := 9, ty := .u16, acc := .rws, kept := .p },
    { name := "RX_HWM", ix := 0x4200, n := 64, lo := 10, hi := 10, ty := .u16, acc := .rws, kept := .p },
    { name := "RX_LWM", ix := 0x4200, n := 64, lo := 11, hi := 11, ty := .u16, acc := .rws, kept := .p },
    { name := "TX_FC_CELL", ix := 0x4200, n := 64, lo := 12, hi := 12, ty := .u16, acc := .rws, kept := .p, dflt := 0xFFFF, range := [(0, 319), (65535, 65535)] },
    { name := "RX_FC_CELL", ix := 0x4200, n := 64, lo := 13, hi := 13, ty := .u16, acc := .rws, kept := .p, dflt := 0xFFFF, range := [(0, 319), (65535, 65535)] },
    { name := "FC_POLARITY", ix := 0x4200, n := 64, lo := 14, hi := 14, ty := .u8, acc := .rws, kept := .p, dflt := 0x3, mask := 0x3 },
    { name := "TX_FILL", ix := 0x4200, n := 64, lo := 15, hi := 15, ty := .u16, acc := .ro, kept := .v },
    { name := "TX_CREDIT_NOW", ix := 0x4200, n := 64, lo := 16, hi := 16, ty := .u16, acc := .ro, kept := .v, dflt := 0x400 },
    { name := "RX_FILL", ix := 0x4200, n := 64, lo := 17, hi := 17, ty := .u16, acc := .ro, kept := .v },
    { name := "RX_RESERVED", ix := 0x4200, n := 64, lo := 18, hi := 18, ty := .u16, acc := .ro, kept := .v },
    { name := "FIFO_FLAGS", ix := 0x4200, n := 64, lo := 19, hi := 19, ty := .u8, acc := .ro, kept := .v },
    { name := "TX_POLL", ix := 0x4200, n := 64, lo := 20, hi := 20, ty := .u64, acc := .ro, kept := .v },
    { name := "FIFO_CMD", ix := 0x4200, n := 64, lo := 21, hi := 21, ty := .u8, acc := .wo, kept := .v, range := [(1, 3)] },
    { name := "TX_FRAMES", ix := 0x4200, n := 64, lo := 22, hi := 22, ty := .u32, acc := .ro, kept := .v },
    { name := "TX_FAILS", ix := 0x4200, n := 64, lo := 23, hi := 23, ty := .u32, acc := .ro, kept := .v },
    { name := "RX_REFUSED", ix := 0x4200, n := 64, lo := 24, hi := 24, ty := .u32, acc := .ro, kept := .v },
    { name := "OPEN_DISCARDS", ix := 0x4200, n := 64, lo := 25, hi := 25, ty := .u32, acc := .ro, kept := .v },
    { name := "CLEAR", ix := 0x4200, n := 64, lo := 26, hi := 26, ty := .u8, acc := .wo, kept := .v, range := [(0, 0)] } ]

/-- Rows of the objects 0x4400 to 0x5000 (R267, R304). -/
def rows4400 : List Row :=
  [ { name := "PROGRAM", ix := 0x4400, n := 64, lo := 0, hi := 0, ty := .domain 13376 true 1, acc := .rws, kept := .p },
    { name := "count", ix := 0x5000, n := 1, lo := 0, hi := 0, ty := .u8, acc := .const, kept := .f, dflt := 0x4 },
    { name := "CAN_CLOCK", ix := 0x5000, n := 1, lo := 1, hi := 1, ty := .u16, acc := .const, kept := .f, dflt := 0x50 },
    { name := "ENABLED_MAP", ix := 0x5000, n := 1, lo := 2, hi := 2, ty := .u16, acc := .ro, kept := .v },
    { name := "BUSOFF_MAP", ix := 0x5000, n := 1, lo := 3, hi := 3, ty := .u16, acc := .ro, kept := .v },
    { name := "ATTENTION_MAP", ix := 0x5000, n := 1, lo := 4, hi := 4, ty := .u16, acc := .ro, kept := .v } ]

/-- Rows of the objects 0x5100 to 0x510F (R305). -/
def rows5100 : List Row :=
  [ { name := "count", ix := 0x5100, n := 16, lo := 0, hi := 0, ty := .u8, acc := .const, kept := .f, dflt := 0x17 },
    { name := "CAN_MODE", ix := 0x5100, n := 16, lo := 1, hi := 1, ty := .u8, acc := .rws, kept := .p, range := [(0, 3)] },
    { name := "FD_MODE", ix := 0x5100, n := 16, lo := 2, hi := 2, ty := .bool, acc := .rws, kept := .p },
    { name := "NOM_BRP", ix := 0x5100, n := 16, lo := 3, hi := 3, ty := .u16, acc := .rws, kept := .p, dflt := 0xA, range := [(1, 512)] },
    { name := "NOM_TSEG1", ix := 0x5100, n := 16, lo := 4, hi := 4, ty := .u16, acc := .rws, kept := .p, dflt := 0xC, range := [(2, 256)] },
    { name := "NOM_TSEG2", ix := 0x5100, n := 16, lo := 5, hi := 5, ty := .u8, acc := .rws, kept := .p, dflt := 0x3, range := [(1, 128)] },
    { name := "NOM_SJW", ix := 0x5100, n := 16, lo := 6, hi := 6, ty := .u8, acc := .rws, kept := .p, dflt := 0x3, range := [(1, 128)] },
    { name := "NOM_TRIPLE", ix := 0x5100, n := 16, lo := 7, hi := 7, ty := .bool, acc := .rws, kept := .p },
    { name := "DATA_BRP", ix := 0x5100, n := 16, lo := 8, hi := 8, ty := .u8, acc := .rws, kept := .p, dflt := 0x1, range := [(1, 32)] },
    { name := "DATA_TSEG1", ix := 0x5100, n := 16, lo := 9, hi := 9, ty := .u8, acc := .rws, kept := .p, dflt := 0x7, range := [(1, 32)] },
    { name := "DATA_TSEG2", ix := 0x5100, n := 16, lo := 10, hi := 10, ty := .u8, acc := .rws, kept := .p, dflt := 0x2, range := [(1, 16)] },
    { name := "DATA_SJW", ix := 0x5100, n := 16, lo := 11, hi := 11, ty := .u8, acc := .rws, kept := .p, dflt := 0x2, range := [(1, 16)] },
    { name := "SSP_MODE", ix := 0x5100, n := 16, lo := 12, hi := 12, ty := .u8, acc := .rws, kept := .p, dflt := 0x1, range := [(0, 2)] },
    { name := "SSP_OFFSET", ix := 0x5100, n := 16, lo := 13, hi := 13, ty := .u8, acc := .rws, kept := .p, dflt := 0x8, range := [(0, 127)] },
    { name := "NO_MATCH", ix := 0x5100, n := 16, lo := 14, hi := 14, ty := .u8, acc := .rws, kept := .p, range := [(0, 1)] },
    { name := "SME_CLASS", ix := 0x5100, n := 16, lo := 15, hi := 15, ty := .u8, acc := .rws, kept := .p, range := [(0, 0), (2, 2)] },
    { name := "RX_FULL_MODE", ix := 0x5100, n := 16, lo := 16, hi := 16, ty := .u8, acc := .rws, kept := .p, range := [(0, 1)] },
    { name := "TX_HOLD", ix := 0x5100, n := 16, lo := 17, hi := 17, ty := .u8, acc := .rws, kept := .p, range := [(0, 1)] },
    { name := "TX_MISSED", ix := 0x5100, n := 16, lo := 18, hi := 18, ty := .u8, acc := .rws, kept := .p, dflt := 0x1 },
    { name := "STUCK_LIMIT", ix := 0x5100, n := 16, lo := 19, hi := 19, ty := .u16, acc := .rw, kept := .p, range := [(0, 60000)] },
    { name := "TX_SUBMIT", ix := 0x5100, n := 16, lo := 20, hi := 20, ty := .octets 80, acc := .wo, kept := .v },
    { name := "TX_ABORT", ix := 0x5100, n := 16, lo := 21, hi := 21, ty := .u8, acc := .wo, kept := .v, mask := 0x7 },
    { name := "CAN_CMD", ix := 0x5100, n := 16, lo := 22, hi := 22, ty := .u8, acc := .wo, kept := .v, range := [(1, 2)] },
    { name := "LAST_TX_TIME", ix := 0x5100, n := 16, lo := 23, hi := 23, ty := .time64, acc := .ro, kept := .v } ]

/-- Rows of the objects 0x5200 to 0x520F (R305). -/
def rows5200 : List Row :=
  [ { name := "FILTERS", ix := 0x5200, n := 16, lo := 0, hi := 0, ty := .domain 2048 true 8, acc := .rws, kept := .p } ]

/-- Rows of the objects 0x5300 to 0x530F (R306). -/
def rows5300 : List Row :=
  [ { name := "count", ix := 0x5300, n := 16, lo := 0, hi := 0, ty := .u8, acc := .const, kept := .f, dflt := 0x1D },
    { name := "BUS_STATE", ix := 0x5300, n := 16, lo := 1, hi := 1, ty := .u8, acc := .ro, kept := .v },
    { name := "TEC", ix := 0x5300, n := 16, lo := 2, hi := 2, ty := .u16, acc := .ro, kept := .v },
    { name := "REC", ix := 0x5300, n := 16, lo := 3, hi := 3, ty := .u8, acc := .ro, kept := .v },
    { name := "LAST_ERROR", ix := 0x5300, n := 16, lo := 4, hi := 4, ty := .u8, acc := .ro, kept := .v },
    { name := "CAN_FLAGS", ix := 0x5300, n := 16, lo := 5, hi := 5, ty := .u16, acc := .ro, kept := .v },
    { name := "CLASH_ID", ix := 0x5300, n := 16, lo := 6, hi := 6, ty := .u32, acc := .ro, kept := .v },
    { name := "CLASH_TIME", ix := 0x5300, n := 16, lo := 7, hi := 7, ty := .time64, acc := .ro, kept := .v },
    { name := "URGENT_USED", ix := 0x5300, n := 16, lo := 8, hi := 8, ty := .u8, acc := .ro, kept := .v },
    { name := "NORMAL_USED", ix := 0x5300, n := 16, lo := 9, hi := 9, ty := .u8, acc := .ro, kept := .v },
    { name := "SCHED_USED", ix := 0x5300, n := 16, lo := 10, hi := 10, ty := .u8, acc := .ro, kept := .v },
    { name := "RX_USED", ix := 0x5300, n := 16, lo := 11, hi := 11, ty := .u8, acc := .ro, kept := .v },
    { name := "RX_POLL", ix := 0x5300, n := 16, lo := 12, hi := 12, ty := .octets 80, acc := .ro, kept := .v },
    { name := "LOOP_DELAY", ix := 0x5300, n := 16, lo := 13, hi := 13, ty := .u8, acc := .ro, kept := .v },
    { name := "TX_OK", ix := 0x5300, n := 16, lo := 14, hi := 14, ty := .u32, acc := .ro, kept := .v },
    { name := "RX_OK", ix := 0x5300, n := 16, lo := 15, hi := 15, ty := .u32, acc := .ro, kept := .v },
    { name := "RX_NO_MATCH", ix := 0x5300, n := 16, lo := 16, hi := 16, ty := .u32, acc := .ro, kept := .v },
    { name := "RX_OVERFLOW", ix := 0x5300, n := 16, lo := 17, hi := 17, ty := .u32, acc := .ro, kept := .v },
    { name := "SME_DROPS", ix := 0x5300, n := 16, lo := 18, hi := 18, ty := .u32, acc := .ro, kept := .v },
    { name := "STUFF_ERRORS", ix := 0x5300, n := 16, lo := 19, hi := 19, ty := .u32, acc := .ro, kept := .v },
    { name := "FORM_ERRORS", ix := 0x5300, n := 16, lo := 20, hi := 20, ty := .u32, acc := .ro, kept := .v },
    { name := "ACK_ERRORS", ix := 0x5300, n := 16, lo := 21, hi := 21, ty := .u32, acc := .ro, kept := .v },
    { name := "BIT_ERRORS", ix := 0x5300, n := 16, lo := 22, hi := 22, ty := .u32, acc := .ro, kept := .v },
    { name := "CRC_ERRORS", ix := 0x5300, n := 16, lo := 23, hi := 23, ty := .u32, acc := .ro, kept := .v },
    { name := "BUSOFF_COUNT", ix := 0x5300, n := 16, lo := 24, hi := 24, ty := .u32, acc := .ro, kept := .v },
    { name := "CLASHES", ix := 0x5300, n := 16, lo := 25, hi := 25, ty := .u32, acc := .ro, kept := .v },
    { name := "STUCK_EVENTS", ix := 0x5300, n := 16, lo := 26, hi := 26, ty := .u32, acc := .ro, kept := .v },
    { name := "TX_DISCARDED", ix := 0x5300, n := 16, lo := 27, hi := 27, ty := .u32, acc := .ro, kept := .v },
    { name := "PEX_COUNT", ix := 0x5300, n := 16, lo := 28, hi := 28, ty := .u32, acc := .ro, kept := .v },
    { name := "CLEAR", ix := 0x5300, n := 16, lo := 29, hi := 29, ty := .u8, acc := .wo, kept := .v, range := [(0, 0)] } ]

/-- Rows of the objects 0x5800 to 0x581F (R322). -/
def rows5800 : List Row :=
  [ { name := "count", ix := 0x5800, n := 32, lo := 0, hi := 0, ty := .u8, acc := .const, kept := .f, dflt := 0x18 },
    { name := "UART_MODE", ix := 0x5800, n := 32, lo := 1, hi := 1, ty := .u8, acc := .rws, kept := .p, range := [(0, 3)] },
    { name := "BAUD", ix := 0x5800, n := 32, lo := 2, hi := 2, ty := .u32, acc := .rws, kept := .p, dflt := 0x1C200, range := [(300, 12000000)] },
    { name := "DATA_BITS", ix := 0x5800, n := 32, lo := 3, hi := 3, ty := .u8, acc := .rws, kept := .p, dflt := 0x8, range := [(5, 9)] },
    { name := "PARITY", ix := 0x5800, n := 32, lo := 4, hi := 4, ty := .u8, acc := .rws, kept := .p, range := [(0, 4)] },
    { name := "STOP_BITS", ix := 0x5800, n := 32, lo := 5, hi := 5, ty := .u8, acc := .rws, kept := .p, range := [(0, 2)] },
    { name := "INVERT", ix := 0x5800, n := 32, lo := 6, hi := 6, ty := .u8, acc := .rws, kept := .p, mask := 0x3 },
    { name := "GAP_UNIT", ix := 0x5800, n := 32, lo := 7, hi := 7, ty := .u8, acc := .rws, kept := .p, range := [(0, 2)] },
    { name := "GAP_VALUE", ix := 0x5800, n := 32, lo := 8, hi := 8, ty := .u32, acc := .rws, kept := .p, range := [(0, 10000000)] },
    { name := "RX_MAX", ix := 0x5800, n := 32, lo := 9, hi := 9, ty := .u16, acc := .rws, kept := .p, dflt := 0x100, range := [(1, 256)] },
    { name := "RX_DEST", ix := 0x5800, n := 32, lo := 10, hi := 10, ty := .u8, acc := .rws, kept := .p, range := [(0, 3)], dflt := 0x1 },
    { name := "RX_FULL_MODE", ix := 0x5800, n := 32, lo := 11, hi := 11, ty := .u8, acc := .rws, kept := .p, range := [(0, 1)] },
    { name := "SME_CLASS", ix := 0x5800, n := 32, lo := 12, hi := 12, ty := .u8, acc := .rws, kept := .p, range := [(0, 0), (2, 2)] },
    { name := "DE_MODE", ix := 0x5800, n := 32, lo := 13, hi := 13, ty := .u8, acc := .rws, kept := .p, range := [(0, 2)] },
    { name := "DE_POLARITY", ix := 0x5800, n := 32, lo := 14, hi := 14, ty := .u8, acc := .rws, kept := .p, dflt := 0x1, range := [(0, 1)] },
    { name := "DE_LEAD", ix := 0x5800, n := 32, lo := 15, hi := 15, ty := .u32, acc := .rws, kept := .p, dflt := 0x3E8, range := [(0, 1000000)] },
    { name := "DE_LAG", ix := 0x5800, n := 32, lo := 16, hi := 16, ty := .u32, acc := .rws, kept := .p, range := [(0, 1000000)] },
    { name := "ECHO_CHECK", ix := 0x5800, n := 32, lo := 17, hi := 17, ty := .bool, acc := .rws, kept := .p },
    { name := "BREAK_BITS", ix := 0x5800, n := 32, lo := 18, hi := 18, ty := .u8, acc := .rws, kept := .p, dflt := 0xD, range := [(11, 255)] },
    { name := "TX_HOLD", ix := 0x5800, n := 32, lo := 19, hi := 19, ty := .u8, acc := .rws, kept := .p, range := [(0, 1)] },
    { name := "TX_MISSED", ix := 0x5800, n := 32, lo := 20, hi := 20, ty := .u8, acc := .rws, kept := .p, dflt := 0x1 },
    { name := "LINE_LIMIT", ix := 0x5800, n := 32, lo := 21, hi := 21, ty := .u16, acc := .rw, kept := .p, range := [(0, 60000)] },
    { name := "TX_SUBMIT", ix := 0x5800, n := 32, lo := 22, hi := 22, ty := .octets 272, acc := .wo, kept := .v },
    { name := "TX_ABORT", ix := 0x5800, n := 32, lo := 23, hi := 23, ty := .u8, acc := .wo, kept := .v, mask := 0x3 },
    { name := "UART_CMD", ix := 0x5800, n := 32, lo := 24, hi := 24, ty := .u8, acc := .wo, kept := .v, range := [(1, 2)] } ]

/-- Rows of the objects 0x5880 to 0x589F (R323). -/
def rows5880 : List Row :=
  [ { name := "count", ix := 0x5880, n := 32, lo := 0, hi := 0, ty := .u8, acc := .const, kept := .f, dflt := 0x15 },
    { name := "LINE_STATE", ix := 0x5880, n := 32, lo := 1, hi := 1, ty := .u8, acc := .ro, kept := .v },
    { name := "UART_FLAGS", ix := 0x5880, n := 32, lo := 2, hi := 2, ty := .u16, acc := .ro, kept := .v },
    { name := "ACTUAL_BAUD", ix := 0x5880, n := 32, lo := 3, hi := 3, ty := .u32, acc := .ro, kept := .v },
    { name := "BAUD_ERROR", ix := 0x5880, n := 32, lo := 4, hi := 4, ty := .i32, acc := .ro, kept := .v },
    { name := "TX_USED", ix := 0x5880, n := 32, lo := 5, hi := 5, ty := .u8, acc := .ro, kept := .v },
    { name := "SCHED_USED", ix := 0x5880, n := 32, lo := 6, hi := 6, ty := .u8, acc := .ro, kept := .v },
    { name := "RX_USED", ix := 0x5880, n := 32, lo := 7, hi := 7, ty := .u8, acc := .ro, kept := .v },
    { name := "RX_POLL", ix := 0x5880, n := 32, lo := 8, hi := 8, ty := .octets 272, acc := .ro, kept := .v },
    { name := "LAST_TX_RESULT", ix := 0x5880, n := 32, lo := 9, hi := 9, ty := .u8, acc := .ro, kept := .v },
    { name := "LAST_TX_TIME", ix := 0x5880, n := 32, lo := 10, hi := 10, ty := .time64, acc := .ro, kept := .v },
    { name := "TX_MESSAGES", ix := 0x5880, n := 32, lo := 11, hi := 11, ty := .u32, acc := .ro, kept := .v },
    { name := "RX_MESSAGES", ix := 0x5880, n := 32, lo := 12, hi := 12, ty := .u32, acc := .ro, kept := .v },
    { name := "PARITY_ERRORS", ix := 0x5880, n := 32, lo := 13, hi := 13, ty := .u32, acc := .ro, kept := .v },
    { name := "FRAMING_ERRORS", ix := 0x5880, n := 32, lo := 14, hi := 14, ty := .u32, acc := .ro, kept := .v },
    { name := "NOISE_EVENTS", ix := 0x5880, n := 32, lo := 15, hi := 15, ty := .u32, acc := .ro, kept := .v },
    { name := "BREAKS", ix := 0x5880, n := 32, lo := 16, hi := 16, ty := .u32, acc := .ro, kept := .v },
    { name := "RX_OVERFLOW", ix := 0x5880, n := 32, lo := 17, hi := 17, ty := .u32, acc := .ro, kept := .v },
    { name := "SME_DROPS", ix := 0x5880, n := 32, lo := 18, hi := 18, ty := .u32, acc := .ro, kept := .v },
    { name := "COLLISIONS", ix := 0x5880, n := 32, lo := 19, hi := 19, ty := .u32, acc := .ro, kept := .v },
    { name := "TX_DISCARDED", ix := 0x5880, n := 32, lo := 20, hi := 20, ty := .u32, acc := .ro, kept := .v },
    { name := "CLEAR", ix := 0x5880, n := 32, lo := 21, hi := 21, ty := .u8, acc := .wo, kept := .v, range := [(0, 0)] } ]

/-- Rows of the objects 0x6000 to 0x6001 (R347). Reserved bits of INT_EN0 and INT_EN1 are stored (DESIGN CHOICE, log entry 119). -/
def rows6000 : List Row :=
  [ { name := "count", ix := 0x6000, n := 1, lo := 0, hi := 0, ty := .u8, acc := .const, kept := .f, dflt := 0xE },
    { name := "HB_ENABLE", ix := 0x6000, n := 1, lo := 1, hi := 1, ty := .u8, acc := .rws, kept := .p, mask := 0x3 },
    { name := "MBOX_BASE", ix := 0x6000, n := 1, lo := 2, hi := 2, ty := .u32, acc := .rws, kept := .p },
    { name := "TGT_HOLD", ix := 0x6000, n := 1, lo := 3, hi := 3, ty := .u16, acc := .rw, kept := .p, dflt := 0x40, range := [(0, 4096)] },
    { name := "MST_WAIT_LIMIT", ix := 0x6000, n := 1, lo := 4, hi := 4, ty := .u16, acc := .rw, kept := .p, dflt := 0x400, range := [(1, 65535)] },
    { name := "MST_RETRY_LIMIT", ix := 0x6000, n := 1, lo := 5, hi := 5, ty := .u16, acc := .rw, kept := .p, dflt := 0x3E8 },
    { name := "FW_COMMANDER", ix := 0x6000, n := 1, lo := 6, hi := 6, ty := .u8, acc := .rw, kept := .p, range := [(0, 8)] },
    { name := "INT_EN0", ix := 0x6000, n := 1, lo := 7, hi := 7, ty := .u32, acc := .rw, kept := .p },
    { name := "INT_EN1", ix := 0x6000, n := 1, lo := 8, hi := 8, ty := .u32, acc := .rw, kept := .p },
    { name := "SB_SELECT", ix := 0x6000, n := 1, lo := 9, hi := 9, ty := .u32, acc := .rw, kept := .p, dflt := 0xFFFFFFFF },
    { name := "HB_CLK_KHZ", ix := 0x6000, n := 1, lo := 10, hi := 10, ty := .u32, acc := .ro, kept := .v },
    { name := "FW_BASE", ix := 0x6000, n := 1, lo := 11, hi := 14, ty := .u64, acc := .rws, kept := .p, mask := 0xFFFFFFFFFFFF },
    { name := "count", ix := 0x6001, n := 1, lo := 0, hi := 0, ty := .u8, acc := .const, kept := .f, dflt := 0x6 },
    { name := "RETRIES", ix := 0x6001, n := 1, lo := 1, hi := 1, ty := .u32, acc := .ro, kept := .v },
    { name := "CROSS_COUNT", ix := 0x6001, n := 1, lo := 2, hi := 2, ty := .u32, acc := .ro, kept := .v },
    { name := "MST_TIMEOUTS", ix := 0x6001, n := 1, lo := 3, hi := 3, ty := .u32, acc := .ro, kept := .v },
    { name := "MST_RETRIES", ix := 0x6001, n := 1, lo := 4, hi := 4, ty := .u32, acc := .ro, kept := .v },
    { name := "TGT_ERRORS", ix := 0x6001, n := 1, lo := 5, hi := 5, ty := .u32, acc := .ro, kept := .v },
    { name := "CLEAR", ix := 0x6001, n := 1, lo := 6, hi := 6, ty := .u8, acc := .wo, kept := .v, range := [(0, 0)] } ]

/-- Rows of the objects 0x6100 to 0x618F (R348). -/
def rows6100 : List Row :=
  [ { name := "count", ix := 0x6100, n := 1, lo := 0, hi := 0, ty := .u8, acc := .const, kept := .f, dflt := 0x3 },
    { name := "GOOSE_RX", ix := 0x6100, n := 1, lo := 1, hi := 1, ty := .u32, acc := .ro, kept := .v },
    { name := "GOOSE_TX", ix := 0x6100, n := 1, lo := 2, hi := 2, ty := .u32, acc := .ro, kept := .v },
    { name := "CLEAR", ix := 0x6100, n := 1, lo := 3, hi := 3, ty := .u8, acc := .wo, kept := .v, range := [(0, 0)] },
    { name := "count", ix := 0x6110, n := 128, lo := 0, hi := 0, ty := .u8, acc := .const, kept := .f, dflt := 0xF },
    { name := "SUB_ENABLE", ix := 0x6110, n := 128, lo := 1, hi := 1, ty := .bool, acc := .rws, kept := .p },
    { name := "SUB_PORT", ix := 0x6110, n := 128, lo := 2, hi := 2, ty := .u8, acc := .rws, kept := .p, range := [(0, 3)] },
    { name := "SUB_MAC", ix := 0x6110, n := 128, lo := 3, hi := 3, ty := .octets 6, acc := .rws, kept := .p, dfb := [0x01, 0x0C, 0xCD, 0x01, 0, 0] },
    { name := "SUB_APPID", ix := 0x6110, n := 128, lo := 4, hi := 4, ty := .u16, acc := .rws, kept := .p, range := [(0, 16383)] },
    { name := "SUB_GOCBREF", ix := 0x6110, n := 128, lo := 5, hi := 5, ty := .vstring 129, acc := .rws, kept := .p },
    { name := "SUB_DATSET", ix := 0x6110, n := 128, lo := 6, hi := 6, ty := .vstring 129, acc := .rws, kept := .p },
    { name := "SUB_CONFREV", ix := 0x6110, n := 128, lo := 7, hi := 7, ty := .u32, acc := .rws, kept := .p },
    { name := "SUB_MEMBERS", ix := 0x6110, n := 128, lo := 8, hi := 8, ty := .u8, acc := .rws, kept := .p, dflt := 0x1, range := [(1, 64)] },
    { name := "SUB_SIM", ix := 0x6110, n := 128, lo := 9, hi := 9, ty := .bool, acc := .rws, kept := .p },
    { name := "SUB_INVALID_MS", ix := 0x6110, n := 128, lo := 10, hi := 10, ty := .u32, acc := .rws, kept := .p, dflt := 0x3E8 },
    { name := "SUB_STATE", ix := 0x6110, n := 128, lo := 11, hi := 11, ty := .u8, acc := .ro, kept := .v },
    { name := "ST_NUM", ix := 0x6110, n := 128, lo := 12, hi := 12, ty := .u32, acc := .ro, kept := .v },
    { name := "SQ_NUM", ix := 0x6110, n := 128, lo := 13, hi := 13, ty := .u32, acc := .ro, kept := .v },
    { name := "LAST_RX", ix := 0x6110, n := 128, lo := 14, hi := 14, ty := .time64, acc := .ro, kept := .v },
    { name := "SUB_DISCARDS", ix := 0x6110, n := 128, lo := 15, hi := 15, ty := .u32, acc := .ro, kept := .v } ]

/-- Rows of the objects 0x6190 to 0x6202 (R348, R349). -/
def rows6190 : List Row :=
  [ { name := "count", ix := 0x6190, n := 32, lo := 0, hi := 0, ty := .u8, acc := .const, kept := .f, dflt := 0xF },
    { name := "PUB_ENABLE", ix := 0x6190, n := 32, lo := 1, hi := 1, ty := .bool, acc := .rws, kept := .p },
    { name := "PUB_PORT", ix := 0x6190, n := 32, lo := 2, hi := 2, ty := .u8, acc := .rws, kept := .p, range := [(0, 3)] },
    { name := "PUB_MAC", ix := 0x6190, n := 32, lo := 3, hi := 3, ty := .octets 6, acc := .rws, kept := .p, dfb := [0x01, 0x0C, 0xCD, 0x01, 0, 0] },
    { name := "PUB_APPID", ix := 0x6190, n := 32, lo := 4, hi := 4, ty := .u16, acc := .rws, kept := .p, range := [(0, 16383)] },
    { name := "PUB_VLAN", ix := 0x6190, n := 32, lo := 5, hi := 5, ty := .u16, acc := .rws, kept := .p, dflt := 0x8000 },
    { name := "PUB_GOCBREF", ix := 0x6190, n := 32, lo := 6, hi := 6, ty := .vstring 129, acc := .rws, kept := .p },
    { name := "PUB_DATSET", ix := 0x6190, n := 32, lo := 7, hi := 7, ty := .vstring 129, acc := .rws, kept := .p },
    { name := "PUB_GOID", ix := 0x6190, n := 32, lo := 8, hi := 8, ty := .vstring 129, acc := .rws, kept := .p },
    { name := "PUB_CONFREV", ix := 0x6190, n := 32, lo := 9, hi := 9, ty := .u32, acc := .rws, kept := .p, dflt := 0x1 },
    { name := "MIN_TIME", ix := 0x6190, n := 32, lo := 10, hi := 10, ty := .u16, acc := .rws, kept := .p, dflt := 0x2, range := [(1, 1000)] },
    { name := "MAX_TIME", ix := 0x6190, n := 32, lo := 11, hi := 11, ty := .u16, acc := .rws, kept := .p, dflt := 0x3E8, range := [(100, 60000)] },
    { name := "PUB_GROUPS", ix := 0x6190, n := 32, lo := 12, hi := 12, ty := .octets 16, acc := .rws, kept := .p, dfb := List.replicate 16 0xFF },
    { name := "PUB_STNUM", ix := 0x6190, n := 32, lo := 13, hi := 13, ty := .u32, acc := .ro, kept := .v, dflt := 0x1 },
    { name := "PUB_SQNUM", ix := 0x6190, n := 32, lo := 14, hi := 14, ty := .u32, acc := .ro, kept := .v },
    { name := "PUB_SENT", ix := 0x6190, n := 32, lo := 15, hi := 15, ty := .u32, acc := .ro, kept := .v },
    { name := "MAP_TABLE", ix := 0x6200, n := 1, lo := 0, hi := 0, ty := .domain 393216 true 48, acc := .rws, kept := .p },
    { name := "OB_TABLE", ix := 0x6201, n := 1, lo := 0, hi := 0, ty := .domain 4096 true 16, acc := .rws, kept := .p },
    { name := "HIB_TABLE", ix := 0x6202, n := 1, lo := 0, hi := 0, ty := .domain 512 true 8, acc := .rws, kept := .p } ]

/-- Rows of the objects 0x6203 to 0x7027 (R349, R361). -/
def rows6203 : List Row :=
  [ { name := "count", ix := 0x6203, n := 1, lo := 0, hi := 0, ty := .u8, acc := .const, kept := .f, dflt := 0x7 },
    { name := "MAP_ENTRIES", ix := 0x6203, n := 1, lo := 1, hi := 1, ty := .u16, acc := .ro, kept := .v },
    { name := "RUNS", ix := 0x6203, n := 1, lo := 2, hi := 2, ty := .u64, acc := .ro, kept := .v },
    { name := "CYCLE_OVERRUNS", ix := 0x6203, n := 1, lo := 3, hi := 3, ty := .u32, acc := .ro, kept := .v },
    { name := "OUT_REFUSED", ix := 0x6203, n := 1, lo := 4, hi := 4, ty := .u32, acc := .ro, kept := .v },
    { name := "OB_REPLACED", ix := 0x6203, n := 1, lo := 5, hi := 5, ty := .u32, acc := .ro, kept := .v },
    { name := "FIELD_MISSING", ix := 0x6203, n := 1, lo := 6, hi := 6, ty := .u32, acc := .ro, kept := .v },
    { name := "CLEAR", ix := 0x6203, n := 1, lo := 7, hi := 7, ty := .u8, acc := .wo, kept := .v, range := [(0, 0)] },
    { name := "EVENT_IN", ix := 0x62C0, n := 64, lo := 0, hi := 0, ty := .octets 256, acc := .wo, kept := .v },
    { name := "count", ix := 0x6300, n := 128, lo := 0, hi := 0, ty := .u8, acc := .const, kept := .f, dflt := 0x40 },
    { name := "MAP_RESULT", ix := 0x6300, n := 128, lo := 1, hi := 64, ty := .u64, acc := .ro, kept := .v, dflt := mapResultInvalid },
    { name := "count", ix := 0x7000, n := 1, lo := 0, hi := 0, ty := .u8, acc := .const, kept := .f, dflt := 0x2 },
    { name := "UNITS", ix := 0x7000, n := 1, lo := 1, hi := 1, ty := .u8, acc := .const, kept := .f, dflt := 0x18 },
    { name := "OOS_MAP", ix := 0x7000, n := 1, lo := 2, hi := 2, ty := .u32, acc := .ro, kept := .v },
    { name := "count", ix := 0x7010, n := 24, lo := 0, hi := 0, ty := .u8, acc := .const, kept := .f, dflt := 0x6 },
    { name := "WIDTH", ix := 0x7010, n := 24, lo := 1, hi := 1, ty := .u8, acc := .rws, kept := .p, dflt := 0x20 },
    { name := "POLY", ix := 0x7010, n := 24, lo := 2, hi := 2, ty := .u32, acc := .rws, kept := .p, dflt := 0x4C11DB7 },
    { name := "INIT", ix := 0x7010, n := 24, lo := 3, hi := 3, ty := .u32, acc := .rws, kept := .p, dflt := 0xFFFFFFFF },
    { name := "XOROUT", ix := 0x7010, n := 24, lo := 4, hi := 4, ty := .u32, acc := .rws, kept := .p, dflt := 0xFFFFFFFF },
    { name := "REFIN", ix := 0x7010, n := 24, lo := 5, hi := 5, ty := .bool, acc := .rws, kept := .p, dflt := 0x1 },
    { name := "REFOUT", ix := 0x7010, n := 24, lo := 6, hi := 6, ty := .bool, acc := .rws, kept := .p, dflt := 0x1 } ]

/-- Rows of the objects 0x7040 to 0x7097 (R361). -/
def rows7040 : List Row :=
  [ { name := "STREAMS", ix := 0x7040, n := 24, lo := 0, hi := 0, ty := .domain 1024 true 16, acc := .rws, kept := .p },
    { name := "count", ix := 0x7060, n := 24, lo := 0, hi := 0, ty := .u8, acc := .const, kept := .f, dflt := 0xA },
    { name := "PROTECTED", ix := 0x7060, n := 24, lo := 1, hi := 1, ty := .u32, acc := .ro, kept := .v },
    { name := "VERIFIED", ix := 0x7060, n := 24, lo := 2, hi := 2, ty := .u32, acc := .ro, kept := .v },
    { name := "CHECK_FAILS", ix := 0x7060, n := 24, lo := 3, hi := 3, ty := .u32, acc := .ro, kept := .v },
    { name := "REPEATS", ix := 0x7060, n := 24, lo := 4, hi := 4, ty := .u32, acc := .ro, kept := .v },
    { name := "MISSED", ix := 0x7060, n := 24, lo := 5, hi := 5, ty := .u32, acc := .ro, kept := .v },
    { name := "GAPS", ix := 0x7060, n := 24, lo := 6, hi := 6, ty := .u32, acc := .ro, kept := .v },
    { name := "SHORT", ix := 0x7060, n := 24, lo := 7, hi := 7, ty := .u32, acc := .ro, kept := .v },
    { name := "SELFCHECK_TRANSIENT", ix := 0x7060, n := 24, lo := 8, hi := 8, ty := .u32, acc := .ro, kept := .v },
    { name := "CK_CMD", ix := 0x7060, n := 24, lo := 9, hi := 9, ty := .u8, acc := .wo, kept := .v, range := [(1, 1)] },
    { name := "CLEAR", ix := 0x7060, n := 24, lo := 10, hi := 10, ty := .u8, acc := .wo, kept := .v, range := [(0, 0)] },
    { name := "count", ix := 0x7080, n := 24, lo := 0, hi := 0, ty := .u8, acc := .const, kept := .f, dflt := 0x7 },
    { name := "JOB_ADDR", ix := 0x7080, n := 24, lo := 1, hi := 1, ty := .u64, acc := .rw, kept := .v, mask := 0xFFFFFFFFFFFF },
    { name := "JOB_LEN", ix := 0x7080, n := 24, lo := 2, hi := 2, ty := .u32, acc := .rw, kept := .v },
    { name := "JOB_CTX", ix := 0x7080, n := 24, lo := 3, hi := 3, ty := .u8, acc := .rw, kept := .v, range := [(0, 63)] },
    { name := "JOB_CMD", ix := 0x7080, n := 24, lo := 4, hi := 4, ty := .u8, acc := .wo, kept := .v, range := [(1, 3)] },
    { name := "JOB_STATE", ix := 0x7080, n := 24, lo := 5, hi := 5, ty := .u8, acc := .ro, kept := .v },
    { name := "JOB_RESULT", ix := 0x7080, n := 24, lo := 6, hi := 6, ty := .u32, acc := .ro, kept := .v },
    { name := "JOB_STATUS", ix := 0x7080, n := 24, lo := 7, hi := 7, ty := .u8, acc := .ro, kept := .v } ]

/-- Rows of the objects 0x70A0 to 0x7400 (R361, R376). -/
def rows70A0 : List Row :=
  [ { name := "count", ix := 0x70A0, n := 24, lo := 0, hi := 0, ty := .u8, acc := .const, kept := .f, dflt := 0x4 },
    { name := "CTX_SELECT", ix := 0x70A0, n := 24, lo := 1, hi := 1, ty := .u8, acc := .rw, kept := .v, range := [(0, 63)] },
    { name := "CTX_VALUE", ix := 0x70A0, n := 24, lo := 2, hi := 2, ty := .u32, acc := .rw, kept := .w, dflt := 0xFFFFFFFF },
    { name := "CTX_ALIVE", ix := 0x70A0, n := 24, lo := 3, hi := 3, ty := .u8, acc := .rw, kept := .w },
    { name := "CTX_FLAGS", ix := 0x70A0, n := 24, lo := 4, hi := 4, ty := .u8, acc := .ro, kept := .w },
    { name := "count", ix := 0x7400, n := 1, lo := 0, hi := 0, ty := .u8, acc := .const, kept := .f, dflt := 0xE },
    { name := "SME_STATE", ix := 0x7400, n := 1, lo := 1, hi := 1, ty := .u8, acc := .ro, kept := .v },
    { name := "MORDANT_EPOCH", ix := 0x7400, n := 1, lo := 2, hi := 2, ty := .u64, acc := .ro, kept := .v },
    { name := "MISMATCHES", ix := 0x7400, n := 1, lo := 3, hi := 3, ty := .u32, acc := .ro, kept := .v },
    { name := "TRANSIENT", ix := 0x7400, n := 1, lo := 4, hi := 4, ty := .u32, acc := .ro, kept := .v },
    { name := "WINDOW_COUNT", ix := 0x7400, n := 1, lo := 5, hi := 5, ty := .u8, acc := .ro, kept := .v },
    { name := "SELFTESTS", ix := 0x7400, n := 1, lo := 6, hi := 6, ty := .u32, acc := .ro, kept := .v },
    { name := "SELFTEST_RESULT", ix := 0x7400, n := 1, lo := 7, hi := 7, ty := .u8, acc := .ro, kept := .v },
    { name := "OOS_MAP", ix := 0x7400, n := 1, lo := 8, hi := 8, ty := .u8, acc := .ro, kept := .v },
    { name := "LAST_MISMATCH", ix := 0x7400, n := 1, lo := 9, hi := 9, ty := .octets 16, acc := .ro, kept := .v },
    { name := "MAX_RESTART_NS", ix := 0x7400, n := 1, lo := 10, hi := 10, ty := .u32, acc := .ro, kept := .v },
    { name := "SKIPPED_BY_TEST", ix := 0x7400, n := 1, lo := 11, hi := 11, ty := .u32, acc := .ro, kept := .v },
    { name := "INJECT_STATE", ix := 0x7400, n := 1, lo := 12, hi := 12, ty := .u8, acc := .ro, kept := .v },
    { name := "EXTRA_MORDANT", ix := 0x7400, n := 1, lo := 13, hi := 13, ty := .u32, acc := .ro, kept := .v },
    { name := "ECC_CORRECTED", ix := 0x7400, n := 1, lo := 14, hi := 14, ty := .u32, acc := .ro, kept := .v } ]

/-- Rows of the objects 0x7410 to 0x7410 (R377). -/
def rows7410 : List Row :=
  [ { name := "count", ix := 0x7410, n := 1, lo := 0, hi := 0, ty := .u8, acc := .const, kept := .f, dflt := 0x6 },
    { name := "TCONST_BUF", ix := 0x7410, n := 1, lo := 1, hi := 1, ty := .u16, acc := .rws, kept := .p, dflt := 0x3C96, range := [(1, 65535)] },
    { name := "SELFTEST_CMD", ix := 0x7410, n := 1, lo := 2, hi := 2, ty := .u8, acc := .wo, kept := .v, range := [(1, 1)] },
    { name := "SELFTEST_INTERVAL", ix := 0x7410, n := 1, lo := 3, hi := 3, ty := .u16, acc := .rw, kept := .p, range := [(0, 8760)] },
    { name := "DEBUG_CMD", ix := 0x7410, n := 1, lo := 4, hi := 4, ty := .u8, acc := .wo, kept := .v, range := [(1, 2)] },
    { name := "DEBUG_SUPPRESS", ix := 0x7410, n := 1, lo := 5, hi := 5, ty := .bool, acc := .rw, kept := .p, dflt := 0x1 },
    { name := "CLEAR", ix := 0x7410, n := 1, lo := 6, hi := 6, ty := .u8, acc := .wo, kept := .v, range := [(0, 0)] } ]

/-- Rows of the objects 0x7800 to 0x7800 (R404). -/
def rows7800 : List Row :=
  [ { name := "count", ix := 0x7800, n := 1, lo := 0, hi := 0, ty := .u8, acc := .const, kept := .f, dflt := 0x15 },
    { name := "COMBINE", ix := 0x7800, n := 1, lo := 1, hi := 1, ty := .u8, acc := .rws, kept := .p, range := [(0, 2)] },
    { name := "PRIO_FEED", ix := 0x7800, n := 1, lo := 2, hi := 2, ty := .u8, acc := .rws, kept := .p, dflt := 0x1, range := [(1, 2)] },
    { name := "PRIO_RETURN", ix := 0x7800, n := 1, lo := 3, hi := 3, ty := .u16, acc := .rws, kept := .p, dflt := 0x3E8, range := [(0, 60000)] },
    { name := "BBM_US", ix := 0x7800, n := 1, lo := 4, hi := 4, ty := .u8, acc := .rws, kept := .p, dflt := 0x5, range := [(1, 100)] },
    { name := "UV_MV", ix := 0x7800, n := 1, lo := 5, hi := 5, ty := .u16, acc := .rws, kept := .p, dflt := 0x1D4C, range := [(5000, 30000)] },
    { name := "UV_HYST_MV", ix := 0x7800, n := 1, lo := 6, hi := 6, ty := .u16, acc := .rws, kept := .p, dflt := 0x1F4, range := [(100, 5000)] },
    { name := "WARN_MV", ix := 0x7800, n := 1, lo := 7, hi := 7, ty := .u16, acc := .rws, kept := .p, dflt := 0x2134, range := [(5100, 44000)] },
    { name := "OV_MV", ix := 0x7800, n := 1, lo := 8, hi := 8, ty := .u16, acc := .rws, kept := .p, dflt := 0x9C40, range := [(12000, 45000)] },
    { name := "OV_HYST_MV", ix := 0x7800, n := 1, lo := 9, hi := 9, ty := .u16, acc := .rws, kept := .p, dflt := 0x3E8, range := [(100, 5000)] },
    { name := "INSERT_DELAY", ix := 0x7800, n := 1, lo := 10, hi := 10, ty := .u16, acc := .rws, kept := .p, dflt := 0x64, range := [(0, 10000)] },
    { name := "RAMP_RATE", ix := 0x7800, n := 1, lo := 11, hi := 11, ty := .u16, acc := .rws, kept := .p, dflt := 0x7D0, range := [(100, 50000)] },
    { name := "BUS_CAP_UF", ix := 0x7800, n := 1, lo := 12, hi := 12, ty := .u32, acc := .rws, kept := .p, dflt := 0x898, range := [(1, 200000)] },
    { name := "SENSE_UOHM", ix := 0x7800, n := 1, lo := 13, hi := 13, ty := .u32, acc := .rws, kept := .p, dflt := 0x7D0, range := [(200, 100000)] },
    { name := "ILIM", ix := 0x7800, n := 1, lo := 14, hi := 14, ty := .u16, acc := .rws, kept := .p, dflt := 0xFA, range := [(100, 1000)] },
    { name := "FAULT_TIME", ix := 0x7800, n := 1, lo := 15, hi := 15, ty := .u32, acc := .rws, kept := .p, dflt := 0x7D0, range := [(10, 100000)] },
    { name := "SETTLE_TIME", ix := 0x7800, n := 1, lo := 16, hi := 16, ty := .u16, acc := .rws, kept := .p, dflt := 0xA, range := [(0, 1000)] },
    { name := "RETRY_TIME", ix := 0x7800, n := 1, lo := 17, hi := 17, ty := .u32, acc := .rws, kept := .p, dflt := 0x3E8, range := [(10, 600000)] },
    { name := "RETRY_LIMIT", ix := 0x7800, n := 1, lo := 18, hi := 18, ty := .u8, acc := .rws, kept := .p, dflt := 0x3 },
    { name := "BUS_UV_MV", ix := 0x7800, n := 1, lo := 19, hi := 19, ty := .u16, acc := .rws, kept := .p, dflt := 0x1B58, range := [(4000, 30000)] },
    { name := "RAMP_LIMIT", ix := 0x7800, n := 1, lo := 20, hi := 20, ty := .u16, acc := .rws, kept := .p, dflt := 0x64, range := [(1, 10000)] },
    { name := "TEST_TIME", ix := 0x7800, n := 1, lo := 21, hi := 21, ty := .u16, acc := .rws, kept := .p, dflt := 0x64, range := [(10, 10000)] } ]

/-- Rows of the objects 0x7810 to 0x7810 (R405). -/
def rows7810 : List Row :=
  [ { name := "count", ix := 0x7810, n := 1, lo := 0, hi := 0, ty := .u8, acc := .const, kept := .f, dflt := 0x12 },
    { name := "PE_STATE", ix := 0x7810, n := 1, lo := 1, hi := 1, ty := .u8, acc := .ro, kept := .v, dflt := 0x4 },
    { name := "PE_FLAGS", ix := 0x7810, n := 1, lo := 2, hi := 2, ty := .u16, acc := .ro, kept := .v },
    { name := "FEED1_MV", ix := 0x7810, n := 1, lo := 3, hi := 3, ty := .u16, acc := .ro, kept := .v },
    { name := "FEED2_MV", ix := 0x7810, n := 1, lo := 4, hi := 4, ty := .u16, acc := .ro, kept := .v },
    { name := "BUS_MV", ix := 0x7810, n := 1, lo := 5, hi := 5, ty := .u16, acc := .ro, kept := .v },
    { name := "BUS_MA", ix := 0x7810, n := 1, lo := 6, hi := 6, ty := .u32, acc := .ro, kept := .v },
    { name := "CARRYING", ix := 0x7810, n := 1, lo := 7, hi := 7, ty := .u8, acc := .ro, kept := .v },
    { name := "RETRY_COUNT", ix := 0x7810, n := 1, lo := 8, hi := 8, ty := .u8, acc := .ro, kept := .v },
    { name := "TRIPS", ix := 0x7810, n := 1, lo := 9, hi := 9, ty := .u32, acc := .ro, kept := .b },
    { name := "REV_TURNOFFS", ix := 0x7810, n := 1, lo := 10, hi := 10, ty := .u32, acc := .ro, kept := .v },
    { name := "TRANSFERS", ix := 0x7810, n := 1, lo := 11, hi := 11, ty := .u32, acc := .ro, kept := .v },
    { name := "FEED_TRANSIENT", ix := 0x7810, n := 1, lo := 12, hi := 12, ty := .u32, acc := .ro, kept := .v },
    { name := "FEED_LASTING", ix := 0x7810, n := 1, lo := 13, hi := 13, ty := .u32, acc := .ro, kept := .v },
    { name := "WARNINGS", ix := 0x7810, n := 1, lo := 14, hi := 14, ty := .u32, acc := .ro, kept := .v },
    { name := "TEST_RESULT", ix := 0x7810, n := 1, lo := 15, hi := 15, ty := .u8, acc := .ro, kept := .v },
    { name := "LIMIT_MA", ix := 0x7810, n := 1, lo := 16, hi := 16, ty := .u32, acc := .ro, kept := .v, dflt := 0x30D4 },
    { name := "PRED_INRUSH_MA", ix := 0x7810, n := 1, lo := 17, hi := 17, ty := .u32, acc := .ro, kept := .v, dflt := 0x1130 },
    { name := "PRED_RAMP_MJ", ix := 0x7810, n := 1, lo := 18, hi := 18, ty := .u32, acc := .ro, kept := .v, dflt := 0x6E0 } ]

/-- Rows of the objects 0x7820 to 0x813F (R45, R406). -/
def rows7820 : List Row :=
  [ { name := "count", ix := 0x7820, n := 1, lo := 0, hi := 0, ty := .u8, acc := .const, kept := .f, dflt := 0xC },
    { name := "PEAK_MA", ix := 0x7820, n := 1, lo := 1, hi := 1, ty := .u32, acc := .ro, kept := .v },
    { name := "PEAK_TIME", ix := 0x7820, n := 1, lo := 2, hi := 2, ty := .time64, acc := .ro, kept := .v },
    { name := "MIN_FEED1_MV", ix := 0x7820, n := 1, lo := 3, hi := 3, ty := .u16, acc := .ro, kept := .v, dflt := 0xFFFF },
    { name := "MIN_FEED2_MV", ix := 0x7820, n := 1, lo := 4, hi := 4, ty := .u16, acc := .ro, kept := .v, dflt := 0xFFFF },
    { name := "MAX_FEED1_MV", ix := 0x7820, n := 1, lo := 5, hi := 5, ty := .u16, acc := .ro, kept := .v },
    { name := "MAX_FEED2_MV", ix := 0x7820, n := 1, lo := 6, hi := 6, ty := .u16, acc := .ro, kept := .v },
    { name := "MIN_BUS_MV", ix := 0x7820, n := 1, lo := 7, hi := 7, ty := .u16, acc := .ro, kept := .v, dflt := 0xFFFF },
    { name := "LAST_INRUSH_UC", ix := 0x7820, n := 1, lo := 8, hi := 8, ty := .u32, acc := .ro, kept := .v },
    { name := "LAST_RAMP_MJ", ix := 0x7820, n := 1, lo := 9, hi := 9, ty := .u32, acc := .ro, kept := .v },
    { name := "LAST_RAMP_US", ix := 0x7820, n := 1, lo := 10, hi := 10, ty := .u32, acc := .ro, kept := .v },
    { name := "LAST_LIMIT_MJ", ix := 0x7820, n := 1, lo := 11, hi := 11, ty := .u32, acc := .ro, kept := .v },
    { name := "CLEAR", ix := 0x7820, n := 1, lo := 12, hi := 12, ty := .u8, acc := .wo, kept := .v, range := [(0, 0)] },
    { name := "PE_CMD", ix := 0x7830, n := 1, lo := 0, hi := 0, ty := .u8, acc := .wo, kept := .v, range := [(1, 3)] },
    { name := "PE_LAST_FAULT", ix := 0x7840, n := 1, lo := 0, hi := 0, ty := .octets 16, acc := .ro, kept := .b },
    { name := "count", ix := 0x8000, n := 320, lo := 0, hi := 0, ty := .u8, acc := .const, kept := .f, dflt := 0x2 },
    { name := "F_GAIN", ix := 0x8000, n := 320, lo := 1, hi := 1, ty := .f32, acc := .const, kept := .f, dflt := 0x3F800000 },
    { name := "F_OFFSET", ix := 0x8000, n := 320, lo := 2, hi := 2, ty := .f32, acc := .const, kept := .f } ]

/-- Rows of the objects 0x8200 to 0x913F (R45). -/
def rows8200 : List Row :=
  [ { name := "count", ix := 0x8200, n := 320, lo := 0, hi := 0, ty := .u8, acc := .const, kept := .f, dflt := 0x2 },
    { name := "F_GAIN", ix := 0x8200, n := 320, lo := 1, hi := 1, ty := .f32, acc := .const, kept := .f, dflt := 0x3F800000 },
    { name := "F_OFFSET", ix := 0x8200, n := 320, lo := 2, hi := 2, ty := .f32, acc := .const, kept := .f },
    { name := "count", ix := 0x8400, n := 16, lo := 0, hi := 0, ty := .u8, acc := .const, kept := .f, dflt := 0x2 },
    { name := "F_GAIN", ix := 0x8400, n := 16, lo := 1, hi := 1, ty := .f32, acc := .const, kept := .f, dflt := 0x3F800000 },
    { name := "F_OFFSET", ix := 0x8400, n := 16, lo := 2, hi := 2, ty := .f32, acc := .const, kept := .f },
    { name := "count", ix := 0x8420, n := 4, lo := 0, hi := 0, ty := .u8, acc := .const, kept := .f, dflt := 0x2 },
    { name := "F_GAIN", ix := 0x8420, n := 4, lo := 1, hi := 1, ty := .f32, acc := .const, kept := .f, dflt := 0x3F800000 },
    { name := "F_OFFSET", ix := 0x8420, n := 4, lo := 2, hi := 2, ty := .f32, acc := .const, kept := .f },
    { name := "count", ix := 0x8430, n := 3, lo := 0, hi := 0, ty := .u8, acc := .const, kept := .f, dflt := 0x2 },
    { name := "F_GAIN", ix := 0x8430, n := 3, lo := 1, hi := 1, ty := .f32, acc := .const, kept := .f, dflt := 0x3F800000 },
    { name := "F_OFFSET", ix := 0x8430, n := 3, lo := 2, hi := 2, ty := .f32, acc := .const, kept := .f },
    { name := "count", ix := 0x8440, n := 4, lo := 0, hi := 0, ty := .u8, acc := .const, kept := .f, dflt := 0x2 },
    { name := "F_GAIN", ix := 0x8440, n := 4, lo := 1, hi := 1, ty := .f32, acc := .const, kept := .f, dflt := 0x3F800000 },
    { name := "F_OFFSET", ix := 0x8440, n := 4, lo := 2, hi := 2, ty := .f32, acc := .const, kept := .f },
    { name := "count", ix := 0x9000, n := 320, lo := 0, hi := 0, ty := .u8, acc := .const, kept := .f, dflt := 0x4 },
    { name := "U_GAIN", ix := 0x9000, n := 320, lo := 1, hi := 1, ty := .f32, acc := .rws, kept := .p, dflt := 0x3F800000, range := [(1065353216, 1065353216)] },
    { name := "U_OFFSET", ix := 0x9000, n := 320, lo := 2, hi := 2, ty := .f32, acc := .rws, kept := .p, range := [(0, 1287568416), (2147483648, 3435052064)] },
    { name := "E_GAIN", ix := 0x9000, n := 320, lo := 3, hi := 3, ty := .f32, acc := .ro, kept := .v, dflt := 0x3F800000 },
    { name := "E_OFFSET", ix := 0x9000, n := 320, lo := 4, hi := 4, ty := .f32, acc := .ro, kept := .v } ]

/-- Rows of the objects 0x9200 to 0x9432 (R45). -/
def rows9200 : List Row :=
  [ { name := "count", ix := 0x9200, n := 320, lo := 0, hi := 0, ty := .u8, acc := .const, kept := .f, dflt := 0x4 },
    { name := "U_GAIN", ix := 0x9200, n := 320, lo := 1, hi := 1, ty := .f32, acc := .rws, kept := .p, dflt := 0x3F800000, range := [(1065353216, 1065353216)] },
    { name := "U_OFFSET", ix := 0x9200, n := 320, lo := 2, hi := 2, ty := .f32, acc := .rws, kept := .p, range := [(0, 1287568416), (2147483648, 3435052064)] },
    { name := "E_GAIN", ix := 0x9200, n := 320, lo := 3, hi := 3, ty := .f32, acc := .ro, kept := .v, dflt := 0x3F800000 },
    { name := "E_OFFSET", ix := 0x9200, n := 320, lo := 4, hi := 4, ty := .f32, acc := .ro, kept := .v },
    { name := "count", ix := 0x9400, n := 16, lo := 0, hi := 0, ty := .u8, acc := .const, kept := .f, dflt := 0x4 },
    { name := "U_GAIN", ix := 0x9400, n := 16, lo := 1, hi := 1, ty := .f32, acc := .rws, kept := .p, dflt := 0x3F800000, range := [(1065353216, 1065353216)] },
    { name := "U_OFFSET", ix := 0x9400, n := 16, lo := 2, hi := 2, ty := .f32, acc := .rws, kept := .p, range := [(0, 1287568416), (2147483648, 3435052064)] },
    { name := "E_GAIN", ix := 0x9400, n := 16, lo := 3, hi := 3, ty := .f32, acc := .ro, kept := .v, dflt := 0x3F800000 },
    { name := "E_OFFSET", ix := 0x9400, n := 16, lo := 4, hi := 4, ty := .f32, acc := .ro, kept := .v },
    { name := "count", ix := 0x9420, n := 4, lo := 0, hi := 0, ty := .u8, acc := .const, kept := .f, dflt := 0x4 },
    { name := "U_GAIN", ix := 0x9420, n := 4, lo := 1, hi := 1, ty := .f32, acc := .rws, kept := .p, dflt := 0x3F800000, range := [(1065353216, 1065353216)] },
    { name := "U_OFFSET", ix := 0x9420, n := 4, lo := 2, hi := 2, ty := .f32, acc := .rws, kept := .p, range := [(0, 1287568416), (2147483648, 3435052064)] },
    { name := "E_GAIN", ix := 0x9420, n := 4, lo := 3, hi := 3, ty := .f32, acc := .ro, kept := .v, dflt := 0x3F800000 },
    { name := "E_OFFSET", ix := 0x9420, n := 4, lo := 4, hi := 4, ty := .f32, acc := .ro, kept := .v },
    { name := "count", ix := 0x9430, n := 3, lo := 0, hi := 0, ty := .u8, acc := .const, kept := .f, dflt := 0x4 },
    { name := "U_GAIN", ix := 0x9430, n := 3, lo := 1, hi := 1, ty := .f32, acc := .rws, kept := .p, dflt := 0x3F800000, range := [(1065353216, 1065353216)] },
    { name := "U_OFFSET", ix := 0x9430, n := 3, lo := 2, hi := 2, ty := .f32, acc := .rws, kept := .p, range := [(0, 1287568416), (2147483648, 3435052064)] },
    { name := "E_GAIN", ix := 0x9430, n := 3, lo := 3, hi := 3, ty := .f32, acc := .ro, kept := .v, dflt := 0x3F800000 },
    { name := "E_OFFSET", ix := 0x9430, n := 3, lo := 4, hi := 4, ty := .f32, acc := .ro, kept := .v } ]

/-- Rows of the objects 0x9440 to 0xF003 (R428). -/
def rows9440 : List Row :=
  [ { name := "count", ix := 0x9440, n := 4, lo := 0, hi := 0, ty := .u8, acc := .const, kept := .f, dflt := 0x4 },
    { name := "U_GAIN", ix := 0x9440, n := 4, lo := 1, hi := 1, ty := .f32, acc := .rws, kept := .p, dflt := 0x3F800000, range := [(1056964608, 1073741824)] },
    { name := "U_OFFSET", ix := 0x9440, n := 4, lo := 2, hi := 2, ty := .f32, acc := .rws, kept := .p },
    { name := "E_GAIN", ix := 0x9440, n := 4, lo := 3, hi := 3, ty := .f32, acc := .ro, kept := .v, dflt := 0x3F800000 },
    { name := "E_OFFSET", ix := 0x9440, n := 4, lo := 4, hi := 4, ty := .f32, acc := .ro, kept := .v },
    { name := "count", ix := 0xA000, n := 6144, lo := 0, hi := 0, ty := .u8, acc := .const, kept := .f, dflt := 0x40 },
    { name := "LAKE_SLOT", ix := 0xA000, n := 6144, lo := 1, hi := 64, ty := .u64, acc := .rws, kept := .v },
    { name := "count", ix := 0xF000, n := 1, lo := 0, hi := 0, ty := .u8, acc := .const, kept := .f, dflt := 0x6 },
    { name := "VG_NEXT_SEQ", ix := 0xF000, n := 1, lo := 1, hi := 1, ty := .u32, acc := .ro, kept := .b },
    { name := "VG_HELD", ix := 0xF000, n := 1, lo := 2, hi := 2, ty := .u32, acc := .ro, kept := .v },
    { name := "VG_CAPACITY", ix := 0xF000, n := 1, lo := 3, hi := 3, ty := .u32, acc := .ro, kept := .v, dflt := 0x10000 },
    { name := "VG_READ_FROM", ix := 0xF000, n := 1, lo := 4, hi := 4, ty := .u32, acc := .rw, kept := .v },
    { name := "VG_WINDOW", ix := 0xF000, n := 1, lo := 5, hi := 5, ty := .octets 256, acc := .ro, kept := .v },
    { name := "VG_CMD", ix := 0xF000, n := 1, lo := 6, hi := 6, ty := .u8, acc := .wo, kept := .v, range := [(1, 1)] },
    { name := "VG_HEAD", ix := 0xF001, n := 1, lo := 0, hi := 0, ty := .octets 1024, acc := .ro, kept := .b },
    { name := "OPEN_FAULTS", ix := 0xF002, n := 1, lo := 0, hi := 0, ty := .domain 2048 true 1, acc := .ro, kept := .v },
    { name := "OPEN_COUNT", ix := 0xF003, n := 1, lo := 0, hi := 0, ty := .u8, acc := .ro, kept := .v } ]

/-- The rows of the dictionary among which those of index `ix` are. The rows stand in lists by index, so that one is found quickly. -/
def rowsAt (ix : Nat) : List Row :=
  if ix < 0x3200 then
    if ix < 0x2110 then
      if ix < 0x1310 then
        if ix < 0x1130 then
          if ix < 0x1102 then
            rows1000
          else
            rows1102
        else
          if ix < 0x1200 then
            rows1130
          else
            if ix < 0x1230 then
              rows1200
            else
              rows1230
      else
        if ix < 0x2020 then
          if ix < 0x2000 then
            rows1310
          else
            if ix < 0x2010 then
              rows2000
            else
              rows2010
        else
          if ix < 0x2100 then
            rows2020
          else
            if ix < 0x2101 then
              rows2100
            else
              rows2101
    else
      if ix < 0x2610 then
        if ix < 0x2440 then
          if ix < 0x2212 then
            rows2110
          else
            if ix < 0x2400 then
              rows2212
            else
              rows2400
        else
          if ix < 0x2468 then
            rows2440
          else
            if ix < 0x2480 then
              rows2468
            else
              rows2480
      else
        if ix < 0x2810 then
          if ix < 0x2640 then
            rows2610
          else
            if ix < 0x2800 then
              rows2640
            else
              rows2800
        else
          if ix < 0x28C0 then
            rows2810
          else
            if ix < 0x3000 then
              rows28C0
            else
              rows3000
  else
    if ix < 0x6100 then
      if ix < 0x5100 then
        if ix < 0x4100 then
          if ix < 0x4000 then
            rows3200
          else
            rows4000
        else
          if ix < 0x4200 then
            rows4100
          else
            if ix < 0x4400 then
              rows4200
            else
              rows4400
      else
        if ix < 0x5800 then
          if ix < 0x5200 then
            rows5100
          else
            if ix < 0x5300 then
              rows5200
            else
              rows5300
        else
          if ix < 0x5880 then
            rows5800
          else
            if ix < 0x6000 then
              rows5880
            else
              rows6000
    else
      if ix < 0x7800 then
        if ix < 0x7040 then
          if ix < 0x6190 then
            rows6100
          else
            if ix < 0x6203 then
              rows6190
            else
              rows6203
        else
          if ix < 0x70A0 then
            rows7040
          else
            if ix < 0x7410 then
              rows70A0
            else
              rows7410
      else
        if ix < 0x8200 then
          if ix < 0x7810 then
            rows7800
          else
            if ix < 0x7820 then
              rows7810
            else
              rows7820
        else
          if ix < 0x9200 then
            rows8200
          else
            if ix < 0x9440 then
              rows9200
            else
              rows9440

/-- The bytes of a fixed-size type (R26). -/
def tySize : Ty → Nat
  | .bool | .u8 => 1
  | .u16 | .i16 => 2
  | .u32 | .i32 | .f32 => 4
  | .u64 | .time64 => 8
  | .octets n => n
  | .vstring m => m
  | .domain m _ _ => m

/-- Whether a value of the type is held as bytes and not as a number. -/
def tyIsBytes : Ty → Bool
  | .octets _ | .vstring _ | .domain _ _ _ => true
  | _ => false

/-- Whether the row covers index `ix`. -/
def Row.coversIx (r : Row) (ix : Nat) : Bool := r.ix ≤ ix && ix < r.ix + r.n

/-- Whether the row covers key `k`. -/
def Row.covers (r : Row) (k : Nat) : Bool := r.coversIx (k / 256) && r.lo ≤ k % 256 && k % 256 ≤ r.hi

/-- The row of key `k`, if the object exists (R25). -/
def rowOf (k : Nat) : Option Row := (rowsAt (k / 256)).find? (fun r => r.covers k)

/-- Whether some object has index `ix` (R30). -/
def indexExists (ix : Nat) : Bool := (rowsAt ix).any (fun r => r.coversIx ix)

/-- The default limits of R152, by port and class. -/
def inLimitDefault : Nat → List Nat
  | 0 | 1 => [512, 8192, 8192, 8192]
  | 2 | 3 | 4 | 5 => [64, 0, 1024, 2048]
  | 6 => [64, 0, 2048, 2048]
  | 7 => [256, 0, 1024, 1024]
  | 8 | 9 => [256, 0, 512, 512]
  | 10 => [256, 0, 1024, 256]
  | 11 => [64, 0, 2048, 4096]
  | 12 => [512, 0, 2048, 1024]
  | 13 => [0, 1024, 0, 0]
  | 14 => [0, 0, 1024, 4096]
  | _ => [0, 0, 0, 0]

/-- The default output limit of R152, by port; TAP's is not used. -/
def outLimitDefault : Nat → Nat
  | 0 | 1 | 12 | 13 | 14 => 16384
  | 2 | 3 | 4 | 5 => 2048
  | 15 => 0
  | _ => 4096

/-- The default of the scalar object at key `k`: 0 where no object exists. -/
def scalarDefault (k : Nat) : Nat :=
  if 0x2410 ≤ k / 256 ∧ k / 256 < 0x2420 ∧ 1 ≤ k % 256 ∧ k % 256 ≤ 8 then
    if k % 256 ≤ 4 then (inLimitDefault (k / 256 - 0x2410)).getD (k % 256 - 1) 0
    else outLimitDefault (k / 256 - 0x2410)
  else match rowOf k with
    | some r => r.dflt
    | none => 0

/-- The default of the OCTETS, VSTRING or DOMAIN object at key `k`. -/
def bytesDefault (k : Nat) : List Byte :=
  match rowOf k with
  | some { ty := .octets n, dfb := [], .. } => List.replicate n 0
  | some r => r.dfb
  | none => []

end Sys2Proof.Machine
end

