-- ==== Sys2Proof/Machine/Sparse.lean ====
section
/-! DEFINITION. Sparse stores: a list of (key, value) pairs in ONE canonical form, keys strictly rising and no entry
equal to what an unlisted key reads as, so that equal stores are equal data. The object dictionary, DRAM and the
per-channel records of every block are kept so. -/
namespace Sys2Proof.Machine

/-- What key `i` holds: the listed value, or what `d` says an unlisted key reads as. -/
def sparseGet {α : Type} (d : Nat → α) : List (Nat × α) → Nat → α
  | [], i => d i
  | (k, v) :: r, i => if i = k then v else sparseGet d r i

/-- The store without key `i`. -/
def sparseErase {α : Type} (l : List (Nat × α)) (i : Nat) : List (Nat × α) := l.filter (fun e => e.1 ≠ i)

/-- The store with `(i, v)` put at its place in the order. -/
def sparseInsert {α : Type} : List (Nat × α) → Nat → α → List (Nat × α)
  | [], i, v => [(i, v)]
  | (k, w) :: r, i, v => if i < k then (i, v) :: (k, w) :: r else (k, w) :: sparseInsert r i v

/-- The store in which key `i` holds `v`, in the canonical form. -/
def sparsePut {α : Type} [DecidableEq α] (d : Nat → α) (l : List (Nat × α)) (i : Nat) (v : α) : List (Nat × α) :=
  if v = d i then sparseErase l i else sparseInsert (sparseErase l i) i v

/-- Every key of the store is above `n`. -/
def sparseAbove {α : Type} (n : Nat) (l : List (Nat × α)) : Bool := l.all (fun e => n < e.1)

/-- The canonical form: keys strictly rising, no entry equal to what an unlisted key reads as. -/
def sparseWf {α : Type} [DecidableEq α] (d : Nat → α) : List (Nat × α) → Bool
  | [] => true
  | (k, v) :: r => (v ≠ d k) && sparseAbove k r && sparseWf d r

end Sys2Proof.Machine
end

