-- ==== Sys2Proof/Machine/State.lean ====
section
/-! DEFINITION. The state of the UV960, as plain data, and the reasons a step can stop. Every scalar object of the
dictionary has its one home in `objs`, every OCTETS, VSTRING and DOMAIN object in `blobs`; what the spec gives the blocks
beside the objects stands in a structure for each block. -/
namespace Sys2Proof.Machine

/-- Which accepted command an effect belongs to: its source, class, incarnation and sequence number (R180 to R182). -/
structure WorkRef where
  peer : Nat
  cls2 : Bool
  inc : Nat
  seq : Nat
  deriving DecidableEq, Repr

/-- What the node puts out of itself: rows and frames on the ring's out links, responses on the access paths, datagrams,
and what the other blocks send. The model's own record, newest last (log entry 6). -/
inductive Out where
  /-- an object response on an access path (R48) -/
  | response (who : Requester) (body : ObjResp)
  /-- a NOTICE row on an out link (R62) -/
  | notice (link : Path) (n : Notice)
  /-- a frame of the ring that starts on an out link -/
  | ringFrame (link : Path) (f : Frame)
  /-- the coordinator's loop frame on B-out (R94 step 5) -/
  | loopFrame
  /-- a HELLO row on an out link (R62, R75) -/
  | hello (link : Path) (h : Hello)
  /-- the frame that has started on an out link ends with STOMP set in its trailer (R71 rule 7, R148) -/
  | stomped (link : Path) (f : Frame)
  /-- the SUSPEND and RESUME rows around a class-0 frame on an out link (R67) -/
  | suspend (link : Path)
  | resume (link : Path)
  /-- a TIMING row on an out link, with its content bytes C0 to C23 (R114) -/
  | timing (link : Path) (content : List Byte)
  /-- a frame leaving on an Ethernet port -/
  | ethFrame (port : Nat) (f : EthFrame)
  /-- a UDP datagram to an address and port -/
  | datagram (address udpPort : Nat) (payload : List Byte)
  /-- a PTP message sent by a port: message type, domain, priorities, clockClass, the leap-second warning, and the time of a one-step Sync in ns
  (R111) -/
  | ptp (port msg domain priority1 clockClass priority2 : Nat) (leap : Bool) (time : Nat)
  /-- a rising edge of PPS_OUT at its ball, in steps of 250 ps (R121) -/
  | ppsOut (time : Nat)
  /-- a CAN frame sent on the bus of a controller, as its record, and an error frame -/
  | canFrame (controller : Nat) (record : List Byte)
  | canErrorFrame (controller : Nat)
  | canAck (controller : Nat)
  /-- the characters of a UART message, after a break where `brk` says so; UA_DE asserted or released -/
  | uartSent (channel : Nat) (brk : Bool) (data : List Byte)
  | uartDe (channel : Nat) (asserted : Bool)
  /-- the end of a host bus cycle as the host sees it: ended with HB_RETRY_N, or completed with the words of a read -/
  | hostCycle (retried : Bool) (words : List Nat)
  /-- HB_REQ_N asserted or released; a cycle driven as master: direction, address and the bytes written -/
  | hostRequest (asserted : Bool)
  | hostMaster (write : Bool) (address : Nat) (data : List Byte)
  /-- a Farif frame, every byte of it (R54) -/
  | farif (frame : List Byte)
  deriving DecidableEq, Repr

/-- One entry of the verdigris log (R421); `detail` is bytes 0 to 11 as a number, low byte first. -/
structure VgEntry where
  time : Nat := 0
  seq : Nat := 0
  index : Nat := 0
  sub : Nat := 0
  status : Nat := 0
  kind : Nat := 0
  fromIsland : Bool := false
  notAgreed : Bool := false
  inst : Nat := 0xFFFF
  detail : Nat := 0
  deriving DecidableEq, Repr

/-- A lasting fault that is open (R423). `covered` marks the covered faults of R14 and R15; `until` lists the entries of the
covered faults whose closing closes this one (R15), empty where only its own repair closes it. -/
structure OpenFault where
  entry : VgEntry
  covered : Bool := false
  untilClosed : List Nat := []
  deriving DecidableEq, Repr

/-- One copy of the configuration store (R40): format, time, and every class-P object, scalars and bytes. -/
structure StoreCopy where
  format : Nat
  time : Nat
  scalars : List (Nat × Nat)
  blobs : List (Nat × List Byte)
  deriving DecidableEq, Repr

/-- An open DOMAIN write session (R49). -/
structure WriteSession where
  index : Nat
  who : Requester
  data : List Byte
  last : Nat
  deriving DecidableEq, Repr

/-- A DOMAIN generation latched for a requester (R49). -/
structure ReadLatch where
  index : Nat
  who : Requester
  generation : Nat
  last : Nat
  deriving DecidableEq, Repr

/-- A request this node has sent on the ring and that waits for its response (R50, R70): an object request forwarded for a
requester, or a read. -/
structure Outstanding where
  tag : Nat
  isRead : Bool
  who : Requester
  req : ObjReq
  deadline : Nat
  /-- the accepted work that the request came as, which ends with the relayed status -/
  work : Option WorkRef := none
  deriving DecidableEq, Repr

/-- A kept Kedogil response (R52). -/
structure KeptResponse where
  address : Nat
  tag : Nat
  resp : ObjResp
  deriving DecidableEq, Repr

/-- The dictionary, the staging area, the configuration store and the access paths. -/
structure DictState where
  /-- requests waiting in the dictionary queue (R34) -/
  queue : List (Requester × ObjReq × Bool) := []
  /-- staged objects by key, as the bytes written (R35) -/
  staged : List (Nat × List Byte) := []
  /-- staged writes held for the next commit (R38), while a validated set waits -/
  held : List (Nat × List Byte) := []
  /-- while STAGE_STATE is 2, the time that the boundary must not precede: COMMIT_AT as latched, or the validation if that is later (R36) -/
  commitAt : Nat := 0
  /-- mordant-point objects of an applied set that still wait, and the number of the epoch that ends the wait (R36, R37) -/
  waiting : List (Nat × List Byte) := []
  waitEpochs : Nat := 0
  /-- the two copies of the configuration store (R40) and which is the newer -/
  copy0 : Option StoreCopy := none
  copy1 : Option StoreCopy := none
  newer : Nat := 0
  /-- the snapshot being written, while a store is busy -/
  storing : Option StoreCopy := none
  sessions : List WriteSession := []
  latches : List ReadLatch := []
  /-- generation of each DOMAIN, by index; unlisted 0 -/
  generations : List (Nat × Nat) := []
  outstanding : List Outstanding := []
  kept : List KeptResponse := []
  /-- the mailbox of R53 -/
  mbRequest : List (Nat × Byte) := []
  mbResponse : Option ObjResp := none
  mbWaiting : Option ObjResp := none
  mbBusy : Bool := false
  mbDone : Bool := false
  mbOverrun : Bool := false
  /-- service link frames discarded and counted (R54) -/
  farifDiscards : Nat := 0
  deriving DecidableEq, Repr

/-- What the node knows of one of its in links beside the state code of R73. -/
structure LinkState where
  /-- the training in progress is a full one (R74) -/
  full : Bool := false
  /-- all four lanes have locked since the link was heated (R94) -/
  locked : Bool := false
  /-- the link failed for STEP_MISMATCH and is not retried (R76) -/
  stepMismatch : Bool := false
  /-- the immediate retry of R96 is running -/
  retrying : Bool := false
  /-- when the present state, or the full training of a late lock, was entered, ns -/
  since : Nat := 0
  /-- when the link was last heated, ns (R86) -/
  heatedAt : Nat := 0
  /-- start of the error-free time in CHECK and UP, ns (R74, R91) -/
  cleanSince : Nat := 0
  /-- times of the frames with errors of the last 1 ms, ns, newest last (R83) -/
  errors : List Nat := []
  /-- lock time of the last heating, ns (R94) -/
  lockTime : Nat := 0
  /-- a HELLO row has come since the link was heated (R74) -/
  heard : Bool := false
  /-- the LINK_WORD received last (R62) -/
  linkWord : Nat := 0
  /-- the rate recovered on the link in CHECK and UP, in units of FREQ_ADJ (R65) -/
  rate : Int := 0
  /-- neighbour's effective ID and identity, from its HELLO rows (R62) -/
  neighbour : Nat := 0
  identity : Nat := 0
  deriving DecidableEq, Repr

/-- The wrap this node takes part in (R84, R85). -/
structure WrapState where
  u : Nat
  d : Nat
  detection : Nat
  isU : Bool := false
  isD : Bool := false
  /-- the turn from A to B, or from B to A, is made -/
  turned : Bool := false
  /-- the first frame on path B at this node has set LAST_GAP (R104) -/
  gapSeen : Bool := false
  start : Nat := 0
  deriving DecidableEq, Repr

/-- A revert in progress at this node (R92), of the segment from `u` to `d`. -/
structure RevertState where
  asD : Bool
  u : Nat := 0
  d : Nat := 0
  /-- a member goes dark: D stores B-in traffic instead (R208 step 5, mode 1) -/
  dark : Bool := false
  start : Nat
  /-- the MARKER has come while a break pauses the weld or unweld (R90) -/
  markerSeen : Bool := false
  /-- frames stored at D until the MARKER, each with its time of arrival, ns, oldest first -/
  stored : List (Nat × Frame) := []
  deriving DecidableEq, Repr

/-- The phases of a proving run (R94). -/
inductive ProvePhase where
  | scheduled | dwell | rising | loop
  deriving DecidableEq, Repr

/-- A proving run (R93 to R95). -/
structure ProveRun where
  start : Nat
  phase : ProvePhase := .scheduled
  attempt : Nat := 1
  coordinator : Bool := false
  /-- bit errors counted on each lane in the dwell (R94 step 3) -/
  bitErrors : List Nat := []
  /-- the B-in link needed a full training -/
  lateLock : Bool := false
  /-- this node's own B-in link failed the first attempt (R95) -/
  failedFirst : Bool := false
  /-- the loop frame has passed this node (R95) -/
  carried : Bool := false
  /-- this node alone proves its own link again, after a run that passed elsewhere (R95) -/
  ownOnly : Bool := false
  loopSent : Nat := 0
  deriving DecidableEq, Repr

/-- The ring paths. The state codes of the links, RING_STATE and the claims are objects. -/
structure RingState where
  aIn : LinkState := {}
  bIn : LinkState := {}
  /-- the saved state of the B-in link is held (R81) -/
  bSaved : Bool := false
  /-- notices already seen: ORIGIN and NOTICE_SEQ (R63) -/
  seen : List (Nat × Nat) := []
  noticeSeq : Nat := 0
  /-- the broken segments, oldest first, with this node's part in each (R84 to R86) -/
  wraps : List WrapState := []
  /-- the out links that this node drives; TXDIS_A and TXDIS_B are released for the others (R59) -/
  sendA : Bool := false
  sendB : Bool := false
  /-- the node has found a fault on its own A-out transmitter (R83) -/
  outFault : Bool := false
  /-- when HELLO rows first reported A-out, and B-out, UP, ns (R62, R91) -/
  outSince : Nat := 0
  outSinceB : Nat := 0
  /-- the freeze of R89 ends here at the latest, ns -/
  freezeUntil : Option Nat := none
  revert : Option RevertState := none
  /-- a MARKER that waits for its place behind the last frame on a path (R92, R208) -/
  marker : Option (Path × Notice) := none
  /-- a member is going dark: this node's part in it is not done (R208) -/
  dark : Bool := false
  prove : Option ProveRun := none
  /-- end of the last run that passed; when the ring last became whole, and when its membership last changed, ns (R82, R93) -/
  lastPass : Nat := 0
  wholeSince : Nat := 0
  changedAt : Nat := 0
  /-- the present 10 µs of ring time, and class-0 bytes sent in it on A-out and B-out (R97) -/
  c0Interval : Nat := 0
  c0BytesA : Nat := 0
  c0BytesB : Nat := 0
  /-- apply instants since the last renewal, for commanders 1 to 8 (R98) -/
  claimAge : List (Nat × Nat) := []
  /-- time of the last apply instant counted, and the commanders whose leases ran out at it (R98) -/
  leaseAt : Option Nat := none
  lapsedAt : List Nat := []
  /-- apply instants counted since the last live claim lapsed (R103) -/
  sinceNoClaim : Nat := 0
  /-- a lasting link fault has been repaired, and the node stays DEGRADED until the revert completes (R96) -/
  awaitsRevert : Bool := false
  deriving DecidableEq, Repr

/-- A grandmaster candidate as its SYNC or DELAY_REQ rows announce it (R109): source 0 none, 1 holdover, 2 valid. -/
structure Candidate where
  priority : Nat
  source : Nat
  /-- a DELAY_REQ row of the node has told them; a SYNC row tells flags only (R109) -/
  told : Bool := false
  deriving DecidableEq, Repr

/-- Ring epoch parameters (R127): E and D in µs, P in ns. -/
structure EpochParams where
  epoch : Nat
  apply : Nat
  phase : Nat
  deriving DecidableEq, Repr

/-- Averaging of the two-way exchanges of one link (R116). -/
structure HopState where
  /-- sequence number and departure of the request in the air, 1/256 ns -/
  reqSeq : Nat := 0
  t1 : Option Nat := none
  /-- sum of the exchanges and their number, up to 16 -/
  sum : Int := 0
  count : Nat := 0
  /-- last averaged one-way delay, 1/256 ns, and when it was taken, ns (class W) -/
  delay : Int := 0
  taken : Nat := 0
  /-- the delay is proven (R118) -/
  proven : Bool := false
  /-- a fast measurement is running, and sixteen exchanges of it have been averaged (R116) -/
  fast : Bool := false
  measured : Bool := false
  deriving DecidableEq, Repr

/-- The time base beside its objects. -/
structure TimeState where
  /-- the ring EPOCH_PHASE in use, ns; E and D are the objects RING_EPOCH and RING_APPLY -/
  phase : Nat := 0
  /-- a PARAMS row has been received since the start (R127) -/
  paramsSeen : Bool := false
  /-- ring parameters received and not yet in use: they act from the next sample instant (R127) -/
  paramsWaiting : Option EpochParams := none
  /-- announced parameters and their CHANGE_AT (R127) -/
  paramsNext : Option (EpochParams × Nat) := none
  /-- loop fibre in ns, from PARAMS since the last change of membership -/
  loopFibre : Nat := 0
  /-- ranks by node ID (R109) -/
  candidates : List (Nat × Candidate) := []
  /-- source state of this node: 0 none, 1 holdover, 2 valid (R110) -/
  source : Nat := 0
  /-- consecutive Sync messages within ±100 ns, and agreed seconds of PPS and IRIG-B (R110) -/
  ptpGood : Nat := 0
  irigGood : Nat := 0
  /-- the data set of the master that PTP_PORT follows, and when it sent its last Sync, ns (R111) -/
  ptpMaster : List Nat := []
  ptpAt : Nat := 0
  /-- start of the holdover, ns -/
  holdoverFrom : Nat := 0
  /-- the last PPS_IN edge that waits for its frame, and the last frame that waits for its edge: ns -/
  ppsEdge : Option Nat := none
  /-- the capture record of the last PPS_IN edge, as bytes, and the number of edges captured (R122) -/
  ppsRecord : List Byte := []
  ppsSeq : Nat := 0
  /-- the leap-second warning of the last IRIG-B frame (R112) -/
  leapWarning : Bool := false
  irigMark : Option (Nat × Nat) := none
  /-- announced step: STEP_AT and amount in ns (R113) -/
  step : Option (Nat × Int) := none
  /-- follower lock (R118): last SYNC row, offsets in and out of the limits, locked -/
  lastSync : Nat := 0
  goodOffsets : Nat := 0
  badOffsets : Nat := 0
  locked : Bool := false
  /-- the grandmaster's flags as its SYNC rows carry them -/
  gmFlags : Nat := 0
  syncSeq : Nat := 0
  hopA : HopState := {}
  hopB : HopState := {}
  /-- the filter of R117: sum of the differences and their number, up to 64 -/
  loopSum : Int := 0
  loopCount : Nat := 0
  /-- a proving run asked for by LOOP_ALARM -/
  loopProve : Bool := false
  /-- the PPS_OUT pin is high until this time, ns (R121) -/
  ppsOutUntil : Nat := 0
  /-- the RTC of the backup island: time and validity (R108, R419) -/
  rtcTime : Nat := 0
  rtcValid : Bool := false
  /-- the counter when the RTC read `rtcTime`, ns -/
  rtcMark : Int := 0
  deriving DecidableEq, Repr

/-- A pending write to a lake output slot (R133), with the session work it executes, if it came by a session. -/
structure LoutWrite where
  slot : Nat
  value : Nat
  commander : Nat
  accepted : Nat
  work : Option WorkRef := none
  /-- the last slot of its request, with which the request completes -/
  last : Bool := true
  /-- the WRITE, outside a session, whose failure at the latch is reported (R133, R197) -/
  late : Option Frame := none
  deriving DecidableEq, Repr

/-- A lake output slot: its last latched VALUE and quality, and the time of the last change (R133). -/
structure LoutSlot where
  value : Nat := 0
  quality : Nat := 1
  changed : Option Nat := none
  latched : Bool := false
  deriving DecidableEq, Repr

/-- Slots of one publisher received for one epoch, not yet applied (R135). -/
structure PendingSlots where
  publisher : Nat
  epoch : Nat
  /-- the publisher's SEQ, its slot count -/
  count : Nat
  slots : List (Nat × Nat)
  deriving DecidableEq, Repr

/-- The lake store. Applied slots are keyed publisher × 4096 + slot. -/
structure LakeState where
  applied : List (Nat × Nat) := []
  /-- consecutive STALE epochs, by the same key -/
  stale : List (Nat × Nat) := []
  received : List PendingSlots := []
  /-- epochs sampled and not yet applied: number and apply instant, oldest first -/
  inFlight : List (Nat × Nat) := []
  lout : List (Nat × LoutSlot) := []
  loutPending : List LoutWrite := []
  /-- the slots of the last publication (R413) -/
  last : List (Nat × Nat) := []
  /-- bytes received for the present epoch (R138) -/
  volume : Nat := 0
  /-- FAULT_SUMMARY at the last sample, and when it last changed, ns (R130 KIND 5) -/
  statusChanged : Nat := 0
  /-- the lowest epoch number whose sample instant is still to come -/
  nextSample : Nat := 0
  /-- the last interval in which AGREED was clear, ns (R119) -/
  notAgreed : Nat × Nat := (0, 0)
  /-- the hold policy of the lake output slots has been applied (R141) -/
  loutHeld : Bool := false
  /-- an apply instant that is also a sample instant has still to be counted (R126) -/
  countDue : Bool := false
  /-- stored slots, by key, and publishers whose slots stay ABSENT until a publication of them has been applied (R207, R210) -/
  awaited : List Nat := []
  awaitedFrom : List Nat := []
  deriving DecidableEq, Repr

/-- What a switch port carries: a ring frame or an Ethernet frame. -/
inductive Packet where
  | ring (f : Frame)
  | eth (f : EthFrame)
  deriving DecidableEq, Repr

/-- A frame offered to the switch at an input port in a class (R144). -/
structure Offered where
  port : Nat
  cls : Nat
  packet : Packet
  /-- outputs that the block or the flow table chose; none where the switch routes the frame itself -/
  outs : List Nat := []
  /-- the frame matched a flow entry with MIRROR or SAMPLE, and the entry's counter -/
  mirror : Bool := false
  sample : Bool := false
  /-- the engine whose transmit FIFO holds the frame's words until it is admitted (R271) -/
  engine : Option Nat := none
  /-- the number of that message -/
  message : Nat := 0
  /-- a write to a receive FIFO that has no reservation yet: the block holds it (R275) -/
  unreserved : Bool := false
  /-- when the frame's header entered the switch, ns (R164) -/
  entered : Nat := 0
  /-- the frame has another output in another class, offered beside this one, so that neither cuts through (R147) -/
  part : Bool := false
  /-- sequence counts of the redundant pairs that the frame is sent on: pair and count (R167) -/
  seqs : List (Nat × Nat) := []
  /-- a number that the two offers of one frame share, one forwarded and one delivered: it is stored, charged and counted once at its input
  (R149, R168) -/
  mate : Option Nat := none
  deriving DecidableEq, Repr

/-- A frame that the switch holds or sends (R149): the outputs it waits for, and those it is being sent on. One that cuts through takes
no cells. -/
structure Stored where
  /-- a number of its own -/
  no : Nat
  offered : Offered
  outs : List Nat
  busy : List Nat := []
  cells : Nat
  stored : Nat
  /-- on a ring output: when it last started or resumed, ns, and the payload rows sent before it was suspended last (R67) -/
  startedAt : Nat := 0
  rowsSent : Nat := 0
  deriving DecidableEq, Repr

/-- A frame held in its block by back-pressure (R151). -/
structure HeldFrame where
  offered : Offered
  since : Nat
  deriving DecidableEq, Repr

/-- An entry of a duplicate table (R169). -/
structure DupEntry where
  source : Nat
  seq : Nat
  made : Nat
  port : Nat
  deriving DecidableEq, Repr

/-- A round of the deficit round-robin of R157: groups still to come, ports of the present group still to be served, and whether
the first of them has had its quantum. -/
structure Round where
  groups : List Nat := []
  ports : List Nat := []
  granted : Bool := false
  deriving DecidableEq, Repr

/-- The switch core. Cells in use are the sums over the stored frames. -/
structure SwitchState where
  /-- frames handed over by the blocks and not yet offered, oldest first -/
  entering : List Offered := []
  /-- stored frames in the order they were admitted -/
  stored : List Stored := []
  held : List HeldFrame := []
  /-- frames taken in so far, which numbers them -/
  storedCount : Nat := 0
  /-- the frame being sent on an output (R146), and the one suspended there (R67), by port and number -/
  sending : List (Nat × Nat) := []
  suspended : List (Nat × Nat) := []
  /-- deficits by (output × 4 + class) × 16 + input (R157), and of classes 2 and 3 by output × 4 + class (R146) -/
  deficit : List (Nat × Nat) := []
  classDeficit : List (Nat × Nat) := []
  /-- the class whose turn it is among 2 and 3, by output (unlisted: class 2) -/
  classTurn : List (Nat × Nat) := []
  /-- the round in progress and the first group of the next one, by output × 4 + class -/
  rounds : List (Nat × Round) := []
  firstGroup : List (Nat × Nat) := []
  /-- the port served last, by (output × 4 + class) × 8 + group -/
  lastPort : List (Nat × Nat) := []
  /-- the last class-1 frame of a ring output was a transit frame (R158), by output -/
  lastTransit : List (Nat × Bool) := []
  /-- insertion counts by link × 4 + class (R159), and whether a local frame waited behind transit with the quota spent -/
  inserted : List (Nat × Nat) := []
  quotaWaited : Bool := false
  /-- mirror copies made (TAP_SEQ) -/
  tapSeq : Nat := 0
  /-- frames counted towards sampling, by port, and the newest 1,024 samples (R165) -/
  sampleCount : List (Nat × Nat) := []
  samples : List (List Byte) := []
  /-- the samples made last: when, ns, and their cells (R165) -/
  sampled : List (Nat × Nat) := []
  /-- numbers given to frames that are offered twice, and that of the last one counted at its input (R149) -/
  mates : Nat := 0
  mateIn : Option Nat := none
  /-- duplicate tables of the pairs 0 and 1, oldest first (R169) -/
  dup0 : List DupEntry := []
  dup1 : List DupEntry := []
  /-- sequence counts of the pairs, and when each sent its last supervision frame, ns (R167) -/
  redSeq : List (Nat × Nat) := []
  supAt : List (Nat × Nat) := []
  /-- messages of engines that the switch has admitted or dropped, not yet told to them (R271): engine, number, and whether admitted -/
  admitted : List (Nat × Nat × Bool) := []
  /-- frames delivered to the consumers of the node, by output port, oldest first -/
  inbox : List (Nat × Packet) := []
  deriving DecidableEq, Repr

/-- Who issued a command that a session carries, and so where it completes (R179). -/
inductive Issuer where
  | window (tag : Nat)
  | object (who : Requester) (tag : Nat)
  | engine (n : Nat)
  | sme (entry : Nat)
  /-- a posted WRITE of a window to this node, which has completed at the host: a failure leaves a LOCAL record -/
  | posted (f : Frame)
  /-- the tracker's own LATE_ERR, with the failed command it reports -/
  | tracker (failed : Option WorkRef)
  deriving DecidableEq, Repr

/-- A command completed at its issuer (R179), waiting for the block that issued it. -/
structure Completion where
  issuer : Issuer
  seq : Nat
  status : Nat
  deriving DecidableEq, Repr

/-- The source's copy of a command (R182): sent or waiting, and whether its own execution ACK has come. -/
structure SentCopy where
  seq : Nat
  frame : Frame
  issuer : Issuer
  nonPosted : Bool
  sentAt : Nat
  /-- its own execution ACK has come -/
  execAcked : Bool := false
  /-- the command has completed at its issuer -/
  completed : Bool := false
  deriving DecidableEq, Repr

/-- A journal record (R187), with `state` 1 accepted or 2 done. -/
structure JRecord where
  seq : Nat
  session : Nat
  src : Nat
  type : Nat
  state : Nat
  posted : Bool
  result : Nat := 0
  commander : Nat
  length : Nat
  address : Nat
  inst : Nat := 0
  payloadCrc : Nat
  tag : Nat
  writeGen : Nat := 1
  deriving DecidableEq, Repr

/-- A command at its destination: its record, the frame while its payload is present, whether it has been released to
its consumer, the acceptance time (R191), and whether its record stands. -/
structure Work where
  record : JRecord
  frame : Option Frame := none
  released : Bool := false
  taken : Nat := 0
  stands : Bool := false
  /-- recovered from the journal after a restart (R193) -/
  recovered : Bool := false
  deriving DecidableEq, Repr

/-- One of the 512 session entries (R181): `role` 1 outgoing, 2 incoming; `state` as R213. -/
structure Session where
  role : Nat
  peer : Nat
  cls2 : Bool
  incarnation : Nat
  state : Nat := 1
  /-- the number of its hardware entry, 0 to 511 (R213); a session not yet open has none -/
  slot : Nat := 0
  next : Nat := 1
  acked : Nat := 0
  exec : Nat := 0
  /-- outgoing: highest sequence reported executed -/
  top : Nat := 0
  prevLast : Nat := 0
  /-- journal ring and opening count of an incoming entry (R186) -/
  ring : Nat := 0
  openSeq : Nat := 0
  retxCount : Nat := 0
  dupCount : Nat := 0
  /-- outgoing: commands that wait to be sent, with their number of issue, and copies kept, oldest first -/
  waiting : List (Nat × Frame × Issuer) := []
  copies : List SentCopy := []
  /-- outgoing: the newest 1,024 engine commands, by sequence, and their engines, for late errors (R271) -/
  issued : List (Nat × Nat) := []
  /-- incoming: work in sequence order, and whether the gap's RETRY has been sent and when -/
  work : List Work := []
  gapSent : Option (Nat × Nat) := none
  /-- when the last recall was sent, ns (R194) -/
  recallAt : Nat := 0
  deriving DecidableEq, Repr

/-- A directory entry of the journal (R186). -/
structure DirEntry where
  src : Nat
  cls2 : Bool
  incarnation : Nat
  prevLast : Nat
  ring : Nat
  openSeq : Nat
  deriving DecidableEq, Repr

/-- One MRAM device (R186). Of its header: the layout format, the device number, the out-of-service mark for the other device and the
count of openings; the places of these and of the fields of the two tables are not stated. A record slot is the number that its 32
bytes make, by the offset of the slot. -/
structure MramDevice where
  fitted : Bool := true
  inService : Bool := false
  format : Nat := 0
  number : Nat := 0
  mark : Bool := false
  records : List (Nat × Nat) := []
  directory : List DirEntry := []
  incarnations : List (Nat × Nat) := []
  openCount : Nat := 0
  deriving DecidableEq, Repr

/-- A record write that waits for the port or is in flight (R188): an acceptance write or a done update; when it came to the port, and
when it has started, ns. -/
structure JWrite where
  ring : Nat
  record : JRecord
  acceptance : Bool
  queuedAt : Nat := 0
  start : Option Nat := none
  deriving DecidableEq, Repr

/-- A late-error record (R198). -/
structure LateError where
  time : Nat
  address : Nat
  seq : Nat
  tag : Nat
  status : Nat
  node : Nat
  type : Nat
  cls : Nat
  isLocal : Bool
  deriving DecidableEq, Repr

/-- An answer to a census: ID, ring identity, and the neighbours U and D it names. -/
structure Present where
  id : Nat
  identity : Nat
  u : Nat := 0
  d : Nat := 0
  deriving DecidableEq, Repr

/-- A census in progress (R206). -/
structure Census where
  origin : Nat
  seq : Nat
  time : Nat
  answers : List Present := []
  deriving DecidableEq, Repr

/-- An unweld in progress (R208). -/
structure Unweld where
  start : Nat
  /-- the drain has ended and UNWELD_REQ has been sent -/
  requested : Bool := false
  /-- the new ID to weld in under, for an ID_ASSIGN (R77) -/
  newId : Option Nat := none
  /-- the unweld is that of a STANDBY entry (R414) -/
  standby : Bool := false
  deriving DecidableEq, Repr

/-- The acceptance tracker and the membership. -/
structure AcceptState where
  sessions : List Session := []
  mram0 : MramDevice := {}
  mram1 : MramDevice := { number := 1 }
  writes : List JWrite := []
  /-- the earliest start of the next record write, ns (R188) -/
  portFrom : Nat := 0
  /-- commands issued so far, which orders those that wait (R182) -/
  issueNo : Nat := 0
  leq : List LateError := []
  completions : List Completion := []
  /-- class-3 writes of engines: node, address and engine, newest 1,024 (R197, R271) -/
  class3 : List (Nat × Nat × Nat) := []
  members : List Present := []
  census : Option Census := none
  unweld : Option Unweld := none
  /-- members that are wrapped around, and since when, ns (R202) -/
  absent : List (Nat × Nat) := []
  /-- the splice of a weld runs: its start, and the sample instants passed since (R207); the nodes to splice in after it (R209) -/
  splice : Option Nat := none
  splicesLeft : List Present := []
  /-- the members being welded, from their membership boundary to the end of their splice (R135) -/
  welding : List Nat := []
  spliceEpochs : Nat := 0
  /-- the node is joining (WELD_REQ sent) -/
  joining : Bool := false
  /-- the member that has asked to unweld (R208) -/
  leaving : Option Nat := none
  deriving DecidableEq, Repr

/-- A capture record in a cell's queue (R122, R123): its stamp in 1/256 ns, and the readers that have still to read it. -/
structure Capture where
  time : Nat
  level : Bool
  lost : Bool := false
  notAgreed : Bool
  notTraceable : Bool
  edgeSeq : Nat
  soe : Bool := false
  engine : Bool := false
  deriving DecidableEq, Repr

/-- Where an output command came from, and so where its result goes besides LAST_RESULT (R225). -/
inductive CellOrigin where
  | object
  | work (ref : WorkRef)
  | sme (entry : Nat)
  | engine (n : Nat) (frame : Frame)
  deriving DecidableEq, Repr

/-- A pending placement of a cell (R227): its action, ball instant and WIDTH in 1/256 ns; once its leading edge is placed, the
instant of the trailing edge, and whether the governor has cut the pulse. -/
structure Placement where
  action : Nat
  ball : Nat
  width : Nat := 0
  commander : Nat
  origin : CellOrigin
  trailing : Option Nat := none
  cut : Bool := false
  deriving DecidableEq, Repr

/-- A field cell beside its objects. Times are in 1/256 ns, energies in pJ (mW × ns). -/
structure Cell where
  /-- physical level at the ball, as last known -/
  ball : Bool := false
  /-- when the ball last changed, in 1/256 ns (R228) -/
  ballAt : Nat := 0
  /-- logical level driven; none while high-impedance -/
  driven : Option Bool := none
  queue : List Capture := []
  edgeSeq : Nat := 0
  /-- crossing of the newest record, for the 2 ns rule of R123 -/
  lastCross : Option Nat := none
  /-- the level of the last record, once one has been captured since the captures started -/
  lastLevel : Option Bool := none
  /-- glitch filter: an edge that waits, and its level (R221) -/
  waiting : Option (Nat × Bool) := none
  /-- debounce: first and last edge of the burst, and its level -/
  burst : Option (Nat × Nat × Bool) := none
  /-- the level before the burst -/
  burstFrom : Bool := false
  /-- raw edges of the second of ring time with this number (R222) -/
  second : Nat := 0
  rawEdges : Nat := 0
  /-- the next SOE record carries LOST (R235) -/
  soeLost : Bool := false
  /-- records since the last sample instant: time and level (R131), and the level as last sampled -/
  sampled : List (Nat × Bool) := []
  sampleLevel : Option Bool := none
  placements : List Placement := []
  lastTransition : Option Nat := none
  /-- the output was put at its safe value, and has not been commanded since (R230, R234) -/
  parked : Bool := false
  /-- the governor: integrated up to here, energy of the event, and the buckets by number (R232, R233) -/
  integrated : Nat := 0
  eventPj : Nat := 0
  buckets : List (Nat × Nat) := []
  deriving DecidableEq, Repr

/-- The SOE writer: its 4,096-record queue (records as 128-bit numbers with their cell), and whether the log was full. -/
structure SoeState where
  queue : List (Nat × Nat) := []
  wasFull : Bool := false
  deriving DecidableEq, Repr

/-- The field cells and banks. -/
structure CellsState where
  cells : List (Nat × Cell) := []
  /-- supply of each bank left its band at, or came back at, this time, ns -/
  bankSince : List (Nat × Nat) := []
  soe : SoeState := {}
  /-- cells whose records have raised a wake request not yet taken by an engine (R124) -/
  wakes : List Nat := []
  /-- the configuration is loaded, so that outputs stand at their safe values (R229) -/
  loaded : Bool := false
  deriving DecidableEq, Repr

/-- A compare of an engine: time in 1/256 ns, armed, fired (R241). -/
structure Compare where
  time : Nat := 0
  armed : Bool := false
  fired : Bool := false
  deriving DecidableEq, Repr

/-- A shift in progress (R254, R255): when its next bit starts, in 1/256 ns, bits left and done, and whether it is stalled at a
word boundary or at its end. -/
structure Shift where
  start : Nat
  left : Nat
  done : Nat := 0
  stalled : Bool := false
  /-- of the bits of the present word: those sent, their leading and trailing clock edges, and those taken in -/
  sent : Nat := 0
  leads : Nat := 0
  tails : Nat := 0
  taken : Nat := 0
  deriving DecidableEq, Repr

/-- An I/O engine beside its objects (R241). CUR_STATE, STALL_REASON, the counters, SH_OUT, SH_IN, SH_LEFT, FLAGS and PUB are objects. -/
structure Engine where
  running : Bool := false
  asleep : Bool := false
  /-- a wake source has acted (R257) -/
  wake : Bool := false
  /-- when the present stall began, ns, the pin of CAPT_EMPTY, whether the event that ends it has come, and whether it has been counted as
  long -/
  stalledAt : Nat := 0
  stallPin : Nat := 0
  stallEnded : Bool := false
  longCounted : Bool := false
  mark : Nat := 0
  /-- CAPT: the record as a 128-bit number -/
  capt : Nat := 0
  tc0 : Compare := {}
  tc1 : Compare := {}
  /-- queued actions: time in 1/256 ns and action word, in time order -/
  queue : List (Nat × Nat) := []
  shift : Option Shift := none
  /-- last bit taken into SH_IN -/
  inBit : Bool := false
  /-- samples of SH_STEP that are due: time in 1/256 ns and pin (R256) -/
  steps : List (Nat × Nat) := []
  /-- pin actions of this instant not yet placed: pin, level, ball instant (R251) -/
  placing : List (Nat × Option Bool × Nat) := []
  /-- last levels driven on the pins -/
  lastDriven : List (Nat × Bool) := []
  /-- last change of the registers of R250, ns -/
  changed : List (Nat × Nat) := []
  deriving DecidableEq, Repr

/-- A closed transmit message (R270): its words, when it closed, the commander of its frame, and whether its frame has been
offered to the switch. -/
structure TxMessage where
  words : List Nat
  closedAt : Nat
  commander : Nat
  offered : Bool := false
  /-- the number under which it was offered -/
  no : Nat := 0
  deriving DecidableEq, Repr

/-- A write that waits for its reservation, or has it (R275): accepted work, or a frame of a local block. -/
inductive FifoSource where
  | work (ref : WorkRef)
  /-- a class-3 WRITE of another node -/
  | ring (frame : Frame)
  | block (i : Issuer) (frame : Frame)
  deriving DecidableEq, Repr

structure FifoWrite where
  source : FifoSource
  words : List Nat
  deriving DecidableEq, Repr

/-- The FIFOs of an engine (R268). -/
structure Fifo where
  closed : List TxMessage := []
  opened : List Nat := []
  /-- bytes of earlier messages, for TX_ADDR_MODE 1 (R271) -/
  sentBytes : Nat := 0
  rx : List Nat := []
  /-- reservation requests that wait, and writes that hold a reservation, in order -/
  requests : List FifoWrite := []
  granted : List FifoWrite := []
  deriving DecidableEq, Repr

structure EnginesState where
  engines : List (Nat × Engine) := []
  fifos : List (Nat × Fifo) := []
  deriving DecidableEq, Repr

/-- A frame record that waits in a transmit FIFO or the schedule list (R288 to R291): its instant in ns, its commander, and where its
execution result goes. -/
structure CanEntry where
  record : List Byte
  time : Nat
  commander : Nat
  origin : CellOrigin
  deriving DecidableEq, Repr

/-- A CAN controller beside its objects. -/
structure CanCtl where
  urgent : List CanEntry := []
  normal : List CanEntry := []
  schedule : List CanEntry := []
  /-- when the heads of the urgent and the normal FIFO reached the head, ns, and whether each has set STUCK (R296) -/
  urgentSince : Nat := 0
  normalSince : Nat := 0
  urgentStuck : Bool := false
  normalStuck : Bool := false
  /-- the FIFO whose head is being sent: true urgent -/
  sending : Option Bool := none
  /-- the head being sent is to be discarded at the next start point (TX_ABORT) -/
  abortHead : Bool := false
  /-- consecutive bit errors of R297 of the heads of the urgent and the normal FIFO -/
  urgentClash : Nat := 0
  normalClash : Nat := 0
  /-- a bus-off has not been followed by an error-free frame (R295) -/
  offOpen : Bool := false
  rx : List (List Byte) := []
  /-- the next stored record, and the next record for the SME, carries LOST -/
  lost : Bool := false
  smeLost : Bool := false
  deriving DecidableEq, Repr


/-- The open receive message of a UART channel (R311). -/
structure UartOpen where
  first : Nat
  data : List Byte := []
  parity : Bool := false
  framing : Bool := false
  noise : Bool := false
  firstErr : Option Nat := none
  deriving DecidableEq, Repr

/-- The message being sent: its entry, when its break or first start bit begins, ns, and the characters echoed so far. -/
structure UartTx where
  entry : CanEntry
  start : Nat
  echoed : Nat := 0
  deriving DecidableEq, Repr

/-- A UART channel beside its objects. -/
structure UartChan where
  queue : List CanEntry := []
  schedule : List CanEntry := []
  rx : List (List Byte) := []
  lost : Bool := false
  smeLost : Bool := false
  message : Option UartOpen := none
  /-- ends of the last characters received and sent, ns -/
  lastRx : Nat := 0
  lastTx : Nat := 0
  sending : Option UartTx := none
  /-- the message that left the queue last: its character in progress goes out until `lastTx` -/
  last : Option UartTx := none
  /-- UA_DE is to be released DE_LAG after this time, ns -/
  lagFrom : Option Nat := none
  /-- start of the break in progress, ns -/
  breakFrom : Option Nat := none
  /-- the objects of reception and of transmission as they stood before a commit made while a message was in progress (R321) -/
  rxBefore : List (Nat × Nat) := []
  txBefore : List (Nat × Nat) := []
  deriving DecidableEq, Repr


/-- What a request that needs the host bus belongs to (R331). -/
inductive MasterOrigin where
  /-- accepted work: a WRITE to SPACE 0x2 of this node -/
  | work (ref : WorkRef)
  /-- a READ or a class-3 WRITE from the ring -/
  | frame (f : Frame)
  /-- a WRITE of a local block -/
  | block (i : Issuer) (f : Frame)
  /-- this node's own window cycle -/
  | window (tag : Nat)
  /-- a host input block, and an output buffer of the signal map -/
  | input (block : Nat)
  | output (buffer : Nat)
  deriving DecidableEq, Repr

/-- A request of the bridge as master: `pos` bytes of it are done, `got` are the bytes read so far. -/
structure MasterReq where
  origin : MasterOrigin
  write : Bool
  address : Nat
  length : Nat
  data : List Byte := []
  pos : Nat := 0
  got : List Byte := []
  retries : Nat := 0
  /-- when its first cycle began, ns -/
  began : Option Nat := none
  deriving DecidableEq, Repr

/-- The pending fabric cycle (R329): its request's tag and target; `held` while the host waits in the cycle; `arrived` when its
request has completed; `ready` when the result waits to be collected. -/
structure PendingCycle where
  cycle : HostCycle
  tag : Nat := 0
  node : Nat := 0
  held : Bool := true
  ready : Bool := false
  arrived : Option (Nat × List Byte) := none
  deriving DecidableEq, Repr

/-- The host bus bridge beside its objects. -/
structure BridgeState where
  intStatus : Nat := 0
  claimLo : Nat := 0
  /-- STATUS of TGT_STATUS -/
  status : Nat := 0
  pending : Option PendingCycle := none
  queue : List MasterReq := []
  /-- HB_REQ_N is asserted; the bus is granted -/
  requesting : Bool := false
  granted : Bool := false
  /-- the tag of the next window READ -/
  tag : Nat := 0
  deriving DecidableEq, Repr

/-- A member of a GOOSE dataset (R334): its word, the quality bits of its own, and the full time of a utc-time. -/
structure GooseMember where
  word : Nat
  quality : Nat := 0
  time : Option Nat := none
  deriving DecidableEq, Repr

/-- A GOOSE subscription beside its objects: members, header time and simulation of the last frame, its TAL, when that or staleness
began, and STALE and INVALID of R333 and R335. -/
structure GooseSub where
  members : List GooseMember := []
  time : Nat := 0
  test : Bool := false
  tal : Nat := 0
  stale : Bool := false
  invalid : Bool := false
  deriving DecidableEq, Repr

/-- What a group of a publication holds (R344). -/
structure GroupValue where
  value : Int := 0
  quality : Nat := 1
  time : Nat := 0
  /-- fraction bits of an MV group -/
  scale : Nat := 0
  deriving DecidableEq, Repr

/-- A GOOSE publication beside its objects: the time of its header, the interval to the next transmission and when it is, ns. -/
structure GoosePub where
  time : Nat := 0
  interval : Option Nat := none
  next : Nat := 0
  deriving DecidableEq, Repr

/-- A result register of the signal map with its last reported quality (R343): `time` is passed on with it, `changed` is when it was
last reported, ns. -/
structure MapResult where
  value : Int := 0
  quality : Nat := 1
  time : Nat := 0
  changed : Nat := 0
  deriving DecidableEq, Repr

/-- The committed state of the map (R362): result registers, output buffer images, and groups by publication × 16 + group. -/
structure MapState where
  results : List (Nat × Option MapResult) := []
  images : List (Nat × List Byte) := []
  groups : List (Nat × GroupValue) := []
  deriving DecidableEq, Repr

/-- An input of an arrival run (R339): SRC_KIND, index, the selector it carries, its payload or members, own time and quality; the origin of
an EVENT. -/
structure MapInput where
  cls : Nat
  kind : Nat
  index : Nat
  sel : Nat := 0
  data : List Byte := []
  members : List GooseMember := []
  time : Nat := 0
  quality : Nat := 0
  work : Option WorkRef := none
  /-- EVENT issued by a block of this node -/
  block : Option Issuer := none
  deriving DecidableEq, Repr

/-- A host input block as last read: its bytes, the read's start, and whether it failed. -/
structure HostBlock where
  data : List Byte := []
  start : Nat := 0
  failed : Bool := true
  deriving DecidableEq, Repr

/-- The snapshot of a run (R363): the input of an arrival run, or the lake slots (by publisher × 4096 + slot), host input blocks and
epoch of a cyclic run; HOLDER, TIME_FLAGS, and the time of the run. -/
structure MapSnapshot where
  input : Option MapInput := none
  lake : List (Nat × Nat) := []
  blocks : List (Nat × HostBlock) := []
  epoch : Nat := 0
  applyAt : Nat := 0
  sampleAt : Nat := 0
  holder : Nat := 0
  flags : Nat := 0
  time : Nat := 0
  /-- the snapshot cannot be read again (R363) -/
  lost : Bool := false
  deriving DecidableEq, Repr

/-- The signal-mapping engine beside its objects. SME_STATE, OOS_MAP and the counters are objects. -/
structure SmeState where
  subs : List (Nat × GooseSub) := []
  pubs : List (Nat × GoosePub) := []
  map : MapState := {}
  /-- the mordant point and the snapshots of the runs agreed since (R367), with their bytes -/
  mordant : MapState := {}
  log : List MapSnapshot := []
  logBytes : Nat := 0
  /-- inputs that wait, in order of arrival -/
  waiting : List MapInput := []
  /-- the epoch whose cyclic run is due or in progress, and whether that of the last epoch agreed (R371) -/
  cyclic : Option Nat := none
  agreed : Bool := true
  blocks : List (Nat × HostBlock) := []
  /-- messages of output buffers that wait for room (R345) -/
  kept : List (Nat × List Byte) := []
  /-- sample instants at which mismatches count, by epoch number (R370) -/
  window : List Nat := []
  /-- the self-test was started by a mismatch, and the run that failed (R371) -/
  escalated : Bool := false
  failed : Option MapSnapshot := none
  /-- end of the last self-test, ns (R370) -/
  lastTest : Nat := 0
  deriving DecidableEq, Repr


/-- The parameters of a check-value unit (R350). -/
structure CkParams where
  width : Nat
  poly : Nat
  init : Nat
  xorout : Nat
  refin : Bool
  refout : Bool
  deriving DecidableEq, Repr

/-- A context of a check-value unit: its running value (none: INIT), alive counter, and whether it is synchronised. -/
structure CkContext where
  value : Option Nat := none
  alive : Nat := 0
  synced : Bool := false
  deriving DecidableEq, Repr

/-- A memory job (R357): its parameters are those in force at its start; `written` is a CTX_VALUE written meanwhile (R358). -/
structure CkJob where
  params : CkParams
  addr : Nat
  len : Nat
  ctx : Nat
  reg : Nat
  written : Option Nat := none
  /-- a commit has cleared the context meanwhile, so that the job does not save its running value (R359) -/
  voided : Bool := false
  deriving DecidableEq, Repr

/-- The check-value units: contexts by unit × 64 + context, jobs by unit. -/
structure CheckState where
  contexts : List (Nat × CkContext) := []
  jobs : List (Nat × Option CkJob) := []
  deriving DecidableEq, Repr


/-- The class of a feed (R382). -/
inductive FeedClass where
  | good | high | low | absent
  deriving DecidableEq, Repr

/-- A feed as the power entry sees it. `up` is the undervoltage latch of R382; times are ticks of 1 µs. -/
structure Feed where
  mv : Nat := 0
  up : Bool := true
  high : Bool := false
  /-- the tick since which the feed has been below OV_MV − OV_HYST_MV while over -/
  overLow : Option Nat := none
  absent : Bool := false
  /-- last change to good (R386), and the tick since which the feed has been good and at or above WARN_MV (R397) -/
  goodSince : Option Nat := some 0
  warnSince : Option Nat := some 0
  /-- when the feed left good, while its fault is not yet classed (R398) -/
  lostAt : Option Nat := none
  lasting : Bool := false
  deriving DecidableEq, Repr

/-- The ramp in progress (R387, R388): its path, its start, and its charge in nC and energy in pJ so far; `whole` once the bus is within
300 mV of VCOM, with the length of the ramp in µs. -/
structure Ramp where
  path : Nat
  start : Nat
  charge : Nat := 0
  energy : Nat := 0
  whole : Option Nat := none
  deriving DecidableEq, Repr

/-- A break-before-make transfer (R396). -/
structure Transfer where
  outgoing : Nat
  incoming : Nat
  start : Nat
  deriving DecidableEq, Repr

/-- A feed test (R398): the feed, its start, its minimum under load, and whether it is the second attempt; an observation of the feed
that carries alone. -/
structure FeedTest where
  feed : Nat
  start : Nat
  minMv : Nat
  second : Bool := false
  deriving DecidableEq, Repr

/-- The power entry. States are the codes of R385. -/
structure PowerState where
  /-- ticks of 1 µs -/
  tick : Nat := 0
  /-- the housekeeping domain is supplied or held -/
  alive : Bool := true
  /-- the housekeeping copy of the objects of R404, by key, and whether the MP has written it (R381) -/
  copy : List (Nat × Nat) := []
  copied : Bool := false
  state : Nat := 4
  /-- the state that HOLD and LIMIT came from -/
  heldFrom : Nat := 0
  limitFrom : Nat := 4
  feed1 : Feed := {}
  feed2 : Feed := {}
  /-- PE_EN as last read, and since when it has been low (R392) -/
  peEn : Bool := true
  enLow : Option Nat := none
  latched : Bool := false
  retryCount : Nat := 0
  /-- end of the retry timer (R391) -/
  retryAt : Option Nat := none
  /-- all feeds below 2 V since (R383) -/
  goneSince : Option Nat := none
  removed : Bool := false
  faultTimer : Nat := 0
  /-- energy of the limiting interval, pJ -/
  limitEnergy : Nat := 0
  ramp : Option Ramp := none
  gateFull : Bool := true
  /-- where the settle time counts from (R389) -/
  settleFrom : Nat := 0
  pgood : Bool := true
  pgoodSince : Nat := 0
  /-- STANDBY keeps PGOOD low with the gate on (R389) -/
  standby : Bool := false
  /-- the paths whose gates are on, and the transfer in progress -/
  on1 : Bool := true
  on2 : Bool := true
  transfer : Option Transfer := none
  test : Option FeedTest := none
  /-- a feed to be tested again, and when (R398) -/
  retest : Option (Nat × Nat) := none
  warn : Bool := false
  /-- samples of the last 1 ms, newest last: feed 1, feed 2, bus in mV and current in mA -/
  samples : List (Nat × Nat × Nat × Nat) := []
  /-- the node left LOADING at this tick (R398) -/
  loadedAt : Option Nat := none
  /-- charge in µC, energy in mJ and length in µs of the last ramp, and energy in mJ of the last limiting interval (R401) -/
  lastCharge : Nat := 0
  lastEnergy : Nat := 0
  lastLength : Nat := 0
  lastLimit : Nat := 0
  deriving DecidableEq, Repr


/-- Resets, power states and the backup island beside their objects. Reset kinds are the codes of `LAST_RESET`. -/
structure ResetState where
  /-- the highest-ranked reset raised since the last start that reached HELD (R411) -/
  starting : Option Nat := some 1
  /-- the reset raised last (R443) -/
  raised : Nat := 1
  /-- the object load of this start has run -/
  loaded : Bool := false
  /-- the counter when the node last left LOADING, for UPTIME: none in LOADING -/
  leftAt : Option Int := none
  /-- when the links were brought up in this start, ns (R206, R207) -/
  broughtUp : Nat := 0
  /-- release of reset, ns (R418) -/
  startAt : Nat := 0
  /-- a reset that begins later: kind, origin and time, ns (R409, R445) -/
  due : Option (Nat × Nat × Nat) := none
  /-- the core is powered: PGOOD is high and the rails are up -/
  coreOn : Bool := true
  /-- the tick at which the core lost power, for the time the counter stood (R108) -/
  offTick : Nat := 0
  /-- the tick up to which RST_N holds back the start of a core that gets power (R17, R408) -/
  lowUntil : Nat := 0
  /-- in STANDBY, with the wake settings copied to the housekeeping domain (R414); a wake that waits for the entry to complete (R415) -/
  standby : Bool := false
  wakeAt : Nat := 0
  wakePin : Bool := true
  wakeWaiting : Option Nat := none
  /-- the cause of the wake that leads to a STBY start, as LAST_WAKE codes it -/
  wokenBy : Option Nat := none
  /-- the backup island: low-VBAT flag, supplied from VBAT, and so since the last start (R419) -/
  vbatLow : Bool := false
  /-- `VBAT` as last measured, mV (R427) -/
  vbatMv : Option Nat := none
  onVbat : Bool := false
  vbatUsed : Bool := false
  deriving DecidableEq, Repr


/-- The boot record (R430); slot states are the codes of `SLOT_STATE`. -/
structure BootRecord where
  active : Nat := 0
  prev : Nat := 0
  trial : Bool := false
  failed : Nat := 0
  cause : Nat := 0
  slot0 : Nat := 0
  slot1 : Nat := 0
  result : Nat := 0
  pauseUs : Nat := 0
  seq : Nat := 0
  deriving DecidableEq, Repr

/-- A firmware slot: the bytes programmed, and the time of the IMG_END that completed it. -/
structure SlotImage where
  data : List Byte := []
  written : Nat := 0
  deriving DecidableEq, Repr

/-- An open download (R434): its slot and total, whether the erase is complete, the last accepted frame, and when the last image
frame came, ns. -/
structure Download where
  slot : Nat
  total : Nat
  erased : Bool := false
  lastFrame : Option (Nat × List Byte) := none
  last : Nat
  deriving DecidableEq, Repr

/-- Firmware slots, activation and recovery. -/
structure FwState where
  /-- the two boot records; none where a record is not valid (R430) -/
  boot0 : Option BootRecord := none
  boot1 : Option BootRecord := none
  image0 : SlotImage := {}
  image1 : SlotImage := {}
  /-- the slot this start runs from (R443) -/
  slot : Nat := 0
  download : Option Download := none
  /-- an activation that waits for its pause, and the pause in progress, from when, ns (R435, R436) -/
  pauseAt : Option Nat := none
  pause : Option Nat := none
  /-- the node state to return to after the pause (R17) -/
  pausedIn : Nat := 0
  /-- the node has been in HELD, RUNNING or DEGRADED since, for the trial (R441), ns -/
  trialFrom : Option Nat := none
  /-- the straps read 0b01 or 0b11 at the last start, to be logged at the next (R443) -/
  badStrap : Option Nat := none
  /-- the export copy (R440) -/
  exported : Option StoreCopy := none
  /-- the rate the service link has locked to, none while it searches: 0 to 3 for 3.125, 6.25, 12.5 and 25 Mb/s (R461) -/
  linkRate : Option Nat := none
  deriving DecidableEq, Repr


/-- The state of the whole node. -/
structure State where
  /-- scalar objects of the dictionary, by key; unlisted keys hold their defaults -/
  objs : List (Nat × Nat) := []
  /-- OCTETS, VSTRING and DOMAIN objects, by key; unlisted keys hold their defaults -/
  blobs : List (Nat × List Byte) := []
  /-- the 64-bit ns counter with its 40-bit fraction, in units of 2^-40 ns (R107) -/
  time : Nat := 0
  /-- how many free values have been taken: the model's own field (log entry 3) -/
  freeCount : Nat := 0
  dict : DictState := {}
  ring : RingState := {}
  tb : TimeState := {}
  lake : LakeState := {}
  sw : SwitchState := {}
  acc : AcceptState := {}
  fc : CellsState := {}
  eng : EnginesState := {}
  ck : CheckState := {}
  /-- CAN controllers, by number -/
  can : List (Nat × CanCtl) := []
  /-- UART channels, by number -/
  uart : List (Nat × UartChan) := []
  bridge : BridgeState := {}
  sme : SmeState := {}
  /-- the power entry, resets and power states, and the firmware -/
  pe : PowerState := {}
  rst : ResetState := {}
  fw : FwState := {}
  /-- external DRAM, by byte address; an unlisted byte reads 0 (R24, log entry 7) -/
  dram : List (Nat × Byte) := []
  /-- what the board fits: DRAM in MiB and the two MRAM devices (R55, log entry 8) -/
  boardDram : Nat := 16384
  /-- the verdigris log: head, main log, open lasting faults (R421 to R423) -/
  vgHead : List VgEntry := []
  vgMain : List VgEntry := []
  vgOpen : List OpenFault := []
  /-- what the node has put out, newest last: the model's own field (log entry 6) -/
  out : List Out := []
  /-- commands waiting, first in, first out: the model's own field -/
  pending : List Instr := []
  deriving DecidableEq, Repr

/-- Faults of the model: none. Every refusal the spec gives is a completion status in a response, so no meaning stops. -/
inductive Fault where
  deriving DecidableEq, Repr

/-- Refusals of the model. -/
inductive Refusal where
  /-- Raised by the dispatch for a command that has no meaning yet; safe, since it only stops the run. -/
  | notModelled (mnemonic : String)
  deriving DecidableEq, Repr

/-- The machine right after a POR, before its start sequence has run: every object at its default (R43), nothing in
memory, no command waiting. Log entry 1 names the values that the spec does not give. -/
def State.reset : State := {}

end Sys2Proof.Machine
end

