-- ==== Sys2Proof/Machine/Ops.lean ====
section
/-! DEFINITION. The named operations that every meaning is built from: reading and writing objects, time, free values,
the verdigris log, claims, epochs and outputs. -/
namespace Sys2Proof.Machine

/-! ## Objects -/

/-- The stored value of the scalar object at key `k`. -/
def State.obj (s : State) (k : Nat) : Nat := sparseGet scalarDefault s.objs k

/-- The state in which the scalar object at key `k` holds `v`. -/
def State.put (s : State) (k v : Nat) : State := { s with objs := sparsePut scalarDefault s.objs k v }

/-- The state in which the scalar object at key `k` holds 0 or 1. -/
def State.putBool (s : State) (k : Nat) (b : Bool) : State := s.put k (ofBool b)

/-- The bytes of the OCTETS, VSTRING or DOMAIN object at key `k`. -/
def State.blob (s : State) (k : Nat) : List Byte := sparseGet bytesDefault s.blobs k

/-- The state in which the bytes object at key `k` holds `v`. -/
def State.putBlob (s : State) (k : Nat) (v : List Byte) : State :=
  { s with blobs := sparsePut bytesDefault s.blobs k v }

/-- A U32 counter counts one more and wraps from 0xFFFF_FFFF to 0. -/
def State.bump (s : State) (k : Nat) : State := s.put k ((s.obj k + 1) % 2 ^ 32)

/-- A U32 counter counts `n` more. -/
def State.bumpBy (s : State) (k n : Nat) : State := s.put k ((s.obj k + n) % 2 ^ 32)

/-- A U64 counter counts `n` more. -/
def State.bump64 (s : State) (k n : Nat) : State := s.put k ((s.obj k + n) % 2 ^ 64)

/-- Bit `i` of the object at key `k`. -/
def State.flag (s : State) (k i : Nat) : Bool := (s.obj k).testBit i

/-- Bit `i` of the object at key `k` set to `b`. -/
def State.setFlag (s : State) (k i : Nat) (b : Bool) : State :=
  s.put k (if b then s.obj k ||| 2 ^ i else s.obj k &&& (2 ^ 64 - 1 - 2 ^ i))

/-- Objects at each key of a list set to 0, for the CLEAR objects. -/
def State.clearKeys (s : State) (ks : List Nat) : State := ks.foldl (fun t k => t.put k 0) s

/-- Apply `f` for each number of a list. -/
def forEach {α : Type} (l : List α) (f : State → α → State) (s : State) : State := l.foldl f s

/-! ## Time -/

/-- The counter's whole nanoseconds (R107). -/
def State.now (s : State) : Nat := s.time / 2 ^ 40

/-- The counter in 1/256 ns, rounded (R107). -/
def State.now256 (s : State) : Nat := (s.time + 2 ^ 31) / 2 ^ 32

/-- Time passes up to `t` ns, if `t` is not past: an event that ends a wait implies that the wait has passed (log entry 9). -/
def State.waitUntil (s : State) (t : Nat) : State := { s with time := max s.time (t * 2 ^ 40) }

/-- Lengths of time in ns. -/
def us : Nat := 1000
def ms : Nat := 1000000
def sec : Nat := 1000000000

/-- Length of a bucket of a cell's window in ns (R233). -/
def State.bucketNs (s : State) (n : Nat) : Nat := max 1 (s.obj (Obj.windowLength n) * ms / 16)

/-- A cell after the counter has moved by `ns`: the spacing of its edges and transitions and its governor's account are lengths of time, and
do not feel the step (log entry 177). -/
def Cell.moved (c : Cell) (ns : Int) (bucket : Nat) : Cell :=
  let m (t : Nat) : Nat := ((t : Int) + ns).toNat
  let m256 (t : Nat) : Nat := ((t : Int) + ns * 256).toNat
  { c with
    ballAt := m256 c.ballAt, lastCross := c.lastCross.map m256, lastTransition := c.lastTransition.map m256
    waiting := c.waiting.map (fun w => (m256 w.1, w.2)), burst := c.burst.map (fun b => (m256 b.1, m256 b.2.1, b.2.2))
    integrated := m c.integrated, buckets := c.buckets.map (fun b => (((b.1 : Int) + ns / bucket).toNat, b.2)) }

/-- The counter is moved by `d` in units of 2^-40 ns; the real-time clock runs on untouched (R108). -/
def State.jump (s : State) (d : Int) : State :=
  let cells := s.fc.cells.map (fun e => (e.1, e.2.moved (d / (2 ^ 40 : Nat)) (s.bucketNs e.1)))
  { s with time := ((s.time : Int) + d).toNat, tb := { s.tb with rtcMark := s.tb.rtcMark + d / (2 ^ 40 : Nat) },
           rst := { s.rst with leftAt := s.rst.leftAt.map (· + d / (2 ^ 40 : Nat)) }
           fc := { s.fc with cells := cells.filter (fun e => e.2 ≠ ({} : Cell)) } }

/-- The real-time clock in ns, before it is cut to periods of 32,768 Hz (R419). -/
def State.rtcRaw (s : State) : Nat := ((s.tb.rtcTime : Int) + ((s.now : Int) - s.tb.rtcMark)).toNat

/-- The reading of the real-time clock (R427): whole periods, 0 while it is not valid. -/
def State.rtcNow (s : State) : Nat := if s.tb.rtcValid then s.rtcRaw * 32768 / sec * sec / 32768 else 0

/-- Time passes up to `t` in 1/256 ns. -/
def State.waitUntil256 (s : State) (t : Nat) : State := { s with time := max s.time (t * 2 ^ 32) }

/-! ## Calibration (R44) -/

/-- Effective gain and offset of item `k`. -/
def State.effGain (s : State) (k : Nat) : Nat := f32Mul (s.obj (Obj.fGain k)) (s.obj (Obj.uGain k))
def State.effOffset (s : State) (k : Nat) : Nat := f32Add (s.obj (Obj.fOffset k)) (s.obj (Obj.uOffset k))

/-- The calibrated result of a raw value. -/
def State.corrected (s : State) (k : Nat) (x : Int) : Int := calibrate (s.effGain k) (s.effOffset k) x

/-- A delay item in 1/256 ns, on the 250 ps grid (R44, R122). -/
def State.delay256 (s : State) (k : Nat) : Int := roundHalfAway (s.corrected k 0) 250 * 64

/-! ## Free values -/

/-- A value the spec leaves open: nothing constrains it (log entry 3). -/
def State.freeNow (s : State) : Nat := Config.freeValue s.freeCount

/-- The state after taking a free value. -/
def State.tookFree (s : State) : State := { s with freeCount := s.freeCount + 1 }

/-! ## Outputs -/

/-- The node puts something out. -/
def State.emit (s : State) (o : Out) : State := { s with out := s.out ++ [o] }

/-! ## Node state and flags -/

def stLoading : Nat := 2
def stHeld : Nat := 3
def stRunning : Nat := 4
def stDegraded : Nat := 5
def stRecovery : Nat := 6

/-- The node state (R16), as NODE_STATE codes it. -/
def State.node (s : State) : Nat := s.obj Obj.nodeState

/-- RUNNING or DEGRADED. -/
def State.serving (s : State) : Bool := s.node == stRunning || s.node == stDegraded

/-- HELD, RUNNING or DEGRADED. -/
def State.onRing (s : State) : Bool := s.node == stHeld || s.serving

/-- The HOLD power state (R412), the activation pause (R436), and either of them. -/
def State.holding (s : State) : Bool := s.obj Obj.powerState == 2
def State.paused (s : State) : Bool := s.fw.pause.isSome
def State.quiet (s : State) : Bool := s.holding || s.paused

/-- The effective node ID (R78). -/
def State.ownId (s : State) : Nat := s.obj Obj.effectiveId

/-- A change of NODE_STATE with its reason; a cause that leaves the state as it is changes nothing (R56). -/
def State.enter (s : State) (st reason : Nat) : State :=
  if s.node = st then s
  else ((s.put Obj.nodeState st).put Obj.stateReason reason).put Obj.stateEntered s.now

/-- Bits of FAULT_SUMMARY (R57). -/
def fsFormatReset : Nat := 1
def fsCommitFail : Nat := 2
def fsWrapActive : Nat := 4
def fsDebugBroke : Nat := 8

/-- AGREED, TRACEABLE (R118). -/
def State.agreed (s : State) : Bool := s.flag Obj.timeFlags 0
def State.traceable (s : State) : Bool := s.flag Obj.timeFlags 1

/-! ## Epochs (R125) -/

/-- The ring epoch length in ns. -/
def State.epochNs (s : State) : Nat := s.obj Obj.ringEpoch * us

/-- The ring apply delay in ns. -/
def State.applyNs (s : State) : Nat := s.obj Obj.ringApply * us

/-- The epoch number of time `t`: floor((t − P) ÷ E), 64 bits. -/
def State.epochAt (s : State) (t : Nat) : Nat :=
  (((t : Int) - s.tb.phase) / (s.epochNs : Int) % (2 ^ 64 : Nat)).toNat

/-- The first sample instant after time `t`. -/
def State.sampleAfter (s : State) (t : Nat) : Nat :=
  if t < s.tb.phase then s.tb.phase else ((t - s.tb.phase) / s.epochNs + 1) * s.epochNs + s.tb.phase

/-- The first sample instant at or after time `t`. -/
def State.sampleFrom (s : State) (t : Nat) : Nat :=
  if t ≤ s.tb.phase then s.tb.phase else s.sampleAfter (t - 1)

/-- The sample instant S(k). -/
def State.sampleOf (s : State) (k : Nat) : Nat := k * s.epochNs + s.tb.phase

/-! ## Claims (R98, R101) -/

/-- Whether commander `a` ranks above commander `b` among live claims: the greater number, of equal ones the lower ID. -/
def claimAbove (s : State) (a b : Nat) : Bool :=
  s.obj (Obj.cmdrClaim (b - 1)) < s.obj (Obj.cmdrClaim (a - 1))

/-- The live commanders. -/
def State.liveCommanders (s : State) : List Nat :=
  [1, 2, 3, 4, 5, 6, 7, 8].filter (fun i => s.obj (Obj.cmdrLive (i - 1)) == 1)

/-- The commander with the highest live claim, 0 if none is live (R101). -/
def State.holderNow (s : State) : Nat :=
  s.liveCommanders.foldl (fun best i => if best = 0 ∨ claimAbove s i best then i else best) 0

/-! ## The verdigris log (R421 to R423) -/

/-- The last `n` elements of a list. -/
def lastN {α : Type} (n : Nat) (l : List α) : List α := l.drop (l.length - n)

/-- One entry is written to the head and to the main log (R421, R422). -/
def State.log (s : State) (e : VgEntry) : State :=
  let e' := { e with time := s.now, seq := s.obj Obj.vgNextSeq, notAgreed := !s.agreed }
  { s.put Obj.vgNextSeq ((s.obj Obj.vgNextSeq + 1) % 2 ^ 32) with
    vgHead := lastN 32 (s.vgHead ++ [e'])
    vgMain := lastN (s.obj Obj.vgCapacity) (s.vgMain ++ [e']) }

/-- An event entry, KIND 0. -/
def State.logEvent (s : State) (index sub inst status detail : Nat) : State :=
  s.log { index := index, sub := sub, inst := inst, status := status, detail := detail }

/-- Whether an open fault is one of this record and instance that its own repair closes (R15, R423). -/
def OpenFault.isOwn (o : OpenFault) (index sub inst : Nat) : Bool :=
  o.untilClosed == [] && o.entry.index == index && o.entry.sub == sub && o.entry.inst == inst

/-- Whether a lasting fault of this record and instance is open. -/
def State.faultOpen (s : State) (index sub inst : Nat) : Bool := s.vgOpen.any (fun o => o.isOwn index sub inst)

/-- A lasting fault opens (R423), unless it is open already. Each further covered fault of R15 opens its own. -/
def State.openFault (s : State) (index sub inst status detail : Nat) (covered : Bool) (untilClosed : List Nat := []) :
    State :=
  if untilClosed = [] ∧ s.faultOpen index sub inst then s else
  let e : VgEntry := { index := index, sub := sub, inst := inst, status := status, detail := detail, kind := 2 }
  let seq := s.obj Obj.vgNextSeq
  let t := s.log e
  { t with vgOpen := t.vgOpen ++ [{ entry := { e with time := s.now, seq := seq, notAgreed := !s.agreed },
                                     covered := covered, untilClosed := untilClosed }] }

/-- The link codes of R73. -/
def lkOff : Nat := 0
def lkCold : Nat := 1
def lkTrain : Nat := 2
def lkAlign : Nat := 3
def lkCheck : Nat := 4
def lkUp : Nat := 5
def lkFailed : Nat := 6

/-- The failed segments this node knows from its neighbours: its own out links that A_OUT_STATE and B_OUT_STATE report FAILED (R96, R104).
The fault's record is the neighbour's, so each stands here under a number that no entry has. -/
def State.failedOuts (s : State) : List Nat :=
  (if s.obj Obj.aOutState = lkFailed then [2 ^ 32] else []) ++ (if s.obj Obj.bOutState = lkFailed then [2 ^ 32 + 1] else [])

/-- The covered faults present (R14): those open in this node's log, and the failed segments whose record is a neighbour's. -/
def State.coveredNow (s : State) : List Nat := (s.vgOpen.filter (·.covered)).map (·.entry.seq) ++ s.failedOuts

/-- A transient fault: one entry of KIND 1. While a covered fault is present, a further covered fault is reported as lasting
and stays open until every covered fault present now has closed (R15). -/
def State.transientFault (s : State) (index sub inst status detail : Nat) (covered : Bool) : State :=
  let open' := s.coveredNow
  if covered ∧ open' ≠ [] then s.openFault index sub inst status detail true open'
  else s.log { index := index, sub := sub, inst := inst, status := status, detail := detail, kind := 1 }

/-- A lasting fault, counted by its own rule. -/
def State.lastingFault (s : State) (index sub inst status detail : Nat) (covered : Bool) : State :=
  s.openFault index sub inst status detail covered

/-- Close the open faults that satisfy `p`, each with its KIND 3 entry. -/
def State.closeWhere (s : State) (p : OpenFault → Bool) : State :=
  let t := (s.vgOpen.filter p).foldl (fun t o => t.log { o.entry with kind := 3 }) s
  { t with vgOpen := t.vgOpen.filter (fun o => !p o) }

/-- Close the further faults whose covered faults have all closed (R15), up to `n` rounds. -/
def State.closeFurther : Nat → State → State
  | 0, s => s
  | n + 1, s =>
    let seqs := s.vgOpen.map (·.entry.seq) ++ s.failedOuts
    let p := fun (o : OpenFault) => o.untilClosed ≠ [] && o.untilClosed.all (fun q => !seqs.contains q)
    if s.vgOpen.any p then State.closeFurther n (s.closeWhere p) else s

/-- The lasting fault of this record and instance closes by its own repair (R423, R15). -/
def State.closeFault (s : State) (index sub inst : Nat) : State :=
  let p := fun (o : OpenFault) => o.isOwn index sub inst
  if s.vgOpen.any p then State.closeFurther s.vgOpen.length (s.closeWhere p) else s

/-! ## Requests and responses -/

/-- The status codes of R6. -/
def stDone : Nat := 0x00
def stRetry : Nat := 0x01
def stBusyCross : Nat := 0x02
def stTimeout : Nat := 0x03
def stPathDown : Nat := 0x04
def stClaimLost : Nat := 0x05
def stNoObject : Nat := 0x10
def stNoSubindex : Nat := 0x11
def stTypeMismatch : Nat := 0x12
def stOutOfRange : Nat := 0x13
def stReadOnly : Nat := 0x14
def stWriteOnly : Nat := 0x15
def stStaged : Nat := 0x16
def stHeldStatus : Nat := 0x17
def stLateFail : Nat := 0x20
def stDuplicate : Nat := 0x21
def stIntegrity : Nat := 0x30
def stInternal : Nat := 0x3F

/-- Every status code that is not reserved (R6, R7). -/
def statusCodes : List Nat :=
  [stDone, stRetry, stBusyCross, stTimeout, stPathDown, stClaimLost, stNoObject, stNoSubindex, stTypeMismatch, stOutOfRange, stReadOnly,
   stWriteOnly, stStaged, stHeldStatus, stLateFail, stDuplicate, stIntegrity, stInternal]

/-- A status code as a receiver takes it: a reserved one counts as INTERNAL (R7). -/
def knownStatus (n : Nat) : Nat := if statusCodes.contains n then n else stInternal

/-- A status that the spec leaves open: a free one of the codes of R6. -/
def State.freeStatus (s : State) : Nat := statusCodes.getD (s.freeNow % statusCodes.length) stDone

/-- The response to a request with a status and data (R48). -/
def respTo (s : State) (req : ObjReq) (status : Nat) (flags : Nat := 0) (data : List Byte := []) : ObjResp :=
  { opcode := req.opcode ||| 0x80, status := status, source := s.ownId, commander := req.commander, index := req.index,
    sub := req.sub, flags := flags, tag := req.tag, segOffset := req.segOffset, data := data }

/-- The bytes of a request body (R47). -/
def reqBytes (r : ObjReq) : List Byte :=
  leBytes 1 r.opcode ++ leBytes 1 r.flags ++ leBytes 1 r.target ++ leBytes 1 r.commander ++ leBytes 2 r.index ++
  leBytes 1 r.sub ++ leBytes 1 r.reserved ++ leBytes 2 r.tag ++ leBytes 2 r.length ++ leBytes 4 r.segOffset ++ r.data

/-- The request body read from bytes; the data are all bytes from byte 16 on. -/
def reqOfBytes (b : List Byte) : ObjReq :=
  { opcode := leAt b 0 1, flags := leAt b 1 1, target := leAt b 2 1, commander := leAt b 3 1, index := leAt b 4 2,
    sub := leAt b 6 1, reserved := leAt b 7 1, tag := leAt b 8 2, length := leAt b 10 2, segOffset := leAt b 12 4,
    data := b.drop 16 }

/-- The bytes of a response body (R48). -/
def respBytes (r : ObjResp) : List Byte :=
  leBytes 1 r.opcode ++ leBytes 1 r.status ++ leBytes 1 r.source ++ leBytes 1 r.commander ++ leBytes 2 r.index ++
  leBytes 1 r.sub ++ leBytes 1 r.flags ++ leBytes 2 r.tag ++ leBytes 2 r.data.length ++ leBytes 4 r.segOffset ++ r.data

/-- The response body read from bytes. -/
def respOfBytes (b : List Byte) : ObjResp :=
  { opcode := leAt b 0 1, status := leAt b 1 1, source := leAt b 2 1, commander := leAt b 3 1, index := leAt b 4 2,
    sub := leAt b 6 1, flags := leAt b 7 1, tag := leAt b 8 2, segOffset := leAt b 12 4,
    data := (b.drop 16).take (leAt b 10 2) }

/-- The bytes of a Farif frame (R54): the start byte, type, length and body, and the CRC-32 over all but the start byte. -/
def farifBytes (kind : Nat) (body : List Byte) : List Byte :=
  let inner := leBytes 1 kind ++ leBytes 2 body.length ++ body
  [0xA5] ++ inner ++ leBytes 4 (crc32 inner)

/-- An Ethernet port that takes no frame of this node's own business: its mode is off, or it carries tap copies only and discards what it
receives (R163, R166). -/
def State.ethDeaf (s : State) (port : Nat) : Bool := s.obj (Obj.ethMode port) == 0 || s.obj Obj.tapDest == port + 1

/-- An Ethernet port that neither carries nor takes frames of this node: its mode is off, its link is down, or it carries tap copies only (R154,
R163, R166). -/
def State.ethDark (s : State) (port : Nat) : Bool :=
  s.ethDeaf port || s.obj (Obj.linkState port) == 0

/-! ## Fabric addresses (R20) -/

def addrNode (a : Nat) : Nat := bits a 47 40
def addrSpace (a : Nat) : Nat := bits a 39 36
def addrOffset (a : Nat) : Nat := bits a 35 0
def mkAddr (node space offset : Nat) : Nat := node * 2 ^ 40 + space * 2 ^ 36 + offset
/-- SPACE 0x0 of a node: index and subindex (R22). -/
def objAddr (node index sub : Nat) : Nat := mkAddr node 0 (index * 256 + sub)

/-! ## DRAM (R24) -/

/-- One byte of DRAM; a byte nothing has written reads 0 (log entry 7). -/
def State.dramByte (s : State) (a : Nat) : Byte := sparseGet (fun _ => 0) s.dram a

/-- DRAM is in its canonical form: addresses strictly rising, no byte listed that an unlisted address reads as. -/
abbrev Memory.wf (m : List Host.Cell) : Bool := sparseWf (fun _ => (0 : Byte)) m

/-- One byte of DRAM written. -/
def State.putDramByte (s : State) (a : Nat) (b : Byte) : State := { s with dram := sparsePut (fun _ => 0) s.dram a b }

/-- `n` bytes of DRAM from address `a`. -/
def State.dramRead (s : State) (a : Nat) : Nat → List Byte
  | 0 => []
  | n + 1 => s.dramByte a :: s.dramRead (a + 1) n

/-- The 32 bytes of an entry (R421). -/
def vgBytes (e : VgEntry) : List Byte :=
  leBytes 32 (e.detail % 2 ^ 96 + e.inst % 2 ^ 16 * 2 ^ 96 + ofBool e.notAgreed * 2 ^ 124 + ofBool e.fromIsland * 2 ^ 125 +
    e.kind % 4 * 2 ^ 126 + e.status % 2 ^ 8 * 2 ^ 128 + e.sub % 2 ^ 8 * 2 ^ 136 + e.index % 2 ^ 16 * 2 ^ 144 +
    e.seq % 2 ^ 32 * 2 ^ 160 + e.time % 2 ^ 64 * 2 ^ 192)

/-- One byte of DRAM as an access reads it: in the region of the verdigris main log (R24, R422) the entry that stands there. Entry
ENTRY_SEQ stands in place ENTRY_SEQ mod 65,536 of the region (DESIGN CHOICE, log entry 159). -/
def State.viewByte (s : State) (a : Nat) : Byte :=
  if a < 2 ^ 21 then
    match s.vgMain.find? (fun e => e.seq % 65536 == a / 32) with
    | some e => (vgBytes e).getD (a % 32) 0
    | none => s.dramByte a
  else s.dramByte a

/-- `n` bytes of DRAM from address `a` as an access reads them (R23, R24, R357). -/
def State.dramView (s : State) (a n : Nat) : List Byte :=
  if 2 ^ 21 ≤ a then s.dramRead a n else (List.range n).map (fun i => s.viewByte (a + i))

/-- Bytes written to DRAM from address `a`. -/
def State.dramWrite (s : State) (a : Nat) : List Byte → State
  | [] => s
  | b :: r => (s.putDramByte a b).dramWrite (a + 1) r

/-- Installed DRAM in bytes. -/
def State.dramSize (s : State) : Nat := s.obj Obj.dramSize * 2 ^ 20

/-- First byte of the overflow staging region (R24). -/
def State.stagingFirst (s : State) : Nat := 0x18400000 + s.obj Obj.soeSize * 2 ^ 20

/-! ## The lake store (R31, R128, R135) -/

/-- What a slot reads as that the node has not applied: VALUE 0 with ABSENT (R31). -/
def slotAbsent : Nat := 0x10 * 2 ^ 32

/-- The applied slot of a key, publisher × 4096 + slot. -/
def State.lakeSlot (s : State) (k : Nat) : Nat := sparseGet (fun _ => slotAbsent) s.lake.applied k

/-! ## Handing frames to the switch -/

/-- A block hands a ring frame to the switch at its port (R144). -/
def State.offerRing (s : State) (port : Nat) (f : Frame) : State :=
  { s with sw := { s.sw with entering := s.sw.entering ++ [{ port := port, cls := f.cls, packet := .ring f }] } }

/-- A block hands an Ethernet frame for the given outputs to the switch. -/
def State.offerEth (s : State) (port cls : Nat) (f : EthFrame) (outs : List Nat) : State :=
  { s with sw := { s.sw with entering := s.sw.entering ++ [{ port := port, cls := cls, packet := .eth f, outs := outs }] } }

/-- The ring port numbers of R143, as used by the blocks. -/
def portHost : Nat := 6
def portEngines : Nat := 7
def portCan : Nat := 8
def portUart : Nat := 9
def portSme : Nat := 10
def portMp : Nat := 11
def portAccept : Nat := 12
def portLake : Nat := 13
def portDram : Nat := 14

/-- The ring identity: bytes 0 to 7 of UNIQUE_ID (R78). -/
def State.identity (s : State) : Nat := leAt (s.blob Obj.uniqueId) 0 8

/-- A walk round the ring from node `from'`, at most `fuel` segments, each to the neighbour that `next` gives: whether it meets `n`
before a broken segment; none where a neighbour is not known. -/
def walkRing (next : Nat → Option Nat) (broken : Nat → Bool) (n : Nat) : Nat → Nat → Option Bool
  | 0, _ => none
  | fuel + 1, from' =>
    if from' = n then some true
    else if broken from' then some false
    else match next from' with
      | some m => walkRing next broken n fuel m
      | none => none

/-- Broken segments lie between this node and node `n` both ways round (R86), by the neighbours that the members named (R206). -/
def State.cutAway (s : State) (n : Nat) : Bool :=
  let member (i : Nat) : Option Present := s.acc.members.find? (fun m => m.id == i && i ≠ 0)
  let down (i : Nat) : Option Nat := (member i).bind (fun m => if m.d = 0 then none else some m.d)
  let up (i : Nat) : Option Nat := (member i).bind (fun m => if m.u = 0 then none else some m.u)
  walkRing down (fun i => s.ring.wraps.any (fun w => w.u == i)) n 97 s.ownId == some false &&
  walkRing up (fun i => s.ring.wraps.any (fun w => w.d == i)) n 97 s.ownId == some false

/-- Whether the ring can carry a frame of this node to node `n`: the node has an ID, and the target is a member of its partition (R21,
R86, R471). -/
def State.reaches (s : State) (n : Nat) : Bool := s.ownId ≠ 0 && s.acc.members.any (fun m => m.id == n) && !s.cutAway n

end Sys2Proof.Machine
end

