-- ==== Sys2Proof/Machine/Frames.lean ====
section
/-! DEFINITION. The ring frame header of R68, its checks (R69), the frame types (R70) and the size of a frame on the wire. -/
namespace Sys2Proof.Machine

/-- The header fields of R68 below the check, as one number; `length` is LENGTH. -/
def headerNat (f : Frame) (length : Nat) : Nat :=
  f.hops + ofBool f.wrapped * 2 ^ 8 + (if f.path = .b then 1 else 0) * 2 ^ 9 + f.cls * 2 ^ 10 + f.type * 2 ^ 12 +
  f.src * 2 ^ 16 + f.dst * 2 ^ 24 + f.status * 2 ^ 32 + ofBool f.retx * 2 ^ 46 + ofBool f.posted * 2 ^ 47 +
  f.commander * 2 ^ 48 + length * 2 ^ 52 + f.tag * 2 ^ 64 + f.session * 2 ^ 80 + f.seq * 2 ^ 96 +
  f.address * 2 ^ 128 + f.param * 2 ^ 176

/-- The header with HOPS, PATH and WRAPPED at 0, over which both checks are computed (R69). -/
def stillFrame (f : Frame) : Frame := { f with hops := 0, wrapped := false, path := .a }

/-- The 32 header bytes of a frame (R68, R69). -/
def headerBytes (f : Frame) : List Byte :=
  leBytes 30 (headerNat f f.payload.length) ++ leBytes 2 (hcrc (leBytes 30 (headerNat (stillFrame f) f.payload.length)))

/-- The FCRC of a frame (R69): over the header with the mutable fields at 0, then the payload. -/
def frameCrc (f : Frame) : Nat :=
  fcrc (leBytes 30 (headerNat (stillFrame f) f.payload.length) ++
        leBytes 2 (hcrc (leBytes 30 (headerNat (stillFrame f) f.payload.length))) ++ f.payload)

/-- The frame that header bytes spell, with the payload given; nothing is checked here. -/
def frameOfHeader (h : List Byte) (payload : List Byte) : Frame :=
  let n := leAt h 0 32
  { hops := bits n 7 0, wrapped := bit n 8, path := if bit n 9 then .b else .a, cls := bits n 11 10,
    type := bits n 15 12, src := bits n 23 16, dst := bits n 31 24, status := bits n 39 32, retx := bit n 46,
    posted := bit n 47, commander := bits n 51 48, tag := bits n 79 64, session := bits n 95 80, seq := bits n 127 96,
    address := bits n 175 128, param := bits n 223 176, payload := payload }

/-- LENGTH of header bytes. -/
def headerLength (h : List Byte) : Nat := bits (leAt h 0 32) 63 52

/-- Whether a header row passes rule 1 of R71: its HCRC is good and no field is invalid under R68. SRC and the reserved bits are taken as
such fields too (DEDUCED, log entry 137). -/
def headerGood (h : List Byte) : Bool :=
  let n := leAt h 0 32
  let f := frameOfHeader h []
  h.length == 32 &&
  bits n 255 240 == hcrc (leBytes 30 (headerNat (stillFrame f) (headerLength h))) &&
  bits n 239 224 == 0 && bits n 45 40 == 0 && headerLength h ≤ 2048 && f.commander ≤ 8 &&
  (f.dst == 0xFF || (1 ≤ f.dst && f.dst ≤ 0x60)) && 1 ≤ f.src && f.src ≤ 0x60

/-- The frame types of R70. -/
def tyWrite : Nat := 1
def tyRead : Nat := 2
def tyReadResp : Nat := 3
def tyObjectReq : Nat := 4
def tyObjectResp : Nat := 5
def tyEvent : Nat := 6
def tyAck : Nat := 7
def tyLake : Nat := 8
def tyClaim : Nat := 9
def tyLateErr : Nat := 10

/-- Whether the TYPE allows the CLASS and the LENGTH (R70). -/
def typeAllows (type cls length : Nat) : Bool :=
  match type with
  | 1 => cls == 2 || cls == 3
  | 2 => (cls == 2 || cls == 3) && length == 0
  | 3 => cls == 2 || cls == 3
  | 4 => cls == 2 && 16 ≤ length
  | 5 => cls == 2 && 16 ≤ length
  | 6 => cls == 0
  | 7 => (cls == 0 || cls == 2) && length == 0
  | 8 => cls == 1
  | 9 => cls == 0 && length == 0
  | 10 => cls == 2 && length == 24
  | _ => false

/-! ## Control rows (R60 to R62) -/

/-- The row codes of R62. -/
def rcIdle : Nat := 0x01
def rcTrailer : Nat := 0x02
def rcNotice : Nat := 0x03
def rcHello : Nat := 0x04
def rcTiming : Nat := 0x05
def rcSuspend : Nat := 0x06
def rcResume : Nat := 0x07

/-- The content bytes C0 to C23 of a control row (R61). -/
def rowContent (row : List Byte) : List Byte := (List.range 4).flatMap (fun k => slice row (8 * k + 2) 6)

/-- The 32 bytes of a control row: on every lane its ROW_CODE, the lane number and six of the content bytes C0 to C23 (R61). -/
def controlRow (code : Nat) (content : List Byte) : List Byte :=
  (List.range 4).flatMap (fun k => leBytes 1 code ++ leBytes 1 k ++ slice content (6 * k) 6)

/-- The bytes of the rows that this node sends beside its frames: NOTICE, HELLO, SUSPEND and RESUME (R62). -/
def noticeRow (n : Notice) : List Byte :=
  controlRow rcNotice (leBytes 1 n.kind ++ leBytes 1 n.origin ++ leBytes 1 n.u ++ leBytes 1 n.d ++ leBytes 8 n.time ++ leBytes 4 n.seq)
def helloRow (h : Hello) : List Byte :=
  controlRow rcHello (leBytes 1 h.reverse ++ leBytes 1 h.stepping ++ leBytes 1 h.effectiveId ++ leBytes 1 h.configuredId ++ leBytes 8 h.identity)
def suspendRow : List Byte := controlRow rcSuspend []
def resumeRow : List Byte := controlRow rcResume []

/-- A received row is a row code error: its lanes disagree in kind, a sync header is invalid (R60), or a control row's lanes carry
different or unknown ROW_CODEs or a LANE byte that is not theirs (R61, R62). -/
def WireRow.isError (w : WireRow) : Bool :=
  let code (k : Nat) : Nat := leAt w.bytes (8 * k) 1
  w.sync.any (·.isNone) || w.sync.any (fun x => some x ≠ w.sync.head?) ||
  (w.sync.all (· == some true) &&
    ((List.range 4).any (fun k => code k ≠ code 0 || leAt w.bytes (8 * k + 1) 1 ≠ k) || code 0 == 0 || 7 < code 0))

/-- The LINK_WORD that a row without error brings, if it is an IDLE or TRAILER row (R62). -/
def WireRow.linkWord (w : WireRow) : Option Nat :=
  if !WireRow.isError w ∧ w.sync.all (· == some true) ∧ (leAt w.bytes 0 1 = rcIdle ∨ leAt w.bytes 0 1 = rcTrailer) then
    some (leAt (rowContent w.bytes) 6 8)
  else none

/-- Rows of a frame on the wire: header, payload, trailer (R64). -/
def frameRows (f : Frame) : Nat := 2 + ceilDiv f.payload.length 32

/-- Bytes of a frame on the wire, 32 a row (R97). -/
def wireBytes (f : Frame) : Nat := 32 * frameRows f

/-- A frame as this node puts it on the wire. -/
def wireOf (f : Frame) : RingWire :=
  { header := headerBytes f, payload := f.payload, rows := ceilDiv f.payload.length 32, fcrc := frameCrc f }

end Sys2Proof.Machine
end

