-- ==== Sys2Proof/Machine/Routes.lean ====
section
/-! DEFINITION. Where frames go: the flow table (R160, R161), the consumers of the node (R143), and the routes of ring frames by the
wraps in force (R71, R85). -/
namespace Sys2Proof.Machine

/-! ## Flow table (R160, R161) -/

/-- The value of a six-byte MAC address object, first byte most significant. -/
def State.mac (s : State) (k : Nat) : Nat := beVal (s.blob k)

/-- The entries of a table held as bytes, `n` bytes each. -/
def entriesOf (n : Nat) (b : List Byte) : List (List Byte) :=
  (List.range (b.length / n)).map (fun i => slice b (i * n) n)

/-- The 96-bit key of an Ethernet frame. -/
def ethKey (port : Nat) (f : EthFrame) : Nat :=
  f.dst * 2 ^ 48 + f.etherType * 2 ^ 32 +
  (match f.vlan with
   | some (pcp, vid) => vid * 2 ^ 20 + pcp * 2 ^ 17 + 2 ^ 16
   | none => 0) + port * 2 ^ 12

/-- The 96-bit key of a ring frame. -/
def ringKey (port : Nat) (f : Frame) : Nat :=
  f.src * 2 ^ 88 + f.dst * 2 ^ 80 + f.type * 2 ^ 76 + f.cls * 2 ^ 74 + f.session * 2 ^ 58 + port * 2 ^ 12

/-- The first entry of the given KIND whose masked key equals the frame's. -/
def State.flowMatch (s : State) (kind key : Nat) : Option Nat :=
  ((entriesOf 32 (s.blob Obj.flowTable)).map (fun e => leAt e 0 32)).find? (fun n =>
    bits n 255 254 == kind && (bits n 239 144 &&& bits n 143 48) == (key &&& bits n 143 48))

/-- A match counts towards its flow counter (R160). -/
def State.countFlow (s : State) (m : Option Nat) : State :=
  match m with
  | some n => let c := bits n 23 16
              if 1 ≤ c ∧ c ≤ 64 then s.bump64 (Obj.flowCounter (c - 1)) 1 else s
  | none => s

/-! ## Ring routes -/

/-- This node turns traffic from A to B, as the U of a broken segment, or from B to A, as the D of one (R85). -/
def State.turnsA (s : State) : Bool := s.ring.wraps.any (fun w => w.turned && w.isU)
def State.turnsB (s : State) : Bool := s.ring.wraps.any (fun w => w.turned && w.isD)

/-- The ring is wrapped, as this node knows it. -/
def State.wrapped (s : State) : Bool := s.ring.wraps ≠ []

/-- The path on which a row or frame arriving on path `p` leaves: turned at a wrap node (R85). -/
def State.outPath (s : State) (p : Path) : Path :=
  if s.turnsA ∧ p = .a then .b else if s.turnsB ∧ p = .b then .a else p

/-- The port whose block consumes a ring frame addressed to this node (R143). -/
def consumerPort (f : Frame) : Nat :=
  if f.session ≠ 0 ∨ f.type = tyWrite ∨ f.type = tyEvent ∨ f.type = tyObjectReq ∨ f.type = tyLateErr then portAccept
  else if f.type = tyLake then portLake
  else if f.type = tyRead then
    (match addrSpace f.address with
     | 1 => portLake | 2 => portHost | 3 => portDram | 4 => portEngines | _ => portMp)
  else if f.type = tyReadResp then portHost
  else portMp

/-- The switch port of a path, as input or output (R143). -/
def pathPort : Path → Nat
  | .a => 0
  | .b => 1

/-- Where a frame from a ring link goes: taken here, forwarded on a ring output, or both (R71 rules 3 to 6). -/
def State.ringRoute (s : State) (p : Path) (f : Frame) : List Nat :=
  let fwd := pathPort (s.outPath p)
  if s.ownId = 0 then [fwd]
  else if f.dst = 0xFF then
    if f.src = s.ownId then
      (if !s.wrapped ∨ (p = .a ∧ f.wrapped) then [] else [fwd])
    else if !s.wrapped ∨ p = .b ∨ (s.turnsA ∧ p = .a) then [consumerPort f, fwd] else [fwd]
  else if f.dst = s.ownId then [consumerPort f]
  else [fwd]

/-- The hop limit of R71 rule 2. -/
def State.hopLimit (s : State) : Nat :=
  if s.obj Obj.ringNodes = 0 then 190 else 2 * s.obj Obj.ringNodes - 2

/-- A frame from an in link that has passed the checks of R71, whose header came at `entered`, is handed to the switch for its
outputs. -/
def State.enterRing (s : State) (p : Path) (entered : Nat) (f : Frame) : State :=
  let outs := s.ringRoute p f
  if outs = [] then s
  else
    let o : Offered := { port := pathPort p, cls := f.cls, packet := .ring f, outs := outs, entered := entered }
    { s with sw := { s.sw with entering := s.sw.entering ++ [o] } }

/-- Frames queued for a ring output are discarded if no path reaches their destination any more (R154). -/
def State.discardUnreached (s : State) : State :=
  if s.ownId = 0 then s else
  let keeps (q : Stored) : Stored := match q.offered.packet with
    | .ring f => if f.dst = 0xFF ∨ f.dst = s.ownId ∨ s.reaches f.dst then q else { q with outs := q.outs.filter (1 < ·) }
    | .eth _ => q
  { s with sw := { s.sw with stored := (s.sw.stored.map keeps).filter (fun q => q.outs ≠ [] || q.busy ≠ []) } }

end Sys2Proof.Machine
end

