-- ==== Sys2Proof/Machine/Ring.lean ====
section
/-! DEFINITION. The ring paths (file 03): links, notices, wrap, revert, proving and claims. -/
namespace Sys2Proof.Machine

/-! ## Links -/

/-- The number *k* of an in link in the counter records of R105. -/
def linkIdx : Path → Nat
  | .a => 0
  | .b => 1

/-- The object that holds the state code of an in link (R73). -/
def linkKey : Path → Nat
  | .a => Obj.pathAState
  | .b => Obj.pathBState

/-- The object that holds the state of an out link, as HELLO rows report it. -/
def outKey : Path → Nat
  | .a => Obj.aOutState
  | .b => Obj.bOutState

def otherPath : Path → Path
  | .a => .b
  | .b => .a

def State.link (s : State) : Path → LinkState
  | .a => s.ring.aIn
  | .b => s.ring.bIn

def State.setLink (s : State) (p : Path) (l : LinkState) : State :=
  match p with
  | .a => { s with ring := { s.ring with aIn := l } }
  | .b => { s with ring := { s.ring with bIn := l } }

/-- State code of an in link. -/
def State.linkState (s : State) (p : Path) : Nat := s.obj (linkKey p)

/-- The out link is driven: its transmitters are enabled, as TXDIS_A and TXDIS_B say (R59). -/
def State.sends (s : State) : Path → Bool
  | .a => s.ring.sendA
  | .b => s.ring.sendB

/-- The out link is driven from now on, unless its transmitter has the fault of R83; or it goes dark. -/
def State.setSends (s : State) (p : Path) (b : Bool) : State :=
  match p with
  | .a => { s with ring := { s.ring with sendA := b && !s.ring.outFault } }
  | .b => { s with ring := { s.ring with sendB := b } }

/-- TXDIS_A and TXDIS_B (R59): released, and so high, while the node does not drive the out link. -/
def State.txDis (s : State) (p : Path) : Bool := !(s.rst.coreOn && s.sends p)

/-- The HELLO that this node sends on an out link: its state of the in link on the same segment, and who it is (R62, R75). -/
def State.helloOn (s : State) (p : Path) : Hello :=
  { reverse := s.linkState (otherPath p), stepping := s.obj Obj.stepping, effectiveId := s.ownId, configuredId := s.obj Obj.nodeId,
    identity := s.identity }

/-- A measurement of hop delay starts anew, and the delay it has is not proven: the in link is not UP (R118). -/
def HopState.restart (h : HopState) : HopState := { h with t1 := none, sum := 0, count := 0, proven := false, fast := false, measured := false }

/-- An in link that is not UP has no proven hop delay (R118); a B-in that comes UP in a wrap without one makes the fast measurement
(R116, R119). -/
def State.followHop (s : State) (p : Path) (st : Nat) : State :=
  if st ≠ 5 then
    match p with
    | .a => { s with tb := { s.tb with hopA := s.tb.hopA.restart } }
    | .b => { s with tb := { s.tb with hopB := s.tb.hopB.restart } }
  else if p = .b ∧ s.wrapped ∧ s.obj Obj.bSavedValid = 0 then { s with tb := { s.tb with hopB := { s.tb.hopB with fast := true } } }
  else s

/-- The node's own time base is locked, or it is the grandmaster (R65). -/
def State.clockLocked (s : State) : Bool := s.tb.locked || (s.ownId ≠ 0 && s.obj Obj.gmId == s.ownId)

/-- The in link whose rate a node takes that is not locked: A-in while it is UP, else B-in in CHECK or UP, else A-in in CHECK; none where
the node runs at its reference (R65). -/
def State.rateLink (s : State) : Option Path :=
  if s.linkState .a = lkUp then some .a
  else if s.linkState .b = lkCheck ∨ s.linkState .b = lkUp then some .b
  else if s.linkState .a = lkCheck then some .a else none

/-- The counter rate of a node that is not locked follows its in links (R65). -/
def State.followRate (s : State) : State :=
  if s.clockLocked then s
  else s.put Obj.freqAdj (match s.rateLink with | some p => ofSigned 32 (s.link p).rate | none => 0)

/-- An in link enters the state `st`, and a HELLO row tells the neighbour of it (R75). -/
def State.linkEnter (s : State) (p : Path) (st : Nat) : State :=
  let t := (((s.put (linkKey p) st).setLink p { s.link p with since := s.now }).followHop p st).followRate
  if t.sends (otherPath p) then t.emit (.hello (otherPath p) (t.helloOn (otherPath p))) else t

/-- A link state in which the lanes are powered (R73). -/
def lanesOn (st : Nat) : Bool := lkTrain ≤ st && st ≤ lkUp

/-- BHOT (R59): a path B link of this node is powered. -/
def State.bHot (s : State) : Bool := s.rst.coreOn && (s.ring.sendB || lanesOn (s.linkState .b))

/-- Training of an in link begins: full, or from the saved state. -/
def State.train (s : State) (p : Path) (full : Bool) : State :=
  let t := s.linkEnter p lkTrain
  t.setLink p { t.link p with full := full, locked := false, heard := false, heatedAt := t.now }

/-- The out link is UP as the neighbour reports it. -/
def State.outUp (s : State) (p : Path) : Bool := s.obj (outKey p) == lkUp

/-- PATH_B_MODE is HOT (R80). -/
def State.hotB (s : State) : Bool := s.obj Obj.pathBMode == 1

/-- The B links are heated: B-out is driven, and B-in trains, from COLD with its saved state, from OFF in full (R74, R81, R84). -/
def State.heatB (s : State) : State :=
  let t := s.setSends .b true
  if t.linkState .b = lkCold then t.train .b false
  else if t.linkState .b = lkOff then t.train .b true
  else t

/-- The state of a B-in link that is UP is saved (R81). -/
def State.saveB (s : State) : State :=
  if s.linkState .b = lkUp then { s.put Obj.bSavedTime s.now with ring := { s.ring with bSaved := true } } else s

/-- The B links are cooled (R81): the state of B-in is saved if it is to be, and it is COLD with a saved state, else OFF. In HOT mode they
stay up. -/
def State.coolB (s : State) (save : Bool) : State :=
  let t := if save then s.saveB else s
  if t.hotB then t
  else
    let t := if t.linkState .b = lkFailed then t else t.linkEnter .b (if t.ring.bSaved then lkCold else lkOff)
    t.setSends .b false

/-! ## Notices (R63) -/

/-- Whether the node has seen a notice with this ORIGIN and NOTICE_SEQ. -/
def State.hasSeen (s : State) (n : Notice) : Bool := s.ring.seen.contains (n.origin, n.seq)

/-- The notice is noted as seen. -/
def State.noteSeen (s : State) (n : Notice) : State := { s with ring := { s.ring with seen := s.ring.seen ++ [(n.origin, n.seq)] } }

/-- A notice goes out on a path; on an A-out whose transmitter has the fault of R83 nothing does. -/
def State.notify (s : State) (p : Path) (n : Notice) : State := if p = .a ∧ s.ring.outFault then s else s.emit (.notice p n)

/-- The notice is noted as seen, and goes out on A-out and, if that link is UP, on B-out. -/
def State.sendBoth (s : State) (n : Notice) : State :=
  let t := (s.noteSeen n).notify .a n
  if t.outUp .b then t.emit (.notice .b n) else t

/-- A fresh NOTICE_SEQ. -/
def State.nextNotice (s : State) : Nat := (s.ring.noticeSeq + 1) % 2 ^ 32
def State.useNotice (s : State) : State := { s with ring := { s.ring with noticeSeq := s.nextNotice } }

/-- This node originates a notice of a kind carried to every node, with a fresh NOTICE_SEQ. -/
def State.originate (s : State) (n : Notice) : State :=
  s.useNotice.sendBoth { n with origin := if n.origin = 0 then s.ownId else n.origin, seq := s.nextNotice }

/-! ## Ring state and wrap -/

def State.ringState (s : State) : Nat := s.obj Obj.ringState

/-- WRAP_ACTIVE (R57). -/
def State.wrapActive (s : State) : Bool := s.flag Obj.faultSummary fsWrapActive

/-- Upstream and downstream neighbours' effective IDs, from the HELLO rows on A-in and B-in. -/
def State.upId (s : State) : Nat := s.ring.aIn.neighbour
def State.downId (s : State) : Nat := s.ring.bIn.neighbour

/-- The coordinator: the lowest ID among the members that this node reaches, itself included (R79, R86). -/
def State.coordinatorNow (s : State) : Nat :=
  ((s.acc.members.map (·.id)).filter (fun i => i ≠ 0 && (i == s.ownId || s.reaches i))).foldl (fun m i => if m = 0 ∨ i < m then i else m) 0

/-- COORDINATOR follows a change of the membership or of the partition. -/
def State.refreshCoordinator (s : State) : State := s.put Obj.coordinator s.coordinatorNow

def State.isCoordinator (s : State) : Bool := s.ownId ≠ 0 && s.obj Obj.coordinator == s.ownId

/-- RING_STATE and WRAP_SEGMENT of a ring with broken segments: 3 with one, 4 with more (R85, R86). -/
def State.showWraps (s : State) : State :=
  let t := s.put Obj.ringState (if s.ring.wraps = [] then 2 else if s.ring.wraps.length = 1 then 3 else 4)
  t.put Obj.wrapSegment (match s.ring.wraps.getLast? with | some w => w.u * 256 + w.d | none => 0)

/-- A proving run in progress is abandoned and counted as incomplete (R90). -/
def State.abandonProve (s : State) : State :=
  match s.ring.prove with
  | none => s
  | some _ => { s.put Obj.lastProveResult 4 with ring := { s.ring with prove := none } }

/-- This node is the U, or the D, of the segment from `u` to `d`. A node without an ID knows itself beside the neighbour named with it
(R78, R85). -/
def State.isUOf (s : State) (u d : Nat) : Bool := u == s.ownId && (s.ownId ≠ 0 || d == s.downId)
def State.isDOf (s : State) (u d : Nat) : Bool := d == s.ownId && (s.ownId ≠ 0 || u == s.upId)

/-- The broken segments once that from `u` to `d` is one of them. -/
def State.withBreak (s : State) (u d detection : Nat) : List WrapState :=
  if s.ring.wraps.any (fun w => w.u == u && w.d == d) then s.ring.wraps
  else s.ring.wraps ++ [{ u := u, d := d, detection := detection, isU := s.isUOf u d, isD := s.isDOf u d, start := s.now }]

/-- A change of this node's record of one broken segment. -/
def State.mapWrap (s : State) (u d : Nat) (f : WrapState → WrapState) : State :=
  { s with ring := { s.ring with wraps := s.ring.wraps.map (fun w => if w.u = u ∧ w.d = d then f w else w) } }

/-- The node between two broken segments, if they share one, with the later of the two detection times: its neighbours are wrapped
around it (R202). -/
def State.cutOff (s : State) (u d detection : Nat) : Option (Nat × Nat) :=
  s.ring.wraps.findSome? (fun w =>
    if w.d = u ∧ w.u ≠ u then some (u, max w.detection detection)
    else if w.u = d ∧ w.d ≠ d then some (d, max w.detection detection) else none)

/-- The revert of a segment that broke again is abandoned (R90): U turns A-in onto B-out again, D goes on turning B-in onto A-out, and
what it has stored from the segment goes on. -/
def State.abandonRevert (s : State) (r : RevertState) : State :=
  let t := { s with ring := { s.ring with revert := none, marker := none } }
  if r.asD then forEach r.stored (fun t f => t.enterRing .a f.1 f.2) t
  else t.mapWrap r.u r.d (fun w => { w with turned := true })

/-- The records of the segments that a revert from `u` to `d` repairs are dropped: that segment, or the two across a node spliced in
between (R92, R207). With none left the ring is closed: WRAP_ACTIVE clears and the B links are cooled (R92 step 5). -/
def State.endWrap (s : State) (u d : Nat) : State :=
  let repaired := fun (w : WrapState) => w.u == u || w.d == d
  let carried := s.ring.wraps.any (fun w => repaired w && w.start + sec ≤ s.now)
  let left := s.ring.wraps.filter (fun w => !repaired w)
  let t := if s.acc.splice.isSome then s.put Obj.lastSpliceEpochs s.acc.spliceEpochs else s
  let t := { t with ring := { t.ring with wraps := left, revert := none, dark := false }
                    acc := { t.acc with absent := t.acc.absent.filter (fun a => left.any (·.d == a.1) && left.any (·.u == a.1)), splice := none,
                                        welding := if t.acc.splicesLeft = [] then [] else t.acc.splicesLeft.map (fun (x : Present) => x.id) } }
  let t := t.showWraps
  if left = [] then
    let t := { t with ring := { t.ring with awaitsRevert := false, wholeSince := t.now } }
    ((t.setFlag Obj.faultSummary fsWrapActive false).coolB carried).refreshCoordinator
  else t.refreshCoordinator

/-- The node has welded in: once its start has loaded everything, it leaves LOADING for HELD (R17, R207 step 6). -/
def State.weldedIn (s : State) : State :=
  let t := { s with acc := { s.acc with joining := false } }
  let t := t.put Obj.weldState (if s.ownId = 0 then 0 else 2)
  if t.node = stLoading ∧ t.rst.loaded then t.enter stHeld 0x00 else t

/-- A node that is welding in is in with the REVERT_DONE of its splice, its own or one that it receives (R207). -/
def State.weldWith (s : State) : State := if s.acc.joining ∧ s.acc.census.isNone then s.weldedIn else s

/-- D ends a revert: it stops turning B onto A, releases the stored A-in traffic in arrival order, and REVERT_DONE goes round (R92
step 4). -/
def State.completeRevert (s : State) (u d : Nat) (stored : List (Nat × Frame)) : State :=
  let t := s.endWrap u d
  let t := forEach stored (fun t f => t.enterRing .a f.1 f.2) t
  (t.originate { kind := 0x04, origin := s.ownId, u := u, d := d, time := s.now }).weldWith

/-- What a break of the segment from `u` to `d` does to a revert in progress (R90): one of this segment is abandoned and the wrap stays,
one of another segment ends at once, a splice pauses. -/
def State.breakMeetsRevert (s : State) (u d : Nat) : State :=
  match s.ring.revert with
  | none => s
  | some r =>
    if s.acc.splice.isSome then s
    else if r.u = u ∧ r.d = d then s.abandonRevert r
    else if r.asD then s.completeRevert r.u r.d r.stored
    else s.endWrap r.u r.d

/-- The SYNC rows of the grandmaster meet a broken segment on their way along path A to this node, by the neighbours that the members named,
so that they come on B-in (R119, R206). -/
def State.syncTurned (s : State) : Bool :=
  let down (i : Nat) : Option Nat :=
    (s.acc.members.find? (fun m => m.id == i && i ≠ 0)).bind (fun m => if m.d = 0 then none else some m.d)
  s.ownId ≠ 0 && s.obj Obj.gmId ≠ s.ownId &&
  walkRing down (fun i => s.ring.wraps.any (fun w => w.u == i)) s.ownId 97 (s.obj Obj.gmId) == some false

/-- In a new wrap a node whose SYNC now comes on B-in uses its B-in delay from now on; a B-in that is UP already without a proven delay
makes the fast measurement (R116, R119). -/
def State.followWrap (s : State) : State :=
  let t := if s.syncTurned then s.put Obj.inboundPath 1 else s
  if t.linkState .b = lkUp ∧ t.obj Obj.bSavedValid = 0 ∧ !t.tb.hopB.proven ∧ !t.tb.hopB.fast then
    { t with tb := { t.tb with hopB := { t.tb.hopB with fast := true, measured := false, t1 := none, sum := 0, count := 0 } } }
  else t

/-- A break of the segment from `u` to `d`, found at `detection`: every node sets WRAP_ACTIVE and heats its B links, and the two
neighbours take their parts (R84 to R86). A proving run is abandoned, and a second break while wrapped splits the ring (R90). -/
def State.breakSegment (s : State) (u d detection : Nat) : State :=
  let t := s.abandonProve.breakMeetsRevert u d
  let absent := match t.cutOff u d detection with
    | some x => if t.acc.absent.any (fun e => e.1 == x.1) then t.acc.absent else t.acc.absent ++ [x]
    | none => t.acc.absent
  let t := { t with ring := { t.ring with wraps := t.withBreak u d detection }, acc := { t.acc with absent := absent } }
  let t := (t.setFlag Obj.faultSummary fsWrapActive true).showWraps
  t.followWrap.heatB.refreshCoordinator.discardUnreached

/-- The freeze of R89 starts: until this node's own wrap completes, at most until 100 µs after the detection time. -/
def State.freeze (s : State) (detection : Nat) : State :=
  { s with ring := { s.ring with freezeUntil := some (detection + 100 * us) } }

def State.unfreeze (s : State) : State := { s with ring := { s.ring with freezeUntil := none } }

/-- A node that neither turns nor waits to turn, as U or D, has completed its own wrap once its B-in is UP: its B-in link takes part in the
wrap, and its freeze ends: with the BREAK itself where B-in is UP already (R89; DESIGN CHOICE, log entry 120). -/
def State.wrapPassed (s : State) : State :=
  if s.linkState .b = lkUp ∧ s.ring.freezeUntil.isSome ∧ s.ring.wraps.all (fun w => !w.isU && !w.isD) then
    (s.bump (Obj.wraps 1)).unfreeze
  else s

/-- Whether claim leases and hold counts are frozen now (R89). -/
def State.frozen (s : State) : Bool := s.ring.freezeUntil.any (fun t => s.now < t)

/-- A break whose wrap is not complete pauses a weld or unweld (R90): this node is frozen, or has still to turn as U or D. -/
def State.wrapPending (s : State) : Bool :=
  s.frozen || s.ring.wraps.any (fun w => (w.isU || w.isD) && !w.turned && !s.ring.revert.any (fun r => r.u == w.u || r.d == w.d))

/-- The revert in progress is part of a weld or unweld, and paused (R90). -/
def State.revertPaused (s : State) (r : RevertState) : Bool := (s.acc.splice.isSome || r.dark) && s.wrapPending

/-- The ring carries traffic round, so that a lost A-in link makes a wrap. -/
def State.ringFormed (s : State) : Bool := s.ringState == 2 || s.ringState == 3 || s.ringState == 4 || s.ringState == 5

/-- D finds its A-in link lost: its BREAK goes out on A-out (R84), and its SYNC rows can come on B-in alone (R119). -/
def State.breakAsD (s : State) (detection : Nat) : State :=
  let n : Notice := { kind := 0x01, origin := s.ownId, u := s.upId, d := s.ownId, time := detection, seq := s.nextNotice }
  let t := (s.useNotice.noteSeen n).notify .a n
  ((t.breakSegment s.upId s.ownId detection).freeze detection).put Obj.inboundPath 1

/-- Loss of an in link in ALIGN, CHECK or UP (R83), detected `ago` ns ago: the immediate retry of R96 begins, and a lost A-in
link makes this node the D of a break. -/
def State.linkLost (s : State) (p : Path) (ago : Nat) : State :=
  if s.linkState p = lkAlign ∨ s.linkState p = lkCheck ∨ s.linkState p = lkUp then
    let wasUp := s.linkState p = lkUp
    let detection := s.now - ago
    let t := s.train p (if p = .b then !s.ring.bSaved else true)
    let t := t.setLink p { t.link p with retrying := true, errors := [] }
    if p = .a ∧ wasUp ∧ s.ringFormed then t.breakAsD detection else t
  else s

/-- LOS_A or LOS_B high for 0.5 µs. -/
def losAsserted (s : State) (p : Path) : State :=
  if s.linkState p = lkAlign ∨ s.linkState p = lkCheck ∨ s.linkState p = lkUp then
    (s.bump (Obj.losEvents (linkIdx p))).linkLost p 0 else s

/-- Invalid sync headers or missing rows; a break found by loss of rows dates from the first lost row (R84). -/
def lockLoss (s : State) (p : Path) (ago : Nat) : State :=
  if s.linkState p = lkAlign ∨ s.linkState p = lkCheck ∨ s.linkState p = lkUp then
    (s.bump (Obj.lockLosses (linkIdx p))).linkLost p ago else s

/-- A fault of this node's own A-out transmitter (R83): TXDIS_A is set and A-out stops sending, so that the downstream neighbour loses
its rows. -/
def State.ownOutFault (s : State) : State := ({ s with ring := { s.ring with outFault := true } } : State).setSends .a false

/-- The B-in link of a HOT node from a COLD neighbour follows the neighbour (R80): outside wraps and proving runs it is cooled with it, its
state saved (log entry 141). -/
def State.followCold (s : State) : State :=
  if s.linkState .b = lkUp ∧ !s.wrapped ∧ s.ring.prove.isNone then s.saveB.linkEnter .b lkCold else lockLoss s .b us

/-- ROW_TIMEOUT (R83): no row for 1.0 µs on an in link, a transmitter fault that stops the rows of this node's own A-out, or a COLD
neighbour that cools its B-out (log entries 138 and 141). -/
def rowTimeout (s : State) : RowStop → State
  | .input p => lockLoss s p us
  | .ownOutput => s.ownOutFault
  | .cooled => s.followCold

/-- `n` frames with HCRC, FCRC or row code errors: they restart the hold-off of R91 and the 1 ms of R74, and at ERR_BURST_LIMIT
within 1 ms the link is lost (R83). -/
def State.frameErrors (s : State) (p : Path) (n : Nat) : State :=
  if n = 0 then s else
  let l := s.link p
  let recent := l.errors.filter (fun t => s.now < t + ms) ++ List.replicate (min n 4096) s.now
  let t := s.setLink p { l with errors := lastN 4096 recent, cleanSince := s.now }
  if s.obj Obj.errBurstLimit ≤ recent.length then t.linkLost p 0 else t

/-- The LINK_WORD of the last IDLE or TRAILER row received is the neighbour's (R62). -/
def State.takeLinkWords (s : State) (p : Path) (received : List WireRow) : State :=
  match (received.filterMap WireRow.linkWord).getLast? with
  | some w => s.setLink p { s.link p with linkWord := w }
  | none => s

/-- Rows as they are received. Each row with a row code error is counted and is an errored frame of R83: ERR_BURST_LIMIT of them within
1 ms, with the frames that had HCRC or FCRC errors, lose the link (R60 to R62, R83). -/
def errBurst (s : State) (p : Path) (received : List WireRow) : State :=
  let n := (received.filter WireRow.isError).length
  if s.linkState p = lkAlign ∨ s.linkState p = lkCheck ∨ s.linkState p = lkUp then
    ((s.takeLinkWords p received).bumpBy (Obj.rowCodeErrors (linkIdx p)) n).frameErrors p n
  else s

/-- All four lanes are locked (R74). In a proving run the link stays in TRAIN for the dwell, and its lock time is recorded. -/
def lanesLocked (s : State) (p : Path) : State :=
  if s.linkState p = lkTrain then
    let l := s.link p
    let t := s.setLink p { l with locked := true, lockTime := s.now - l.heatedAt }
    if p = .b ∧ s.ring.prove.any (fun r => r.phase = .dwell) then t else t.linkEnter p lkAlign
  else s

/-- A lock from saved state is not complete within 34 µs: once per heating the link falls back to full training (R74); in a
wrap that is a late wrap and a transient path B fault (R88), in a proving run the fresh state has to prove itself (R95). -/
def savedLockTimeout (s : State) (p : Path) : State :=
  let l := s.link p
  if s.linkState p = lkTrain ∧ !l.full ∧ !l.locked then
    let t := s.waitUntil (l.since + 34 * us)
    let t := t.setLink p { l with full := true, since := t.now }
    let t := if t.wrapped then
        (t.bump (Obj.lateWraps (linkIdx p))).transientFault (0x2020 + linkIdx p) 0x0C (linkIdx p) 0 0 true else t
    match t.ring.prove with
    | some r => { t with ring := { t.ring with prove := some { r with lateLock := true } } }
    | none => t
  else s

/-- A lasting fault of an in link is counted and opened, unless it is open already (R96, R105). -/
def State.countLasting (s : State) (p : Path) (sub detail : Nat) (covered : Bool) : State :=
  if s.faultOpen (0x2020 + linkIdx p) sub (linkIdx p) then s
  else (s.bump (Obj.lastingFaults (linkIdx p))).lastingFault (0x2020 + linkIdx p) sub (linkIdx p) 0 detail covered

/-- The link is FAILED: a lasting fault is open on it (R73, R96). -/
def State.linkFails (s : State) (p : Path) : State :=
  let t := s.linkEnter p lkFailed
  let t := t.setLink p { t.link p with retrying := false }
  t.countLasting p 0x08 0 true

/-- Full training has not completed within 50 ms: the link is FAILED, a lasting fault (R74, R96). -/
def trainingTimeout (s : State) (p : Path) : State :=
  let l := s.link p
  if s.linkState p = lkTrain ∧ l.full ∧ !l.locked then (s.waitUntil (l.since + 50 * ms)).linkFails p else s

/-- Block lock and deskew are done, with the rate recovered on the link, which a node that is not locked follows (R65; log entry
138). -/
def alignComplete (s : State) (l : Alignment) : State :=
  let p := l.link
  if s.linkState p = lkAlign then
    let t := (s.setLink p { s.link p with rate := l.rate }).linkEnter p lkCheck
    t.setLink p { t.link p with cleanSince := t.now }
  else s

/-- ALIGN is not complete within 8 µs: the link goes back to TRAIN, to a full training (R74; DESIGN CHOICE, log entry 121). -/
def alignTimeout (s : State) (p : Path) : State :=
  if s.linkState p = lkAlign then
    let t := s.waitUntil ((s.link p).since + 8 * us)
    let heated := (s.link p).heatedAt
    let t := t.train p true
    t.setLink p { t.link p with heatedAt := heated }
  else s

/-- The coordinator's loop frame goes round path B (R94 step 5), or that of a node that proves its own link again (R95). -/
def State.sendLoopFrame (s : State) : State :=
  match s.ring.prove with
  | some r => if r.coordinator ∨ r.ownOnly then
      { s with ring := { s.ring with prove := some { r with phase := .loop, loopSent := s.now } } }.emit .loopFrame
    else { s with ring := { s.ring with prove := some { r with phase := .loop } } }
  | none => s

/-- The neighbour's ID is consistent with the census: no member of another identity has it (R74, R78; DEDUCED, log entry 139). -/
def State.neighbourGood (s : State) (p : Path) : Bool :=
  let l := s.link p
  l.neighbour == 0 || s.acc.members.all (fun m => m.id ≠ l.neighbour || m.identity == l.identity)

/-- Once both links of a segment are UP, its path B link, this node's B-in, saves its state and goes COLD, unless path B is hot or the
ring is wrapped, forming or proving (R75; log entry 141). -/
def State.segmentRests (s : State) : State :=
  if s.linkState .b = lkUp ∧ s.outUp .a ∧ s.ringState = 2 ∧ !s.wrapped ∧ s.ring.prove.isNone ∧ !s.hotB then s.coolB true else s

/-! ## Proving, at the end of a run (R94, R95) -/

/-- This node's own B-in link is sound as far as this node sees it alone: it reached UP and counted no bit error in the dwell (R95). -/
def State.linkSound (s : State) (r : ProveRun) : Bool := s.linkState .b == lkUp && r.bitErrors.all (· == 0)

/-- This node's own B-in link passes the run: it reached UP, counted no bit error, and carried the loop frame (R95). -/
def State.ownLinkPassed (s : State) (r : ProveRun) : Bool :=
  s.linkSound r && (r.carried || r.coordinator || r.ownOnly)

/-- The B-in link has failed its second attempt: it is FAILED, a lasting fault (R95). B_SAVED_VALID stays as it is (R104). -/
def State.proveFails (s : State) : State := (s.put Obj.lastProveResult 3).linkFails .b

/-- The B-in link has passed: it saves its state and is cooled; where it was full-trained, or passed the second attempt, the first
failure is a transient fault (R94 step 6, R95). -/
def State.provePasses (s : State) (late : Bool) : State :=
  let t := if late then (s.bump (Obj.transientFaults 1)).transientFault 0x2021 0x07 1 0 0 true else s
  ((t.closeFault 0x2021 0x08 1).putBool Obj.bSavedValid true).coolB true

/-- This node proves its own link again, at once, after a run that every other link passed (R95). -/
def State.proveAgain (s : State) : State :=
  let t := (s.coolB false).heatB
  { t with ring := { t.ring with prove := some { start := t.now, phase := .dwell, attempt := 2, ownOnly := true, failedFirst := true } } }

/-- The run ends here with its result: 1 passed, 2 passed on the second attempt, 3 failed. A link that passed saves its state, also in a run
that another link fails (R81, R94 step 6, R95). -/
def State.endProve (s : State) (r : ProveRun) (result : Nat) : State :=
  let t := s.put Obj.lastProveResult result
  let good : Bool := result == 1 || result == 2
  let t := { t with ring := { t.ring with prove := none, lastPass := if good then s.now else s.ring.lastPass } }
  if good ∧ s.ownLinkPassed r then t.provePasses (r.lateLock || r.failedFirst)
  else if s.ownLinkPassed r then t.coolB true
  else if r.attempt = 1 ∧ good then t.proveAgain
  else if result = 4 then t.coolB false
  else t.proveFails

/-! ## CHECK to UP -/

/-- The CHECK conditions are met and the link is UP: at bring-up 1 ms of HELLO rows without a row code error, a neighbour whose
stepping is the same and whose ID is consistent with the census; on path B in a wrap or a proving run one valid row (R74). A retry that
passes is a transient fault (R96), a later retry that passes closes the lasting fault. -/
def linkUp (s : State) (p : Path) : State :=
  let l := s.link p
  let quick : Bool := p == .b && (s.wrapped || s.ring.prove.isSome)
  if s.linkState p = lkCheck ∧ !l.stepMismatch ∧ (quick ∨ (l.heard ∧ s.neighbourGood p)) then
    let t := if quick then s else s.waitUntil (l.cleanSince + ms)
    let t := t.linkEnter p lkUp
    let t := t.setLink p { t.link p with retrying := false, cleanSince := t.now, errors := [] }
    let t := if l.retrying then
        (t.bump (Obj.transientFaults (linkIdx p))).transientFault (0x2020 + linkIdx p) 0x07 (linkIdx p) 0 0 true else t
    let failed := t.faultOpen (0x2020 + linkIdx p) 0x08 (linkIdx p)
    let t := (t.closeFault (0x2020 + linkIdx p) 0x08 (linkIdx p)).closeFault (0x2020 + linkIdx p) 0 (linkIdx p)
    let t := if p = .a ∧ failed ∧ t.wrapped then { t with ring := { t.ring with awaitsRevert := true } } else t
    let t := if p = .b then t.wrapPassed else t
    match t.ring.prove with
    | some r =>
      if p = .b ∧ r.phase = .rising then t.sendLoopFrame else t
    | none => t.segmentRests
  else s

/-- LINK_RETRY_INTERVAL has passed on a FAILED link (R74); for an A link the path B link of its segment is heated too (R75). -/
def linkRetry (s : State) (p : Path) : State :=
  let l := s.link p
  if s.linkState p = lkFailed ∧ !l.stepMismatch then
    let t := (s.waitUntil (l.since + s.obj Obj.linkRetryInterval * sec)).train p true
    if p = .a then t.setSends .b true else t
  else s

/-- What a HELLO row tells of the out link on the same segment (R75, R91, R96): whether it is driven, when A-out came UP, and a
lasting fault of it that has been repaired while the ring is wrapped. -/
def State.outReported (s : State) (p : Path) (st : Nat) : State :=
  let was := s.obj (outKey p)
  let t := (s.put (outKey p) st).setSends p (lanesOn st)
  let t := if st = lkUp ∧ was ≠ lkUp then
      (match p with
       | .a => { t with ring := { t.ring with outSince := t.now } }
       | .b => { t with ring := { t.ring with outSinceB := t.now } })
    else t
  let t := if p = .a ∧ was = lkFailed ∧ st ≠ lkFailed ∧ t.wrapped then { t with ring := { t.ring with awaitsRevert := true } } else t
  t.segmentRests

/-- A HELLO row on an in link (R62, R75, R76): it tells the state of the out link on the same segment and who the neighbour is.
A stepping mismatch makes the link FAILED with its cause logged; a HELLO that matches, once a node of the segment has started again,
brings a link up that had failed so. -/
def helloRx (s : State) (p : Path) (h : Hello) : State :=
  let t := s.setLink p { s.link p with neighbour := h.effectiveId, identity := h.identity, heard := true }
  let t := t.outReported (otherPath p) h.reverse
  let st := t.linkState p
  if h.stepping ≠ t.obj Obj.stepping then
    if st = lkCheck ∨ st = lkUp then
      let t := t.linkEnter p lkFailed
      let t := t.setLink p { t.link p with stepMismatch := true, retrying := false }
      t.countLasting p 0 h.stepping false
    else t
  else if st = lkFailed ∧ (t.link p).stepMismatch then
    let t := t.setLink p { t.link p with stepMismatch := false }
    t.train p true
  else t

/-! ## Wrap (R84 to R88) -/

/-- A BREAK notice (R84). -/
def breakRx (s : State) (n : Notice) : State :=
  if s.hasSeen n then s
  else ((((s.sendBoth n).breakSegment n.u n.d n.time).freeze n.time)).wrapPassed

/-- The wrap of this node is made for one broken segment: traffic turns, and the freeze ends. -/
def State.turn (s : State) (w : WrapState) (p : Path) : State :=
  let t := s.mapWrap w.u w.d (fun x => { x with turned := true, start := s.now })
  (t.bump (Obj.wraps (linkIdx p))).unfreeze

/-- The broken segment whose D, or whose U, this node is and has still to wrap as. -/
def State.wrapAsD (s : State) : Option WrapState := s.ring.wraps.find? (fun w => w.isD && !w.turned)
def State.wrapAsU (s : State) : Option WrapState := s.ring.wraps.find? (fun w => w.isU && !w.turned)

/-- D wraps once its B-in link is UP: B-in turns onto A-out (R85). -/
def wrapD (s : State) : State :=
  match s.wrapAsD with
  | some w => if s.linkState .b = lkUp then s.turn w .b else s
  | none => s

/-- Frames queued for A-out that have not begun to leave move to B-out when this node wraps (R154). -/
def State.moveToB (s : State) : State :=
  let moved (l : List Nat) : List Nat := l.map (fun p => if p = 0 then 1 else p)
  { s with sw := { s.sw with stored := s.sw.stored.map (fun q => { q with outs := moved q.outs })
                             entering := s.sw.entering.map (fun o => { o with outs := moved o.outs }) } }

/-- A frame waits for a ring output, or is on its way into the switch for it. -/
def State.outWaits (s : State) (out : Nat) : Bool :=
  s.sw.stored.any (fun q => q.outs.contains out) || s.sw.entering.any (fun o => o.outs.contains out)

/-- The MARKER that waits takes its place once the last frame before it has left (R92, R208). -/
def State.placeMarker (s : State) : State :=
  match s.ring.marker with
  | some (p, n) =>
    if s.outWaits (pathPort p) then s else ({ s with ring := { s.ring with marker := none } } : State).notify p n
  | none => s

/-- A MARKER is to go out on a path behind the last frame that goes there now. -/
def State.queueMarker (s : State) (p : Path) (u d : Nat) : State :=
  let n : Notice := { kind := 0x08, origin := s.ownId, u := u, d := d, time := s.now, seq := s.nextNotice }
  let t := s.useNotice
  ({ t with ring := { t.ring with marker := some (p, n) } } : State).placeMarker

/-- U wraps once its B-out link is UP: A-in and its own traffic turn onto B-out (R85). Around a member that goes dark U first
places a MARKER on A-out behind its last frame (R208 step 5). -/
def wrapU (s : State) : State :=
  match s.wrapAsU with
  | some w =>
    if s.outUp .b then (if s.ring.dark then s.queueMarker .a w.u w.d else s.moveToB).turn w .a else s
  | none => s

/-- B-in from the downstream neighbour is not UP within 50 ms of being heated: this node treats that segment as broken and
wraps as U for it (R86). -/
def bInTimeout (s : State) : State :=
  if s.wrapped ∧ s.linkState .b ≠ lkUp ∧ s.linkState .b ≠ lkOff ∧ s.linkState .b ≠ lkCold ∧
      !s.ring.wraps.any (fun w => w.isU && w.d == s.downId) then
    let t := s.waitUntil ((s.link .b).heatedAt + 50 * ms)
    let n : Notice := { kind := 0x01, origin := s.ownId, u := s.ownId, d := s.downId, time := t.now }
    (t.originate n).breakSegment s.ownId s.downId t.now
  else s

/-- A frame on path B at this node: the first one since the detection time sets LAST_GAP, by the last wrap (R87, R104). -/
def State.noteGap (s : State) : State :=
  match s.ring.wraps.reverse.find? (fun w => !w.gapSeen) with
  | some w =>
    let t := s.put Obj.lastGap ((s.now - w.detection) % 2 ^ 32)
    { t with ring := { t.ring with wraps := t.ring.wraps.map (fun w => { w with gapSeen := true }) } }
  | none => s

/-! ## Revert (R91, R92) -/

/-- Both links of the broken segment are UP, as U knows them. -/
def State.segmentUp (s : State) : Bool := s.outUp .a && s.linkState .b == lkUp

/-- The wrap that this node has made as U of a broken segment. -/
def State.madeAsU (s : State) : Option WrapState := s.ring.wraps.find? (fun w => w.isU && w.turned)

/-- U starts the revert: REVERT_START on A-out, MARKER on B-out behind its last wrapped frame, all A traffic on A-out (R92). -/
def State.startRevert (s : State) (w : WrapState) : State :=
  let t := s.useNotice
  let t := t.notify .a { kind := 0x03, origin := s.ownId, u := w.u, d := w.d, time := s.now, seq := s.nextNotice }
  let t := t.mapWrap w.u w.d (fun x => { x with turned := false })
  let t := { t with ring := { t.ring with revert := some { asD := false, u := w.u, d := w.d, start := s.now } } }
  (t.put Obj.ringState 5).queueMarker .b w.u w.d

/-- The hold-off has run at U: both links of the segment have been UP with no error for REVERT_HOLDOFF (R91). -/
def revertHoldoffExpiry (s : State) : State :=
  match s.madeAsU with
  | some w =>
    if s.segmentUp ∧ s.ring.revert.isNone then
      (s.waitUntil (max (s.link .b).cleanSince s.ring.outSince + s.obj Obj.revertHoldoff * sec)).startRevert w
    else s
  | none => s

/-- The notice names this node as D of a wrap or splice in progress (R63, R92). -/
def State.isRevertD (s : State) (n : Notice) : Bool :=
  s.isDOf n.u n.d && s.ring.wraps.any (fun w => w.isD && w.d == n.d)

/-- A REVERT_START or MARKER not meant for a wrap in progress here: taken and counted if it names this node, else forwarded
along its path as a frame is (R63). -/
def State.strayNotice (s : State) (p : Path) (n : Notice) : State :=
  if s.isDOf n.u n.d then s.bump Obj.noticeIgnored else s.notify (s.outPath p) n

/-- REVERT_START at D: A-in traffic from the repaired segment is stored from now on (R92 step 3). -/
def revertStartRx (s : State) (p : Path) (n : Notice) : State :=
  if s.isRevertD n then
    { s.put Obj.ringState 5 with ring := { s.ring with revert := some { asD := true, u := n.u, d := n.d, start := s.now } } }
  else s.strayNotice p n

/-- D turns B-in onto A-out behind the MARKER of a member that goes dark, and releases the stored B-in traffic in order (R208
step 5). -/
def State.completeDark (s : State) (r : RevertState) : State :=
  let t := { s with ring := { s.ring with revert := none } }
  let t := match t.wrapAsD with | some w => t.turn w .b | none => t
  forEach r.stored (fun t f => t.enterRing .b f.1 f.2) t

/-- D switches: the revert, or the turn for a member that goes dark, is complete. -/
def State.revertDone (s : State) (r : RevertState) : State :=
  if r.dark then s.completeDark r else s.completeRevert r.u r.d r.stored

/-- A weld or unweld that a break has paused goes on once the wrap is complete (R90): D acts on the MARKER that came meanwhile. -/
def State.resumeRevert (s : State) : State :=
  match s.ring.revert with
  | some r => if r.asD ∧ r.markerSeen ∧ !s.revertPaused r then s.revertDone r else s
  | none => s

/-- The MARKER at D (R92 step 4, R208 step 5), which waits while a break pauses the weld or unweld (R90). The member that goes dark forwards it and then disables its transmitters. -/
def markerRx (s : State) (p : Path) (n : Notice) : State :=
  if s.isRevertD n then
    match s.ring.revert with
    | some r =>
      if !r.asD then s
      else if s.revertPaused r then { s with ring := { s.ring with revert := some { r with markerSeen := true } } }
      else s.revertDone r
    | none => s.completeRevert n.u n.d []
  else
    let t := s.strayNotice p n
    if s.ring.dark ∧ p = .a then
      let t := { t with ring := { t.ring with dark := false } }
      (t.setSends .a false).setSends .b false
    else t

/-- No MARKER within 200 µs of REVERT_START: D switches anyway, and the frames still on the wrapped route are lost (R92). -/
def markerTimeout (s : State) (lost : Nat) : State :=
  match s.ring.revert with
  | some r =>
    if r.asD ∧ !s.revertPaused r then ((s.waitUntil (r.start + 200 * us)).bumpBy (Obj.revertDrops 0) lost).revertDone r else s
  | none => s

/-- A REVERT_DONE notice (R92 step 5); a node that is welding in enters HELD with it (R207). -/
def revertDoneRx (s : State) (n : Notice) : State :=
  if s.hasSeen n then s else
  ((s.sendBoth n).endWrap n.u n.d).weldWith

/-- A NOTICE of a reserved kind is forwarded once and counted once; a REVERT_START or MARKER not meant for a wrap in progress is
forwarded or taken (R63). -/
def reservedNoticeRx (s : State) (p : Path) (n : Notice) : State :=
  if n.kind = 0x03 ∨ n.kind = 0x08 then (if s.isRevertD n then s else s.strayNotice p n)
  else if s.hasSeen n then s
  else (s.sendBoth n).bump Obj.noticeIgnored

/-! ## Proving (R93 to R95) -/

/-- The ring is whole: closed, with no wrap, revert, splice or census in progress. -/
def State.ringWhole (s : State) : Bool :=
  s.ringState == 2 && !s.wrapped && s.ring.revert.isNone && s.acc.census.isNone && s.acc.splice.isNone

/-- The coordinator starts a proving run: PROVE_START names the second epoch boundary after it is sent (R94 step 1). -/
def State.startProve (s : State) (attempt : Nat) (failedFirst : Bool := false) : State :=
  let at' := s.sampleAfter (s.sampleAfter s.now)
  let t := s.originate { kind := 0x05, origin := s.ownId, time := at' }
  { t with ring := { t.ring with prove := some { start := at', attempt := attempt, coordinator := true, failedFirst := failedFirst } },
           tb := { t.tb with loopProve := false } }

/-- When the next run of R93 is due, ns: at once after a change of membership or a LOOP_ALARM, else PROVE_INTERVAL hours after the last
run that passed. -/
def State.proveDue (s : State) : Nat :=
  if s.obj Obj.bSavedValid = 0 ∨ s.tb.loopProve then s.ring.changedAt
  else s.ring.lastPass + s.obj Obj.proveInterval * 3600 * sec

/-- A run is due at the coordinator (R93). One that fell due while the ring was wrapped, split or welding waits until 60 s after the ring
is whole again. -/
def proveIntervalExpiry (s : State) : State :=
  let scheduled := s.obj Obj.proveInterval ≠ 0
  let changed := s.obj Obj.bSavedValid == 0 || s.tb.loopProve
  if s.isCoordinator ∧ s.ringWhole ∧ s.ring.prove.isNone ∧ (scheduled ∨ changed) then
    let due := if s.proveDue < s.ring.wholeSince then s.ring.wholeSince + 60 * sec else s.proveDue
    (s.waitUntil due).startProve 1
  else s

/-- A PROVE_START notice: the node heats its B links at the announced instant (R94). One in a run starts its second attempt, and the node
keeps whether its own link failed the first (R95). -/
def proveStartRx (s : State) (n : Notice) : State :=
  if s.hasSeen n then s else
  let t := s.sendBoth n
  let attempt := if t.ring.prove.isSome then 2 else 1
  let failed := t.ring.prove.any (fun r => r.lateLock || !t.linkSound r)
  { t with ring := { t.ring with prove := some { start := n.time, attempt := attempt, failedFirst := failed } } }

/-- At the proving instant the B links are heated from saved state; one that is UP trains anew, so that it locks and runs PRBS31 in this run
too (R94 steps 2 and 3, R95). -/
def proveHeat (s : State) : State :=
  match s.ring.prove with
  | some r => if r.phase = .scheduled then
      let t := s.waitUntil r.start
      let t := if t.linkState .b = lkUp then (t.setSends .b true).train .b (!t.ring.bSaved) else t.heatB
      let t := t.put Obj.lastProveTime r.start
      { t with ring := { t.ring with prove := some { r with phase := .dwell } } }
    else s
  | none => s

/-- PROVE_DWELL has passed: the counts of bit errors end, and a link whose lanes have locked goes to ALIGN, then CHECK and UP (R94 steps
3 and 4). A second attempt of this node's own link that counted bit errors has failed (R95). -/
def proveDwellExpiry (s : State) (bitErrors : LaneCounts) : State :=
  match s.ring.prove with
  | some r => if r.phase = .dwell then
      let errors := [bitErrors.lane0, bitErrors.lane1, bitErrors.lane2, bitErrors.lane3]
      let t := s.waitUntil (r.start + s.obj Obj.proveDwell * ms)
      if r.ownOnly ∧ errors.any (· ≠ 0) then ({ t with ring := { t.ring with prove := none } } : State).proveFails
      else
        let r := { r with phase := .rising, bitErrors := errors }
        let t := { t with ring := { t.ring with prove := some r } }
        if t.linkState .b = lkTrain ∧ (t.link .b).locked then t.linkEnter .b lkAlign
        else if t.linkState .b = lkUp then t.sendLoopFrame
        else t
    else s
  | none => s

/-- The coordinator's run has its outcome: PROVE_END goes round with the result in its U byte (DESIGN CHOICE, log entry 122), or a failed
first attempt is repeated at once, once (R95). -/
def State.concludeProve (s : State) (r : ProveRun) (passed : Bool) : State :=
  if !passed ∧ r.attempt = 1 then (s.coolB false).startProve 2 (r.lateLock || !s.linkSound r)
  else
    let result := if passed then r.attempt else 3
    (s.originate { kind := 0x06, origin := s.ownId, u := result, time := s.now }).endProve r result

/-- The loop frame on B-in in a proving run (R94 step 5): it has come back to the node that sent it, or it is carried on, on path B alone. A
node whose own link has failed the run does not carry it, so that the coordinator learns of the failure (DESIGN CHOICE, log entry 163). -/
def State.loopFrameRx (s : State) (r : ProveRun) (f : Frame) : State :=
  if f.src = s.ownId ∧ s.ownId ≠ 0 then
    if r.coordinator ∧ r.phase = .loop then s.concludeProve r (s.ownLinkPassed r)
    else if r.ownOnly ∧ r.phase = .loop then s.endProve r (if s.ownLinkPassed r then 2 else 3)
    else s
  else if !s.linkSound r then s
  else
    let t := { s with ring := { s.ring with prove := some { r with carried := true } } }
    let o : Offered := { port := 1, cls := f.cls, packet := .ring f, outs := [1], entered := t.now }
    { t with sw := { t.sw with entering := t.sw.entering ++ [o] } }

/-- The loop frame has not come back within 1 ms. -/
def loopFrameTimeout (s : State) : State :=
  match s.ring.prove with
  | some r =>
    if r.coordinator ∧ r.phase = .loop then (s.waitUntil (r.loopSent + ms)).concludeProve r false
    else if r.ownOnly ∧ r.phase = .loop then
      ({ s.waitUntil (r.loopSent + ms) with ring := { s.ring with prove := none } } : State).proveFails
    else s
  | none => s

/-- A PROVE_END notice with the run's result (R94 step 6). -/
def proveEndRx (s : State) (n : Notice) (result : Nat) : State :=
  if s.hasSeen n then s else
  let t := s.sendBoth n
  match t.ring.prove with
  | some r => t.endProve r result
  | none => t.put Obj.lastProveResult result

/-! ## Class-0 load (R97) -/

/-- The 10 µs interval of ring time that was open ends: one in which more than 6,060 bytes were sent on a link is counted there. -/
def State.c0Close (s : State) (next : Nat) : State :=
  let t := if s.ring.c0BytesA > 6060 then s.bump (Obj.c0LoadExceed 0) else s
  let t := if s.ring.c0BytesB > 6060 then t.bump (Obj.c0LoadExceed 1) else t
  { t with ring := { t.ring with c0BytesA := 0, c0BytesB := 0, c0Interval := next } }

/-- A class-0 frame leaves on a ring link: its rows count in the interval of now. -/
def State.c0Sent (s : State) (p : Path) (f : Frame) : State :=
  let k := s.now / (10 * us)
  let t := if k = s.ring.c0Interval then s else s.c0Close k
  match p with
  | .a => { t with ring := { t.ring with c0BytesA := t.ring.c0BytesA + wireBytes f } }
  | .b => { t with ring := { t.ring with c0BytesB := t.ring.c0BytesB + wireBytes f } }

/-- C0_LOAD_INTERVAL: the present interval of 10 µs, aligned to ring time, ends. -/
def c0LoadInterval (s : State) : State :=
  let t := s.waitUntil ((s.ring.c0Interval + 1) * (10 * us))
  t.c0Close (t.now / (10 * us))

/-! ## Claims (R98 to R103) -/

/-- The lease of commander `c` has run out: the claim is no longer live (R98). -/
def State.lapse (s : State) (c : Nat) : State :=
  let t := (s.putBool (Obj.cmdrLive (c - 1)) false).bump (Obj.lapses (c - 1))
  { t with ring := { t.ring with claimAge := sparsePut (fun _ => 0) t.ring.claimAge c 0 } }

/-- A claim number reaches the entry of commander `c`: a renewal resets the count and the claim is live, number 0 releases it. A renewal at
an apply instant counts as received before it, so that the instant is counted after it (R98). -/
def State.claim (s : State) (c number : Nat) : State :=
  let t := (s.put (Obj.cmdrClaim (c - 1)) number).putBool (Obj.cmdrLive (c - 1)) (number ≠ 0)
  let counted : Bool := number ≠ 0 && s.ring.leaseAt == some s.now
  let t := if counted ∧ s.ring.lapsedAt.contains c then t.put (Obj.lapses (c - 1)) ((t.obj (Obj.lapses (c - 1)) + 2 ^ 32 - 1) % 2 ^ 32) else t
  let t := { t with ring := { t.ring with claimAge := sparsePut (fun _ => 0) t.ring.claimAge c (ofBool counted) } }
  if number = 0 then t
  else
    let t := t.put (Obj.lastRenew (c - 1)) t.now
    if counted ∧ t.obj Obj.claimLease ≤ 1 then t.lapse c else t

/-- A claim from node `src` reaches this node's entries, or is discarded (R99). -/
def State.receiveClaim (s : State) (src c number : Nat) : State :=
  if c = 0 ∨ 8 < c ∨ (s.obj (Obj.cmdrNode (c - 1)) ≠ 0 ∧ s.obj (Obj.cmdrNode (c - 1)) ≠ src) then s.bump Obj.claimDiscards
  else s.claim c number

/-- A CLAIM frame (R99). -/
def claimRx (s : State) (f : Frame) : State := s.receiveClaim f.src f.commander f.seq

/-- The lease of commander `c` runs out: CLAIM_LEASE apply instants have passed since the last renewal, and none is frozen now (R89,
R98). -/
def claimLeaseExpiry (s : State) (c : Nat) : State :=
  if 1 ≤ c ∧ c ≤ 8 ∧ s.obj (Obj.cmdrLive (c - 1)) = 1 ∧ !s.frozen ∧ s.obj Obj.claimLease ≤ sparseGet (fun _ => 0) s.ring.claimAge c then
    s.lapse c
  else s

/-- One claim write or claim datagram, its layout already read: commander, number and DST (R100, R471). A layout that is broken is
discarded; every other one is sent as one claim frame, to this node too. A node without an ID sends none: a claim for itself takes effect
in its own entries. -/
def State.sendClaim (s : State) (port c number dst : Nat) : State :=
  if c = 0 ∨ 8 < c ∨ !(dst = 0 ∨ dst = 0xFF ∨ (1 ≤ dst ∧ dst ≤ 0x60)) then s.bump Obj.claimDiscards
  else if s.ownId = 0 then
    if dst = 0 then s.claim c number else s.bump Obj.claimDiscards
  else
    let f : Frame := { cls := 0, type := tyClaim, src := s.ownId, dst := if dst = 0 then s.ownId else dst, commander := c, seq := number }
    let t := s.offerRing port f
    if dst = 0xFF then t.receiveClaim s.ownId c number else t

/-- Whether the source address is in the Kedogil allow list (R52). -/
def State.allowed (s : State) (address : Nat) : Bool :=
  [0, 1, 2, 3, 4, 5, 6, 7].any (fun i =>
    s.obj (Obj.allowMask i) ≠ 0 && (address &&& s.obj (Obj.allowMask i)) == (s.obj (Obj.allowAddr i) &&& s.obj (Obj.allowMask i)))

/-- The port whose addresses serve an Ethernet port: the lower one of a redundant pair (R168). -/
def State.addressPort (s : State) (port : Nat) : Nat := if s.obj (Obj.redMode (port / 2)) ≠ 0 then port / 2 * 2 else port

/-- A claim datagram to port 47,211 (R100). On a port that is not enabled nothing listens; one from a source outside the allow list is
discarded and counted (DESIGN CHOICE, log entry 123). -/
def claimDatagram (s : State) (port address : Nat) (b : List Byte) : State :=
  if !(s.obj Obj.claimUdpEnable).testBit port ∨ s.obj (Obj.ipv4Addr (s.addressPort port)) = 0 ∨ s.ethDeaf port then s
  else if !s.allowed address ∨ b.length ≠ 12 ∨ leAt b 0 2 ≠ 0x434B ∨ leAt b 2 1 ≠ 0x01 ∨ leAt b 9 3 ≠ 0 then
    s.bump Obj.claimDiscards
  else s.sendClaim portMp (leAt b 3 1) (leAt b 4 4) (leAt b 8 1)

end Sys2Proof.Machine
end

