-- ==== Sys2Proof/Machine/TimeBase.lean ====
section
/-! DEFINITION. The time base (file 04, R107 to R121): grandmaster and sources, TIMING rows, hop delays, discipline. -/
namespace Sys2Proof.Machine

/-! ## Grandmaster selection (R109) -/

/-- This node is a grandmaster candidate. -/
def State.isCandidate (s : State) : Bool := 1 ≤ s.obj Obj.gmPriority && s.obj Obj.gmPriority ≤ 254

/-- The node's own source state: 0 none, 1 holdover, 2 valid (R110); at a candidate without external time FREE_RUN_OK makes the
time valid; a node that is no candidate has no source. -/
def State.ownSource (s : State) : Nat :=
  if !s.isCandidate then 0
  else if s.obj Obj.timeSource = 0 then (if s.obj Obj.freeRunOk = 1 then 2 else 0)
  else s.tb.source

/-- Whether candidate `a` ranks before candidate `b`: source, then priority, then ID. -/
def ranksBefore (a b : Nat × Candidate) : Bool :=
  if a.2.source ≠ b.2.source then b.2.source < a.2.source
  else if a.2.priority ≠ b.2.priority then a.2.priority < b.2.priority
  else a.1 < b.1

/-- A node that selects with this one: a member that it reaches; before a membership is known, any (R109, R118). -/
def State.selectsWith (s : State) (n : Nat) : Bool := s.ownId == 0 || s.acc.members == [] || s.reaches n

/-- The candidates this node knows of, itself among them. -/
def State.candidateList (s : State) : List (Nat × Candidate) :=
  let others := s.tb.candidates.filter (fun c => c.1 ≠ s.ownId ∧ 1 ≤ c.2.priority ∧ c.2.priority ≤ 254 ∧ s.selectsWith c.1)
  if s.isCandidate then (s.ownId, { priority := s.obj Obj.gmPriority, source := s.ownSource }) :: others else others

/-- The lowest effective ID among the members that this node reaches, itself included; 0 if none. -/
def State.lowestId (s : State) : Nat :=
  ((s.acc.members.map (·.id)).filter (fun i => i ≠ 0 && s.selectsWith i)).foldl (fun m i => if m = 0 ∨ i < m then i else m) s.ownId

/-- The grandmaster under R109: the candidate that ranks first, else the node with the lowest effective ID. -/
def State.rankedGm (s : State) : Nat :=
  match s.candidateList with
  | [] => s.lowestId
  | c :: r => (r.foldl (fun b x => if ranksBefore x b then x else b) c).1

def State.isGm (s : State) : Bool := s.obj Obj.gmId == s.ownId && s.ownId ≠ 0

/-- The node's epoch parameters differ from the ring's (R127). -/
def State.epochMismatch (s : State) : Bool :=
  s.obj Obj.epochLength ≠ s.obj Obj.ringEpoch || s.obj Obj.applyDelay ≠ s.obj Obj.ringApply ||
  s.obj Obj.epochPhase ≠ s.tb.phase

/-- The grandmaster announces new parameters of its own after a commit (R127): CHANGE_AT is the first old sample instant at
least 2 ms and at least 4 epochs later. -/
def State.announceParams (s : State) : State :=
  let q : EpochParams := { epoch := s.obj Obj.epochLength, apply := s.obj Obj.applyDelay, phase := s.obj Obj.epochPhase }
  let changeAt := s.sampleFrom (s.now + max (2 * ms) (4 * s.epochNs))
  { s with tb := { s.tb with paramsNext := some (q, changeAt) } }

/-- The IEEE 1588 codes of PORT_STATE (R140). -/
def ptpInitializing : Nat := 1
def ptpDisabled : Nat := 3
def ptpListening : Nat := 4
def ptpMaster : Nat := 6
def ptpSlave : Nat := 9

/-- The IEEE 1588 types of the messages that a port sends (R111). -/
def ptpSync : Nat := 0x0
def ptpPdelayReq : Nat := 0x2
def ptpAnnounce : Nat := 0xB

/-- A source that was valid is in holdover, or at once none with a HOLDOVER_LIMIT of 0 (R110). -/
def State.holdSource (s : State) : State :=
  if s.tb.source = 2 then
    { s with tb := { s.tb with source := if s.obj Obj.holdoverLimit = 0 then 0 else 1, holdoverFrom := s.now } }
  else s

/-- A node that is not grandmaster takes no time from its PTP port, which acts as a master port; a source that was PTP is lost (R110,
R111). -/
def State.releasePtp (s : State) : State :=
  let port := s.obj Obj.ptpPort
  if s.obj Obj.timeSource = 1 ∧ s.obj (Obj.portState port) = ptpSlave then
    let t := (s.put (Obj.portState port) ptpMaster).holdSource
    { t with tb := { t.tb with ptpGood := 0, ptpMaster := [] } }
  else s

/-- The selection is remade; a change is logged (R109). A follower's lock stays over a change of grandmaster, since R118 unlocks in two
cases alone; a node that becomes grandmaster, or was it, counts its rows anew. A new grandmaster goes on with the ring's parameters, and
announces its own where they differ (R127). -/
def State.selectGm (s : State) : State :=
  let gm := s.rankedGm
  if gm = s.obj Obj.gmId then s
  else
    let was := s.isGm
    let t := (s.put Obj.gmId gm).logEvent 0x2100 0x03 0xFFFF 0 gm
    let t := if was ∨ t.isGm then { t with tb := { t.tb with locked := false, goodOffsets := 0, badOffsets := 0 } } else t
    if t.isGm then (if t.tb.paramsSeen ∧ t.epochMismatch ∧ t.tb.paramsNext.isNone then t.announceParams else t)
    else t.releasePtp

/-- The grandmaster has a valid source, holdover included (R110). -/
def State.gmValid (s : State) : Bool := s.isGm && 1 ≤ s.ownSource

/-- Locked, or grandmaster with a valid source: the inverse of TIME_UNLOCKED (R118). -/
def State.timeLocked (s : State) : Bool := if s.isGm then s.gmValid else s.tb.locked

/-- The inbound hop delay is proven (R118): on A-in by the measurement since the link came UP, on B-in by a proving run or by the
fast measurement of the present heating. -/
def State.inboundProven (s : State) : Bool :=
  if s.obj Obj.inboundPath = 0 then s.tb.hopA.proven && s.linkState .a == lkUp
  else s.obj Obj.bSavedValid == 1 || s.tb.hopB.proven

/-- The grandmaster's own source is PTP or IRIG-B and valid. -/
def State.gmTraceable (s : State) : Bool := s.isGm && s.ownSource == 2 && s.obj Obj.timeSource ≠ 0

/-- TIME_STATE as R139 codes it. -/
def State.timeStateNow (s : State) : Nat :=
  if s.isGm then (if s.ownSource = 2 then 4 else if s.ownSource = 1 then 3 else 5)
  else if s.tb.locked then 2
  else if s.tb.lastSync ≠ 0 ∧ s.now ≤ s.tb.lastSync + 100 * ms then 1
  else 0

/-- TIME_FLAGS as R118 and R127 set them. -/
def State.timeFlagsNow (s : State) : Nat :=
  let agreed := if s.isGm then s.gmValid else s.tb.locked && s.inboundProven
  let trace := if s.isGm then s.gmTraceable else agreed && s.tb.gmFlags.testBit 0
  let alarm := s.tb.gmFlags.testBit 2
  ofBool agreed + 2 * ofBool trace + 4 * ofBool alarm + 8 * ofBool s.epochMismatch

/-- TIME_STATE and TIME_FLAGS follow the lock, the source and the hop delays. At a grandmaster whose source gives no UTC offset UTC_OFFSET_CFG
is in use (R139). -/
def State.refreshTime (s : State) : State :=
  let t := if s.isGm ∧ (s.obj Obj.timeSource = 0 ∨ (s.obj Obj.timeSource = 1 ∧ s.tb.ptpMaster = [])) then
      s.put Obj.utcOffset (s.obj Obj.utcOffsetCfg) else s
  (t.put Obj.timeState s.timeStateNow).put Obj.timeFlags s.timeFlagsNow

/-! ## TIMING rows -/

/-- A row goes out on A-out, and on B-out while it is UP. -/
def State.sendTiming (s : State) (content : List Byte) : State :=
  let t := s.emit (.timing .a content)
  if t.outUp .b then t.emit (.timing .b content) else t

/-- A TIME64 with its fraction byte, from a time in 1/256 ns. -/
def timeBytes (t : Nat) : List Byte := leBytes 8 (t / 256) ++ leBytes 1 (t % 256)

/-- A time in 1/256 ns read from TIME64 and fraction bytes at offset `o`. -/
def timeAt (c : List Byte) (o : Nat) : Nat := leAt c o 8 * 256 + leAt c (o + 8) 1

/-- The flags byte of a SYNC row: TRACEABLE, HOLDOVER, LOOP_ALARM. -/
def State.syncFlags (s : State) : Nat :=
  ofBool s.gmTraceable + 2 * ofBool (s.ownSource == 1) + 4 * ofBool (s.tb.gmFlags.testBit 2)

/-- The grandmaster's SYNC row (R114); on a ring of one node none is sent (R115). -/
def syncSend (s : State) : State :=
  if s.isGm ∧ 1 < s.obj Obj.ringNodes then
    let seq := (s.tb.syncSeq + 1) % 256
    let c := leBytes 1 0x01 ++ leBytes 1 s.ownId ++ leBytes 1 s.syncFlags ++ leBytes 1 seq ++ timeBytes s.now256 ++
             leBytes 6 0 ++ leBytes 4 (s.obj Obj.loopScale) ++ leBytes 1 0
    { s with tb := { s.tb with syncSeq := seq } }.sendTiming c
  else s

/-- The calibrated fixed delays of the lanes of an in link's exchange (R46, R116): the four lanes of the in link, and the four of the out
link that runs the other way on the same segment. -/
def State.laneItems (s : State) (p : Path) : List Nat :=
  let first : List Nat := match p with | .a => [0x400, 0x40C] | .b => [0x408, 0x404]
  (first.flatMap (fun i => (List.range 4).map (i + ·))).map s.effOffset

def State.hop (s : State) : Path → HopState
  | .a => s.tb.hopA
  | .b => s.tb.hopB

def State.setHop (s : State) (p : Path) (h : HopState) : State :=
  match p with
  | .a => { s with tb := { s.tb with hopA := h } }
  | .b => { s with tb := { s.tb with hopB := h } }

/-- The inbound hop delay of an in link in 1/256 ns, with LOOP_SCALE applied to its fibre part (R117). -/
def State.hopDelay (s : State) (p : Path) : Int :=
  let d := (s.hop p).delay
  let fibre := d - Config.lanePart (s.laneItems p)
  d + fibre * toSigned 32 (s.obj Obj.loopScale) / (2 ^ 40 : Nat)

/-- The objects HOP_DELAY_A and HOP_DELAY_B in ps. -/
def State.putHopDelays (s : State) : State :=
  let ps (p : Path) : Nat := ofSigned 32 (s.hopDelay p * 1000 / 256)
  (s.put Obj.hopDelayA (ps .a)).put Obj.hopDelayB (if s.tb.hopB.taken = 0 then 0 else ps .b)

/-- A value between `-l` and `l` that the spec leaves open (log entry 3). -/
def State.freeWithin (s : State) (l : Nat) : Int := ((s.freeNow % (2 * l + 1) : Nat) : Int) - l

/-- The rate trim is moved by a loop whose arithmetic the spec does not give: FREQ_ADJ takes a free value within `l` of `mid` (in 0.001
ppb) and within ±200 ppm (R107, R113, R115). -/
def State.trim (s : State) (mid : Int) (l : Nat) : State :=
  let v := mid + s.freeWithin l
  (s.put Obj.freqAdj (ofSigned 32 (max (-200000000) (min 200000000 v)))).tookFree

/-- LOOP_FIBRE as this node knows it (R114, R137): what PARAMS rows of this membership told; at a grandmaster that was told none the fibre
of its ring (log entry 126). -/
def State.fibreNow (s : State) : Nat :=
  if s.tb.loopFibre ≠ 0 ∨ !s.isGm ∨ s.obj Obj.ringNodes ≤ 1 then s.tb.loopFibre else Config.ringFibre (s.obj Obj.membershipGen)

/-- The grandmaster's own SYNC row has come back on A-in: the difference from the true transit time is filtered over 64 rows
and moves LOOP_SCALE by that part of the loop's fibre, so that the scaled fibre parts come to the measured loop; beyond LOOP_ALARM_NS it sets LOOP_ALARM (R117). -/
def State.loopReturn (s : State) (row : TimingRow) : State :=
  let c := row.content
  let corr := toSigned 48 (leAt c 13 6)
  let d : Int := ((row.arrival : Int) - timeAt c 4) - (corr + s.hopDelay .a)
  let sum := s.tb.loopSum + d
  if s.tb.loopCount + 1 < 64 then
    { s with tb := { s.tb with loopSum := sum, loopCount := s.tb.loopCount + 1 } }
  else
    let mean := sum / 64
    let alarm := mean.natAbs > s.obj Obj.loopAlarmNs * 256
    let scale := toSigned 32 (s.obj Obj.loopScale) +
      (if s.fibreNow = 0 then 0 else mean * (2 ^ 40 : Nat) / (s.fibreNow * 256 : Nat))
    let flags := if alarm then s.tb.gmFlags ||| 4 else s.tb.gmFlags &&& 0xFB
    let t := { s with tb := { s.tb with loopSum := 0, loopCount := 0, gmFlags := flags,
                                        loopProve := s.tb.loopProve || alarm } }
    (t.put Obj.loopScale (ofSigned 32 (saturate 32 scale))).putHopDelays

/-- A follower takes its offset (R115) and its lock follows (R118): 16 rows within ±2 ns lock it, 4 beyond ±20 ns unlock it. Every row
counts, on whichever path it comes (DESIGN CHOICE, log entry 125). -/
def State.takeOffset (s : State) (p : Path) (row : TimingRow) : State :=
  let c := row.content
  let offset : Int := (row.arrival : Int) - (timeAt c 4 + toSigned 48 (leAt c 13 6) + s.hopDelay p)
  let first := s.tb.lastSync == 0
  let good := if offset.natAbs ≤ 512 then s.tb.goodOffsets + 1 else 0
  let bad := if offset.natAbs > 5120 then s.tb.badOffsets + 1 else 0
  let locked := if 16 ≤ good then true else if 4 ≤ bad then false else s.tb.locked
  let t := s.put Obj.timeOffset (ofSigned 32 (saturate 32 offset))
  let t := { t with tb := { t.tb with goodOffsets := min good 16, badOffsets := min bad 4, locked := locked,
                                      lastSync := max 1 s.now, gmFlags := leAt c 2 1 } }
  let t := (t.put Obj.loopScale (leAt c 19 4)).put Obj.inboundPath (linkIdx p)
  -- LOOP_ALARM asks the coordinator for a proving run (R117)
  let t := if bit (leAt c 2 1) 2 ∧ !bit s.tb.gmFlags 2 then { t with tb := { t.tb with loopProve := true } } else t
  -- the first SYNC row after a start sets the counter where the offset exceeds 1 µs (R417, log entry 10)
  if first ∧ offset.natAbs > 256000 then t.jump (-(offset * (2 ^ 32 : Nat)))
  else t.trim 0 200000000

/-- A node that has told nothing of itself. -/
def noCandidate : Candidate := ⟨0, 0, false⟩

/-- The rank of the grandmaster that sent a SYNC row (R109): holdover or traceable by the row's flags; where neither is set what its
DELAY_REQ rows told, so that a fallback grandmaster with priority 0 stays no candidate, and a sender that told nothing counts as valid
with priority 1 (DESIGN CHOICE, log entry 127). -/
def State.rankSync (s : State) (c : List Byte) : State :=
  let known := sparseGet (fun _ => noCandidate) s.tb.candidates (leAt c 1 1)
  let unflagged := if known.told ∧ known.source ≠ 1 ∧ !bit (leAt c 2 1) 0 then known.source else 2
  let rank : Candidate := { priority := if known.told then known.priority else 1, told := known.told
                            source := if bit (leAt c 2 1) 1 then 1 else unflagged }
  { s with tb := { s.tb with candidates := sparsePut (fun _ => noCandidate) s.tb.candidates (leAt c 1 1) rank } }.selectGm

/-- A SYNC row (R115): the grandmaster removes its own; any other node takes its offset, if the row is the grandmaster's, and forwards the
row with its inbound hop delay and the residence time added to CORRECTION. -/
def syncRx (s : State) (p : Path) (row : TimingRow) (residence : Nat) : State :=
  let c := row.content
  if leAt c 1 1 = s.ownId ∧ s.ownId ≠ 0 then (if p = .a then s.loopReturn row else s)
  else
    let corr := toSigned 48 (leAt c 13 6) + s.hopDelay p + residence
    let t := s.rankSync c
    let t := if t.obj Obj.gmId = leAt c 1 1 then t.takeOffset p row else t
    t.emit (.timing (t.outPath p) (overlay c 13 (leBytes 6 (ofSigned 48 corr))))

/-- 100 ms without a SYNC row: a follower unlocks, and a partition without a grandmaster reselects one (R118). -/
def syncTimeout (s : State) : State :=
  if s.isGm then s
  else
    let t := s.waitUntil (s.tb.lastSync + 100 * ms)
    let gone := t.obj Obj.gmId
    { t with tb := { t.tb with locked := false, goodOffsets := 0, badOffsets := 0,
                               candidates := t.tb.candidates.filter (fun c => c.1 ≠ gone) } }.selectGm

/-- A DELAY_REQ on an out link whose reverse link is UP (R114), while both links of the segment are UP (R116). The exchange measures the
in link on which the answer comes. -/
def delayReqSend (s : State) (p : Path) : State :=
  let back := otherPath p
  if s.linkState back = lkUp ∧ s.outUp p then
    let h := s.hop back
    let seq := (h.reqSeq + 1) % 256
    let c := leBytes 1 0x02 ++ leBytes 1 s.ownId ++ leBytes 1 seq ++ timeBytes s.now256 ++
             leBytes 1 (s.obj Obj.gmPriority) ++ leBytes 1 s.ownSource ++ leBytes 10 0
    (s.setHop back { h with reqSeq := seq, t1 := some s.now256 }).emit (.timing p c)
  else s

/-- A DELAY_REQ is answered on the reverse link, and its sender's rank is taken (R109, R114). -/
def delayReqRx (s : State) (p : Path) (row : TimingRow) : State :=
  let c := row.content
  let cand : Candidate := { priority := leAt c 12 1, source := leAt c 13 1, told := true }
  let r := leBytes 1 0x03 ++ leBytes 1 s.ownId ++ leBytes 1 (leAt c 2 1) ++ timeBytes row.arrival ++ timeBytes s.now256 ++
           leBytes 3 0
  let t := s.emit (.timing (otherPath p) r)
  let cs := sparsePut (fun _ => noCandidate) t.tb.candidates (leAt c 1 1) cand
  { t with tb := { t.tb with candidates := cs } }.selectGm

/-- A DELAY_RESP completes an exchange while both links of the segment are UP; sixteen of them make one measurement (R116). -/
def delayRespRx (s : State) (p : Path) (row : TimingRow) : State :=
  let c := row.content
  let h := s.hop p
  match h.t1 with
  | some t1 =>
    if leAt c 2 1 ≠ h.reqSeq ∨ s.linkState p ≠ lkUp ∨ !s.outUp (otherPath p) then s else
    let d : Int := (((row.arrival : Int) - t1) - ((timeAt c 12 : Int) - timeAt c 3)) / 2 + Config.hopAsymmetry (s.laneItems p)
    let sum := h.sum + d
    if h.count + 1 < 16 then s.setHop p { h with t1 := none, sum := sum, count := h.count + 1 }
    else
      let t := s.setHop p { h with t1 := none, sum := 0, count := 0, delay := sum / 16, taken := max 1 s.now,
                                   proven := if p = .a then true else h.proven, measured := h.fast }
      t.putHopDelays
  | none => s

/-- The fast measurement in a wrap is complete, with its sixteen exchanges: the B-in delay is proven, and AGREED is set again (R116,
R119). -/
def fastMeasurementDone (s : State) : State :=
  if s.tb.hopB.fast ∧ s.tb.hopB.measured then s.setHop .b { s.tb.hopB with fast := false, measured := false, proven := true } else s

/-- The parameters of a PARAMS or PARAMS_NEXT row. -/
def paramsOf (c : List Byte) : EpochParams :=
  { epoch := leAt c 2 2, apply := leAt c 4 2, phase := leAt c 6 4 }

/-- A TIMING row of the grandmaster goes on round the ring; the grandmaster removes its own. -/
def State.forwardTiming (s : State) (p : Path) (row : TimingRow) : State :=
  if leAt row.content 1 1 = s.ownId ∧ s.ownId ≠ 0 then s else s.emit (.timing (s.outPath p) row.content)

/-- A PARAMS row: the node works to the ring's parameters from the next sample instant (R127). -/
def paramsRx (s : State) (p : Path) (row : TimingRow) : State :=
  let c := row.content
  let t := s.forwardTiming p row
  if leAt c 1 1 = s.ownId ∧ s.ownId ≠ 0 then t else
  let t := t.put Obj.utcOffset (leAt c 10 2)
  { t with tb := { t.tb with paramsSeen := true, paramsWaiting := some (paramsOf c), loopFibre := leAt c 12 4 } }

/-- A PARAMS_NEXT row announces new parameters and their CHANGE_AT (R127). -/
def paramsNextRx (s : State) (p : Path) (row : TimingRow) : State :=
  let t := s.forwardTiming p row
  if leAt row.content 1 1 = s.ownId ∧ s.ownId ≠ 0 then t
  else { t with tb := { t.tb with paramsNext := some (paramsOf row.content, leAt row.content 10 8) } }

/-- The ring parameters in use become `q`. -/
def State.useParams (s : State) (q : EpochParams) : State :=
  let t := (s.put Obj.ringEpoch q.epoch).put Obj.ringApply q.apply
  { t with tb := { t.tb with phase := q.phase }, lake := { t.lake with nextSample := 0 } }

/-- At CHANGE_AT the new parameters take effect; an old epoch whose apply instant falls at or after the first new apply
instant is not applied and is counted (R127). -/
def paramsChange (s : State) : State :=
  match s.tb.paramsNext with
  | none => s
  | some (q, changeAt) =>
    let t := (s.waitUntil changeAt).useParams q
    let firstApply := t.sampleFrom changeAt + q.apply * us
    let skipped := t.lake.inFlight.filter (fun e => firstApply ≤ e.2)
    let t := t.bumpBy Obj.skippedApplies skipped.length
    { t with tb := { t.tb with paramsNext := none, paramsWaiting := none },
             lake := { t.lake with inFlight := t.lake.inFlight.filter (fun e => e.2 < firstApply) } }

/-- The PARAMS_NEXT and STEP rows that the grandmaster repeats once per epoch (R114). -/
def State.sendAnnouncements (s : State) : State :=
  if !s.isGm then s else
  let t := match s.tb.paramsNext with
    | some (q, at') => s.sendTiming (leBytes 1 0x05 ++ leBytes 1 s.ownId ++ leBytes 2 q.epoch ++ leBytes 2 q.apply ++
        leBytes 4 q.phase ++ leBytes 8 at' ++ leBytes 6 0)
    | none => s
  match t.tb.step with
  | some (at', d) => t.sendTiming (leBytes 1 0x06 ++ leBytes 1 t.ownId ++ leBytes 8 at' ++ leBytes 8 (ofSigned 64 d) ++ leBytes 6 0)
  | none => t

/-- A STEP row announces a time step (R113). -/
def stepRx (s : State) (p : Path) (row : TimingRow) : State :=
  let t := s.forwardTiming p row
  if leAt row.content 1 1 = s.ownId ∧ s.ownId ≠ 0 then t
  else { t with tb := { t.tb with step := some (leAt row.content 2 8, toSigned 64 (leAt row.content 10 8)) } }

/-- At STEP_AT the counter steps; the step is logged with the old time, the entry's own TIME being the new one (R113). -/
def timeStep (s : State) : State :=
  match s.tb.step with
  | none => s
  | some (at', d) =>
    let t := s.waitUntil at'
    let old := t.now
    let t := { t with tb := { t.tb with step := none } }.jump (d * (2 ^ 40 : Nat))
    -- epoch numbers move with the step, and so do the epochs in flight
    let n := d / (s.epochNs : Int)
    let mv (k : Nat) : Nat := ((k : Int) + n).toNat
    let flight := t.lake.inFlight.map (fun e => (mv e.1, ((e.2 : Int) + d).toNat))
    let recv := t.lake.received.map (fun p => { p with epoch := mv p.epoch })
    let lake := { t.lake with nextSample := mv t.lake.nextSample, inFlight := flight, received := recv }
    let t := { t with lake := lake }
    t.logEvent 0x2100 0x01 0xFFFF 0 old

/-- A TIMING row of an unknown kind (R114). -/
def timingIgnored (s : State) (row : TimingRow) : State :=
  let k := leAt row.content 0 1
  if 1 ≤ k ∧ k ≤ 6 then s else s.bump Obj.timingIgnored

/-- The grandmaster sends PARAMS (R114). -/
def paramsSend (s : State) : State :=
  if s.isGm then
    s.sendTiming (leBytes 1 0x04 ++ leBytes 1 s.ownId ++ leBytes 2 (s.obj Obj.ringEpoch) ++ leBytes 2 (s.obj Obj.ringApply) ++
      leBytes 4 s.tb.phase ++ leBytes 2 (s.obj Obj.utcOffset) ++ leBytes 4 s.fibreNow ++ leBytes 8 0)
  else s

/-! ## Sources (R110 to R113) -/

/-- A valid source is lost: holdover, or at once none with a HOLDOVER_LIMIT of 0 (R110). -/
def State.sourceLost (s : State) : State :=
  let t := { s with tb := { s.tb with ptpGood := 0, irigGood := 0 } }
  if s.tb.source = 2 then t.holdSource.selectGm else t

/-- The source counts as valid from now on. -/
def State.sourceValid (s : State) : State := { s with tb := { s.tb with source := 2 } }.selectGm

/-- The grandmaster steers ring time by an offset of `d` ns towards its source (R113): beyond STEP_THRESHOLD a whole number of
epochs is stepped at a sample instant at least 4 epochs later, and what is left is slewed by a change of rate within SLEW_LIMIT. -/
def State.steer (s : State) (d : Int) : State :=
  let thr := s.obj Obj.stepThreshold * us
  let t := if thr ≠ 0 ∧ thr < d.natAbs then
      let n := roundHalfAway d s.epochNs
      if n = 0 then s else { s with tb := { s.tb with step := some (s.sampleFrom (s.now + 4 * s.epochNs), n * s.epochNs) } }
    else s
  t.trim (toSigned 32 (s.obj Obj.freqAdj)) (s.obj Obj.slewLimit * 1000)

/-- The grandmaster follows its source; in holdover it holds its last frequency (R110). -/
def State.followSource (s : State) (d : Int) : State := if s.isGm ∧ s.tb.source ≠ 1 then s.steer d else s

/-- The clock identity of this node's port: its MAC address as an EUI-64. -/
def State.clockIdentity (s : State) (port : Nat) : Nat :=
  let m := s.mac (Obj.macAddr (s.addressPort port))
  m / 2 ^ 24 * 2 ^ 40 + 0xFFFE * 2 ^ 24 + m % 2 ^ 24

/-- The data set of a master, in the order in which the best-master algorithm compares it (R111). -/
def PtpSync.dataSet (m : PtpSync) : List Nat := [m.priority1, m.clockClass, m.accuracy, m.variance, m.priority2, m.identity]

/-- Data set `a` is better than `b`: the first field that differs is the lower (R111). -/
def ranksFirst (a b : List Nat) : Bool :=
  (a.zip b).findSome? (fun x => if x.1 < x.2 then some true else if x.2 < x.1 then some false else none) == some true

/-- The master's data set is better than this port's own by the best-master algorithm (R111): priority 1, class, accuracy, variance,
priority 2 and identity, lower first. The node's own clock, of itself, has class 248. -/
def State.betterMaster (s : State) (port : Nat) (m : PtpSync) : Bool :=
  ranksFirst (PtpSync.dataSet m) [s.obj (Obj.priority1 port), 248, 0xFE, 0xFFFF, s.obj (Obj.priority2 port), s.clockIdentity port]

/-- Another master than the one that PTP_PORT follows, and no better one, is not followed (R111). -/
def State.otherMaster (s : State) (m : PtpSync) : Bool :=
  s.tb.ptpMaster ≠ [] && s.tb.ptpMaster.getLast? ≠ some m.identity && !ranksFirst (PtpSync.dataSet m) s.tb.ptpMaster

/-- The grandmaster's PTP port, from which it takes time: none with another TIME_SOURCE. -/
def State.takesFrom (s : State) (port : Nat) : Bool := s.obj Obj.timeSource == 1 && s.obj Obj.ptpPort == port

/-- A source that was PTP is lost once its port is not in SLAVE state (R110). -/
def State.checkPtp (s : State) : State :=
  if s.obj Obj.timeSource = 1 ∧ s.obj (Obj.portState (s.obj Obj.ptpPort)) ≠ ptpSlave then s.sourceLost else s

/-- PORT_STATE after a change of a port's role or link (R111, R140): disabled, initializing without a link, listening, or master. -/
def State.ptpPortChanged (s : State) (port : Nat) : State :=
  let st := if s.obj (Obj.ptpRole port) = 0 then ptpDisabled else if s.obj (Obj.linkState port) = 0 then ptpInitializing
            else if s.obj (Obj.ptpRole port) = 2 then ptpMaster else ptpListening
  ((s.put (Obj.portState port) st).put (Obj.peerDelay port) (if s.obj (Obj.linkState port) = 0 then 0 else s.obj (Obj.peerDelay port))).checkPtp

/-- No Sync of the master has come for 3 s, the profile's announce interval of 1 s and its time-out of 3 intervals: the port leaves SLAVE
state, and the source is lost (R110, R111; PRESUMED, log entry 166). -/
def State.ptpSilence (s : State) : State :=
  let port := s.obj Obj.ptpPort
  if s.obj Obj.timeSource = 1 ∧ s.obj (Obj.portState port) = ptpSlave ∧ s.tb.ptpAt + 3 * sec < s.now then
    ({ s.put (Obj.portState port) ptpListening with tb := { s.tb with ptpMaster := [] } } : State).checkPtp
  else s

/-- The master that PTP_PORT follows, and the UTC offset where it gives one. -/
def State.noteMaster (s : State) (m : PtpSync) : State :=
  let t := { s with tb := { s.tb with ptpMaster := PtpSync.dataSet m, ptpAt := s.now } }
  match m.utcOffset with
  | some u => t.put Obj.utcOffset (ofSigned 16 u)
  | none => t

/-- A Sync within ±100 ns: sixteen in a row make the source valid (R110). -/
def State.ptpAgrees (s : State) : State :=
  let n := min 16 (s.tb.ptpGood + 1)
  let t := { s with tb := { s.tb with ptpGood := n } }
  if 16 ≤ n then t.sourceValid else t

/-- A PTP Sync at a port (R110, R111). The port measures its link delay in its domain. Only the grandmaster's PTP_PORT, under the
best-master algorithm, follows a master, and only one better than itself and than the one it follows; its offset is taken between the arrival, corrected by the item of the
port, and the origin, both steps of a two-step Sync being in `m`. -/
def ptpSyncRx (s : State) (port : Nat) (m : PtpSync) : State :=
  if s.obj (Obj.ptpRole port) = 0 ∨ m.domain ≠ s.obj (Obj.ptpDomain port) ∨ s.ethDeaf port then s
  else
    let t := s.put (Obj.peerDelay port) (m.peerDelay % 2 ^ 32)
    if !t.takesFrom port ∨ t.obj (Obj.ptpRole port) ≠ 1 ∨ !t.isGm ∨ t.otherMaster m then t
    else if !t.betterMaster port m then (t.put (Obj.portState port) ptpMaster).checkPtp
    else
      let offset : Int := (m.arrival : Int) - roundHalfAway (t.corrected (0x420 + port) 0) 1000 - m.origin - m.peerDelay
      let t := ((t.noteMaster m).put (Obj.portState port) ptpSlave).put (Obj.masterOffset port) (ofSigned 32 (saturate 32 offset))
      (if offset.natAbs ≤ 100 then t.ptpAgrees else t.sourceLost).followSource (-offset)

/-- Days from 1970-01-01 to 1 January of a year. -/
def daysToYear (y : Nat) : Nat :=
  (y - 1970) * 365 + ((y - 1) / 4 - 1969 / 4) + (1969 / 100 - (y - 1) / 100) + ((y - 1) / 400 - 1969 / 400)

/-- The year of a time in ns since 1970. -/
def yearOf (t : Nat) : Nat :=
  let d := t / (86400 * sec)
  let y := 1970 + d / 366
  -- at most two years short within the range of TIME64
  if daysToYear (y + 2) ≤ d then y + 2 else if daysToYear (y + 1) ≤ d then y + 1 else y

/-- The UTC second that a frame labels, in s since 1970; forms 0 to 3 take the year from IRIG_YEAR or the RTC (R112). The two digits of a
frame are of 20xx (DESIGN CHOICE, log entry 174). -/
def State.irigSecond (s : State) (f : IrigFrame) : Nat :=
  let year := if 4 ≤ f.form then 2000 + f.year % 100
    else if s.obj Obj.irigYear ≠ 0 then s.obj Obj.irigYear else yearOf s.rtcNow
  (daysToYear year + f.day - 1) * 86400 + f.hour * 3600 + f.minute * 60 + f.second

/-- The time-quality code must read "locked" with IRIG_EXT (R112). -/
def State.irigUsable (s : State) (f : IrigFrame) : Bool := f.good && (s.obj Obj.irigExt == 0 || f.qualityLocked)

/-- One second agrees: an edge and the frame whose reference marker begins within ±500 µs of it (R112). -/
def State.secondAgrees (s : State) (edge label : Nat) : State :=
  let n := min 8 (s.tb.irigGood + 1)
  let t := { s with tb := { s.tb with irigGood := n, ppsEdge := none, irigMark := none } }
  let t := if 8 ≤ n then t.sourceValid else t
  t.followSource ((label : Int) - edge)

/-- The capture record of a PPS_IN edge at `edge` in 1/256 ns, in the layout of R122 with CELL 0x1FF; the first has EDGE_SEQ 1, as a cell's
has. -/
def State.capturePps (s : State) (edge : Nat) : State :=
  let seq := (s.tb.ppsSeq + 1) % 2 ^ 16
  let edge := edge / 64 * 64
  let n := edge / 256 + edge % 256 * 2 ^ 64 + 2 ^ 72 + ofBool (!s.agreed) * 2 ^ 74 + ofBool (!s.traceable) * 2 ^ 75 +
    0x1FF * 2 ^ 80 + seq * 2 ^ 96
  { s with tb := { s.tb with ppsRecord := leBytes 16 n, ppsSeq := seq } }

/-- A rising PPS_IN edge at `time` in 1/256 ns is captured (R122); with TIME_SOURCE 2 it marks its second (R112). An edge that found no frame
before the next edge breaks agreement (DESIGN CHOICE, log entry 128). -/
def ppsInEdge (s : State) (time : Nat) : State :=
  let t := s.waitUntil256 time
  let t := t.capturePps ((time : Int) - t.delay256 0x430).toNat
  if t.obj Obj.timeSource ≠ 2 then t else
  let t := if t.tb.ppsEdge.isSome then t.sourceLost else t
  let edge := ((time : Int) / 256 - t.corrected 0x430 0 / 1000).toNat
  match t.tb.irigMark with
  | some (mark, label) =>
    if (mark : Int) - edge ≤ 500 * us ∧ (edge : Int) - mark ≤ 500 * us then t.secondAgrees edge label
    else { t.sourceLost with tb := { t.sourceLost.tb with ppsEdge := some edge, irigMark := none } }
  | none => { t with tb := { t.tb with ppsEdge := some edge } }

/-- An IRIG-B frame (R112): it labels the second of the edge within ±500 µs of its reference marker. -/
def irigFrame (s : State) (f : IrigFrame) : State :=
  if s.obj Obj.timeSource ≠ 2 then s else
  let t := s.waitUntil f.mark
  let t := if t.obj Obj.irigExt = 1 then { t with tb := { t.tb with leapWarning := f.leapWarning } } else t
  if !t.irigUsable f then { t.sourceLost with tb := { t.sourceLost.tb with irigMark := none, ppsEdge := none } } else
  let t := t.put Obj.utcOffset (if t.obj Obj.irigExt = 1 then ofSigned 16 f.utcOffset else t.obj Obj.utcOffsetCfg)
  let label := (((t.irigSecond f : Int) + toSigned 16 (t.obj Obj.utcOffset)) * sec).toNat
  let t := if t.tb.irigMark.isSome then t.sourceLost else t
  match t.tb.ppsEdge with
  | some edge =>
    if (f.mark : Int) - edge ≤ 500 * us ∧ (edge : Int) - f.mark ≤ 500 * us then t.secondAgrees edge label
    else { t.sourceLost with tb := { t.sourceLost.tb with ppsEdge := none, irigMark := some (f.mark, label) } }
  | none => { t with tb := { t.tb with irigMark := some (f.mark, label) } }

/-- HOLDOVER_LIMIT seconds after the loss holdover ends (R110). -/
def holdoverExpiry (s : State) : State :=
  if s.tb.source = 1 then
    let t := s.waitUntil (s.tb.holdoverFrom + s.obj Obj.holdoverLimit * sec)
    { t with tb := { t.tb with source := 0 } }.selectGm
  else s

/-- A whole second of the counter: PPS_OUT rises for PPS_WIDTH µs as PPS_MODE allows, placed in steps of 250 ps and
corrected by item 0x431 (R121). -/
def ppsOutSecond (s : State) : State :=
  let second := ceilDiv s.now sec * sec
  let t := s.waitUntil second
  if t.obj Obj.ppsMode = 1 ∨ (t.obj Obj.ppsMode = 2 ∧ t.traceable) then
    let edge := (((second * 1000 : Nat) : Int) - roundHalfAway (t.corrected 0x431 0) 250 * 250) / 250
    { t with tb := { t.tb with ppsOutUntil := second + t.obj Obj.ppsWidth * us } }.emit (.ppsOut edge.toNat)
  else t

/-- While TRACEABLE is set the node writes its time to the real-time clock once per second (R108). -/
def rtcWrite (s : State) : State :=
  if s.traceable then { s with tb := { s.tb with rtcTime := s.now, rtcValid := true, rtcMark := s.now } } else s

/-- A port that is a master port of the boundary clock sends its PTP messages, an Announce, a one-step Sync whose time is that at its balls,
and a request of the peer delay (R111): clockClass 6 while traceable, 7 in holdover, 248 otherwise. A disabled port sends none, nor does the port from which the
grandmaster takes time while it is in SLAVE state. -/
def ptpMasterPortSend (s : State) (port : Nat) : State :=
  if s.obj (Obj.ptpRole port) = 0 ∨ s.ethDark port ∨ (s.isGm ∧ s.takesFrom port ∧ s.obj (Obj.portState port) = ptpSlave) then s
  else
    let hold := if s.isGm then s.ownSource == 1 else s.tb.gmFlags.testBit 1
    let cc := if s.traceable then 6 else if hold then 7 else 248
    let time := ((s.now : Int) + roundHalfAway (s.corrected (0x420 + port) 0) 1000).toNat
    let send (t : State) (msg : Nat) : State :=
      t.emit (.ptp port msg (s.obj (Obj.ptpDomain port)) (s.obj (Obj.priority1 port)) cc (s.obj (Obj.priority2 port)) s.tb.leapWarning time)
    (send (send (send (s.put (Obj.portState port) ptpMaster) ptpAnnounce) ptpSync) ptpPdelayReq).checkPtp

end Sys2Proof.Machine
end

