-- ==== Sys2Proof/Machine/Windows.lean ====
section
/-! DEFINITION. What a source may send (R182): sequence numbers, the windows of a session, room for copies, and the port that a command
which must wait holds back. -/
namespace Sys2Proof.Machine

/-! ## Sequence numbers (R182) -/

/-- `a − b` modulo 2^32. -/
def seqSub (a b : Nat) : Nat := (a + 2 ^ 32 - b % 2 ^ 32) % 2 ^ 32

def seqNext (a : Nat) : Nat := (a + 1) % 2 ^ 32
def seqPrev (a : Nat) : Nat := (a + 2 ^ 32 - 1) % 2 ^ 32

/-- `a` is newer than `b` under modulo-2^32 comparison. -/
def seqNewer (a b : Nat) : Bool := a ≠ b && seqSub a b < 2 ^ 31

/-! ## Entries and devices in use (R181, R186) -/

/-- Entries in use: outgoing ones that are open, and incoming ones. -/
def State.outInUse (s : State) : Nat := (s.acc.sessions.filter (fun e => e.role == 1 && e.state ≠ 0)).length
def State.inInUse (s : State) : Nat := (s.acc.sessions.filter (fun e => e.role == 2)).length

/-- The lowest hardware entry that no session uses (R181). -/
def State.freeSlot (s : State) : Nat :=
  ((List.range 512).find? (fun k => !s.acc.sessions.any (fun e => e.state ≠ 0 && e.slot == k))).getD 0

def State.mram (s : State) (d : Nat) : MramDevice := if d = 0 then s.acc.mram0 else s.acc.mram1

/-- The devices in service. -/
def State.mramsUp (s : State) : List Nat := [0, 1].filter (fun d => (s.mram d).inService)

/-! ## Windows and copies (R182) -/

def sumOf (l : List Nat) : Nat := l.foldl (· + ·) 0

/-- The switch port of the block that issued a command (R143). -/
def issuerPort : Issuer → Nat
  | .window _ => portHost
  | .posted _ => portHost
  | .object _ _ => portMp
  | .engine _ => portEngines
  | .sme _ => portSme
  | .tracker _ => portAccept

/-- Room for one more copy (R182): with no DRAM the copies share a 2 MiB area on the chip. -/
def State.copyRoom (s : State) (f : Frame) : Bool :=
  s.obj Obj.dramSize ≠ 0 ||
  sumOf (s.acc.sessions.map (fun e => sumOf (e.copies.map (·.frame.payload.length)))) + f.payload.length ≤ 2 ^ 21

/-- The session's WINDOW. -/
def State.window (s : State) (cls2 : Bool) : Nat := if cls2 then s.obj Obj.windowC2 else s.obj Obj.windowC0

/-- A command waits to be sent from a session: an outgoing entry for it can be opened, both window conditions allow it, and its copy has
room (R181, R182). -/
def State.canSend (s : State) (e : Session) (f : Frame) : Bool :=
  (if e.state = 0 then decide (s.outInUse + s.inInUse < 512) && s.mramsUp ≠ []
   else seqSub e.next e.acked ≤ s.window e.cls2 && seqSub e.next e.exec ≤ 256) && s.copyRoom f

/-- A command of the port and class that cannot be sent waits, and holds the port back (R151, R182). -/
def State.portWaits (s : State) (port cls : Nat) : Bool :=
  s.acc.sessions.any (fun e => e.role == 1 && match e.waiting with
    | w :: _ => issuerPort w.2.2 == port && w.2.1.cls == cls && !s.canSend e w.2.1
    | [] => false)

/-- A frame of this node's own outside sessions stands behind such a command. -/
def State.standsBehind (s : State) (o : Offered) : Bool :=
  match o.packet with
  | .ring f => f.src == s.ownId && f.session == 0 && s.portWaits o.port o.cls
  | .eth _ => false

/-- A command issued before this one by its port in its class waits in another session (R151, R182). -/
def State.issuedBefore (s : State) (no : Nat) (f : Frame) (i : Issuer) : Bool :=
  s.acc.sessions.any (fun e => e.role == 1 && e.waiting.any (fun w =>
    decide (w.1 < no) && issuerPort w.2.2 == issuerPort i && w.2.1.cls == f.cls))

end Sys2Proof.Machine
end

