-- ==== Sys2Proof/Machine/Switch.lean ====
section
/-! DEFINITION. The switch core (file 05): admission, arbitration, the ring ports' frame rules (R71), the flow table, mirror and
sampling, and the station Ethernet ports. -/
namespace Sys2Proof.Machine

/-! ## Sizes and accounts -/

/-- *L* of R149. -/
def packetLength : Packet → Nat
  | .ring f => f.payload.length
  | .eth f => f.length

/-- Cells of a stored frame (R149). -/
def packetCells (p : Packet) : Nat := ceilDiv (packetLength p + 64) 256

/-- Bytes of a frame, for the byte counters: header and payload of a ring frame, destination address to FCS of an Ethernet frame. -/
def packetBytes : Packet → Nat
  | .ring f => 32 + f.payload.length
  | .eth f => f.length

/-- Frame size for arbitration (R157): bytes on the wire at ring outputs, stored bytes at others. Stored bytes are those that R149 puts into
cells, L + 64, and an Ethernet output counts them too (DESIGN CHOICE, log entry 168). -/
def packetSize (out : Nat) : Packet → Nat
  | .ring f => if out ≤ 1 then wireBytes f else f.payload.length + 64
  | .eth f => f.length + 64

/-- The stored frames, of the two offers of one frame the first alone (R149). -/
def onceEach : List Stored → List Stored
  | [] => []
  | q :: r => q :: (onceEach r).filter (fun x => x.offered.mate.isNone || x.offered.mate ≠ q.offered.mate)

/-- Cells in use of an input and class (R150). Copies for the tap are held under input 15. -/
def State.inUsedNow (s : State) (p c : Nat) : Nat :=
  sumOf (((onceEach s.sw.stored).filter (fun q => q.offered.port == p && q.offered.cls == c)).map (·.cells))

/-- Cells in use of an output and class, to the end of the last frame sent (R150). -/
def State.outUsedNow (s : State) (p c : Nat) : Nat :=
  sumOf ((s.sw.stored.filter (fun q => (q.outs.contains p || q.busy.contains p) && q.offered.cls == c)).map (·.cells))

/-- Cells that hold mirror copies (R163). -/
def State.mirrorCells (s : State) : Nat := sumOf ((s.sw.stored.filter (fun q => q.offered.port == 15)).map (·.cells))

/-- Cells that hold samples (R165): those made at this instant. The MP takes a sample out of its cells by the next nanosecond of the counter
(DESIGN CHOICE, log entry 167). -/
def State.sampleCells (s : State) : Nat := sumOf ((s.sw.sampled.filter (fun e => e.1 == s.now)).map (·.2))

/-- Cells on the free list. -/
def State.cellsFreeNow (s : State) : Nat :=
  98304 - s.obj Obj.cellsRetired - sumOf ((onceEach s.sw.stored).map (·.cells)) - s.sampleCells

/-- LIMIT_SUM of R153. -/
def State.limitSumNow (s : State) : Nat :=
  sumOf ((List.range 16).map (fun p => sumOf ((List.range 4).map (fun c => s.obj (Obj.inLimit p c))))) +
  s.obj Obj.mirrorLimit + s.obj Obj.sampleLimit

/-- The group of a port (R143). -/
def groupOf : Nat → Nat
  | 0 | 1 => 0
  | 2 | 3 | 4 | 5 => 1
  | 6 | 11 => 2
  | 7 | 8 | 9 | 10 => 3
  | _ => 4

/-- Whether a port may input a class (R143). -/
def portInputs (p c : Nat) : Bool :=
  if p ≤ 1 then c ≤ 3
  else if p ≤ 12 then c == 0 || c == 2 || c == 3
  else if p = 13 then c == 1
  else if p = 14 then c == 2 || c == 3
  else false

/-- Whether a port has back-pressure (R143). -/
def backPressure (p : Nat) : Bool := 6 ≤ p && p ≤ 14

/-! ## Frames held in cells (R149) -/

/-- The switch takes a frame in, to be sent on `outs`, or already starting on `busy`, with `cells` of the buffer. -/
def State.storeFrame (s : State) (o : Offered) (outs busy : List Nat) (cells : Nat) : State :=
  let q : Stored := { no := s.sw.storedCount, offered := o, outs := outs, busy := busy, cells := cells, stored := s.now, startedAt := s.now }
  { s with sw := { s.sw with storedCount := s.sw.storedCount + 1, stored := s.sw.stored ++ [q] } }

/-- A change of one stored frame; its cells return once nothing of it is left to send (R149). -/
def State.mapStored (s : State) (no : Nat) (f : Stored → Stored) : State :=
  { s with sw := { s.sw with stored :=
      (s.sw.stored.map (fun q => if q.no = no then f q else q)).filter (fun q => q.outs ≠ [] || q.busy ≠ []) } }

/-- The frame being sent, and the one suspended, on an output. -/
def State.frameAt (s : State) (l : List (Nat × Nat)) (out : Nat) : Option Stored :=
  match l.find? (fun e => e.1 == out) with
  | some (_, no) => s.sw.stored.find? (fun q => q.no == no)
  | none => none
def State.sendingOn (s : State) (out : Nat) : Option Stored := s.frameAt s.sw.sending out
def State.suspendedOn (s : State) (out : Nat) : Option Stored := s.frameAt s.sw.suspended out

/-- The frame on an output has been sent to its end. -/
def State.finish (s : State) (out : Nat) : State :=
  match s.sendingOn out with
  | some q =>
    let t := s.mapStored q.no (fun q => { q with busy := q.busy.filter (· ≠ out) })
    { t with sw := { t.sw with sending := t.sw.sending.filter (fun e => e.1 ≠ out) } }
  | none => { s with sw := { s.sw with sending := s.sw.sending.filter (fun e => e.1 ≠ out) } }

/-! ## Mirror and sampling (R163 to R165) -/

/-- The six bytes of an HSR tag or PRP trailer (IEC 62439-3): sequence count, path or LAN, and the size of the data they go with. -/
def redBytes (hsr : Bool) (seq lan size : Nat) : List Byte :=
  if hsr then beBytes 2 0x892F ++ beBytes 2 (lan * 2 ^ 12 + size % 2 ^ 12) ++ beBytes 2 seq
  else beBytes 2 seq ++ beBytes 2 (lan * 2 ^ 12 + size % 2 ^ 12) ++ beBytes 2 0x88FB

/-- The bytes of a frame that a tap copy or sample carries: header row and payload, or from the destination address up to the
FCS, any HSR tag or PRP trailer among them. -/
def packetContent (hsr : Bool) : Packet → List Byte
  | .ring f => headerBytes f ++ f.payload
  | .eth f =>
      let tag := match f.red with | some (seq, lan) => redBytes hsr seq lan (f.payload.length + 6) | none => []
      beBytes 6 f.dst ++ beBytes 6 f.src ++
      (match f.vlan with | some (pcp, vid) => beBytes 2 0x8100 ++ beBytes 2 (pcp * 2 ^ 13 + vid) | none => []) ++
      (if hsr then tag else []) ++ beBytes 2 f.etherType ++ f.payload ++ (if hsr then [] else tag)

/-- Redundancy mode of an Ethernet switch port (R167, R168); 0 for the others. -/
def State.redOf (s : State) (p : Nat) : Nat := if 2 ≤ p ∧ p ≤ 5 then s.obj (Obj.redMode ((p - 2) / 2)) else 0

/-- Bytes 14 to 29 of a tap frame (R164). -/
def tapHeader (s : State) (port : Nat) (atExit trunc : Bool) (o : Offered) : List Byte :=
  leBytes 1 0x01 ++ leBytes 1 (port * 16 + ofBool atExit * 8 + ofBool trunc * 4 + o.cls) ++ leBytes 2 (packetBytes o.packet) ++
  leBytes 8 o.entered ++ leBytes 4 s.sw.tapSeq

/-- A copy for the analysis tap, if TAP_DEST names a port: dropped and counted when the mirror cells are full (R163). TAP_SEQ is the count of
copies before it, 0 in the first (DESIGN CHOICE, log entry 171). -/
def State.mirrorCopy (s : State) (port : Nat) (atExit : Bool) (o : Offered) : State :=
  if s.obj Obj.tapDest = 0 then s else
  let content := packetContent (s.redOf port == 2) o.packet
  let tapPort := s.obj Obj.tapDest - 1
  let body := tapHeader s port atExit (1484 < content.length) o ++ content.take 1484
  let f : EthFrame := { dst := s.mac Obj.tapMac, src := s.mac (Obj.macAddr (s.addressPort tapPort)), etherType := 0x88B5,
                        payload := padTo (max 46 body.length) body, length := max 64 (14 + body.length + 4) }
  let t := { s with sw := { s.sw with tapSeq := (s.sw.tapSeq + 1) % 2 ^ 32 } }
  let cells := packetCells (.eth f)
  if t.obj Obj.mirrorLimit < t.mirrorCells + cells then t.bump Obj.mirrorDrops
  else t.storeFrame { port := 15, cls := o.cls, packet := .eth f } [15] [] cells

/-- A frame counts towards sampling at its port; one in SAMPLE_RATIO is sampled, or skipped while frozen or without cells (R165). -/
def State.sample (s : State) (o : Offered) : State :=
  let n := s.obj Obj.sampleRatio
  if n = 0 then s else
  let c := sparseGet (fun _ => 0) s.sw.sampleCount o.port + 1
  if c < n then { s with sw := { s.sw with sampleCount := sparsePut (fun _ => 0) s.sw.sampleCount o.port c } }
  else
    let t := { s with sw := { s.sw with sampleCount := sparsePut (fun _ => 0) s.sw.sampleCount o.port 0 } }
    let len := t.obj Obj.sampleBytes
    let cells := ceilDiv (len + 64) 256
    if t.obj Obj.sampleFreeze = 1 ∨ t.obj Obj.sampleLimit < t.sampleCells + cells then t.bump Obj.samplesSkipped
    else
      let content := packetContent (t.redOf o.port == 2) o.packet
      let rec' := tapHeader t o.port false (len < content.length) o ++ padTo len content
      { t.bump Obj.samplesTaken with sw := { t.sw with samples := lastN 1024 (t.sw.samples ++ [rec'])
                                                       sampled := t.sw.sampled.filter (fun e => e.1 == t.now) ++ [(t.now, cells)] } }

/-- The copies made as a frame enters at a port: one between the ingress rules (R163), and the sample. -/
def State.entryCopies (s : State) (o : Offered) : State :=
  let t := if (s.obj Obj.mirrorIn).testBit o.port ∨ o.mirror then s.mirrorCopy o.port false o else s
  if (t.obj Obj.samplePorts).testBit o.port ∨ o.sample then t.sample o else t

/-- A frame enters at a port, its first flow entry `m`: the entry's counter and the copies (R160, R162 step 5, R163, R165). -/
def State.noteEntry (s : State) (m : Option Nat) (o : Offered) : State :=
  (s.countFlow m).entryCopies { o with mirror := m.any (fun n => bit n 28), sample := m.any (fun n => bit n 27) }

/-! ## Routes inside the switch -/

/-- The ring output on which this node's own frames leave: A-out, or B-out at the upstream wrap node (R85). -/
def State.ownOut (s : State) : Nat := if s.turnsA then 1 else 0

/-- Outputs of an offered frame: those the block chose, or the route of a ring frame of this node's own. -/
def State.route (s : State) (o : Offered) : List Nat :=
  if o.outs ≠ [] then o.outs
  else match o.packet with
    | .ring f =>
      if s.ownId = 0 then []
      else if f.dst = s.ownId then [consumerPort f]
      else if f.dst = 0xFF ∨ s.reaches f.dst then [s.ownOut] else []
    | .eth _ => []

/-- The other port of an Ethernet port's pair (R167), as switch port numbers 2 to 5. -/
def pairPort (p : Nat) : Nat := if p % 2 = 0 then p + 1 else p - 1

/-- A frame of an HSR pair that goes on round its ring with the tag it has (R168). -/
def isForwarded (o : Offered) : Bool := match o.packet with | .eth f => f.red.isSome | .ring _ => false

/-- The redundant pairs that a frame for the given outputs is sent on: every frame on both ports of such a pair (R167, R168). -/
def State.pairsOf (s : State) (o : Offered) (outs : List Nat) : List Nat :=
  if isForwarded o then [] else [0, 1].filter (fun q => s.obj (Obj.redMode q) ≠ 0 && (outs.contains (2 + 2 * q) || outs.contains (3 + 2 * q)))

/-- The outputs, with both ports of those pairs. -/
def withPairs (pairs outs : List Nat) : List Nat :=
  outs ++ (pairs.flatMap (fun q => [2 + 2 * q, 3 + 2 * q])).filter (fun p => !outs.contains p)

/-- A frame takes the next sequence count of each pair it is sent on (R167, R168). -/
def State.takeSeqs (s : State) (o : Offered) (pairs : List Nat) : State × Offered :=
  pairs.foldl (fun (x : State × Offered) q =>
    let seq := sparseGet (fun _ => 0) x.1.sw.redSeq q
    ({ x.1 with sw := { x.1.sw with redSeq := sparsePut (fun _ => 0) x.1.sw.redSeq q ((seq + 1) % 2 ^ 16) } },
     { x.2 with seqs := x.2.seqs ++ [(q, seq)] })) (s, o)

/-- Whether an Ethernet output takes no frame now: its mode is off, its link is down, or it carries tap copies only (R154, R163, R166). -/
def State.ethDown (s : State) (p : Nat) : Bool :=
  2 ≤ p && p ≤ 5 && s.ethDark (p - 2)

/-- Whether an output takes no frame of a class: it is down, or its limit is 0 (R153). -/
def State.shutOut (s : State) (p cls : Nat) : Bool := s.ethDown p || s.obj (Obj.outLimit p cls) == 0

/-- Whether the neighbour takes frames on a ring output (R75, R85), and its transmitter has no fault (R83); the other outputs always
send. -/
def State.outReady (s : State) : Nat → Bool
  | 0 => s.outUp .a && !s.ring.outFault
  | 1 => s.outUp .b
  | _ => true

/-- Payload rows of a frame on a ring output that have gone, the one that is going now among them: a row of 32 bytes takes 2.56 ns, the
header row comes first and is never split from the first payload row (R64, R67). -/
def State.rowsGone (s : State) (q : Stored) : Nat :=
  let rows := (s.now - q.startedAt) * 100 / 256
  if q.rowsSent = 0 then max 1 rows else q.rowsSent + 1 + rows

/-- A frame that a class-0 frame may suspend: of class 1 to 3, with payload rows left after the current one, on a ring output with none
suspended (R67). -/
def State.suspendable (s : State) (out : Nat) : Bool :=
  out ≤ 1 && (s.suspendedOn out).isNone &&
  (s.sendingOn out).any (fun q => 1 ≤ q.offered.cls && s.rowsGone q < ceilDiv (packetLength q.offered.packet) 32)

/-- Whether an output is idle for cut-through (R147). -/
def State.outputIdle (s : State) (p cls : Nat) : Bool :=
  s.outReady p && !(s.sw.stored.any (fun q => q.outs.contains p)) && (s.suspendedOn p).isNone &&
  ((s.sendingOn p).isNone || (cls == 0 && s.suspendable p))

/-- Whether a frame can cut through: ring transit, or one Ethernet port to another no faster one, with one output (R147). -/
def State.cutsThrough (s : State) (o : Offered) (outs : List Nat) : Bool :=
  match outs with
  | [p] =>
    !o.part && s.outputIdle p o.cls &&
    ((o.port ≤ 1 && p ≤ 1) ||
     (2 ≤ o.port && o.port ≤ 5 && 2 ≤ p && p ≤ 5 && s.obj (Obj.speed (p - 2)) ≤ s.obj (Obj.speed (o.port - 2))))
  | _ => false

/-- A ring frame as it leaves on a ring output: PATH, and WRAPPED at the upstream wrap node (R85). -/
def State.onWire (s : State) (p : Nat) (f : Frame) : Frame :=
  { f with path := if p = 0 then .a else .b, wrapped := f.wrapped || (p == 1 && s.turnsA) }

/-- An Ethernet frame as it leaves on a port: with the pair's sequence count and the LAN of the port, in 6 octets more, if it is sent on a
redundant pair. -/
def ethOnWire (p : Nat) (o : Offered) (f : EthFrame) : EthFrame :=
  match o.seqs.find? (fun e => e.1 == (p - 2) / 2) with
  | some (_, seq) => { f with red := some (seq, if p % 2 = 0 then 0xA else 0xB), length := f.length + 6 }
  | none => { f with length := max 64 f.length }

/-- A frame starts to leave the switch at an output: the counters, and what happens there. -/
def State.leave (s : State) (p : Nat) (o : Offered) : State :=
  let out : Packet := match o.packet with | .eth f => .eth (if 2 ≤ p ∧ p ≤ 5 then ethOnWire p o f else f) | .ring f => .ring f
  let t := (s.bump (Obj.framesOut p o.cls)).bump64 (Obj.bytesOut p) (packetBytes out)
  let t := if (t.obj Obj.mirrorOut).testBit p ∧ p ≠ 15 then t.mirrorCopy p true { o with packet := out } else t
  match p, o.packet with
  | 0, .ring f =>
    let t := t.emit (.ringFrame .a (s.onWire 0 f))
    if o.cls = 0 then t.c0Sent .a f else t
  | 1, .ring f =>
    let t := (t.emit (.ringFrame .b (s.onWire 1 f))).noteGap
    if o.cls = 0 then t.c0Sent .b f else t
  | 15, .eth f =>
    let port := t.obj Obj.tapDest - 1
    ((t.bump Obj.tapCopies).bump (Obj.ethTxFrames port)).emit (.ethFrame port f)
  | _, .eth f =>
    if 2 ≤ p ∧ p ≤ 5 then (t.bump (Obj.ethTxFrames (p - 2))).emit (.ethFrame (p - 2) (ethOnWire p o f))
    else { t with sw := { t.sw with inbox := t.sw.inbox ++ [(p, o.packet)] } }
  | _, .ring _ => { t with sw := { t.sw with inbox := t.sw.inbox ++ [(p, o.packet)] } }

/-- The path of a ring output. -/
def outPathOf (out : Nat) : Path := if out = 0 then .a else .b

/-- The ring frame on an output ends with STOMP in its trailer (R71 rule 7, R148). -/
def State.stomp (s : State) (out : Nat) (o : Offered) : State :=
  match o.packet with
  | .ring f => s.emit (.stomped (outPathOf out) (s.onWire out f))
  | .eth _ => s

/-- The frame being sent on a ring output is suspended (R67). One that was cutting through needs cells of its input for its remaining rows:
without room it ends with STOMP and counts under IN_DROPS (R148). -/
def State.suspend (s : State) (out : Nat) : State :=
  match s.sendingOn out with
  | none => s
  | some q =>
    let cells := if q.cells = 0 then packetCells q.offered.packet else 0
    if cells ≠ 0 ∧ (s.obj (Obj.inLimit q.offered.port q.offered.cls) < s.inUsedNow q.offered.port q.offered.cls + cells ∨
        s.cellsFreeNow < cells) then
      ((s.stomp out q.offered).bump (Obj.inDrops q.offered.port q.offered.cls)).finish out
    else
      let t := s.mapStored q.no (fun q => { q with cells := q.cells + cells, rowsSent := s.rowsGone q })
      let t := { t with sw := { t.sw with sending := t.sw.sending.filter (fun e => e.1 ≠ out),
                                          suspended := t.sw.suspended ++ [(out, q.no)] } }
      t.emit (.suspend (outPathOf out))

/-- RESUME, and the rest of the suspended frame (R67). -/
def State.resume (s : State) (out : Nat) : State :=
  match s.suspendedOn out with
  | none => s
  | some q =>
    let t := s.mapStored q.no (fun q => { q with startedAt := s.now })
    let t := { t with sw := { t.sw with suspended := t.sw.suspended.filter (fun e => e.1 ≠ out),
                                        sending := t.sw.sending ++ [(out, q.no)] } }
    t.emit (.resume (outPathOf out))

/-- The ring input whose frames are transit at a ring output in the present ring state (R158). -/
def State.transitInput (s : State) (out : Nat) : Option Nat :=
  if 1 < out then none
  else if s.turnsB ∧ out = 0 then some 1
  else if s.turnsA ∧ out = 1 then some 0
  else some out

/-- A class-1 frame has gone on a ring output: whether it was a transit frame (R158). -/
def State.noteTransit (s : State) (out : Nat) (o : Offered) : State :=
  if out ≤ 1 ∧ o.cls = 1 then
    { s with sw := { s.sw with lastTransit := sparsePut (fun _ => true) s.sw.lastTransit out (decide (some o.port = s.transitInput out)) } }
  else s

/-! ## Admission (R150 to R154) -/

/-- A frame whose words an engine's transmit FIFO holds has gone into the switch, or is dropped (R271). -/
def State.noteAdmitted (s : State) (o : Offered) (admitted : Bool := true) : State :=
  match o.engine with
  | some n => { s with sw := { s.sw with admitted := s.sw.admitted ++ [(n, o.message, admitted)] } }
  | none => s

/-- A frame is held in its block (R151). -/
def State.holdBack (s : State) (o : Offered) : State :=
  { s with sw := { s.sw with held := s.sw.held ++ [{ offered := o, since := s.now }] } }

/-- A frame enters: the counters of its input, once for the two offers of one frame (R149, R174). -/
def State.countIn (s : State) (o : Offered) : State :=
  if o.mate.isSome ∧ s.sw.mateIn = o.mate then s.noteAdmitted o
  else
    let t := ((s.noteAdmitted o).bump (Obj.framesIn o.port o.cls)).bump64 (Obj.bytesIn o.port) (packetBytes o.packet)
    if o.mate.isSome then { t with sw := { t.sw with mateIn := o.mate } } else t

/-- What the switch does with a frame that a port offers. -/
inductive Admission where
  /-- the input takes no frame of the class, has no room, or the frame has no output: counted under IN_DROPS where so -/
  | drop (counted : Bool)
  /-- it starts on this output while it arrives -/
  | cut (out : Nat)
  /-- it is stored for these outputs; its copies for the full ones are discarded (R150) -/
  | store (room full : List Nat)
  /-- its block holds it -/
  | hold
  deriving DecidableEq, Repr

/-- The outputs of a frame, with both ports of a redundant pair, and those of them that take no frame of the class now. -/
def State.outsOf (s : State) (o : Offered) : List Nat := withPairs (s.pairsOf o (s.route o)) (s.route o)
def State.openOuts (s : State) (o : Offered) : List Nat := (s.outsOf o).filter (fun p => !s.shutOut p o.cls)

/-- The decision on a frame (R143, R147, R150, R151, R153), whose "only one output" of R147 counts the outputs that take it, not those that
are shut (DESIGN CHOICE, log entry 173); `behind` says that an earlier one of its block and class is
held. -/
def State.admission (s : State) (o : Offered) (behind : Bool) : Admission :=
  let outs := s.openOuts o
  let cells := packetCells o.packet
  let charged : Bool := o.mate.isSome && s.sw.stored.any (fun q => q.offered.mate == o.mate)
  let inFull : Bool := !charged && (s.obj (Obj.inLimit o.port o.cls) < s.inUsedNow o.port o.cls + cells || s.cellsFreeNow < cells)
  let room := outs.filter (fun p => s.outUsedNow p o.cls + cells ≤ s.obj (Obj.outLimit p o.cls))
  let full := outs.filter (fun p => !(s.outUsedNow p o.cls + cells ≤ s.obj (Obj.outLimit p o.cls)))
  if !portInputs o.port o.cls ∨ s.obj (Obj.inLimit o.port o.cls) = 0 then .drop true
  else if outs = [] then .drop false
  else if s.cutsThrough o outs then .cut (outs.headD 0)
  else if o.unreserved then .hold
  else if backPressure o.port ∧ (behind ∨ inFull ∨ room = [] ∨ s.standsBehind o) then .hold
  else if inFull then .drop true
  else .store room full

/-- A frame that is not held enters, or is discarded: copies for outputs that take none are counted under OUT_DROPS. -/
def State.take (s : State) (o : Offered) (a : Admission) : State :=
  let outs := s.outsOf o
  let o := if 6 ≤ o.port then { o with entered := s.now } else o
  let s := if 6 ≤ o.port then s.entryCopies o else s
  let shut := outs.filter (fun p => s.shutOut p o.cls)
  let drops (l : List Nat) (t : State) : State := forEach l (fun t p => t.bump (Obj.outDrops p o.cls)) t
  match a with
  | .drop counted => if counted then (s.noteAdmitted o false).bump (Obj.inDrops o.port o.cls) else drops shut (s.noteAdmitted o false)
  | .cut p =>
    let (t, o) := (drops shut s).takeSeqs o (s.pairsOf o outs)
    let t := (t.countIn o).bump (Obj.cutThrough p)
    let t := if (t.sendingOn p).isSome then t.suspend p else t
    let no := t.sw.storedCount
    let t := (t.storeFrame o [] [p] 0).leave p o
    ({ t with sw := { t.sw with sending := t.sw.sending ++ [(p, no)] } } : State).noteTransit p o
  | .store room full =>
    let (t, o) := (drops (shut ++ full) s).takeSeqs o (if room = [] then [] else s.pairsOf o outs)
    if room = [] then t.noteAdmitted o false else (t.countIn o).storeFrame o room [] (packetCells o.packet)
  | .hold => s

/-- Admission of one frame (R143, R147, R150, R151). -/
def State.admitFrame (s : State) (o : Offered) : State :=
  let a := s.admission o (s.sw.held.any (fun h => h.offered.port == o.port && h.offered.cls == o.cls))
  if a = .hold then s.holdBack o else s.take o a

/-- The next frame that a block has handed over enters the switch. -/
def switchAdmit (s : State) : State :=
  match s.sw.entering with
  | [] => s
  | o :: r => { s with sw := { s.sw with entering := r } }.admitFrame o

/-- The frames held in the block of a port that may be offered again: the oldest of each class (R151). -/
def State.heldHeads (s : State) (p : Nat) : List HeldFrame :=
  (List.range 4).filterMap (fun c => s.sw.held.find? (fun h => h.offered.port == p && h.offered.cls == c))

/-- The frames held in the block of a port are offered again, the oldest of each class; the first that the switch takes enters, and the
time it was held is counted, each held frame's own (DESIGN CHOICE, log entry 170). Every other frame keeps its place (R145, R151). -/
def backpressureOffer (s : State) (p : Nat) : State :=
  match (s.heldHeads p).find? (fun h => s.admission h.offered false ≠ .hold) with
  | none => s
  | some h =>
    let t := { s with sw := { s.sw with held := s.sw.held.erase h } }
    (t.bumpBy (Obj.backpressureUs p) ((s.now - h.since) / us)).take h.offered (s.admission h.offered false)

/-! ## Output arbitration (R146, R157, R158) -/

/-- Frames of a class waiting for an output from an input, oldest first. -/
def State.queue (s : State) (input out cls : Nat) : List Stored :=
  s.sw.stored.filter (fun q => q.offered.port == input && q.offered.cls == cls && q.outs.contains out)

/-- Whether any frame of the class waits for the output. -/
def State.waits (s : State) (out cls : Nat) : Bool :=
  s.sw.stored.any (fun q => q.offered.cls == cls && q.outs.contains out)

/-- Input ports other than the transit input that have a frame of the class for the output. -/
def State.asking (s : State) (out cls : Nat) : List Nat :=
  (List.range 16).filter (fun p => some p ≠ s.transitInput out && (s.queue p out cls) ≠ [])

/-- A list of ports in round-robin order, from the port after `last`. -/
def roundFrom (l : List Nat) (last : Nat) : List Nat :=
  l.filter (fun p => last < p) ++ l.filter (fun p => p ≤ last)

/-- The arbiter of R157 for one output and class: it walks the round until a port's deficit covers its head frame, at most `fuel`
moves. -/
def State.pickLocal : Nat → State → Nat → Nat → State × Option Stored
  | 0, s, _, _ => (s, none)
  | fuel + 1, s, out, cls =>
    let key := out * 4 + cls
    let r := sparseGet (fun _ => {}) s.sw.rounds key
    let setRound (t : State) (r : Round) : State :=
      { t with sw := { t.sw with rounds := sparsePut (fun _ => {}) t.sw.rounds key r } }
    let setDeficit (t : State) (p d : Nat) : State :=
      { t with sw := { t.sw with deficit := sparsePut (fun _ => 0) t.sw.deficit (key * 16 + p) d } }
    match r.ports with
    | p :: ps =>
      match s.queue p out cls with
      | [] =>
        let t := setDeficit s p 0
        let t := { t with sw := { t.sw with lastPort := sparsePut (fun _ => 0) t.sw.lastPort (key * 8 + groupOf p) p } }
        State.pickLocal fuel (setRound t { r with ports := ps, granted := false }) out cls
      | q :: rest =>
        let d := sparseGet (fun _ => 0) s.sw.deficit (key * 16 + p) + (if r.granted then 0 else 2112)
        let size := packetSize out q.offered.packet
        if size ≤ d then
          (setRound (setDeficit s p (if rest = [] then 0 else d - size)) { r with granted := true }, some q)
        else
          let t := setDeficit s p d
          let t := { t with sw := { t.sw with lastPort := sparsePut (fun _ => 0) t.sw.lastPort (key * 8 + groupOf p) p } }
          State.pickLocal fuel (setRound t { r with ports := ps, granted := false }) out cls
    | [] =>
      match r.groups with
      | g :: gs =>
        let ports := roundFrom ((s.asking out cls).filter (fun p => groupOf p == g))
                       (sparseGet (fun _ => 0) s.sw.lastPort (key * 8 + g))
        State.pickLocal fuel (setRound s { groups := gs, ports := ports, granted := false }) out cls
      | [] =>
        let f := sparseGet (fun _ => 0) s.sw.firstGroup key
        let t := { s with sw := { s.sw with firstGroup := sparsePut (fun _ => 0) s.sw.firstGroup key ((f + 1) % 5) } }
        if s.asking out cls = [] then (s, none)
        else State.pickLocal fuel (setRound t { groups := (List.range 5).map (fun i => (f + i) % 5) }) out cls

/-- The insertion count of a ring link and class (R159). -/
def State.insertedNow (s : State) (out cls : Nat) : Nat := sparseGet (fun _ => 0) s.sw.inserted (out * 4 + cls)

/-- INSERT_SHARE of a class, and its QUOTA_BYTES (R159). -/
def State.insertShare (s : State) (cls : Nat) : Nat := if cls = 2 then s.obj Obj.insertShare2 else s.obj Obj.insertShare3
def State.quotaNow (s : State) (cls : Nat) : Nat := s.insertShare cls * 12120 * s.obj Obj.ringEpoch / 10000

/-- The frame of a class that an output sends next, and whether it is a transit frame (R157, R158). -/
def State.pickClass (s : State) (out cls : Nat) : State × Option Stored :=
  let transit := match s.transitInput out with
    | some p => (s.queue p out cls).head?
    | none => none
  let localWaits := s.asking out cls ≠ []
  let localFirst :=
    if out ≤ 1 then
      (if cls = 1 then sparseGet (fun _ => true) s.sw.lastTransit out
       else if 2 ≤ cls then (s.insertShare cls == 10000 || s.insertedNow out cls < s.quotaNow cls) else false)
    else true
  match transit with
  | some q =>
    if localWaits ∧ localFirst then s.pickLocal 80 out cls
    else
      let t := if 2 ≤ cls ∧ localWaits then { s with sw := { s.sw with quotaWaited := true } } else s
      (t, some q)
  | none => s.pickLocal 80 out cls

/-- Deficit round-robin between classes 2 and 3 (R146), at most `fuel` turns. Class 3 gains the first round, and a class with nothing waiting
keeps its deficit (DESIGN CHOICE, log entry 169). -/
def State.pickBulk : Nat → State → Nat → State × Option Stored
  | 0, s, _ => (s, none)
  | fuel + 1, s, out =>
    let w2 := s.obj Obj.class2Weight
    let w3 := s.obj Obj.class3Weight
    if !s.waits out 3 then s.pickClass out 2
    else if !s.waits out 2 then s.pickClass out 3
    else if w3 = 0 then s.pickClass out 2
    else if w2 = 0 then s.pickClass out 3
    else
      let c := if sparseGet (fun _ => 2) s.sw.classTurn out = 3 then 3 else 2
      let d := sparseGet (fun _ => 0) s.sw.classDeficit (out * 4 + c)
      match s.pickClass out c with
      | (t, some q) =>
        let size := packetSize out q.offered.packet
        if size ≤ d then
          ({ t with sw := { t.sw with classDeficit := sparsePut (fun _ => 0) t.sw.classDeficit (out * 4 + c) (d - size) } }, some q)
        else
          let o := 5 - c
          let gain := (if o = 2 then w2 else w3) * 2112
          let od := sparseGet (fun _ => 0) s.sw.classDeficit (out * 4 + o)
          State.pickBulk fuel { s with sw := { s.sw with
              classTurn := sparsePut (fun _ => 2) s.sw.classTurn out o,
              classDeficit := sparsePut (fun _ => 0) s.sw.classDeficit (out * 4 + o) (od + gain) } } out
      | (t, none) => (t, none)

/-- The next frame of an output (R146): class 0, class 1, then classes 2 and 3. The tap's copies go in the order made. -/
def State.pickNext (s : State) (out : Nat) : State × Option Stored :=
  if out = 15 then (s, s.sw.stored.find? (fun q => q.outs.contains 15))
  else if s.waits out 0 then s.pickClass out 0
  else if s.waits out 1 then s.pickClass out 1
  else s.pickBulk 4 out

/-- A stored frame no longer waits for an output. -/
def State.dropOutput (s : State) (q : Stored) (out : Nat) : State := s.mapStored q.no (fun q => { q with outs := q.outs.filter (· ≠ out) })

/-- A frame stored for longer than MAX_RESIDENCE ms is aged out at the head of its queue (R154). -/
def State.isAged (s : State) (q : Stored) : Bool :=
  s.obj Obj.maxResidence ≠ 0 && q.stored + s.obj Obj.maxResidence * ms < s.now

/-- A parity error as the frame is read: every copy not yet sent is discarded, and the cell is tested; it passes, a transient
fault, or is retired, a lasting one (R155). -/
def State.parityError (s : State) (q : Stored) (out : Nat) (passes : Bool) : State :=
  let t := (s.mapStored q.no (fun q => { q with outs := [] })).bump (Obj.parityDrops out)
  if passes then (t.bump Obj.parityTransient).transientFault 0x2400 0x03 0xFFFF stIntegrity 0 true
  else
    let t := (t.bump Obj.parityLasting).put Obj.cellsRetired (t.obj Obj.cellsRetired + 1)
    t.lastingFault 0x2400 0x04 (t.obj Obj.cellsRetired) stIntegrity 0 true

/-- A local frame of class 2 or 3 on a ring output counts towards its insertion count (R159). -/
def State.countInserted (s : State) (q : Stored) (out : Nat) : State :=
  match q.offered.packet with
  | .ring f =>
    if out ≤ 1 ∧ 2 ≤ q.offered.cls ∧ some q.offered.port ≠ s.transitInput out then
      let k := out * 4 + q.offered.cls
      { s with sw := { s.sw with inserted := sparsePut (fun _ => 0) s.sw.inserted k (s.insertedNow out q.offered.cls + wireBytes f) } }
    else s
  | .eth _ => s

/-- An output whose Ethernet port is off or has become the tap port, or a tap without a port, discards what was queued for it (R163,
R166). -/
def State.discards (s : State) (out : Nat) : Bool :=
  if out = 15 then s.obj Obj.tapDest == 0 || s.obj (Obj.ethMode (s.obj Obj.tapDest - 1)) == 0
  else 2 ≤ out && out ≤ 5 && s.ethDeaf (out - 2)

/-- A stored frame starts on an output. -/
def State.startSend (s : State) (q : Stored) (out : Nat) : State :=
  let t := (s.countInserted q out).noteTransit out q.offered
  let t := t.mapStored q.no (fun q => 
    { q with outs := q.outs.filter (· ≠ out), busy := q.busy ++ [out], startedAt := s.now, rowsSent := 0 })
  let t := { t with sw := { t.sw with sending := t.sw.sending ++ [(out, q.no)] } }
  t.leave out q.offered

/-- A free output starts its next frame, or resumes the suspended one once no class-0 frame waits; the chosen frame may be found aged
or bad. `fuel` bounds the frames passed over. -/
def State.startNext : Nat → State → Nat → Option Bool → State
  | 0, s, _, _ => s
  | fuel + 1, s, out, parity =>
    if (s.suspendedOn out).isSome ∧ !s.waits out 0 then s.resume out
    else match s.pickNext out with
    | (t, none) => t
    | (t, some q) =>
      if t.discards out then State.startNext fuel ((t.dropOutput q out).bump (Obj.outDrops out q.offered.cls)) out parity
      else if t.isAged q then State.startNext fuel ((t.dropOutput q out).bump (Obj.aged out)) out parity
      else match parity with
        | some passes => t.parityError q out passes
        | none => t.startSend q out

/-- An output chooses its next frame and starts sending it (R146). A ring output that is still sending a frame that may be suspended, and has
a class-0 frame waiting, suspends it (R67; DESIGN CHOICE, log entry 124); else the frame before has been sent to its end. A ring output
sends only while its link is UP (R75, R85). `parity` reports a parity error in the frame read, and its cell's test. -/
def outputStart (s : State) (out : Nat) (parity : Option Bool) : State :=
  let t := if s.suspendable out ∧ s.waits out 0 then s.suspend out else s.finish out
  let t := if t.outReady out then State.startNext (t.sw.stored.length + 1) t out parity else t
  t.placeMarker

/-- At a sample instant the insertion counts return to 0, are shown for the epoch that ended, and local class-1 frames go first
again (R158, R159). -/
def State.quotaEpoch (s : State) : State :=
  let t := s.put Obj.inserted2 (s.insertedNow 0 2 + s.insertedNow 1 2)
  let t := t.put Obj.inserted3 (s.insertedNow 0 3 + s.insertedNow 1 3)
  let t := if s.sw.quotaWaited then t.bump Obj.quotaLimited else t
  { t with sw := { t.sw with inserted := [], quotaWaited := false, lastTransit := [] } }

/-! ## Ring input (R71) -/

/-- A frame that fails its check, or arrives with STOMP, and had been admitted as its header came (R147, R153): one that has started on its
output leaves there with STOMP, or with an inverted FCS on an Ethernet port, counted under STOMPED where the check failed here (R71 rule
7, R148); one that its input or outputs do not take is counted as discarded there; one that is stored is discarded whole. -/
def State.stompThrough (s : State) (o : Offered) (counted : Bool) : State :=
  match s.admission o false with
  | .cut p =>
    if s.sw.entering.any (fun e => e.outs.contains p) then s else
    let t := forEach ((s.outsOf o).filter (fun p => s.shutOut p o.cls)) (fun t p => t.bump (Obj.outDrops p o.cls)) s
    let t := if counted then t.bump (Obj.stomped p) else t
    let t := t.bump (Obj.cutThrough p)
    let t := if (t.sendingOn p).isSome then t.suspend p else t
    let t := (t.leave p o).stomp p o
    if (t.suspendedOn p).isSome ∧ (t.sendingOn p).isNone then t.resume p else t
  | .drop c => s.take o (.drop c)
  | _ => s

/-- Whether D stores what arrives on an in link, until the MARKER (R92 step 3, R208 step 5). -/
def State.storesArrivals (s : State) (p : Path) : Bool :=
  s.ring.revert.any (fun r => r.asD && (if r.dark then p == .b else p == .a))

/-- A frame that has passed rules 1 and 2 of R71 and its FCRC enters from an in link. -/
def State.acceptRing (s : State) (p : Path) (f : Frame) : State :=
  let t := s.noteEntry (s.flowMatch 2 (ringKey (pathPort p) f)) { port := pathPort p, cls := f.cls, packet := .ring f, entered := s.now }
  if t.storesArrivals p then
    { t with ring := { t.ring with revert := t.ring.revert.map (fun r => { r with stored := r.stored ++ [(t.now, f)] }) } }
  else t.enterRing p t.now f

/-- A zero-length broadcast on path B in a proving run is the coordinator's loop frame (R94 step 5). -/
def isLoopFrame (p : Path) (f : Frame) : Bool := p == .b && f.dst == 0xFF && f.payload == []

/-- A frame arrives on an in link (R71). Its trailer brings the neighbour's LINK_WORD (R62). A bad one that D stores until the MARKER is
discarded whole (R71 rule 7). -/
def ringFrameRx (s : State) (p : Path) (w : RingWire) : State :=
  let k := linkIdx p
  if s.linkState p ≠ lkUp then s
  else
  let s := s.setLink p { s.link p with linkWord := w.linkWord }
  if !headerGood w.header then (s.bump (Obj.hcrcErrors k)).frameErrors p 1
  else
    let f := frameOfHeader w.header w.payload
    if !typeAllows f.type f.cls (headerLength w.header) then s.bump (Obj.badTypeDiscards k)
    else if s.hopLimit < f.hops + 1 then s.bump (Obj.hopLimitDiscards k)
    else
      let f := { f with hops := f.hops + 1 }
      let s := if p = .b then s.noteGap else s
      let o : Offered := { port := k, cls := f.cls, packet := .ring f, outs := s.ringRoute p f, entered := s.now }
      if w.stomp then
        let t := s.bump (Obj.stompedRx k)
        if s.storesArrivals p then t else t.stompThrough o false
      else if w.rows ≠ ceilDiv (headerLength w.header) 32 ∨ w.payload.length ≠ headerLength w.header ∨ w.fcrc ≠ frameCrc f then
        let t := (s.bump (Obj.fcrcErrors k)).frameErrors p 1
        if s.storesArrivals p then t else t.stompThrough o true
      else match s.ring.prove with
        | some r => if isLoopFrame p f ∧ !s.wrapped then s.loopFrameRx r f else s.acceptRing p f
        | none => s.acceptRing p f

/-- Whether a frame is still on its way through the switch. -/
def State.inSwitch (s : State) (f : Frame) : Bool :=
  s.sw.entering.any (fun o => o.packet == .ring f) || s.sw.held.any (fun h => h.offered.packet == .ring f) ||
  s.sw.stored.any (fun q => q.offered.packet == .ring f)

/-- A frame is taken out of the inbox of its consumer, where it is there. -/
def State.takeFrame (s : State) (f : Frame) : State :=
  match s.sw.inbox.find? (fun e => e.2 == .ring f) with
  | some e => { s with sw := { s.sw with inbox := s.sw.inbox.erase e } }
  | none => s

/-! ## Ethernet (R162, R166 to R169, R175) -/

/-- The duplicate table of a pair. -/
def State.dups (s : State) (q : Nat) : List DupEntry := if q = 0 then s.sw.dup0 else s.sw.dup1

def State.setDups (s : State) (q : Nat) (l : List DupEntry) : State :=
  if q = 0 then { s with sw := { s.sw with dup0 := l } } else { s with sw := { s.sw with dup1 := l } }

/-- A frame of a redundant pair is new, or a duplicate (R169). -/
def State.isDup (s : State) (q : Nat) (source seq : Nat) : Bool :=
  (s.dups q).any (fun e => e.source == source && e.seq == seq)

/-- An entry is made; a full table loses its oldest entry (R169). -/
def State.addDup (s : State) (q : Nat) (e : DupEntry) : State :=
  let l := s.dups q
  if 16384 ≤ l.length then (s.bump (Obj.tableEvictions q)).setDups q (l.drop 1 ++ [e]) else s.setDups q (l ++ [e])

/-- UDP destination port of an IPv4 datagram in a frame, with its destination address; none where it is not one. -/
def udpPortOf (f : EthFrame) : Option (Nat × Nat) :=
  let ihl := (leAt f.payload 0 1 % 16) * 4
  if f.etherType = 0x0800 ∧ leAt f.payload 0 1 / 16 = 4 ∧ leAt f.payload 9 1 = 17 then
    some (beVal (slice f.payload 16 4), beVal (slice f.payload (ihl + 2) 2)) else none

/-- A GOOSE frame matches an enabled subscription: destination address, APPID, port or pair (R333). -/
def State.gooseMatch (s : State) (port : Nat) (f : EthFrame) : Option Nat :=
  (List.range 128).find? (fun n =>
    s.obj (Obj.subEnable n) == 1 && s.mac (Obj.subMac n) == f.dst &&
    beVal (slice f.payload 0 2) == s.obj (Obj.subAppid n) &&
    (s.obj (Obj.subPort n) == port || (s.redOf (port + 2) ≠ 0 && s.obj (Obj.subPort n) / 2 == port / 2)))

/-- The built-in delivery of R162 step 3: the port and class; `some none` for PTP, which is not queued. -/
def State.builtIn (s : State) (port : Nat) (f : EthFrame) : Option (Option (Nat × Nat)) :=
  let addr := s.obj (Obj.ipv4Addr (if s.redOf (port + 2) ≠ 0 then port / 2 * 2 else port))
  if f.etherType = 0x88F7 then some none
  else if f.etherType = 0x88FB ∧ s.redOf (port + 2) ≠ 0 then some (some (portMp, 2))
  else if f.etherType = 0x88B8 ∧ (s.gooseMatch port f).isSome then some (some (portSme, 0))
  else if addr = 0 then none
  else if f.etherType = 0x0806 ∧ beVal (slice f.payload 24 4) = addr then some (some (portMp, 2))
  else match udpPortOf f with
    | some (dst, port') => if dst = addr ∧ (port' = 47210 ∨ port' = 47211) then some (some (portMp, 2)) else none
    | none => none

/-- The class of a frame from its priority code point (R162, R175). -/
def State.pcpClass (s : State) (port : Nat) (f : EthFrame) : Nat :=
  let pcp := match f.vlan with | some (v, _) => v | none => 0
  (s.obj (Obj.pcpMap port) / 4 ^ pcp) % 4

/-- The class and outputs of a frame by steps 3 to 5 of R162, with its first flow entry; no outputs for one that is discarded or not
queued. -/
def State.ethTarget (s : State) (port : Nat) (f : EthFrame) (m : Option Nat) : Nat × List Nat :=
  match s.builtIn port f, m with
  | some (some (out, cls)), _ => (cls, [out])
  | some none, _ => (0, [])
  | none, some n =>
    (if bit n 29 then bits n 31 30 else s.pcpClass port f,
     if bit n 26 then [] else (List.range 16).filter (fun p => (bits n 47 32).testBit p && p ≠ port + 2))
  | none, none => (0, [])

/-- The counters of those steps. -/
def State.countTarget (s : State) (port : Nat) (f : EthFrame) (m : Option Nat) : State :=
  if (s.builtIn port f).isSome then (if f.etherType = 0x88FB then s.bump (Obj.supRx (port / 2)) else s)
  else if m = none then s.bump (Obj.noFlow port)
  else if (s.ethTarget port f m).2 = [] then s.bump (Obj.flowDrops port)
  else s

/-- A frame that has passed steps 1 and 2 of R162, as received: its copies are made, it goes on round an HSR ring where `forward`, and it is
delivered where `deliver`, without the 6 octets of its tag or trailer (steps 3 to 5; R168). The two are one frame to its input (R149). -/
def State.ethEnter (s : State) (port : Nat) (f : EthFrame) (forward deliver : Bool) : State :=
  let m := if deliver then s.flowMatch 1 (ethKey (port + 2) f) else none
  let (cls, outs) := if deliver then s.ethTarget port f m else (0, [])
  let mate := if forward ∧ outs ≠ [] then some s.sw.mates else none
  let t := s.noteEntry m { port := port + 2, cls := if outs = [] then s.pcpClass port f else cls, packet := .eth f, entered := s.now }
  let t := if deliver then t.countTarget port f m else t
  let o : Offered := { port := port + 2, cls := s.pcpClass port f, packet := .eth f, outs := [pairPort (port + 2)], entered := s.now,
                       part := outs ≠ [], mate := mate }
  let bare : EthFrame := if f.red.isSome ∧ s.redOf (port + 2) ≠ 0 then { f with red := none, length := f.length - 6 } else f
  let o' : Offered := { port := port + 2, cls := cls, packet := .eth bare, outs := outs, entered := s.now, part := forward, mate := mate }
  let t := { t with sw := { t.sw with mates := t.sw.mates + ofBool mate.isSome } }
  { t with sw := { t.sw with entering := t.sw.entering ++ (if forward then [o] else []) ++ (if outs = [] then [] else [o']) } }

/-- A frame with a bad FCS is discarded; one that has begun to cut through to another port ends there with an inverted FCS (R148,
R162 step 1). -/
def State.ethBad (s : State) (port : Nat) (f : EthFrame) : State :=
  let t := s.bump (Obj.fcsErrors port)
  let m := t.flowMatch 1 (ethKey (port + 2) f)
  let (cls, outs) := if f.red.isSome ∧ t.redOf (port + 2) = 2 then (t.pcpClass port f, [pairPort (port + 2)]) else t.ethTarget port f m
  let o : Offered := { port := port + 2, cls := cls, packet := .eth f, outs := outs, entered := t.now }
  if outs = [] then t else t.stompThrough o true

/-- A frame received on an Ethernet port (R162). On a port in PRP or HSR mode a frame without trailer or tag is delivered without duplicate
handling, and never forwarded round an HSR ring (DESIGN CHOICE, log entry 172). -/
def ethernetRx (s : State) (port : Nat) (f : EthFrame) : State :=
  if s.obj (Obj.ethMode port) = 0 then s else
  let t := s.bump (Obj.rxFrames port)
  if t.obj Obj.tapDest = port + 1 then t
  else if !f.fcsGood then t.ethBad port f
  else if f.length < 64 then t.bump (Obj.runts port)
  else if 1536 < f.length then t.bump (Obj.oversize port)
  else
    let q := port / 2
    let mode := t.obj (Obj.redMode q)
    let own := t.mac (Obj.macAddr (q * 2))
    match mode, f.red with
    | 0, _ => t.ethEnter port f false true
    | _, none => t.ethEnter port f false true
    | 1, some (seq, lan) =>
      let t := if lan ≠ (if port % 2 = 0 then 0xA else 0xB) then t.bump (Obj.wrongLan q) else t
      if t.isDup q f.src seq then t.bump (Obj.dupDiscards q)
      else (t.addDup q { source := f.src, seq := seq, made := t.now, port := port }).ethEnter port f false true
    | _, some (seq, _) =>
      if f.src = own then t.bump (Obj.ownRemoved q)
      else if t.isDup q f.src seq then t.bump (Obj.dupDiscards q)
      else
        let t := t.addDup q { source := f.src, seq := seq, made := t.now, port := port }
        t.ethEnter port f (f.dst ≠ own) (f.dst = own ∨ f.dst / 2 ^ 40 % 2 = 1)

/-- The oldest entry of a duplicate table is removed FORGET_TIME ms after it was made (R169). -/
def forgetTimeExpiry (s : State) (q : Nat) : State :=
  match s.dups q with
  | [] => s
  | e :: r => (s.waitUntil (e.made + s.obj (Obj.forgetTime q) * ms)).setDups q r

/-- LIFE_CHECK ms after the last one a redundant pair sends a supervision frame on both ports (R167). What it holds beside its addresses is
IEC 62439-3's. -/
def supervisionSend (s : State) (q : Nat) : State :=
  if s.obj (Obj.redMode q) = 0 then s
  else
    let t := s.waitUntil (sparseGet (fun _ => 0) s.sw.supAt q + s.obj (Obj.lifeCheck q) * ms)
    let t := { t with sw := { t.sw with supAt := sparsePut (fun _ => 0) t.sw.supAt q t.now } }
    let f : EthFrame := { dst := 0x01154E000100 + t.obj (Obj.supAddrLsb q), src := t.mac (Obj.macAddr (q * 2)), etherType := 0x88FB }
    t.offerEth portMp 2 f [2 + 2 * q, 3 + 2 * q]

/-- The frame's address names one of the objects that `own` accepts. -/
def Offered.names (o : Offered) (own : Nat → Bool) : Bool :=
  match o.packet with
  | .ring f => own (bits f.address 23 8)
  | .eth _ => false

/-- A LOCAL reset of a block discards the frames queued from its port and to its port, and returns their cells (R156). Of a port that
several blocks share it takes the frames that name the one that is reset, whose objects `own` accepts (R407). -/
def State.dropBlock (s : State) (p : Nat) (own : Nat → Bool) : State :=
  let keeps (q : Stored) : Stored :=
    if q.offered.names own then { q with outs := if q.offered.port = p then [] else q.outs.filter (· ≠ p) } else q
  let others (o : Offered) : Bool := !(o.names own && (o.port == p || o.outs == [p]))
  { s with sw := { s.sw with stored := (s.sw.stored.map keeps).filter (fun q => q.outs ≠ [] || q.busy ≠ [])
                             entering := s.sw.entering.filter others
                             held := s.sw.held.filter (fun h => others h.offered) } }

/-- An Ethernet port's link goes down or comes up (R175); its PTP port follows (R110). -/
def ethLinkStateChange (s : State) (port : Nat) (up : Bool) (speed : Nat) : State :=
  ((s.putBool (Obj.linkState port) up).put (Obj.speed port) (if up then speed else 0)).ptpPortChanged port

end Sys2Proof.Machine
end

