-- ==== Sys2Proof/Machine/Sessions.lean ====
section
/-! DEFINITION. Accepted work (file 06): sessions at source and destination, ACKs, retransmission, the journal, recall, late
errors and the fence. What a frame does when it is executed stands in Tracker.lean, after its consumers. -/
namespace Sys2Proof.Machine

/-! ## Instants (R191) -/

/-- The TIME64 with the given low 48 bits that lies nearest to `near` (R191). -/
def fullInstant (near low : Nat) : Nat :=
  let base := near / 2 ^ 48 * 2 ^ 48 + low % 2 ^ 48
  if near + 2 ^ 47 < base ∧ 2 ^ 48 ≤ base then base - 2 ^ 48
  else if base + 2 ^ 47 < near then base + 2 ^ 48
  else base

/-! ## Session entries (R181) -/

/-- The SESSION field of a session (R180). -/
def sessionField (cls2 : Bool) (inc : Nat) : Nat := ofBool cls2 * 2 ^ 15 + inc

def Session.same (a b : Session) : Bool :=
  a.role == b.role && a.peer == b.peer && a.cls2 == b.cls2 && a.ring == b.ring

/-- An entry written back in place of the one it came from, or added. -/
def State.setSession (s : State) (e : Session) : State :=
  let l := if s.acc.sessions.any (·.same e) then s.acc.sessions.map (fun x => if x.same e then e else x)
           else s.acc.sessions ++ [e]
  { s with acc := { s.acc with sessions := l } }

def State.dropSession (s : State) (e : Session) : State :=
  { s with acc := { s.acc with sessions := s.acc.sessions.filter (fun x => !x.same e) } }

/-- The outgoing entry to a node in a class. -/
def State.outSession (s : State) (peer : Nat) (cls2 : Bool) : Option Session :=
  s.acc.sessions.find? (fun e => e.role == 1 && e.peer == peer && e.cls2 == cls2)

/-- The current incoming entry from a node in a class: of several incarnations the one opened last (R186). -/
def State.inSession (s : State) (peer : Nat) (cls2 : Bool) : Option Session :=
  (s.acc.sessions.filter (fun e => e.role == 2 && e.peer == peer && e.cls2 == cls2)).foldl
    (fun b e => match b with | none => some e | some x => if seqNewer e.openSeq x.openSeq then some e else some x) none

/-- The incoming entry of one incarnation. -/
def State.inEntry (s : State) (r : WorkRef) : Option Session :=
  s.acc.sessions.find? (fun e => e.role == 2 && e.peer == r.peer && e.cls2 == r.cls2 && e.incarnation == r.inc)

/-- The incoming entry whose work is executed first: the oldest incarnation with work not yet done, else the current one (R181). -/
def State.workEntry (s : State) (peer : Nat) (cls2 : Bool) : Option Session :=
  let l := s.acc.sessions.filter (fun e => e.role == 2 && e.peer == peer && e.cls2 == cls2)
  let busy := l.filter (fun e => e.exec ≠ seqPrev e.next)
  (if busy = [] then l else busy).foldl
    (fun b e => match b with | none => some e | some x => if seqNewer x.openSeq e.openSeq then some e else some x) none

/-! ## The MRAM devices (R186) -/

def State.setMram (s : State) (d : Nat) (m : MramDevice) : State :=
  if d = 0 then { s with acc := { s.acc with mram0 := m } } else { s with acc := { s.acc with mram1 := m } }

/-- JOURNAL_STATE follows the devices (R211). -/
def State.refreshJournal (s : State) : State :=
  s.put Obj.journalState (ofBool (s.mram 0).inService + 2 * ofBool (s.mram 1).inService + 8 * ofBool (s.mramsUp == []))

/-- The first device in service. -/
def State.firstMram (s : State) : Option MramDevice := (s.mramsUp.head?).map s.mram

/-- A change of the header or tables of every device in service. -/
def State.eachMram (s : State) (f : MramDevice → MramDevice) : State :=
  forEach s.mramsUp (fun t d => t.setMram d (f (t.mram d))) s

/-- The offset of the slot of a sequence in a record ring (R186). -/
def recordOffset (ring seq : Nat) : Nat := 0x10000 + ring * 8192 + seq % 256 * 32

/-- The number that the 32 bytes of a record make (R187): bits 15 to 0 are RCRC, over bytes 2 to 31. -/
def recordBits (r : JRecord) : Nat :=
  let v := r.writeGen % 2 ^ 8 * 2 ^ 16 + r.tag % 2 ^ 16 * 2 ^ 24 + r.payloadCrc % 2 ^ 32 * 2 ^ 40 + r.inst % 2 ^ 48 * 2 ^ 72 +
    r.address % 2 ^ 48 * 2 ^ 120 + r.length % 2 ^ 12 * 2 ^ 168 + r.commander % 2 ^ 4 * 2 ^ 180 + r.result % 2 ^ 8 * 2 ^ 184 +
    ofBool r.posted * 2 ^ 193 + r.state % 4 * 2 ^ 194 + r.type % 2 ^ 4 * 2 ^ 196 + r.src % 2 ^ 8 * 2 ^ 200 +
    r.session % 2 ^ 16 * 2 ^ 208 + r.seq % 2 ^ 32 * 2 ^ 224
  v + hcrc ((leBytes 32 v).drop 2)

/-- The record that the 32 bytes of a slot hold. -/
def recordOfBits (v : Nat) : JRecord :=
  { seq := bits v 255 224, session := bits v 223 208, src := bits v 207 200, type := bits v 199 196, state := bits v 195 194,
    posted := bit v 193, result := bits v 191 184, commander := bits v 183 180, length := bits v 179 168, address := bits v 167 120,
    inst := bits v 119 72, payloadCrc := bits v 71 40, tag := bits v 39 24, writeGen := bits v 23 16 }

/-- A copy of a record is valid when its RCRC is correct and its STATE is 1 or 2 (R192). -/
def recordValid (v : Nat) : Bool :=
  bits v 15 0 == hcrc ((leBytes 32 v).drop 2) && (bits v 195 194 == 1 || bits v 195 194 == 2)

/-- The 32 bytes of a record slot in a device (R186): all 0 where nothing has been written. -/
def MramDevice.slot (m : MramDevice) (offset : Nat) : Nat := sparseGet (fun _ => 0) m.records offset

/-- A record slot of a device takes 32 bytes. -/
def State.putSlot (s : State) (d offset v : Nat) : State :=
  let m := s.mram d
  s.setMram d { m with records := sparsePut (fun _ => 0) m.records offset v }

/-- A record in the journal ring of the devices `ds`. -/
def State.writeRecord (s : State) (ds : List Nat) (ring : Nat) (r : JRecord) : State :=
  forEach ds (fun t d => t.putSlot d (recordOffset ring r.seq) (recordBits r)) s

/-- A write that does not come to its end leaves the bytes it has written over those that stood there; how many is open (R189, R192). (log
entry 113). -/
def State.tornRecord (s : State) (ds : List Nat) (ring : Nat) (r : JRecord) : State :=
  forEach ds (fun t d =>
    let k := recordOffset ring r.seq
    let n := t.freeNow % 33
    (t.putSlot d k ((recordBits r) % 2 ^ (8 * n) + (t.mram d).slot k / 2 ^ (8 * n) * 2 ^ (8 * n))).tookFree) s

/-- The next INCARNATION for a destination and class, written to the table of every device in service (R181); none while no
device is in service. -/
def State.nextIncarnation (s : State) (peer : Nat) (cls2 : Bool) : Option (State × Nat) :=
  match s.firstMram with
  | none => none
  | some m =>
    let k := peer * 2 + ofBool cls2
    let n := sparseGet (fun _ => 0) m.incarnations k % 16383 + 1
    some (s.eachMram (fun m => { m with incarnations := sparsePut (fun _ => 0) m.incarnations k n }), n)

/-! ## The source: issuing and sending (R179, R181, R182, R196) -/

/-- A command completes at its issuer (R179). -/
def State.completeAt (s : State) (i : Issuer) (seq status : Nat) : State :=
  { s with acc := { s.acc with completions := s.acc.completions ++ [{ issuer := i, seq := seq, status := status }] } }

/-- A block issues a command for a session of class 0 or 2: it waits in its session until it is sent. -/
def State.issue (s : State) (f : Frame) (i : Issuer) : State :=
  let cls2 := f.cls == 2
  let t : State := { s with acc := { s.acc with issueNo := s.acc.issueNo + 1 } }
  match s.outSession f.dst cls2 with
  | some e => t.setSession { e with waiting := e.waiting ++ [(s.acc.issueNo, f, i)] }
  | none => t.setSession { role := 1, peer := f.dst, cls2 := cls2, incarnation := 0, state := 0, waiting := [(s.acc.issueNo, f, i)] }

/-- Whether a WRITE falls in a posted window (R196): the first enabled window that contains the whole write decides. -/
def State.postedWindow (s : State) (address length : Nat) : Bool :=
  length ≠ 0 &&
  match (List.range 16).find? (fun w =>
      let size := s.obj (Obj.pwSize w)
      let base := s.obj (Obj.pwBase w) % 2 ^ 48
      let base := if addrNode base = 0 then base + addrNode address * 2 ^ 40 else base
      size ≠ 0 && base ≤ address && address + length ≤ base + size) with
  | some w => s.obj (Obj.pwPosted w) == 1
  | none => false

/-- A command whose completion is its own execution ACK (R179, R184). -/
def nonPostedFrame (f : Frame) : Bool := f.type == tyObjectReq || (f.type == tyWrite && !f.posted)

/-- An outgoing entry opened if it is not: the next INCARNATION, written before the first frame leaves (R181). -/
def State.openOutgoing (s : State) (e : Session) : Option (State × Session) :=
  if e.state ≠ 0 then some (s, e)
  else if 512 ≤ s.outInUse + s.inInUse then none
  else match s.nextIncarnation e.peer e.cls2 with
    | none => none
    | some (t, n) => some (t, { e with incarnation := n, state := 1, slot := s.freeSlot, next := 1, acked := 0, exec := 0, top := 0, copies := [] })

/-- The bytes of a copy enter the acceptance copy store, at their sequence modulo 256 in the 512 KiB of their entry (R24); on the chip where there
is no DRAM (R182). -/
def State.storeCopy (s : State) (e : Session) (seq : Nat) (payload : List Byte) : State :=
  if s.obj Obj.dramSize = 0 then s else s.dramWrite (0x400000 + e.slot * 2 ^ 19 + seq % 256 * 2048) payload

/-- The payload of accepted work enters the pending store, at its sequence modulo 256 in the 512 KiB of its entry's ring (R24, R187). -/
def State.storePending (s : State) (e : Session) (seq : Nat) (payload : List Byte) : State :=
  if s.obj Obj.dramSize = 0 then s else s.dramWrite (0x10400000 + e.ring * 2 ^ 19 + seq % 256 * 2048) payload

/-- The next command of a session is sent once both window conditions allow, and its copy is kept (R182). A posted WRITE
completes here (R179). A command that was issued before by the same port in the same class goes first. -/
def sessionSend (s : State) (peer : Nat) (cls2 : Bool) : State :=
  match s.outSession peer cls2 with
  | none => s
  | some e =>
    match e.waiting with
    | [] => s
    | (no, f, i) :: r =>
      if s.issuedBefore no f i then s else
      match s.openOutgoing e with
      | none => s
      | some (t, e) =>
        let q := e.next
        if t.canSend e f then
          let posted := f.type == tyWrite && t.postedWindow f.address f.payload.length
          let f' := { f with src := t.ownId, session := sessionField cls2 e.incarnation, seq := q, posted := posted }
          let c : SentCopy := { seq := q, frame := f', issuer := i, nonPosted := nonPostedFrame f', sentAt := t.now,
                                completed := posted }
          let eng := match i with | .engine n => some n | _ => none
          let t := (t.storeCopy e q f'.payload).setSession { e with
            waiting := r, next := seqNext q, copies := e.copies ++ [c]
            issued := lastN 1024 (e.issued ++ (eng.map (fun n => (q, n))).toList) }
          let o : Offered := { port := issuerPort i, cls := f'.cls, packet := .ring f', engine := eng, message := no }
          let t := { t with sw := { t.sw with entering := t.sw.entering ++ [o] } }
          if posted then t.completeAt i q stDone else t
        else s

/-! ## Late errors (R197 to R199) -/

/-- A late-error record enters the queue, or is lost (R199). -/
def State.queueLateError (s : State) (r : LateError) : State :=
  if 256 ≤ s.acc.leq.length then (s.bump Obj.leqLost).setFlag Obj.leqFlags 0 true
  else { s with acc := { s.acc with leq := s.acc.leq ++ [r] } }

/-- The 24 bytes of a late-error record (R198). -/
def lateErrorBytes (r : LateError) : List Byte :=
  leBytes 24 (ofBool r.isLocal * 2 ^ 9 + r.cls * 2 ^ 10 + r.type * 2 ^ 12 + r.node * 2 ^ 16 + r.status * 2 ^ 24 +
    r.tag * 2 ^ 32 + r.seq * 2 ^ 48 + r.address * 2 ^ 80 + r.time * 2 ^ 128)

/-- A late-error record read from its bytes. -/
def lateErrorOf (b : List Byte) : LateError :=
  let n := leAt b 0 24
  { time := bits n 191 128, address := bits n 127 80, seq := bits n 79 48, tag := bits n 47 32, status := bits n 31 24,
    node := bits n 23 16, type := bits n 15 12, cls := bits n 11 10, isLocal := bit n 9 }

/-- A late-error record whose reserved bits are 0 (R5, R198). -/
def lateErrorGood (b : List Byte) : Bool := bits (leAt b 0 24) 8 0 == 0

/-- The oldest record is removed; OVERFLOW clears when the queue becomes empty (R199). -/
def State.popLateError (s : State) : State :=
  let t := { s with acc := { s.acc with leq := s.acc.leq.drop 1 } }
  if t.acc.leq = [] then t.setFlag Obj.leqFlags 0 false else t

/-- LEQ_HEAD: the oldest record, or 24 zero bytes (R199). -/
def State.leqHeadNow (s : State) : List Byte :=
  match s.acc.leq with
  | [] => List.replicate 24 0
  | r :: _ => lateErrorBytes r

/-- A local record for a copy (R197). -/
def State.localLateError (s : State) (f : Frame) (status : Nat) : State :=
  s.queueLateError { time := s.now, address := f.address, seq := f.seq, tag := f.tag, status := status, node := f.dst,
                     type := f.type, cls := f.cls, isLocal := true }

/-- A LATE_ERR frame to the source of failed work, in this node's class-2 session to it; one that cannot be delivered is logged
(R197). -/
def State.sendLateError (s : State) (peer : Nat) (r : LateError) (failed : Option WorkRef) : State :=
  if s.reaches peer then
    s.issue { cls := 2, type := tyLateErr, src := s.ownId, dst := peer, payload := lateErrorBytes r } (.tracker failed)
  else s.logEvent 0x2880 0 0xFFFF r.status r.seq

/-! ## ACKs at the source (R184, R185, R204) -/

/-- An ACK frame of this node (R184). -/
def State.sendAck (s : State) (peer : Nat) (cls2 : Bool) (inc seq status : Nat) (execAck : Bool) : State :=
  s.offerRing portAccept { cls := if cls2 then 2 else 0, type := tyAck, src := s.ownId, dst := peer, status := status,
                           session := sessionField cls2 inc + ofBool execAck * 2 ^ 14, seq := seq }

/-- Copies sent again with RETX set, oldest first, each counted (R185). -/
def State.resend (s : State) (e : Session) (p : SentCopy → Bool) : State :=
  let n := (e.copies.filter p).length
  let t := forEach (e.copies.filter p) (fun t c => t.offerRing (issuerPort c.issuer) { c.frame with retx := true }) s
  let t := t.bumpBy Obj.retransmitted n
  t.setSession { e with retxCount := (e.retxCount + n) % 2 ^ 32,
                        copies := e.copies.map (fun c => if p c then { c with sentAt := s.now } else c) }

/-- A failure of a command that an engine issued and that has completed already is counted under TX_FAILS (R271). -/
def State.countTxFail (s : State) (i : Issuer) : State :=
  match i with
  | .engine n => s.bump (Obj.txFails n)
  | _ => s

/-- The status with which an accepted or refused EVENT completes. One of an engine whose LATE_ERR has come already, so that it has left the
list of the issued ones, was counted then: each failure counts once (R271). -/
def Session.eventStatus (e : Session) (c : SentCopy) (status : Nat) : Nat :=
  match c.issuer with
  | .engine _ => if e.issued.any (·.1 == c.seq) then status else stDone
  | _ => status

/-- The commands of a session accepted by an ACK up to `upto` (R179, R184): an EVENT completes, a refused posted WRITE leaves a
local record; ACKED moves. The failure of a refused EVENT is counted here, and no more by its LATE_ERR (R271). -/
def State.acceptUpTo (s : State) (e : Session) (upto status : Nat) : State × Session :=
  let hit (c : SentCopy) : Bool := seqSub c.seq e.acked ≤ seqSub upto e.acked && c.seq ≠ e.acked
  let refused (q : Nat) : Bool :=
    status ≠ stDone && status ≠ stDuplicate && q == upto && e.copies.any (fun c => c.seq == q && hit c && c.frame.type == tyEvent)
  let t := forEach (e.copies.filter hit) (fun t c =>
    let st := if c.seq = upto ∧ status ≠ stDuplicate then status else stDone
    if c.nonPosted then t
    else if c.frame.type = tyWrite then (if st = stDone then t else (t.localLateError c.frame st).countTxFail c.issuer)
    else if c.frame.type = tyLateErr ∧ st ≠ stDone then t.logEvent 0x2880 0 0xFFFF st c.seq
    else if c.completed then t else t.completeAt c.issuer c.seq (e.eventStatus c st)) s
  (t, { e with acked := upto, issued := e.issued.filter (fun x => !refused x.1),
               copies := e.copies.map (fun c => if hit c then
                 { c with completed := c.completed || !c.nonPosted, sentAt := if c.nonPosted then s.now else c.sentAt } else c) })

/-- `q` lies among the sequences sent and not yet past the mark `base`. -/
def Session.sentPast (e : Session) (base q : Nat) : Bool :=
  q ≠ base && seqSub q base ≤ seqSub (seqPrev e.next) base

/-- The EXEC mark advances towards the highest sequence reported executed, up to the oldest non-posted command whose own
execution ACK has not come, which is sent again (R184). Copies up to the mark are freed. At most `fuel` steps, one for each copy. -/
def Session.advanceExec : Nat → Session → Session
  | 0, e => e
  | fuel + 1, e =>
    if e.exec = e.top then e
    else
      let q := seqNext e.exec
      if e.copies.any (fun c => c.seq == q && c.nonPosted && !c.execAcked) then e
      else Session.advanceExec fuel { e with exec := q, copies := e.copies.filter (fun c => c.seq ≠ q) }

/-- An execution ACK (R184). A non-posted WRITE completes on its own; an object write completes on its OBJECT_RESP (R179). -/
def State.execAckRx (s : State) (e : Session) (q status : Nat) : State :=
  if !e.sentPast e.exec q then s else
  let (t, e) := if e.sentPast e.acked q then s.acceptUpTo e q stDone else (s, e)
  let t := forEach (e.copies.filter (fun c => c.seq == q && c.nonPosted && !c.completed && c.frame.type == tyWrite))
    (fun t c => t.completeAt c.issuer c.seq status) t
  let mark (c : SentCopy) : SentCopy :=
    if c.seq = q ∧ c.nonPosted then { c with execAcked := true, completed := c.completed || c.frame.type == tyWrite } else c
  let e := { e with copies := e.copies.map mark }
  let e := if e.sentPast e.top q then { e with top := q } else e
  let e := e.advanceExec e.copies.length
  let stuck := seqNext e.exec
  if e.exec = e.top then t.setSession e else t.resend e (fun c => c.seq == stuck)

/-- A destination without a journal refuses the frame in order `q` (R204): every frame before it is accepted, every unacknowledged command
completes with INTERNAL, and the next command reuses the lowest unaccepted sequence. A LATE_ERR among them is logged (R197). -/
def State.internalAck (s : State) (e : Session) (q : Nat) : State :=
  let (s, e) := if e.sentPast e.acked (seqPrev q) then s.acceptUpTo e (seqPrev q) stDone else (s, e)
  let lost := e.copies.filter (fun c => e.sentPast e.acked c.seq)
  let t := forEach lost (fun t c =>
    let t := if c.frame.type = tyLateErr then t.logEvent 0x2880 0 0xFFFF stInternal c.seq else t
    if c.completed then (t.localLateError c.frame stInternal).countTxFail c.issuer else t.completeAt c.issuer c.seq stInternal) s
  t.setSession { e with next := seqNext e.acked, copies := e.copies.filter (fun c => !e.sentPast e.acked c.seq) }

/-! ## The journal port (R188, R189) -/

/-- The class of a record's session. -/
def recordClass2 (r : JRecord) : Bool := r.session.testBit 15

/-- The write that starts next of those that wait: acceptance writes of class 0, then of class 2, then done updates, in order. -/
def State.nextWrite (s : State) : Option JWrite :=
  let l := s.acc.writes.filter (fun w => w.start.isNone)
  match l.find? (fun w => w.acceptance && !recordClass2 w.record) with
  | some w => some w
  | none => match l.find? (·.acceptance) with
    | some w => some w
    | none => l.head?

/-- The writes in flight, and the one that started first. -/
def State.inFlight (s : State) : List JWrite := s.acc.writes.filter (fun w => w.start.isSome)
def State.oldestWrite (s : State) : Option JWrite :=
  s.inFlight.foldl (fun b w => match b with | none => some w | some x => if w.start.getD 0 < x.start.getD 0 then some w else some x) none

/-- Writes start up to the present time, 0.1 µs apart, with up to 4 in flight: at most `fuel` of them. -/
def State.startWrites : Nat → State → State
  | 0, s => s
  | fuel + 1, s =>
    match s.nextWrite with
    | none => s
    | some w =>
      let at' := max s.acc.portFrom w.queuedAt
      if s.now < at' ∨ 4 ≤ s.inFlight.length then s
      else
        let l := s.acc.writes.map (fun x => if x = w then { x with start := some at' } else x)
        State.startWrites fuel { s with acc := { s.acc with writes := l, portFrom := at' + 100 } }

/-- A record write joins those that wait for the port, behind what has started by now (R188). -/
def State.queueWrite (s : State) (ring : Nat) (r : JRecord) (acceptance : Bool) : State :=
  let t := State.startWrites 4 s
  let w : JWrite := { ring := ring, record := r, acceptance := acceptance, queuedAt := t.now }
  State.startWrites 4 { t with acc := { t.acc with writes := t.acc.writes ++ [w] } }

/-! ## Work at the destination -/

/-- An entry of the incoming directory, in every device in service; an incarnation of 0 frees the ring's entry. -/
def State.writeDirectory (s : State) (ring : Nat) (d : Option DirEntry) : State :=
  s.eachMram (fun m => { m with directory := m.directory.filter (fun x => x.ring ≠ ring) ++ d.toList })

/-- Incoming entries whose work is all done, and whose source has left or has opened a newer incarnation, are freed (R181). -/
def State.freeEntries (s : State) : State :=
  let high (e : Session) : Bool :=
    e.role == 2 && e.exec == seqPrev e.next &&
    (e.state == 4 || s.acc.sessions.any (fun x => x.role == 2 && x.peer == e.peer && x.cls2 == e.cls2 && seqNewer x.openSeq e.openSeq))
  forEach (s.acc.sessions.filter high) (fun t e => (t.dropSession e).writeDirectory e.ring none) s

/-- Whether work is done by its record. -/
def Work.done (w : Work) : Bool := w.record.state == 2 && w.stands

/-- The in-order executed mark advances over work that is done. A non-posted command draws its execution ACK at once for its own
sequence; what else was executed in order is covered by one ACK (R184). At most `fuel` steps. -/
def State.advanceWork : Nat → State → Session → Bool → State × Session
  | 0, s, e, _ => (s, e)
  | fuel + 1, s, e, owed =>
    let q := seqNext e.exec
    match e.work.find? (fun w => w.record.seq == q && w.done) with
    | some w =>
      if q = e.next then (s, e) else
      let e := { e with exec := q }
      let own := w.record.type == tyObjectReq || (w.record.type == tyWrite && !w.record.posted)
      if own then State.advanceWork fuel (s.sendAck e.peer e.cls2 e.incarnation q w.record.result true) e false
      else State.advanceWork fuel s e true
    | none =>
      if owed then
        let r := (e.work.find? (fun w => w.record.seq == e.exec)).map (·.record.result)
        (s.sendAck e.peer e.cls2 e.incarnation e.exec (r.getD 0) true, e)
      else (s, e)

/-- The failure of a posted WRITE or EVENT is reported to its source (R197); of a source that has left it is logged (R202). -/
def State.reportFailure (s : State) (e : Session) (r : JRecord) : State :=
  if e.state = 4 then s.logEvent 0x2870 0 0xFFFF r.result r.seq
  else if r.result ≠ stDone ∧ (r.type = tyEvent ∨ (r.type = tyWrite ∧ r.posted)) then
    s.sendLateError e.peer { time := s.now, address := r.address, seq := r.seq, tag := r.tag, status := r.result, node := s.ownId,
                             type := r.type, cls := if e.cls2 then 2 else 0, isLocal := false }
      (some ⟨e.peer, e.cls2, e.incarnation, r.seq⟩)
  else s

/-- After work of an entry is done: the mark, the ACKs, and entries no longer needed. -/
def State.settleWork (s : State) (e : Session) : State :=
  let (t, e) := State.advanceWork (e.work.length + 1) s e false
  (t.setSession e).freeEntries

/-- Work is finished by its consumer with a result (R178): its record is done, and the update is queued behind every acceptance
write (R188). Work already done stays as it is. -/
def State.finishWork (s : State) (r : WorkRef) (result : Nat) : State :=
  match s.inEntry r with
  | none => s
  | some e =>
    match e.work.find? (fun w => w.record.seq == r.seq && w.record.state == 1) with
    | none => s
    | some w =>
      let rec' := { w.record with state := 2, result := result, writeGen := (w.record.writeGen + 1) % 256 }
      let e := { e with work := e.work.map (fun x => if x.record.seq = r.seq then
          { x with record := rec', frame := none, released := true } else x) }
      let t := s.queueWrite e.ring rec' false
      (t.reportFailure e rec').settleWork e

/-- Work given by a reference that may be absent. -/
def State.finishRef (s : State) (r : Option WorkRef) (result : Nat) : State :=
  match r with
  | some w => s.finishWork w result
  | none => s

/-- Whether the work is accepted and not yet done. -/
def State.workLive (s : State) (r : WorkRef) : Bool :=
  match s.inEntry r with
  | some e => e.work.any (fun w => w.record.seq == r.seq && w.record.state == 1)
  | none => false

/-- The switch port through which a released frame goes to its consumer; none for the tracker's own and the output stage. -/
def releasePort (f : Frame) : Option Nat :=
  if f.type = tyWrite then
    (match addrSpace f.address with
     | 1 => some portLake | 2 => some portHost | 3 => some portDram | 4 => some portEngines | _ => none)
  else if f.type = tyObjectReq then some portMp
  else if f.type = tyEvent then
    (let ix := bits f.address 23 8
     if 0x5100 ≤ ix ∧ ix ≤ 0x510F then some portCan
     else if 0x5800 ≤ ix ∧ ix ≤ 0x581F then some portUart
     else if 0x62C0 ≤ ix ∧ ix ≤ 0x62FF then some portSme else none)
  else none

/-- The frame is handed to the switch for its consumer. A WRITE to a FIFO waits for its reservation, a fence for what precedes it (R274,
R200). -/
def State.release (s : State) (f : Frame) : State :=
  if f.type = tyWrite ∧ (addrSpace f.address = 4 ∨ f.payload = []) then s else
  match releasePort f with
  | some p => { s with sw := { s.sw with entering := s.sw.entering ++
      [{ port := portAccept, cls := f.cls, packet := .ring f, outs := [p] }] } }
  | none => s

/-! ## Records that stand or do not (R188, R189) -/

/-- The entry of a record. -/
def State.entryOf (s : State) (w : JWrite) : Option Session :=
  s.acc.sessions.find? (fun e => e.role == 2 && e.ring == w.ring &&
    sessionField e.cls2 e.incarnation == w.record.session && e.peer == w.record.src)

/-- A record stands: an accepted or refused frame is acknowledged, and an accepted one is released in the same instant (R178,
R183). -/
def State.recordStands (s : State) (w : JWrite) : State :=
  if !w.acceptance then s else
  match s.entryOf w with
  | none => s
  | some e =>
    let t := s.bump64 Obj.accepted 1
    let e := { e with work := e.work.map (fun x => if x.record.seq = w.record.seq then { x with stands := true, taken := s.now } else x) }
    let t := t.sendAck e.peer e.cls2 e.incarnation w.record.seq w.record.result false
    let t := (t.setSession e)
    if w.record.state = 2 then (if w.record.type = tyEvent then t.reportFailure e w.record else t).settleWork e
    else match e.work.find? (fun x => x.record.seq == w.record.seq) with
      | some x => (match x.frame with | some f => t.release f | none => t)
      | none => t

/-- A record does not stand (R189): the frame is discarded unacknowledged with those behind it, and NEXT goes back to it. -/
def State.recordLost (s : State) (w : JWrite) : State :=
  if !w.acceptance then s else
  match s.entryOf w with
  | none => s
  | some e =>
    let gone (q : Nat) : Bool := seqSub q w.record.seq < 2 ^ 31
    let t := { s with acc := { s.acc with writes := s.acc.writes.filter (fun x =>
        !(x.acceptance && x.ring == w.ring && x.record.session == w.record.session && gone x.record.seq)) } }
    t.setSession { e with next := w.record.seq, work := e.work.filter (fun x => x.stands || !gone x.record.seq) }

/-- The write leaves the port, and its place is free. -/
def State.takeWrite (s : State) (w : JWrite) : State :=
  let full := 4 ≤ s.inFlight.length
  let t : State := { s with acc := { s.acc with writes := s.acc.writes.erase w } }
  if full then { t with acc := { t.acc with portFrom := max t.acc.portFrom t.now } } else t

/-- The write in flight that started first, at the time `ns` after its start; with none in flight the next one starts as soon as the
port allows (R188). -/
def State.writeEnds (s : State) (ns : Nat) : Option (State × JWrite) :=
  let t := State.startWrites 4 s
  let t := if t.inFlight = [] ∧ t.nextWrite.isSome then State.startWrites 4 (t.waitUntil t.acc.portFrom) else t
  t.oldestWrite.map (fun w => (State.startWrites 4 (t.waitUntil (w.start.getD 0 + ns)), w))

/-- WRITE_MAX: the longest acceptance write (R211). -/
def State.noteWrite (s : State) (w : JWrite) (ns : Nat) : State :=
  if w.acceptance then s.put Obj.writeMax (max (s.obj Obj.writeMax) (ns % 2 ^ 32)) else s

/-- The record write in flight that started first stands on every device in service, `ns` after its start (R188, R211). -/
def journalWrite (s : State) (ns : Nat) : State :=
  match s.writeEnds ns with
  | none => s
  | some (t, w) =>
    let t := t.takeWrite w
    match t.mramsUp with
    | [] => t.recordLost w
    | ds =>
      let t := (t.writeRecord ds w.ring w.record).bump64 Obj.recordWrites 1
      (t.noteWrite w ns).recordStands w

/-- A device fails for good (R189): it is out of service, its mark goes into the other device's header if that one is in service,
and the fault is logged as lasting. -/
def State.mramLasting (s : State) (d : Nat) (otherTakes : Bool) : State :=
  let t := s.setMram d { s.mram d with inService := false }
  let t := if otherTakes then t.setMram (1 - d) { t.mram (1 - d) with mark := true } else t
  let t := ((t.bump Obj.lasting).put Obj.lastFaultDev d).refreshJournal
  t.lastingFault 0x2800 0x05 d 0 0 true

/-- A record write fails on one or both devices, and each device is decided by its own write and its own repeat (R189):
`first` and `again` say whether the write and its repeat were clean on devices 0 and 1. The repeat keeps the place and the start spacing
(R188). A device that has failed both keeps what the write has left in the slot. How long a write with its repeat takes is open, within twice
1.2 µs (R188, log entry 176). -/
def journalWriteFail (s : State) (first0 first1 again0 again1 : Bool) : State :=
  let ns := s.freeNow % 2401
  match s.tookFree.writeEnds ns with
  | none => s
  | some (t, w) =>
    let t := t.takeWrite w
    let t : State := { t with acc := { t.acc with portFrom := max t.acc.portFrom t.now + 100 } }
    let up := t.mramsUp
    let first (d : Nat) := if d = 0 then first0 else first1
    let again (d : Nat) := if d = 0 then again0 else again1
    let took := up.filter (fun d => first d || again d)
    let t := (t.writeRecord took w.ring w.record).tornRecord (up.filter (fun d => !took.contains d)) w.ring w.record
    let t := forEach up (fun t d =>
      if first d then t
      else if again d then (t.bump Obj.journalTransient).transientFault 0x2800 0x04 d 0 0 true
      else t.mramLasting d (took.contains (1 - d))) t
    if took = [] then t.recordLost w
    else ((t.bump64 Obj.recordWrites 1).noteWrite w ns).recordStands w

/-! ## ACK frames and timers (R184, R185, R194, R200) -/

/-- Records awaiting payload that can never be executed (R194): done with PATH_DOWN, and logged. -/
def State.abandonRecall (s : State) (e : Session) : State :=
  forEach (e.work.filter (fun w => w.record.state == 1 && w.frame.isNone && w.stands && w.recovered)) (fun t w =>
    (t.logEvent 0x2870 0 0xFFFF stPathDown w.record.seq).finishWork ⟨e.peer, e.cls2, e.incarnation, w.record.seq⟩ stPathDown) s

/-- An ACK frame (R184). -/
def ackRx (s : State) (f : Frame) : State :=
  let s := s.takeFrame f
  let cls2 := f.session.testBit 15
  let execAck := f.session.testBit 14
  let inc := f.session % 2 ^ 14
  if !execAck ∧ f.status = stPathDown then
    match s.inEntry ⟨f.src, cls2, inc, 0⟩ with
    | some e => s.abandonRecall e
    | none => s
  else match s.outSession f.src cls2 with
    | some e =>
      if e.state = 0 ∨ e.incarnation ≠ inc then
        (if !execAck ∧ f.status = stRetry then s.sendAck f.src cls2 inc 0 stPathDown false else s)
      else if execAck then s.execAckRx e f.seq f.status
      else if f.status = stInternal then (if e.sentPast e.acked f.seq then s.internalAck e f.seq else s)
      else if f.status = stRetry then
        let (t, e) := if e.sentPast e.acked f.seq then s.acceptUpTo e f.seq stDone else (s, e)
        t.resend e (fun c => c.seq ≠ f.seq && seqSub c.seq f.seq < 2 ^ 31)
      else if e.sentPast e.acked f.seq then
        let (t, e) := s.acceptUpTo e f.seq f.status
        t.setSession e
      else s
    | none => if !execAck ∧ f.status = stRetry then s.sendAck f.src cls2 inc 0 stPathDown false else s

/-- The retransmission time of a class, ns. -/
def State.retxNs (s : State) (cls2 : Bool) : Nat := (if cls2 then s.obj Obj.retxC2 else s.obj Obj.retxC0) * us

/-- The oldest unacknowledged frame of a session has waited RETX_C0 or RETX_C2: all of them are sent again (R185). -/
def retxTimeout (s : State) (peer : Nat) (cls2 : Bool) : State :=
  match s.outSession peer cls2 with
  | none => s
  | some e =>
    match e.copies.find? (fun c => e.sentPast e.acked c.seq) with
    | none => s
    | some c => (s.waitUntil (c.sentAt + s.retxNs cls2)).resend e (fun c => e.sentPast e.acked c.seq)

/-- An accepted non-posted command has gone EXEC_TIMEOUT without its execution ACK: it is sent again (R185). -/
def execTimeout (s : State) (peer seq : Nat) : State :=
  match s.outSession peer true with
  | none => s
  | some e =>
    match e.copies.find? (fun c => c.seq == seq && c.nonPosted && !c.execAcked && !e.sentPast e.acked c.seq) with
    | none => s
    | some c => (s.waitUntil (c.sentAt + s.obj Obj.execTimeout * ms)).resend e (fun c => c.seq == seq)

/-- Whether slots of an entry still await payload. -/
def Session.awaiting (e : Session) : Bool :=
  e.work.any (fun w => w.recovered && w.record.state == 1 && w.frame.isNone)

/-- The RETRY that recalls an entry's payloads (R194). -/
def State.recallEntry (s : State) (e : Session) : State :=
  (s.sendAck e.peer e.cls2 e.incarnation e.exec stRetry false).setSession { e with recallAt := s.now }

/-- Once the node has welded in and the census names it, it recalls the missing payloads of every session (R194). -/
def recallSession (s : State) : State :=
  if s.onRing ∧ s.ownId ≠ 0 then
    forEach (s.acc.sessions.filter (fun e => e.role == 2 && e.state ≠ 4 && e.awaiting)) (fun t e => t.recallEntry e) s
  else s

/-- RECALL_TIMEOUT has passed with slots unfilled: the RETRY is repeated, for every incarnation that still awaits payloads (R194). -/
def recallTimeout (s : State) (peer : Nat) (cls2 : Bool) : State :=
  match s.acc.sessions.filter (fun e => e.role == 2 && e.peer == peer && e.cls2 == cls2 && e.state ≠ 4 && e.awaiting) with
  | [] => s
  | e :: r => forEach (e :: r) State.recallEntry (s.waitUntil (e.recallAt + s.obj Obj.recallTimeout * ms))

/-- Whether work drives an output stage: a field cell, a lake output slot, or a CAN or UART transmit mapping (R33, R195). -/
def drivesOutput (f : Frame) : Bool :=
  let index := if f.type = tyObjectReq then leAt f.payload 4 2 else bits f.address 23 8
  let sub := if f.type = tyObjectReq then leAt f.payload 6 1 else bits f.address 7 0
  (f.type == tyWrite && addrSpace f.address == 1) ||
  ((f.type == tyEvent || f.type == tyObjectReq) &&
   ((0x3000 ≤ index && index ≤ 0x313F && sub == 0x14) || (0x5100 ≤ index && index ≤ 0x510F && sub == 0x14) ||
    (0x5800 ≤ index && index ≤ 0x581F && sub == 0x16))) ||
  (f.type == tyObjectReq && 0xA000 ≤ index && index < 0xB800)

/-- The first work of an entry that is not yet released to its consumer, if all before it has been (R190). -/
def Session.nextToRelease (e : Session) : Option Work :=
  let open' := e.work.filter (fun w => !w.released && w.record.state == 1)
  open'.foldl (fun b w => match b with
    | none => some w
    | some x => if seqNewer x.record.seq w.record.seq then some w else some x) none

/-- Recovered output work has waited PENDING_LIMIT ms for RUNNING: it completes with HELD (R195). -/
def pendingLimitExpiry (s : State) (peer : Nat) (cls2 : Bool) : State :=
  match s.workEntry peer cls2 with
  | none => s
  | some e =>
    match e.nextToRelease with
    | some w =>
      if w.recovered ∧ w.frame.any drivesOutput ∧ !s.serving then
        (s.waitUntil (w.taken + s.obj Obj.pendingLimit * ms)).finishWork ⟨peer, cls2, e.incarnation, w.record.seq⟩ stHeldStatus
      else s
    | none => s

/-- LATE_ERR frames this node has produced for earlier sequences of the session and that their source has not acknowledged
(R200). -/
def State.lateErrorsOpen (s : State) (r : WorkRef) : Bool :=
  let earlier (i : Issuer) : Bool := match i with
    | .tracker (some q) => q.peer == r.peer && q.cls2 == r.cls2 && q.inc == r.inc && seqSub r.seq q.seq < 2 ^ 31
    | _ => false
  match s.outSession r.peer true with
  | none => false
  | some e => e.waiting.any (fun w => earlier w.2.2) || e.copies.any (fun c => earlier c.issuer && e.sentPast e.acked c.seq)

/-- A fence completes once every earlier sequence is done and its LATE_ERR frames are acknowledged (R200). -/
def fenceComplete (s : State) (peer : Nat) : State :=
  match s.workEntry peer true with
  | none => s
  | some e =>
    let q := seqNext e.exec
    match e.work.find? (fun w => w.record.seq == q && w.record.state == 1 && w.released && w.record.type == tyWrite && w.record.length == 0) with
    | some _ =>
      let r : WorkRef := ⟨peer, true, e.incarnation, q⟩
      if s.lateErrorsOpen r then s else s.finishWork r stDone
    | none => s

/-! ## Late apply (R191, R212) -/

/-- Work that would execute `late` ns after its instant: the status to complete with, or none to execute, with its count. -/
def State.lateJudge (s : State) (peer : Nat) (cls2 : Bool) (late : Int) : State × Option Nat :=
  if late ≤ 0 then (s, none) else
  let policy := s.obj (if cls2 then Obj.latePolicyC2 (peer - 1) else Obj.latePolicyC0 (peer - 1))
  let limit := s.obj (if cls2 then Obj.lateLimitC2 (peer - 1) else Obj.lateLimitC0 (peer - 1))
  if policy = 0 ∨ (limit ≠ 0 ∧ (limit * us : Nat) < late) then (s.bump Obj.lateFailed, some stLateFail)
  else (s.bump Obj.lateApplied, none)

/-! ## Session loss (R202, R203) -/

/-- The sessions with a departed node are lost: commands without an execution mark complete with PATH_DOWN, posted writes and
EVENTs leave local records, a LATE_ERR is logged, and what the node has sent here keeps executing. -/
def State.loseNode (s : State) (n : Nat) : State :=
  let outs := s.acc.sessions.filter (fun e => e.role == 1 && e.peer == n)
  let t := forEach outs (fun t e =>
    let t := forEach e.copies (fun t c =>
      let t := if (c.frame.type = tyWrite ∧ c.frame.posted) ∨ c.frame.type = tyEvent then t.localLateError c.frame stPathDown else t
      let t := if c.frame.type = tyLateErr then t.logEvent 0x2880 0 0xFFFF stPathDown c.seq else t
      if c.completed then t.countTxFail c.issuer else t.completeAt c.issuer c.seq stPathDown) t
    let t := forEach e.waiting (fun t w =>
      let (no, f, i) := w
      let posted := f.type == tyWrite && t.postedWindow f.address f.payload.length
      let t := if posted ∨ f.type = tyEvent then t.localLateError f stPathDown else t
      let t : State := match i with
        | .engine m => { t with sw := { t.sw with admitted := t.sw.admitted ++ [(m, no, false)] } }
        | _ => t
      let t := if f.type = tyLateErr then t.logEvent 0x2880 0 0xFFFF stPathDown 0 else t
      t.completeAt i 0 stPathDown) t
    let t := t.dropSession e
    if e.state = 0 then t else t.bump Obj.sessionsLost) s
  let ins := t.acc.sessions.filter (fun e => e.role == 2 && e.peer == n)
  let t := forEach ins (fun t e => (t.setSession { e with state := 4 })) t
  let t := forEach (t.acc.sessions.filter (fun e => e.role == 2 && e.peer == n)) (fun t e => t.abandonRecall e) t
  t.freeEntries

/-! ## SESSION_TABLE (R213) -/

/-- The 32 bytes of an entry. -/
def State.sessionRow (s : State) (e : Session) : List Byte :=
  let absent := s.acc.absent.any (fun a => a.1 == e.peer)
  let state := if e.state = 4 then 4 else if absent then 3 else if e.role = 2 ∧ e.awaiting then 2 else e.state
  let outstanding := if e.role = 1 then (e.copies.filter (fun c => e.sentPast e.acked c.seq)).length else 0
  let pending := if e.role = 2 then (e.work.filter (fun w => w.stands && w.record.state == 1)).length else seqSub e.acked e.exec
  leBytes 32 (e.dupCount + e.retxCount * 2 ^ 32 + pending * 2 ^ 64 + outstanding * 2 ^ 80 + state * 2 ^ 99 + e.role * 2 ^ 102 +
    e.peer * 2 ^ 104 + sessionField e.cls2 e.incarnation * 2 ^ 112 + e.prevLast * 2 ^ 128 + e.exec * 2 ^ 160 +
    (if e.role = 1 then e.acked else seqPrev e.next) * 2 ^ 192 + e.next * 2 ^ 224)

/-- All 512 hardware entries, free ones as zeros: at most `n` of them from the entry `k` on. -/
def State.sessionRows (s : State) : Nat → Nat → List Byte
  | 0, _ => []
  | n + 1, k =>
    (match s.acc.sessions.find? (fun e => e.state ≠ 0 && e.slot == k) with
     | some e => s.sessionRow e
     | none => List.replicate 32 0) ++ s.sessionRows n (k + 1)

/-- SESSION_TABLE, up to the last entry in use and zeros behind it. -/
def State.sessionTableNow (s : State) : List Byte :=
  let last := s.acc.sessions.foldl (fun b e => if e.state ≠ 0 then max b (e.slot + 1) else b) 0
  padTo 16384 (s.sessionRows last 0)

end Sys2Proof.Machine
end

