-- ==== Sys2Proof/Machine/Membership.lean ====
section
/-! DEFINITION. Census, weld and unweld (file 06, R202, R206 to R209) and the node IDs (R77 to R79). -/
namespace Sys2Proof.Machine

/-- The ID this node answers a census with: its effective ID, or its configured ID if it is joining (R206). -/
def State.answerId (s : State) : Nat := if s.acc.joining then s.obj Obj.nodeId else s.ownId

/-- An answer counts towards the census in progress (R206). -/
def State.countAnswer (s : State) (p : Present) : State :=
  match s.acc.census with
  | some c => { s with acc := { s.acc with census := some { c with answers := c.answers ++ [p] } } }
  | none => s

/-- This node's PRESENT notice, with the NOTICE_SEQ of the census, sent by every node in HELD, RUNNING or DEGRADED and by a node
that asks to weld (R206); a member that goes dark does not answer (log entry 20). -/
def State.sendPresent (s : State) (seq : Nat) : State :=
  let dark := s.acc.unweld.any (fun u => u.requested && (u.standby || s.obj Obj.unweldMode == 1))
  if (s.onRing ∨ s.acc.joining) ∧ !dark then
    let id := if s.acc.unweld.any (·.requested) then 0 else s.answerId
    let n : Notice := { kind := 0x0B, origin := id, u := s.upId, d := s.downId, time := s.identity, seq := seq }
    (s.sendBoth n).countAnswer { id := id, identity := s.identity, u := s.upId, d := s.downId }
  else s

/-- A census is started with its TIME 1 ms ahead, unless one is in progress (R206, R209). A node that joins puts its configured ID into
ORIGIN, as it does in PRESENT, so that of concurrent censuses one is the lowest (DEDUCED, log entry 164). -/
def State.startCensus (s : State) : State :=
  if s.acc.census.isSome then s else
  let at' := s.now + ms
  let t := s.originate { kind := 0x07, origin := s.answerId, time := at' }
  let seq := t.ring.noticeSeq
  let t := { t with acc := { t.acc with census := some { origin := s.answerId, seq := seq, time := at' } } }
  t.sendPresent seq

/-- No coordinator exists (R206). -/
def State.noCoordinator (s : State) : Bool := s.obj Obj.coordinator == 0

/-- A CENSUS notice is answered with PRESENT (R206); of several concurrent ones that with the lowest ORIGIN is answered. -/
def censusRx (s : State) (n : Notice) : State :=
  if s.hasSeen n then s else
  let t := s.sendBoth n
  if t.acc.census.any (fun c => c.origin < n.origin) then t
  else
    let t := { t with acc := { t.acc with census := some { origin := n.origin, seq := n.seq, time := n.time } } }
    t.sendPresent n.seq

/-- A PRESENT notice is forwarded once and counted once for each ring identity (R63, R206). -/
def presentRx (s : State) (n : Notice) : State :=
  match s.acc.census with
  | some c =>
    if c.seq = n.seq then
      if c.answers.any (fun a => a.identity == n.time) then s
      else (s.sendBoth n).countAnswer { id := n.origin, identity := n.time, u := n.u, d := n.d }
    else if s.hasSeen n then s else s.sendBoth n
  | none => if s.hasSeen n then s else s.sendBoth n

/-- Whether an answer loses its ID to another answer with the same ID (R78): a member keeps it against a joining node, and of two
nodes that form a ring together the one with the lower identity keeps it. -/
def losesId (members answers : List Present) (a : Present) : Bool :=
  let member (x : Present) : Bool := members.any (fun m => m.id == x.id && m.identity == x.identity)
  answers.any (fun b => b.id == a.id && b.identity ≠ a.identity &&
    (if member a then false else member b || b.identity < a.identity))

/-- The new membership of a census: every answer once, those that lose their ID with ID 0 (R78, R206); beyond 96 identities the
joining nodes are left out. -/
def newMembers (members answers : List Present) : List Present :=
  let l := answers.map (fun a => if a.id ≠ 0 ∧ losesId members answers a then { a with id := 0 } else a)
  if l.length ≤ 96 then l
  else
    let old := l.filter (fun a => members.any (fun m => m.identity == a.identity))
    old ++ (l.filter (fun a => !members.any (fun m => m.identity == a.identity))).take (96 - old.length)

/-- ID_STATE codes (R104). -/
def idInUse : Nat := 0
def idUnassigned : Nat := 1
def idDuplicate : Nat := 2
def idRingFull : Nat := 3

/-- A node without an ID holds no sessions (R78): its own commands complete with PATH_DOWN. -/
def State.dropSessions (s : State) : State :=
  let peers := s.acc.sessions.map (·.peer)
  let t := forEach peers (fun t n => t.loseNode n) s
  { t with acc := { t.acc with sessions := [] } }

/-- A node whose effective ID is 0 is outside the membership (R78): it holds no sessions, and a node in service falls back to HELD.
STATE_REASON is 0x00 (DESIGN CHOICE, log entry 130). -/
def State.withoutId (s : State) : State :=
  let t := (s.put Obj.effectiveId 0).dropSessions
  if t.serving then t.enter stHeld 0x00 else t

/-- This node takes the ID that the census gives it (R78). -/
def State.takeId (s : State) (new : List Present) : State :=
  match new.find? (fun p => p.identity == s.identity) with
  | some p =>
    let st := if p.id ≠ 0 then idInUse else if s.obj Obj.nodeId = 0 then idUnassigned
              else if s.acc.unweld.isSome then s.obj Obj.idState else idDuplicate
    if p.id = 0 then s.withoutId.put Obj.idState st else (s.put Obj.effectiveId p.id).put Obj.idState st
  | none => if s.acc.joining then s.withoutId.put Obj.idState idRingFull else s.withoutId

/-- This node's record of a broken segment, its own part in it made: it is at the place where a node is spliced in. -/
def State.placeWrap (s : State) (u d : Nat) : WrapState :=
  match s.ring.wraps.find? (fun w => w.u == u && w.d == d) with
  | some w => w
  | none =>
    let isU := s.isUOf u d
    let isD := s.isDOf u d
    { u := u, d := d, detection := s.now, isU := isU, isD := isD, turned := isU || isD, gapSeen := true, start := s.now }

/-- The broken segments as the splice of a node at `x` between its neighbours finds them (R207 step 4): around a node that welds through
one segment the other stays a break, and the node becomes its wrap node. -/
def State.spliceWraps (s : State) (x : Present) : List WrapState :=
  let here (w : WrapState) : Bool :=
    (x.u ≠ 0 && w.u == x.u) || (x.d ≠ 0 && w.d == x.d) || w.u == x.id || w.d == x.id
  let place := s.ring.wraps.filter here
  let others := s.ring.wraps.filter (fun w => !here w)
  let farD := ((place.find? (fun w => w.d ≠ x.id)).map (·.d)).getD 0
  let farU := ((place.find? (fun w => w.u ≠ x.id)).map (·.u)).getD 0
  others ++
    (if x.d = 0 then [s.placeWrap x.u x.id, s.placeWrap x.id farD]
     else if x.u = 0 then [s.placeWrap farU x.id, s.placeWrap x.id x.d]
     else if place ≠ [] then place else [s.placeWrap x.u x.d])

/-- The splice of one welded node (R207 step 4): the revert runs across it from U to D at once, D waiting for its REVERT_START; across one
segment alone where the node welded through one. -/
def State.startSplice (s : State) (x : Present) : State :=
  let u := if x.u = 0 then x.id else x.u
  let d := if x.d = 0 then x.id else x.d
  let t := { s with ring := { s.ring with wraps := s.spliceWraps x }, acc := { s.acc with splice := some s.now, spliceEpochs := 0 } }
  let t := (t.setFlag Obj.faultSummary fsWrapActive true).showWraps
  if t.isUOf u d then t.startRevert { t.placeWrap u d with u := u, d := d } else t

/-- The splices of one boundary run one at a time, the lower configured ID first (R209), and none while a break pauses the weld (R90). -/
def State.nextSplice (s : State) : State :=
  match s.acc.splicesLeft with
  | x :: r => if s.acc.splice.isNone ∧ s.ring.revert.isNone ∧ !s.wrapPending then ({ s with acc := { s.acc with splicesLeft := r } } : State).startSplice x else s
  | [] => s

/-- A member goes dark (R208 step 5, mode 1): every node heats path B, and its neighbours wrap around it behind a MARKER. -/
def State.startDark (s : State) (m : Present) : State :=
  let isU := s.isUOf m.u m.id
  let isD := s.isDOf m.id m.d
  let w : WrapState := { u := m.u, d := m.d, detection := s.now, isU := isU, isD := isD, start := s.now }
  let t := { s with ring := { s.ring with
      dark := isU || m.identity == s.identity
      wraps := s.ring.wraps ++ [w]
      revert := if isD then some { asD := true, dark := true, u := m.u, d := m.d, start := s.now } else none } }
  ((t.setFlag Obj.faultSummary fsWrapActive true).showWraps).heatB

/-- The unweld of this node ends at the boundary: it is out, and after an ID_ASSIGN it asks to weld again (R77, R208). -/
def State.unwelded (s : State) : State :=
  match s.acc.unweld with
  | some u =>
    if u.requested then
      let t := s.withoutId.put Obj.weldState 0
      { t with acc := { t.acc with unweld := if u.standby then some u else none, joining := u.newId.any (· ≠ 0) } }
    else s
  | none => s

/-- The ring that this node joins is in service, and so wrapped around its place (R207): a neighbour's LINK_WORD says so (R62). (DEDUCED, log
entry 151). -/
def State.joinsService (s : State) : Bool :=
  [Path.a, .b].any (fun p => let st := bits (s.link p).linkWord 55 52; st == 3 || st == 4 || st == 5)

/-- A node that forms a ring that has none in service closes it (R206). -/
def State.closeRing (s : State) (wasJoining : Bool) : State :=
  let t := (s.put Obj.ringState 2).put Obj.wrapSegment 0
  let t := { t with ring := { t.ring with wholeSince := t.now, changedAt := t.now } }
  if wasJoining then t.weldedIn.coolB true else t

/-- The new membership is in force: its count and generation, the coordinator, and what a change of it ends (R79, R82, R206). -/
def State.takeMembers (s : State) (new : List Present) (changed : Bool) (boundary : Nat) : State :=
  let t := { s with acc := { s.acc with members := new, census := none, leaving := none }
                    tb := { s.tb with candidates := s.tb.candidates.filter (fun c => new.any (fun m => m.id == c.1)) } }
  let t := t.put Obj.membershipGen ((t.obj Obj.membershipGen + 1) % 2 ^ 32)
  let t := ((t.put Obj.ringNodes new.length).put Obj.censusTime boundary).refreshCoordinator
  if changed then { t.putBool Obj.bSavedValid false with ring := { t.ring with changedAt := t.now }
                                                         tb := { t.tb with loopFibre := 0 } } else t

/-- The members against which a census checks its answers (R78): those of the last one; at a node that joins a ring in service, which has
had none, the others that answer (DEDUCED, log entry 165). -/
def State.knownMembers (s : State) (answers : List Present) : List Present :=
  if s.acc.members = [] ∧ s.acc.joining ∧ s.joinsService then answers.filter (fun a => a.identity ≠ s.identity) else s.acc.members

/-- A node that this boundary welds in: one new on the ring, or one with an ID that it had not (R207). -/
def joinsNow (old : List Present) (p : Present) : Bool :=
  if p.id = 0 then !old.any (fun m => m.identity == p.identity) else !old.any (fun m => m.identity == p.identity && m.id == p.id)

/-- The ID with which a node answered, by which the splices are ordered (R209). -/
def answeredId (answers : List Present) (p : Present) : Nat := ((answers.find? (fun a => a.identity == p.identity)).map (·.id)).getD p.id

/-- The membership boundary (R206): the first sample instant at least 500 µs after the census TIME. While a break pauses the weld or unweld
it waits (R90, R209). -/
def membershipBoundary (s : State) : State :=
  match s.acc.census with
  | none => s
  | some c =>
    if s.wrapPending then s else
    let boundary := s.sampleFrom (c.time + 500 * us)
    let t := s.waitUntil boundary
    let old := s.acc.members
    let new := newMembers (s.knownMembers c.answers) c.answers
    let joined := new.filter (joinsNow old)
    let back := new.filter (fun p => p.id ≠ 0 ∧ s.acc.absent.any (fun a => a.1 == p.id) ∧
                                     old.any (fun m => m.identity == p.identity && m.id == p.id))
    let out := old.filter (fun m => m.id ≠ 0 ∧ !new.any (fun p => p.id == m.id && p.identity == m.identity))
    let gone := out.filter (·.id ≠ s.ownId)
    let t : State := { t with acc := { t.acc with absent := t.acc.absent.filter (fun a => !back.any (·.id == a.1)) } }
    let dark := old.find? (fun m => s.acc.leaving == some m.id && !c.answers.any (fun a => a.identity == m.identity))
    let wasJoining := t.acc.joining
    let t := t.takeId new
    let t := t.takeMembers new (joined ≠ [] ∨ out ≠ [] ∨ old.length ≠ new.length) boundary
    let t := forEach gone (fun t m => t.loseNode m.id) t
    let t := t.unwelded
    let t : State := match dark with | some m => t.startDark m | none => t
    let t := if wasJoining ∧ t.ownId ≠ 0 then t.put Obj.weldState 2 else t
    -- a ring in service splices the welded nodes in; a ring that forms closes
    let t := if (s.wrapped ∨ (wasJoining ∧ old = [] ∧ s.joinsService)) ∧ (joined ≠ [] ∨ back ≠ []) then
        let left := (joined ++ back).mergeSort (fun a b => answeredId c.answers a ≤ answeredId c.answers b)
        let left := if old = [] then left.filter (fun p => p.identity == s.identity) else left
        ({ t with acc := { t.acc with splicesLeft := left, welding := left.map (·.id) }
                  lake := { t.lake with awaitedFrom := left.map (·.id) } } : State).nextSplice
      else if !t.wrapped ∧ 1 < new.length ∧ (t.ringState = 0 ∨ t.ringState = 1) then t.closeRing wasJoining
      else t
    t.selectGm

/-- LOSS_TIMEOUT s after the neighbours of a member were wrapped around it the coordinator takes a census without it (R202). -/
def lossTimeout (s : State) (n : Nat) : State :=
  match s.acc.absent.find? (fun a => a.1 == n) with
  | some a => if s.isCoordinator ∧ n ≠ s.ownId then (s.waitUntil (a.2 + s.obj Obj.lossTimeout * sec)).startCensus else s
  | none => s

/-- Both links of the segment to the upstream neighbour, or to the downstream one, are UP. -/
def State.upSegment (s : State) : Bool := s.linkState .a == lkUp && s.outUp .b
def State.downSegment (s : State) : Bool := s.linkState .b == lkUp && s.outUp .a

/-- A node that asks to weld, its start done, sends WELD_REQ on every out link that is UP: with all four links UP, or 1 s after bring-up
with both links of one segment UP (R207 step 2). -/
def weldReqSend (s : State) : State :=
  if ((s.node = stLoading ∧ s.rst.loaded) ∨ (s.node ≠ stLoading ∧ s.ownId = 0)) ∧ (s.upSegment ∨ s.downSegment) then
    let s := if s.upSegment ∧ s.downSegment then s else s.waitUntil (s.rst.broughtUp + sec)
    let seq := (s.ring.noticeSeq + 1) % 2 ^ 32
    let n : Notice := { kind := 0x02, origin := s.obj Obj.nodeId, u := s.upId, d := s.downId, time := s.now, seq := seq }
    let t := { s with ring := { s.ring with noticeSeq := seq, seen := s.ring.seen ++ [(n.origin, seq)] }
                      acc := { s.acc with joining := true } }
    let t := (t.put Obj.weldState 1).put Obj.ringState (if t.ringState = 0 then 1 else t.ringState)
    let t := if t.outUp .a then t.notify .a n else t
    if t.outUp .b then t.emit (.notice .b n) else t
  else s

/-- A WELD_REQ makes the coordinator take a census; while there is none, any node may (R206, R207 step 3). -/
def weldReqRx (s : State) (n : Notice) : State :=
  if s.hasSeen n then s else
  let t := s.sendBoth n
  if t.isCoordinator ∨ (t.noCoordinator ∧ (t.onRing ∨ t.acc.joining)) then t.startCensus else t

/-- The drain of an unweld is done (R208 steps 2 and 3): all accepted work executed, every LATE_ERR acknowledged, every outgoing
session executed. -/
def State.drained (s : State) : Bool :=
  s.acc.sessions.all (fun e => if e.role = 2 then e.exec == seqPrev e.next else e.waiting == [] && e.copies == [])

/-- An unweld begins: the node drains (R208 step 1); work for later is dropped as it is found (`dropFuture`). -/
def State.startUnweld (s : State) (newId : Option Nat) (standby : Bool) : State :=
  let t := s.put Obj.weldState 3
  { t with acc := { t.acc with unweld := some { start := s.now, newId := newId, standby := standby } } }

/-- The drain completes, or UNWELD_DRAIN passes: UNWELD_REQ goes out, and the node is leaving (R208 step 4); not while a break pauses the
unweld (R90). -/
def unweldDrainEnd (s : State) : State :=
  match s.acc.unweld with
  | some u =>
    if u.requested ∨ s.wrapPending then s else
    let t := if s.drained then s else s.waitUntil (u.start + s.obj Obj.unweldDrain * ms)
    let t := t.put Obj.weldState 4
    let t := { t with acc := { t.acc with unweld := some { u with requested := true }, leaving := some t.ownId } }
    let t := t.originate { kind := 0x09, origin := t.ownId, u := t.upId, d := t.downId, time := t.now }
    if t.isCoordinator then t.startCensus else t
  | none => s

/-- An UNWELD_REQ makes the coordinator take a census without the node (R208 step 4). -/
def unweldReqRx (s : State) (n : Notice) : State :=
  if s.hasSeen n then s else
  let t := s.sendBoth n
  let t := { t with acc := { t.acc with leaving := some n.origin } }
  if t.isCoordinator then t.startCensus else t

/-- 1 s after bring-up, which ends a start that has loaded everything, neither segment has both its links UP: the node is alone (R206), keeps
its configured ID and reaches HELD (R17). -/
def aloneTimeout (s : State) : State :=
  if s.node = stLoading ∧ s.rst.loaded ∧ !s.upSegment ∧ !s.downSegment then
    let t := s.waitUntil (s.rst.broughtUp + sec)
    let t := (t.put Obj.ringState 0).put Obj.ringNodes 1
    let id := t.obj Obj.nodeId
    let t := (t.put Obj.effectiveId id).put Obj.idState (if id = 0 then idUnassigned else idInUse)
    let t := { t with acc := { t.acc with members := [{ id := id, identity := t.identity }], joining := false } }
    (t.refreshCoordinator.enter stHeld 0x00).selectGm
  else s

end Sys2Proof.Machine
end

