-- ==== Sys2Proof/Machine/Cells.lean ====
section
/-! DEFINITION. Field cells, banks, the energy governor and the sequence-of-events log (file 07, with R122 to R124). -/
namespace Sys2Proof.Machine

def State.cell (s : State) (n : Nat) : Cell := sparseGet (fun _ => {}) s.fc.cells n

def State.setCell (s : State) (n : Nat) (c : Cell) : State :=
  { s with fc := { s.fc with cells := sparsePut (fun _ => {}) s.fc.cells n c } }

/-- Bits of CELL_STATE (R238). -/
def csDriving : Nat := 0
def csGovCut : Nat := 1
def csGovWindow : Nat := 2
def csHold : Nat := 3
def csSafe : Nat := 4
def csMismatch : Nat := 5
def csChatter : Nat := 6
def csBankFault : Nat := 7

def State.cellFlag (s : State) (n i : Nat) : Bool := s.flag (Obj.cellState n) i
def State.setCellFlag (s : State) (n i : Nat) (b : Bool) : State := s.setFlag (Obj.cellState n) i b

/-- The logical level of a physical one, and the other way round (R220). -/
def State.inverted (s : State) (n : Nat) (l : Bool) : Bool := l != (s.obj (Obj.cellInvert n) == 1)

/-- LEVEL: the logical level at the ball (R237). -/
def State.levelNow (s : State) (n : Nat) : Bool := s.inverted n (s.cell n).ball

/-- The cell's TDC captures (R219, R220, R229). -/
def State.captures (s : State) (n : Nat) : Bool :=
  s.fc.loaded && s.obj (Obj.cellMode n) ≠ 0 && s.obj (Obj.bankVolt (n / 40)) ≠ 0 && !s.cellFlag n csBankFault

/-! ## Capture records (R122, R123, R221) -/

/-- The readers enabled for a cell's records (R123): the SOE writer, barred by chatter, and the owning engine. -/
def State.soeReads (s : State) (n : Nat) : Bool :=
  (s.obj (Obj.cellReaders n)).testBit 0 && s.obj Obj.soeCapacity ≠ 0 && !s.cellFlag n csChatter
def State.engineReads (s : State) (n : Nat) : Bool :=
  (s.obj (Obj.cellReaders n)).testBit 1 && s.obj (Obj.cellOwner n) ≤ 63

/-- A record is written with the stamp of `cross`, the crossing at the ball, less the capture path delay (R122, R223). Two edges
less than 2 ns apart make one record; a full queue keeps the latest level (R123). -/
def State.record (s : State) (n : Nat) (level : Bool) (cross : Nat) : State :=
  let c := s.cell n
  let close := c.lastCross.any (fun t => cross < t + 512)
  let stamp := ((cross : Int) - s.delay256 n).toNat / 64 * 64
  let sampled := match c.sampled.getLast? with
    | some (t, _) => if close then c.sampled.dropLast ++ [(t, level)] else c.sampled ++ [(stamp / 256, level)]
    | none => [(stamp / 256, level)]
  let c := { c with lastLevel := some level, lastCross := some cross, sampled := sampled }
  if close ∧ c.queue ≠ [] then
    s.setCell n { c with queue := c.queue.dropLast ++ (c.queue.getLast?.map (fun r => { r with level := level, lost := true })).toList }
  else
    let seq := (c.edgeSeq + 1) % 2 ^ 16
    let r : Capture := { time := stamp, level := level, notAgreed := !s.agreed, notTraceable := !s.traceable, edgeSeq := seq,
                         soe := s.soeReads n, engine := s.engineReads n }
    let q := if !r.soe ∧ !r.engine then c.queue
             else if 8 ≤ c.queue.length then c.queue.dropLast ++ [{ r with lost := true }] else c.queue ++ [r]
    let t := s.setCell n { c with edgeSeq := seq, queue := q }
    { t with fc := { t.fc with wakes := t.fc.wakes ++ [n] } }

/-- A record leaves the queue once every reader has read it (R123). -/
def readOut (q : List Capture) : List Capture := q.filter (fun r => r.soe || r.engine)

/-- Records wait only for the readers that are enabled: those of a reader that a commit has taken away count as read (R123). -/
def State.dropReaders (s : State) (n : Nat) : State :=
  let c := s.cell n
  let soe := (s.obj (Obj.cellReaders n)).testBit 0 && s.obj Obj.soeCapacity ≠ 0
  if c.queue = [] then s
  else s.setCell n { c with queue := readOut (c.queue.map (fun r => { r with soe := r.soe && soe, engine := r.engine && s.engineReads n })) }

/-- The captures of a cell start anew: the level at the ball is the one to go by until the first record (R131, R221). -/
def State.restartLevels (s : State) (n : Nat) : State := s.setCell n { s.cell n with lastLevel := none, sampleLevel := none }

/-- The level of a cell after the captures taken so far: that of the last record, else the one before the edge that a filter holds back,
else that at the ball. -/
def State.capturedLevel (s : State) (n : Nat) : Bool :=
  let c := s.cell n
  match c.lastLevel, c.waiting, c.burst with
  | some l, _, _ => l
  | none, some (_, l), _ => !l
  | none, none, some (_, _, _) => c.burstFrom
  | none, none, none => s.levelNow n

/-- The oldest record the owning engine has not read. -/
def State.unread (s : State) (n : Nat) : Option Capture := (s.cell n).queue.find? (·.engine)

/-- The engine reads the oldest unread record. -/
def State.readOne (s : State) (n : Nat) : State :=
  let c := s.cell n
  match c.queue.findIdx? (·.engine) with
  | some i => s.setCell n { c with queue := readOut (c.queue.mapIdx (fun j r => if j = i then { r with engine := false } else r)) }
  | none => s

/-- Every unread record counts as read by the engine. -/
def State.flushCaptures (s : State) (n : Nat) : State :=
  let c := s.cell n
  s.setCell n { c with queue := readOut (c.queue.map (fun r => { r with engine := false })) }

/-- The 16 bytes of a capture record, as a number (R122). -/
def captureBits (cell : Nat) (r : Capture) : Nat :=
  r.time / 256 + r.time % 256 * 2 ^ 64 + ofBool r.level * 2 ^ 72 + ofBool r.lost * 2 ^ 73 + ofBool r.notAgreed * 2 ^ 74 +
  ofBool r.notTraceable * 2 ^ 75 + cell * 2 ^ 80 + r.edgeSeq * 2 ^ 96

/-- One record for the SOE writer alone, at the end of a block by chatter, with LOST set and the level at that moment (R222). -/
def State.soeOnly (s : State) (n : Nat) (time : Nat) : State :=
  let c := s.cell n
  let seq := (c.edgeSeq + 1) % 2 ^ 16
  let r : Capture := { time := time, level := s.levelNow n, lost := true, notAgreed := !s.agreed, notTraceable := !s.traceable,
                       edgeSeq := seq, soe := true }
  if (s.obj (Obj.cellReaders n)).testBit 0 ∧ s.obj Obj.soeCapacity ≠ 0 then
    s.setCell n { c with edgeSeq := seq, queue := if 8 ≤ c.queue.length then c.queue.dropLast ++ [r] else c.queue ++ [r] }
  else s

/-- The seconds of ring time before second `q` are over: CHATTER clears at the end of a second that stayed below the limit (R222), which is the
one counted last or the one after it. -/
def State.chatterUpTo (s : State) (n q : Nat) : State :=
  let c := s.cell n
  if q ≤ c.second then s else
  let limit := s.obj (Obj.chatterLimit n)
  let below : Bool := limit == 0 || c.rawEdges < limit
  let t := s.setCell n { c with second := q, rawEdges := 0 }
  if s.cellFlag n csChatter ∧ (below ∨ c.second + 1 < q) then
    (t.setCellFlag n csChatter false).soeOnly n ((c.second + if below then 1 else 2) * sec * 256)
  else t

/-- The ball of a cell changes at `cross`; the seconds before it end with the level that it had (R222). -/
def State.moveBall (s : State) (n : Nat) (phys : Bool) (cross : Nat) : State :=
  let t := if s.captures n then s.chatterUpTo n (cross / 256 / sec) else s
  t.setCell n { t.cell n with ball := phys, ballAt := cross }

/-- A raw edge counts in EDGES and towards the chatter limit of its second (R221, R222). -/
def State.rawEdge (s : State) (n cross : Nat) : State :=
  let t := (s.bump (Obj.edges n)).chatterUpTo n (cross / 256 / sec)
  let c := t.cell n
  let limit := t.obj (Obj.chatterLimit n)
  let t := t.setCell n { c with rawEdges := c.rawEdges + 1 }
  if limit ≠ 0 ∧ limit ≤ c.rawEdges + 1 then t.setCellFlag n csChatter true else t

/-- An edge of the logical level at the ball passes the filter of the cell (R221). -/
def State.edge (s : State) (n : Nat) (level : Bool) (cross : Nat) : State :=
  if !s.captures n then s else
  let t := s.rawEdge n cross
  let c := t.cell n
  match t.obj (Obj.cellFilter n) with
  | 1 =>
    (match c.waiting with
     | some (t0, l0) =>
       if cross ≤ t0 + t.obj (Obj.glitchNs n) * 256 then t.setCell n { c with waiting := none }
       else
         let u := t.setCell n { c with waiting := none }
         let u := u.record n l0 t0
         u.setCell n { u.cell n with waiting := some (cross, level) }
     | none => t.setCell n { c with waiting := some (cross, level) })
  | 2 =>
    t.setCell n { c with burst := some ((match c.burst with | some (f, _, _) => f | none => cross), cross, level)
                         burstFrom := if c.burst.isNone then !level else c.burstFrom }
  | _ => t.record n level cross

/-- An edge at the ball of a cell, at `time` in 1/256 ns. -/
def fieldCellEdge (s : State) (n : Nat) (phys : Bool) (time : Nat) : State :=
  let t := s.waitUntil256 time
  let c := t.cell n
  if c.ball = phys then t else (t.moveBall n phys time).edge n (t.inverted n phys) time

/-- GLITCH_NS after an edge with no opposite edge (R221). -/
def glitchExpiry (s : State) (n : Nat) : State :=
  let c := s.cell n
  match c.waiting with
  | some (t0, l) =>
    let t := s.waitUntil (ceilDiv t0 256 + s.obj (Obj.glitchNs n))
    (t.setCell n { c with waiting := none }).record n l t0
  | none => s

/-- The level has been stable for DEBOUNCE_US (R221). -/
def debounceStable (s : State) (n : Nat) : State :=
  let c := s.cell n
  match c.burst with
  | some (first, last, l) =>
    let t := s.waitUntil (ceilDiv last 256 + s.obj (Obj.debounceUs n) * us)
    let t := t.setCell n { c with burst := none }
    if l ≠ c.lastLevel.getD c.burstFrom then t.record n l (if s.obj (Obj.debounceStamp n) = 1 then last else first) else t
  | none => s

/-- A second of ring time ends for a cell (R222). -/
def chatterSecond (s : State) (n : Nat) : State :=
  let q := (s.cell n).second + 1
  (s.waitUntil (q * sec)).chatterUpTo n q

/-! ## The energy governor (R231 to R234) -/

/-- The logical level that releases energy. -/
def State.activeLevel (s : State) (n : Nat) : Bool := s.obj (Obj.activeLevel n) == 1

/-- The governor is on for the cell. -/
def State.governed (s : State) (n : Nat) : Bool := s.obj (Obj.drivePower n) ≠ 0

/-- Energy of an active interval from `a` to `b` ns falls into the sixteen newest buckets, by number (R233). -/
def addEnergy (buckets : List (Nat × Nat)) (len power a b : Nat) : List (Nat × Nat) :=
  let cur := b / len
  let kept := buckets.filter (fun e => cur < e.1 + 16)
  (List.range 16).foldl (fun l i =>
    if i ≤ cur then
      let k := cur - i
      let lo := max a (k * len)
      let hi := min b ((k + 1) * len)
      if lo < hi then sparsePut (fun _ => 0) l k (sparseGet (fun _ => 0) l k + power * (hi - lo)) else l
    else l) kept

/-- The energy in the window that ends in bucket `cur`, pJ. -/
def windowPj (buckets : List (Nat × Nat)) (cur : Nat) : Nat :=
  ((buckets.filter (fun e => cur < e.1 + 16 ∧ e.1 ≤ cur)).map (·.2)).foldl (· + ·) 0

/-- The governor's account of a cell up to `t` ns: every active interval counts, whatever drives it (R231). -/
def State.account (s : State) (n t : Nat) : State :=
  let c := s.cell n
  if t ≤ c.integrated then s else
  let power := s.obj (Obj.drivePower n)
  if c.driven = some (s.activeLevel n) ∧ s.governed n then
    s.setCell n { c with integrated := t, eventPj := c.eventPj + power * (t - c.integrated),
                         buckets := addEnergy c.buckets (s.bucketNs n) power c.integrated t }
  else s.setCell n { c with integrated := t }

/-- WINDOW_ENERGY in nJ at the time the account stands at (R231, R233). -/
def State.windowNj (s : State) (n : Nat) : Nat :=
  let c := s.cell n
  windowPj c.buckets (max c.integrated s.now / s.bucketNs n) / 1000

/-- GOV_WINDOW follows the window (R233). -/
def State.refreshWindow (s : State) (n : Nat) : State :=
  let budget := s.obj (Obj.windowBudget n)
  s.setCellFlag n csGovWindow (s.governed n && budget ≠ 0 && budget * 1000 ≤ s.windowNj n)

/-- No activation is allowed while GOV_WINDOW or GOV_CUT is set (R233, R234). -/
def State.govAllows (s : State) (n : Nat) : Bool :=
  !s.governed n || (!s.cellFlag n csGovWindow && !s.cellFlag n csGovCut)

/-! ## Driving a cell (R225, R227) -/

/-- The cell is driven to a logical level, or released, at `at256`: a transition less than 4 ns after the previous one is moved and
counted (R227); the ball follows, and the read-back is captured (R220), so that OUT_MISMATCH clears (R228). A bank in fault drives nothing
(R219). -/
def State.drive (s : State) (n : Nat) (wanted : Option Bool) (at256 : Nat) : State :=
  let c := s.cell n
  let level := if s.cellFlag n csBankFault then none else wanted
  if c.driven = level then s.account n (at256 / 256) else
  let early := c.lastTransition.any (fun t => at256 < t + 1024)
  let when' := if early then c.lastTransition.getD 0 + 1024 else at256
  let t := if early then s.bump (Obj.placeShifted n) else s
  let t := t.account n (when' / 256)
  let starts := level = some (t.activeLevel n)
  let c := t.cell n
  let c := { c with driven := level, lastTransition := some when', eventPj := if starts then 0 else c.eventPj }
  let t := (t.setCell n c).setCellFlag n csDriving level.isSome
  match level with
  | none => t
  | some l =>
    let t := t.setCellFlag n csMismatch false
    let phys := t.inverted n l
    if c.ball = phys then t else (t.moveBall n phys when').edge n l when'

/-- A placement of a level: an activation needs the governor's leave (R234); a placement to the inactive level clears GOV_CUT
unless it is latched. The Boolean says whether it was performed. -/
def State.place (s : State) (n : Nat) (level : Option Bool) (at256 : Nat) : State × Bool :=
  let s := (s.account n (at256 / 256)).refreshWindow n
  let act := s.activeLevel n
  if level = some act ∧ (s.cell n).driven ≠ some act ∧ !s.govAllows n then (s, false)
  else
    let t := if level = some (!act) ∧ s.obj (Obj.govRelatch n) = 0 then s.setCellFlag n csGovCut false else s
    (t.drive n level at256, true)

/-- The level of SAFE_VALUE (R229). -/
def State.safeLevel (s : State) (n : Nat) : Option Bool :=
  match s.obj (Obj.safeValue n) with
  | 0 => some false
  | 1 => some true
  | _ => none

/-- SAFE says whether the output stands at its safe value (R238). -/
def State.markSafe (s : State) (n : Nat) : State := s.setCellFlag n csSafe ((s.cell n).driven == s.safeLevel n)

/-- The output goes to its safe value (R229, R230), where it waits for a command; an activation that the governor bars is not performed
(R234). -/
def State.toSafe (s : State) (n : Nat) : State :=
  let t := (((s.place n (s.safeLevel n) s.now256).1).markSafe n).setCellFlag n csHold false
  t.setCell n { t.cell n with parked := true }

/-- The governor cuts an output (R232, R234): it goes to the inactive level, and the cut is counted and logged as R473 lays out.
`budget` is 1 where the event's was exceeded, 2 where the window's was. -/
def State.cut (s : State) (n budget : Nat) : State :=
  let limit := if budget = 1 then s.obj (Obj.eventBudget n) else s.obj (Obj.windowBudget n)
  let energy := if budget = 1 then (s.cell n).eventPj / 1000000 else s.windowNj n / 1000
  let t := s.drive n (some (!s.activeLevel n)) s.now256
  let t := if s.cellFlag n csSafe then t.markSafe n else t
  let c := t.cell n
  let t := t.setCell n { c with placements := c.placements.map (fun p => { p with cut := p.cut || p.trailing.isSome }) }
  ((t.setCellFlag n csGovCut true).bump (Obj.govCuts n)).logEvent (0x3000 + n) (0x0F + budget) n 0 (limit + energy * 2 ^ 32)

/-- The budgets of a governed cell are checked at the present time (R231 to R233). -/
def State.checkBudgets (s : State) (n : Nat) : State :=
  if !s.governed n then s else
  let t := (s.account n s.now).refreshWindow n
  let c := t.cell n
  if c.driven = some (t.activeLevel n) then
    let eb := t.obj (Obj.eventBudget n)
    let wb := t.obj (Obj.windowBudget n)
    if eb ≠ 0 ∧ eb * 1000 < c.eventPj / 1000 then t.cut n 1
    else if wb ≠ 0 ∧ wb * 1000 < t.windowNj n then t.cut n 2
    else t
  else t

/-- The check that the governor makes every 1 µs (R231). -/
def govCheck (s : State) : State :=
  let t := s.waitUntil ((s.now / us + 1) * us)
  forEach (t.fc.cells.map (·.1)) (fun t n => t.checkBudgets n) t

/-- A bucket boundary of a cell (R233). -/
def bucketRoll (s : State) (n : Nat) : State :=
  let len := s.bucketNs n
  (s.waitUntil ((s.now / len + 1) * len)).checkBudgets n

/-- WINDOW_LENGTH changes at a commit: the whole window goes into the bucket of the new grid that holds the commit (R233). `whole` is
the energy in the old window, pJ. -/
def State.rebucket (s : State) (n whole : Nat) : State :=
  let c := s.cell n
  (s.setCell n { c with buckets := sparsePut (fun _ => 0) [] (s.now / s.bucketNs n) whole }).refreshWindow n

/-- EVENT_ENERGY and WINDOW_ENERGY in µJ, rounded down, at the present time (R237). -/
def State.eventEnergyNow (s : State) (n : Nat) : Nat := ((s.account n s.now).cell n).eventPj / 1000000
def State.windowEnergyNow (s : State) (n : Nat) : Nat := (s.account n s.now).windowNj n / 1000

/-! ## Output commands (R224 to R227) -/

/-- The level that an ACTION places first: none for hi-Z. -/
def State.actionLevel (s : State) (n action : Nat) : Option Bool :=
  match action with
  | 0 | 3 => some false
  | 1 | 2 => some true
  | _ => s.safeLevel n

/-- A result of a placement: LAST_RESULT, and the execution result of the work it is, or the SME output's (R225). -/
def State.cellResult (s : State) (n : Nat) (o : CellOrigin) (status : Nat) : State :=
  let t := s.put (Obj.lastResult n) status
  match o with
  | .object => t
  | .work r => t.finishWork r status
  | .sme e => t.completeAt (.sme e) 0 status
  | .engine m f => if status = stDone then t else (t.localLateError f status).completeAt (.engine m) 0 status

def State.dropPlacement (s : State) (n : Nat) (p : Placement) : State :=
  let c := s.cell n
  s.setCell n { c with placements := c.placements.erase p }

/-- The placements of a cell whose leading edge is due at `at256` (R225, R227): each is checked against the claim; of those that pass the
last stands, the earlier ones complete with no effect on the ball. -/
def State.fireAt (s : State) (n at256 : Nat) : State :=
  let group := (s.cell n).placements.filter (fun p => p.trailing.isNone && p.ball == at256)
  let holder := s.holderNow
  let passes (p : Placement) : Bool := p.commander == holder && holder ≠ 0
  let stands := (group.filter passes).getLast?
  forEach group (fun t p =>
    if !passes p then ((t.dropPlacement n p).bump Obj.claimRefusals).cellResult n p.origin stClaimLost
    else if some p ≠ stands then (t.dropPlacement n p).cellResult n p.origin stDone
    else
      let (u, ok) := t.place n (t.actionLevel n p.action) at256
      if !ok then (u.dropPlacement n p).cellResult n p.origin stHeldStatus
      else
        let u := (u.setCellFlag n csHold false).setCellFlag n csSafe false
        let u := u.setCell n { u.cell n with parked := false }
        if p.action = 2 ∨ p.action = 3 then
          let c := u.cell n
          u.setCell n { c with placements := c.placements.map (fun x =>
            if x = p then { x with trailing := some (at256 + p.width) } else x) }
        else (u.dropPlacement n p).cellResult n p.origin stDone) s

/-- The earliest trailing edge of a running pulse. -/
def nextTrailing (l : List Placement) : Option Placement :=
  l.foldl (fun b p => match b, p.trailing with
    | _, none => b
    | none, some _ => some p
    | some x, some t => if t < x.trailing.getD 0 then some p else b) none

/-- The earliest leading edge. -/
def nextLeading (l : List Placement) : Option Nat :=
  (l.filter (·.trailing.isNone)).foldl (fun b p => match b with | none => some p.ball | some t => some (min t p.ball)) none

/-- A pulse's trailing edge is placed, and gives the command its result: HELD if the governor cut the pulse (R234). -/
def State.trail (s : State) (n : Nat) (p : Placement) : State :=
  let at256 := p.trailing.getD 0
  let (t, ok) := s.place n (some (p.action == 3)) at256
  (t.dropPlacement n p).cellResult n p.origin (if ok ∧ !p.cut then stDone else stHeldStatus)

/-- The trailing edges due up to `at256`, which act first (R227). -/
def State.trailUpTo : Nat → State → Nat → Nat → State
  | 0, s, _, _ => s
  | fuel + 1, s, n, at256 =>
    match nextTrailing (s.cell n).placements with
    | some p => if p.trailing.getD 0 ≤ at256 then State.trailUpTo fuel (s.trail n p) n at256 else s
    | none => s

/-- The next placement of a cell at its ball instant. -/
def outputPlacement (s : State) (n : Nat) : State :=
  match nextLeading (s.cell n).placements with
  | some at256 =>
    let t := s.waitUntil256 at256
    (State.trailUpTo (t.cell n).placements.length t n at256).fireAt n at256
  | none => s

/-- The next trailing edge of a cell. -/
def pulseTrailingEdge (s : State) (n : Nat) : State :=
  match nextTrailing (s.cell n).placements with
  | some p => (s.waitUntil256 (p.trailing.getD 0)).trail n p
  | none => s

/-- Every pending placement is withdrawn: each completes with HELD (R224). -/
def State.cancelPlacements (s : State) (n : Nat) : State :=
  let l := (s.cell n).placements
  let t := s.setCell n { s.cell n with placements := [] }
  forEach l (fun t p => t.cellResult n p.origin stHeldStatus) t

/-- Pending placements are discarded with a status for the EVENTs among them, those of the node's own engines too, LAST_RESULT staying (R220, R229). -/
def State.discardPlacements (s : State) (n status : Nat) : State :=
  let l := (s.cell n).placements
  let t := s.setCell n { s.cell n with placements := [] }
  forEach l (fun t p => match p.origin with
    | .work r => t.finishWork r status
    | .sme e => t.completeAt (.sme e) 0 status
    | .engine m f => (t.localLateError f status).completeAt (.engine m) 0 status
    | .object => t) t

/-- The instant of an output command in 1/256 ns (R224): that of the EVENT, or INSTANT, 0 meaning the apply instant A(k + 1). -/
def State.commandInstant (s : State) (b : List Byte) (event : Option Nat) : Nat :=
  let ns := match event with
    | some t => t
    | none => if leAt b 0 8 = 0 then s.sampleOf (s.epochAt s.now + 1) + s.applyNs else leAt b 0 8
  ns * 256 + leAt b 8 1

/-- The ball instant of a command (R223), on the 250 ps grid. -/
def State.ballInstant (s : State) (n instant : Nat) : Nat := ((instant : Int) - s.delay256 (0x200 + n)).toNat / 64 * 64

/-- The checks of R225 in their order, less the length of an object write, which R470 has checked; none where the command
passes. A cell of a bank whose fault is lasting answers INTERNAL (R16; R16 names no place in the order: DEDUCED, log entry 154). -/
def State.cellRefusal (s : State) (n : Nat) (b : List Byte) (commander : Nat) (event : Option Nat) : Option Nat :=
  let action := leAt b 9 1
  if !s.serving ∨ s.quiet then some stHeldStatus
  else if s.obj (Obj.cellMode n) ≠ 2 ∨ s.obj (Obj.cellOwner n) ≠ 0xFF then some stReadOnly
  else if b.length ≠ 16 then some stTypeMismatch
  else if leAt b 8 1 % 64 ≠ 0 ∨ leAt b 10 2 ≠ 0 ∨ 5 < action ∨ ((action = 2 ∨ action = 3) ∧ leAt b 12 4 = 0) then some stOutOfRange
  else if action ≠ 5 ∧ (s.now + 60 * sec) * 256 < s.commandInstant b event then some stOutOfRange
  else if commander = 0 ∨ commander ≠ s.holderNow then some stClaimLost
  else if s.obj (Obj.bankState (n / 40)) = 3 then some stInternal
  else none

/-- A command that has passed its checks is queued, a cancel acts at once (R224, R226, R227). None: the queue is full and the command
is not taken. Session work has met its late-apply policy before. -/
def State.takeCommand (s : State) (n : Nat) (b : List Byte) (commander : Nat) (o : CellOrigin) (event : Option Nat)
    (session : Bool) : State × Option Nat :=
  let action := leAt b 9 1
  let c := s.cell n
  if action = 5 then (s.cancelPlacements n, some stDone)
  else if 4 ≤ c.placements.length then (s, if session then none else some stRetry)
  else
    let ball := s.ballInstant n (s.commandInstant b event)
    let late := ball < s.now256
    let t := if late ∧ !session then s.bump (Obj.lateOut n) else s
    let ball := if late then s.now256 else ball
    let p : Placement := { action := action, ball := ball, width := leAt b 12 4 * 256, commander := commander, origin := o }
    let t := t.setCell n { c with placements := c.placements ++ [p] }
    ((if late then t.fireAt n ball else t), some stDone)

/-- The read-back of an output differs from its driven level for 1 µs, the first 100 ns after a transition left out (R228). Where no edge has
told that the ball differs, it does from now on, which the TDC captures (log entry 178). -/
def outMismatch (s : State) (n : Nat) : State :=
  match (s.cell n).driven with
  | some l =>
    if s.obj (Obj.cellMode n) = 2 ∧ !s.cellFlag n csMismatch then
      let t := if s.levelNow n = l then fieldCellEdge s n (s.inverted n (!l)) s.now256 else s
      let c := t.cell n
      let from' := max c.ballAt ((c.lastTransition.map (· + 25600)).getD 0)
      let u := t.waitUntil256 (from' + us * 256)
      (u.setCellFlag n csMismatch true).bump (Obj.cellMismatches n)
    else s
  | none => s

/-! ## Hold policy and node state (R229, R230) -/

/-- A fabric-owned output applies its hold policy (R230): once, since it then waits for a command wherever the governor may put it (R234). -/
def State.applyHold (s : State) (n : Nat) : State :=
  if s.obj (Obj.holdPolicy n) = 0 then s.setCellFlag n csHold true
  else if (s.cell n).parked then s
  else s.toSafe n

/-- Whether a cell is an output that the fabric drives. -/
def State.fabricOutput (s : State) (n : Nat) : Bool := s.obj (Obj.cellMode n) == 2 && s.obj (Obj.cellOwner n) == 0xFF

/-- MISSED apply instants have passed without a live claim (R103, R230); not inside a freeze (R89), nor in the HOLD power state, whose
outputs stay (R413). -/
def cellHoldPolicy (s : State) (n : Nat) : State :=
  if s.serving ∧ !s.holding ∧ s.fabricOutput n ∧ s.liveCommanders = [] ∧ !s.frozen ∧ s.obj (Obj.cellMissed n) ≤ s.ring.sinceNoClaim then
    s.applyHold n
  else s

/-- The hold policies of the cells that are due now. -/
def State.holdDue (s : State) : State := forEach (List.range 320) cellHoldPolicy s

/-- The outputs of MODE 2. -/
def State.outputCells (s : State) : List Nat := (List.range 320).filter (fun n => s.obj (Obj.cellMode n) == 2)

/-- The node leaves RUNNING or DEGRADED for HELD (R229): pending placements are discarded, outputs go to their safe values. -/
def State.cellsHeld (s : State) : State :=
  forEach s.outputCells (fun t n => (t.discardPlacements n stHeldStatus).toSafe n) s

/-- The voltages of BANK_VOLT, mV (R218). -/
def bankMv (v : Nat) : Nat := match v with | 1 => 1800 | 2 => 2500 | 3 => 3300 | _ => 0

/-- A supply within ±10 % of the selected voltage (R219). -/
def State.inBand (s : State) (b mv : Nat) : Bool :=
  let nom := bankMv (s.obj (Obj.bankVolt b))
  9 * nom ≤ 10 * mv && 10 * mv ≤ 11 * nom

/-- A bank comes into use with its supply in its band, and what VIO_MV reads there is open (R219, R239, log entry 179). -/
def State.bankGood (s : State) (b : Nat) : State :=
  let nom := bankMv (s.obj (Obj.bankVolt b))
  ((s.put (Obj.bankState b) 1).put (Obj.vioMv b) (nom - nom / 10 + s.freeNow % (nom / 5 + 1))).tookFree

/-- The configuration is loaded (R229): the banks in use are good, outputs stand at their safe values, inputs capture. -/
def State.cellsLoaded (s : State) : State :=
  let t := { s with fc := { s.fc with loaded := true } }
  let t := forEach (List.range 8) (fun t b => if t.obj (Obj.bankVolt b) = 0 then t else t.bankGood b) t
  forEach t.outputCells (fun t n => if t.obj (Obj.bankVolt (n / 40)) = 0 then t else t.toSafe n) t

/-- Every cell high-impedance, as in any reset, OFF, HOUSEKEEPING and RECOVERY (R229); queues and filters are lost. The
governor's account stays (R234). -/
def State.cellsReleased (s : State) : State :=
  let t := forEach (s.fc.cells.map (·.1)) (fun t n =>
    let c := (t.account n t.now).cell n
    (t.account n t.now).setCell n { ball := c.ball, ballAt := c.ballAt, integrated := c.integrated, eventPj := c.eventPj, buckets := c.buckets }) s
  { t with fc := { t.fc with bankSince := [], wakes := [], loaded := false, soe := { queue := [], wasFull := s.fc.soe.wasFull } } }

/-- MODE or OWNER of a cell has changed at a commit (R220): its placements are cancelled, an EVENT among them executes as READ_ONLY. -/
def State.cellChanged (s : State) (n : Nat) : State :=
  let t := (s.discardPlacements n stReadOnly).restartLevels n
  let t := t.setCell n { t.cell n with waiting := none, burst := none, parked := false }
  if t.obj (Obj.cellMode n) = 2 ∧ t.obj (Obj.bankVolt (n / 40)) ≠ 0 ∧ t.fc.loaded then t.toSafe n
  else ((t.drive n none t.now256).setCellFlag n csSafe false).setCellFlag n csHold false

/-- Objects `subs` of a cell's record have changed at a commit, `old` being the state before it: the governor's account up to the commit
is that of the old settings (R231 to R233), and the driven level stays the logical one (R220). -/
def State.cellCommitted (s old : State) (n : Nat) (subs : List Nat) : State :=
  let was := (old.account n s.now).cell n
  let c := s.cell n
  let starts := c.driven = some (s.activeLevel n) ∧ c.driven ≠ some (old.activeLevel n)
  let t := s.setCell n { c with integrated := was.integrated, eventPj := if starts then 0 else was.eventPj, buckets := was.buckets }
  let t := if subs.contains 18 then t.rebucket n (windowPj was.buckets (s.now / old.bucketNs n)) else t
  let t := if subs.contains 3 then
      let c := t.cell n
      (t.setCell n { c with ball := (c.driven.map (t.inverted n)).getD c.ball }).restartLevels n
    else t
  let t := if subs.contains 1 ∨ subs.contains 2 then t.cellChanged n
           else if subs.contains 11 ∧ t.cellFlag n csSafe then t.toSafe n
           else t
  (t.dropReaders n).refreshWindow n

/-! ## Banks (R218, R219) -/

def bankCells (b : Nat) : List Nat := (List.range 40).map (fun i => 40 * b + i)

/-- The bias that a cell's ball has: 0 none, 1 pull-up, 2 pull-down (R229, R237). -/
def State.biasNow (s : State) (n : Nat) : Nat :=
  if s.fc.loaded ∧ s.obj (Obj.cellMode n) ≠ 0 ∧ s.obj (Obj.bankVolt (n / 40)) ≠ 0 then s.obj (Obj.bias n) else 0

/-- A bank's supply has been out of its band for 10 µs (R219); the second before the fault is lasting runs from the moment it left. -/
def bankFault (s : State) (b mv : Nat) : State :=
  let t := s.put (Obj.vioMv b) mv
  if s.obj (Obj.bankVolt b) = 0 ∨ 2 ≤ s.obj (Obj.bankState b) ∨ s.inBand b mv then t
  else
    let t := t.put (Obj.bankState b) 2
    let t := { t with fc := { t.fc with bankSince := sparsePut (fun _ => 0) t.fc.bankSince b (t.now - 10 * us) } }
    forEach (bankCells b) (fun t n =>
      let t := t.drive n none t.now256
      (t.setCell n { t.cell n with waiting := none, burst := none }).setCellFlag n csBankFault true) t

/-- The supply has not returned within 1 s of leaving the band (R219). -/
def bankFaultLasting (s : State) (b : Nat) : State :=
  if s.obj (Obj.bankState b) = 2 then
    let t := s.waitUntil (sparseGet (fun _ => 0) s.fc.bankSince b + sec)
    (t.put (Obj.bankState b) 3).lastingFault (0x3200 + b) 0x06 b 0 0 false
  else s

/-- The cells of a bank resume: each output goes to its safe value until it is next commanded (R219). -/
def State.bankResume (s : State) (b : Nat) : State :=
  let t := s.put (Obj.bankState b) 1
  forEach (bankCells b) (fun t n =>
    let t := (t.setCellFlag n csBankFault false).restartLevels n
    if t.obj (Obj.cellMode n) = 2 ∧ t.fc.loaded then t.toSafe n else t) t

/-- The supply is back in its band: within 1 s a transient fault ends and is counted, a lasting one closes after 1 s in the band (R219). -/
def bankSupplyReturn (s : State) (b mv : Nat) : State :=
  let t := s.put (Obj.vioMv b) mv
  if !s.inBand b mv then t else
  let since := sparseGet (fun _ => 0) s.fc.bankSince b
  let t := if since + sec < s.now then bankFaultLasting t b else t
  if t.obj (Obj.bankState b) = 2 then
    ((t.bump (Obj.bankFaults b)).transientFault (0x3200 + b) 0x07 b 0 0 false).bankResume b
  else if t.obj (Obj.bankState b) = 3 then
    ((t.waitUntil (t.now + sec)).closeFault (0x3200 + b) 0x06 b).bankResume b
  else t

/-- BANK_VOLT of a bank has been applied (R218): an unused bank is not checked, and its cells stay high-impedance. -/
def State.bankChanged (s : State) (b : Nat) : State :=
  if s.obj (Obj.bankVolt b) = 0 then
    let t := (s.closeFault (0x3200 + b) 0x06 b).put (Obj.bankState b) 0
    forEach (bankCells b) (fun t n => (t.drive n none t.now256).setCellFlag n csBankFault false) t
  else if s.obj (Obj.bankState b) = 0 then s.bankGood b else s

/-- Class P has been loaded anew in an activation, `old` being the state before it (R43): banks and cells whose objects have come out otherwise
take them as at a commit. -/
def State.cellsReloaded (s old : State) : State :=
  let t := forEach (List.range 8) (fun t b => if t.obj (Obj.bankVolt b) = old.obj (Obj.bankVolt b) then t else t.bankChanged b) s
  let keys := ((s.objs ++ old.objs).map (·.1)).filter (fun k => 0x300000 ≤ k ∧ k < 0x314000 ∧ 0 < k % 256 ∧ k % 256 < 20 ∧ s.obj k ≠ old.obj k)
  forEach ((keys.map (· / 256)).eraseDups) (fun t ix =>
    t.cellCommitted old (ix - 0x3000) ((keys.filter (fun k => k / 256 = ix)).map (· % 256))) t

/-! ## The sequence-of-events log (R235, R236) -/

/-- The log is full and may not overwrite: new records are dropped, and STOPPED reads 1 (R236). -/
def State.soeStops (s : State) : Bool :=
  s.obj Obj.soeCapacity ≠ 0 && s.obj Obj.soeFullMode == 1 && s.obj Obj.soeWritten == s.obj Obj.soeRead + s.obj Obj.soeCapacity

/-- One record goes into the log, or is dropped (R236). -/
def State.soeAppend (s : State) (rec' : Nat) : State :=
  let cap := s.obj Obj.soeCapacity
  let w := s.obj Obj.soeWritten
  if cap = 0 then s
  else if s.soeStops then
    let t := s.bump Obj.soeDrops
    { t with fc := { t.fc with soe := { t.fc.soe with wasFull := true } } }
  else
    let r := if s.fc.soe.wasFull then rec' ||| 2 ^ 73 else rec'
    let t := s.dramWrite (s.obj Obj.soeBase + 16 * (w % cap)) (leBytes 16 r)
    let t := t.put Obj.soeWritten ((w + 1) % 2 ^ 64)
    { t with fc := { t.fc with soe := { t.fc.soe with wasFull := false } } }

/-- The SOE writer takes the oldest unread record of a cell into its queue, dropping it where the queue is full, or writes the oldest
record of its queue to the log (R235). -/
def soeRecordWrite (s : State) (source : Option Nat) : State :=
  match source with
  | some n =>
    let c := s.cell n
    (match c.queue.findIdx? (·.soe) with
     | none => s
     | some i =>
       let r := c.queue[i]?.getD { time := 0, level := false, notAgreed := false, notTraceable := false, edgeSeq := 0 }
       let read (j : Nat) (x : Capture) : Capture := if j = i then { x with soe := false } else x
       let c : Cell := { c with queue := readOut (c.queue.mapIdx read) }
       let mark (b : Bool) : Cell := { c with soeLost := b }
       if 4096 ≤ s.fc.soe.queue.length then (s.setCell n (mark true)).bump Obj.soeDrops
       else
         let t := s.setCell n (mark false)
         let r' : Capture := { r with lost := r.lost || c.soeLost }
         let e := (n, captureBits n r')
         { t with fc := { t.fc with soe := { t.fc.soe with queue := t.fc.soe.queue ++ [e] } } })
  | none =>
    match s.fc.soe.queue with
    | [] => s
    | (_, r) :: rest => { s with fc := { s.fc with soe := { s.fc.soe with queue := rest } } }.soeAppend r

/-- The log is emptied and laid out anew for the SOE_SIZE in force (R24, R236). -/
def State.soeReset (s : State) : State :=
  let size := s.obj Obj.soeSize
  let t := ((s.put Obj.soeWritten 0).put Obj.soeRead 0).put Obj.soeCapacity (size * 65536)
  let t := t.put Obj.soeBase (if size = 0 then 0 else 0x18400000)
  { t with fc := { t.fc with soe := {} } }

/-- The regions of DRAM are set anew from an SOE_SIZE that has been loaded (R24, R236): where it differs from the one in force the log is laid
out anew. -/
def State.soeReloaded (s : State) : State := if s.obj Obj.soeCapacity = s.obj Obj.soeSize * 65536 then s else s.soeReset

/-- The marker record of a start through LOADING (R236). -/
def State.soeMarker (s : State) : State :=
  s.soeAppend (s.now % 2 ^ 64 + ofBool (!s.agreed) * 2 ^ 74 + ofBool (!s.traceable) * 2 ^ 75 + 0x1FE * 2 ^ 80 +
    s.obj Obj.startCount % 2 ^ 16 * 2 ^ 96)

/-! ## Where a cell's ball stands (R449, R451) -/

/-- The rows of the ball grid from the top: 19 letters, the same after A, and BA (R449). -/
def gridRows : List String :=
  let l := ["A", "B", "C", "D", "E", "F", "G", "H", "J", "K", "L", "M", "N", "P", "T", "U", "V", "W", "Y"]
  l ++ l.map (fun c => "A" ++ c) ++ ["BA"]

/-- Row and column of a field cell's ball (R451): the eight rows of its bank, five columns from the edge. -/
def cellBall (n : Nat) : String × Nat :=
  let b := n / 40
  let i := n % 40
  (gridRows.getD (8 * (b % 4) + i / 5) "", if b < 4 then i % 5 + 1 else 39 - i % 5)

end Sys2Proof.Machine
end

