-- ==== Sys2Proof/Machine/Operands.lean ====
section
/-! DEFINITION. The operand forms of messages: bit fields of a payload in both byte orders, BCD digits, and the conversions between
F32 and whole numbers (R342 to R344). -/
namespace Sys2Proof.Machine

/-- The payload bit that holds bit `i` of a field (R342): upward from its least significant bit; in a big-endian field, past the top
of a byte at bit 0 of the preceding one. None where there is no preceding byte. -/
def fieldPos (be : Bool) (pos i : Nat) : Option Nat :=
  if !be then some (pos + i)
  else
    let k := (pos % 8 + i) / 8
    if k ≤ pos / 8 then some ((pos / 8 - k) * 8 + (pos % 8 + i) % 8) else none

/-- Bit `k` of a payload. -/
def bitAt (l : List Byte) (k : Nat) : Bool := (l[k / 8]?.map (fun b => b.toNat.testBit (k % 8))).getD false

/-- Bit `k` of a payload set to `v`. -/
def setBitAt (l : List Byte) (k : Nat) (v : Bool) : List Byte :=
  l.modify (k / 8) (fun b => if v then b ||| BitVec.ofNat 8 (2 ^ (k % 8)) else b &&& BitVec.ofNat 8 (255 - 2 ^ (k % 8)))

/-- Whether a field lies inside a payload of `n` bytes. -/
def fieldFits (n : Nat) (be : Bool) (pos w : Nat) : Bool :=
  (List.range w).all (fun i => match fieldPos be pos i with | some k => k < 8 * n | none => false)

/-- The bits of a field as a number; none where the field lies outside the payload. -/
def getField (l : List Byte) (be : Bool) (pos w : Nat) : Option Nat :=
  if fieldFits l.length be pos w then
    some ((List.range w).foldl (fun a i => match fieldPos be pos i with
      | some k => a + ofBool (bitAt l k) * 2 ^ i
      | none => a) 0)
  else none

/-- A field takes the low bits of `v`. -/
def putField (l : List Byte) (be : Bool) (pos w v : Nat) : List Byte :=
  (List.range w).foldl (fun l i => match fieldPos be pos i with
    | some k => setBitAt l k (v.testBit i)
    | none => l) l

/-- The value of BCD digits, or none where a digit is above 9 (R342). -/
def bcdValue : Nat → Nat → Option Nat
  | 0, _ => some 0
  | n + 1, v =>
    if 9 < v % 16 then none else (bcdValue n (v / 16)).map (fun r => r * 10 + v % 16)

/-- `n` BCD digits of `v`. -/
def bcdBits : Nat → Nat → Nat
  | 0, _ => 0
  | n + 1, v => v % 10 + 16 * bcdBits n (v / 10)

/-- `num ÷ den` rounded to the nearest whole number, ties to even. -/
def roundHalfEven (num : Int) (den : Nat) : Int :=
  let q := num.natAbs / den
  let r := num.natAbs % den
  let q := if 2 * r > den ∨ (2 * r = den ∧ q % 2 = 1) then q + 1 else q
  if num < 0 then -(q : Int) else q

/-- An F32 times 2^16, to the nearest whole number, ties to even; none for a NaN. An infinity is beyond every range (R342). -/
def f32Fixed (w : Nat) : Option Int :=
  if f32Special w ∧ bits w 22 0 ≠ 0 then none
  else
    let (neg, m, e) := f32Parts w
    let v : Int := if f32Special w then 2 ^ 64 else roundHalfEven (m * 2 ^ (e + 16) : Nat) (2 ^ 149)
    some (if neg then -v else v)

/-- The F32 nearest to `v` × 2^−f, ties to even (R344). -/
def f32OfInt (v : Int) (f : Nat) : Nat := f32Round (v < 0) v.natAbs 149 f

end Sys2Proof.Machine
end

