-- ==== Sys2Proof/Machine/Check.lean ====
section
/-! DEFINITION. The check-value units: contexts, streams, memory jobs and their faults (file 13). -/
namespace Sys2Proof.Machine

/-! ## The computation (R350 to R352) -/

/-- The parameters of unit `u`. -/
def State.ckParams (s : State) (u : Nat) : CkParams :=
  { width := s.obj (Obj.ckWidth u), poly := s.obj (Obj.ckPoly u), init := s.obj (Obj.ckInit u), xorout := s.obj (Obj.ckXorout u),
    refin := s.obj (Obj.ckRefin u) == 1, refout := s.obj (Obj.ckRefout u) == 1 }

/-- Bytes fed into the running value (R351). -/
def CkParams.feed (c : CkParams) (reg : Nat) (l : List Byte) : Nat := crcRun c.width c.poly c.refin reg l

/-- The result of a running value (R351). -/
def CkParams.result (c : CkParams) (reg : Nat) : Nat := crcEnd c.width c.refout c.xorout reg

/-- The parameters that validation accepts (R350). -/
def CkParams.good (c : CkParams) : Bool :=
  1 ≤ c.width && c.width ≤ 32 && c.poly.testBit 0 && c.poly < 2 ^ c.width && c.init < 2 ^ c.width && c.xorout < 2 ^ c.width

/-! ## Contexts (R358, R359) -/

def State.ckCtx (s : State) (u c : Nat) : CkContext := sparseGet (fun _ => {}) s.ck.contexts (u * 64 + c)

def State.setCkCtx (s : State) (u c : Nat) (x : CkContext) : State :=
  { s with ck := { s.ck with contexts := sparsePut (fun _ => {}) s.ck.contexts (u * 64 + c) x } }

/-- The running value of a context. -/
def State.ctxValueNow (s : State) (u c : Nat) : Nat := (s.ckCtx u c).value.getD (s.obj (Obj.ckInit u))

def State.ckJob (s : State) (u : Nat) : Option CkJob := sparseGet (fun _ => none) s.ck.jobs u

def State.setCkJob (s : State) (u : Nat) (j : Option CkJob) : State :=
  { s with ck := { s.ck with jobs := sparsePut (fun _ => none) s.ck.jobs u j } }

/-- The job of a unit ends with its contexts cleared behind it, where it runs on one that `hit` names (R359). -/
def State.voidJob (s : State) (u : Nat) (hit : Nat → Bool) : State :=
  match s.ckJob u with
  | some j => if hit j.ctx then s.setCkJob u (some { j with written := none, voided := true }) else s
  | none => s

/-- Every context of a unit returns to INIT, counter 0, unsynchronised, the one of a job in progress after the job (R359). -/
def State.ckClearContexts (s : State) (u : Nat) : State :=
  ({ s with ck := { s.ck with contexts := s.ck.contexts.filter (fun e => e.1 / 64 ≠ u) } }).voidJob u (fun _ => true)

/-- One context of a unit does. -/
def State.ckClearContext (s : State) (u c : Nat) : State := (s.setCkCtx u c {}).voidJob u (· == c)

/-! ## Streams (R354) -/

/-- The entries of a unit's stream table, each as a 128-bit number. -/
def streamEntries (b : List Byte) : List Nat := (List.range (b.length / 16)).map (fun i => leAt b (16 * i) 16)

def stKind (w : Nat) : Nat := bits w 127 124
def stTarget (w : Nat) : Nat := bits w 123 116
def stSel (w : Nat) : Nat := bits w 115 108
def stCover (w : Nat) : Nat := bits w 107 96
def stCoverLen (w : Nat) : Nat := bits w 95 84
def stCheckByte (w : Nat) : Nat := bits w 83 72
def stCheckBe (w : Nat) : Bool := bit w 71
def stSelAny (w : Nat) : Bool := bit w 68
def stAliveWidth (w : Nat) : Nat := bits w 67 64
def stAliveBit (w : Nat) : Nat := bits w 63 50
def stIdLen (w : Nat) : Nat := bits w 49 48
def stDataId (w : Nat) : Nat := bits w 47 32
def stMaxGap (w : Nat) : Nat := bits w 31 24

/-- The entry of context `c` of unit `u`; 0 where there is none. -/
def State.streamEntry (s : State) (u c : Nat) : Nat := (streamEntries (s.blob (Obj.streams u))).getD c 0

/-- The stream that a message belongs to, as its unit and entry: KIND and TARGET agree, and for KIND 2 and 3 the selector, unless SEL_ANY
is set (R354). -/
def State.streamOf (s : State) (kind target sel : Nat) : Option (Nat × Nat) :=
  (List.range 24).findSome? (fun u =>
    ((streamEntries (s.blob (Obj.streams u))).findIdx? (fun w =>
      stKind w == kind && stTarget w == target && (kind == 1 || kind == 4 || stSelAny w || stSel w == sel))).map (fun i => (u, i)))

/-- The check over a message (R355, R356): the DATA_ID bytes, then the covered bytes, from INIT. -/
def ckOver (c : CkParams) (w : Nat) (msg : List Byte) : Nat :=
  c.result (c.feed c.init (leBytes (stIdLen w) (stDataId w) ++ slice msg (stCover w) (stCoverLen w)))

/-- The bytes of the check field. -/
def ckFieldLen (c : CkParams) : Nat := ceilDiv c.width 8

/-- Whether a message is shorter than the covered range, the check field or the counter. -/
def ckTooShort (c : CkParams) (w : Nat) (msg : List Byte) : Bool :=
  msg.length < stCover w + stCoverLen w || msg.length < stCheckByte w + ckFieldLen c ||
  (stAliveWidth w ≠ 0 && 8 * msg.length < stAliveBit w + stAliveWidth w)

/-- A unit is out of service. -/
def State.ckOos (s : State) (u : Nat) : Bool := s.flag Obj.ckOosMap u

/-- A comparison of R360 fails: `again` says that its repeat fails too. -/
def State.ckFault (s : State) (u : Nat) (again : Bool) : State :=
  if again then (s.setFlag Obj.ckOosMap u true).lastingFault 0x7000 2 u 0 0 false
  else (s.bump (Obj.selfcheckTransient u)).transientFault (0x7060 + u) 0x08 u 0 0 false

/-- A protecting stream acts on a message that its path takes (R355). `upset` tells how the comparison of step 3 comes out: 0 equal,
1 a mismatch whose repeat passes, 2 a mismatch whose repeat fails, which discards the message (log entry 37). None: the message is discarded. -/
def State.protect (s : State) (kind target : Nat) (msg : List Byte) (upset : Nat) : State × Option (List Byte) :=
  match s.streamOf kind target 0 with
  | none => (s, some msg)
  | some (u, i) =>
    let w := s.streamEntry u i
    let c := s.ckParams u
    if s.ckOos u then ((if kind = 4 then s.bump (Obj.ckShort u) else s), none)
    else if ckTooShort c w msg then ((s.bump (Obj.ckShort u)).logEvent (0x7060 + u) 0x07 u 0 0, none)
    else
      let x := s.ckCtx u i
      let alive := (x.alive + 1) % 2 ^ stAliveWidth w
      let msg := if stAliveWidth w = 0 then msg else putField msg false (stAliveBit w) (stAliveWidth w) alive
      let r := ckOver c w msg
      let field := if stCheckBe w then beBytes (ckFieldLen c) r else leBytes (ckFieldLen c) r
      let msg := overlay msg (stCheckByte w) field
      let t := if stAliveWidth w = 0 then s else s.setCkCtx u i { x with alive := alive }
      if upset = 2 then (t.ckFault u true, none)
      else (((if upset = 1 then t.ckFault u false else t).bump (Obj.ckProtected u)), some msg)

/-- What a checking stream makes of a message for the SME (R356): delivered as it is, delivered with INVALID, or discarded. -/
inductive CkVerdict where
  | pass | invalid | discard
  deriving DecidableEq, Repr

/-- A checking stream acts on a message that goes to the SME (R356). -/
def State.checkStream (s : State) (kind target sel : Nat) (msg : List Byte) : State × CkVerdict :=
  match s.streamOf kind target sel with
  | none => (s, .pass)
  | some (u, i) =>
    let w := s.streamEntry u i
    let c := s.ckParams u
    if s.ckOos u then (s, .invalid)
    else if ckTooShort c w msg then (s.bump (Obj.ckShort u), .invalid)
    else
      let field := slice msg (stCheckByte w) (ckFieldLen c)
      if (if stCheckBe w then beVal field else leVal field) ≠ ckOver c w msg then (s.bump (Obj.checkFails u), .invalid)
      else if stAliveWidth w = 0 then (s.bump (Obj.ckVerified u), .pass)
      else
        let x := s.ckCtx u i
        let n := (getField msg false (stAliveBit w) (stAliveWidth w)).getD 0
        let d := (n + 2 ^ stAliveWidth w - x.alive) % 2 ^ stAliveWidth w
        let t := s.setCkCtx u i { x with alive := n, synced := true }
        if !x.synced then (t.bump (Obj.ckVerified u), .pass)
        else if d = 0 then (s.bump (Obj.repeats u), .discard)
        else if d ≤ stMaxGap w then ((t.bump (Obj.ckVerified u)).bumpBy (Obj.ckMissed u) (d - 1), .pass)
        else (t.bump (Obj.ckGaps u), .invalid)

/-! ## Validation (R350, R354) -/

/-- An entry that validation accepts, with the unit's check field length; `size` is the size of an output buffer. -/
def streamEntryGood (len : Nat) (size : Nat → Nat) (w : Nat) : Bool :=
  let k := stKind w
  let cs := stCover w
  let ce := cs + stCoverLen w
  let kb := stCheckByte w
  let aw := stAliveWidth w
  let ab := stAliveBit w
  bits w 70 69 == 0 && bits w 23 0 == 0 &&
  (k == 0 ||
   (k ≤ 4 && (k ≠ 2 || stTarget w < 16) && (k ≠ 3 || stTarget w < 32) && (k ≠ 4 || stTarget w < 64) &&
    (k == 2 || k == 3 || (stSel w == 0 && !stSelAny w)) && cs < 2048 && stCoverLen w ≤ 2048 && aw ≤ 8 && stIdLen w ≤ 2 &&
    (ce ≤ kb || kb + len ≤ cs || stCoverLen w == 0) &&
    (aw == 0 || ((ab + aw ≤ 8 * kb || 8 * (kb + len) ≤ ab) && 1 ≤ stMaxGap w && stMaxGap w < 2 ^ aw)) &&
    (k ≠ 1 || (let n := size (stTarget w)
               ce ≤ n && kb + len ≤ n && (aw == 0 || ab + aw ≤ 8 * n)))))

/-- Two entries that could take the same message (R354). -/
def streamClash (a b : Nat) : Bool :=
  stKind a ≠ 0 && stKind a == stKind b && stTarget a == stTarget b &&
  (stKind a == 1 || stKind a == 4 || stSelAny a || stSelAny b || stSel a == stSel b)

/-- Whether no two entries of the node's tables clash. -/
def streamsApart : List Nat → Bool
  | [] => true
  | a :: r => !r.any (streamClash a) && streamsApart r

/-! ## Memory jobs (R357) -/

/-- The end of a job with its running value; a value written meanwhile wins (R358). -/
def State.jobDone (s : State) (u : Nat) (j : CkJob) (reg : Nat) : State :=
  let saved := match j.written with
    | some v => some v
    | none => if j.voided then none else some reg
  let t := s.setCkCtx u j.ctx { s.ckCtx u j.ctx with value := saved }
  (((t.setCkJob u none).put (Obj.jobState u) 2).put (Obj.jobResult u) (j.params.result reg)).put (Obj.jobStatus u) stDone

/-- The end of a job with no result. -/
def State.jobFail (s : State) (u status : Nat) : State :=
  let t := match s.ckJob u with
    | some { written := some v, ctx := c, .. } => s.setCkCtx u c { s.ckCtx u c with value := some v }
    | _ => s
  ((t.setCkJob u none).put (Obj.jobState u) 3).put (Obj.jobStatus u) status

/-- Whether a job may run over an address range: SPACE 0x2 or 0x3 of this node, inside the space (R357). -/
def State.jobRange (s : State) (addr len : Nat) : Bool :=
  let sp := addrSpace addr
  (addrNode addr == 0 || addrNode addr == s.ownId) &&
  ((sp == 2 && addrOffset addr + len ≤ 2 ^ 32) || (sp == 3 && addrOffset addr + len ≤ s.dramSize))

/-- A write of JOB_CMD: 1 start, 2 continue, 3 abandon. -/
def State.jobCommand (s : State) (u cmd : Nat) : State × Nat :=
  let running := (s.ckJob u).isSome
  if cmd = 3 then (if running then s.jobFail u stRetry else s, stDone)
  else if running then (s, stRetry)
  else if s.ckOos u then (s, stInternal)
  else
    let addr := s.obj (Obj.jobAddr u) % 2 ^ 48
    let len := s.obj (Obj.jobLen u)
    let c := s.obj (Obj.jobCtx u)
    if stKind (s.streamEntry u c) ≠ 0 ∨ !s.jobRange addr len then (s, stOutOfRange)
    else
      let p := s.ckParams u
      let j : CkJob := { params := p, addr := addr, len := len, ctx := c, reg := if cmd = 1 then p.init else s.ctxValueNow u c }
      if len = 0 then (s.jobDone u j j.reg, stDone)
      else ((s.setCkJob u (some j)).put (Obj.jobState u) 1, stDone)

/-- A job ends: over DRAM with the bytes that stand there, over host memory with what the bridge has read, or with the read's status. -/
def jobComplete (s : State) (u status : Nat) (host : List Byte) : State :=
  match s.ckJob u with
  | none => s
  | some j =>
    if s.ckOos u then s.jobFail u stInternal
    else if addrSpace j.addr = 3 then s.jobDone u j (j.params.feed j.reg (s.dramView (addrOffset j.addr) j.len))
    else if !s.flag Obj.hbEnable 1 then s.jobFail u stPathDown
    else if status ≠ stDone then s.jobFail u (knownStatus status)
    else s.jobDone u j (j.params.feed j.reg (padTo j.len host))

/-! ## Objects and resets (R358, R359) -/

/-- A write to CTX_VALUE: with a job on the context it takes effect when the job has saved it. -/
def State.ctxValueWrite (s : State) (u v : Nat) : State × Nat :=
  let c := s.obj (Obj.ctxSelect u)
  if 2 ^ s.obj (Obj.ckWidth u) ≤ v then (s, stOutOfRange)
  else match s.ckJob u with
    | some j =>
      if j.ctx = c then (s.setCkJob u (some { j with written := some v }), stDone)
      else (s.setCkCtx u c { s.ckCtx u c with value := some v }, stDone)
    | none => (s.setCkCtx u c { s.ckCtx u c with value := some v }, stDone)

/-- A write to CTX_ALIVE. -/
def State.ctxAliveWrite (s : State) (u v : Nat) : State × Nat :=
  let c := s.obj (Obj.ctxSelect u)
  if 2 ^ stAliveWidth (s.streamEntry u c) ≤ v then (s, stOutOfRange)
  else (s.setCkCtx u c { s.ckCtx u c with alive := v, synced := true }, stDone)

/-- CK_CMD 1: a LOCAL reset of a unit. -/
def State.ckLocalReset (s : State) (u : Nat) : State :=
  let t := s.ckClearContexts u
  match t.ckJob u with
  | some _ => ((t.setCkJob u none).put (Obj.jobState u) 3).put (Obj.jobStatus u) stInternal
  | none => t

/-- CLEAR of a unit's counters. -/
def State.ckClearNow (s : State) (u : Nat) : State :=
  s.clearKeys [Obj.ckProtected u, Obj.ckVerified u, Obj.checkFails u, Obj.repeats u, Obj.ckMissed u, Obj.ckGaps u, Obj.ckShort u,
    Obj.selfcheckTransient u]

/-- A reset of the node: jobs are lost; contexts are kept by WARM, WDG and ACT resets, and cleared by POR and PIN resets. -/
def State.ckReset (s : State) (cold : Bool) : State :=
  { s with ck := { contexts := if cold then [] else s.ck.contexts, jobs := [] } }

end Sys2Proof.Machine
end

