-- ==== Sys2Proof/Machine/Fifos.lean ====
section
/-! DEFINITION. The engines' transmit and receive FIFOs, reservations and flow-control cells (file 09). -/
namespace Sys2Proof.Machine

def State.engine (s : State) (n : Nat) : Engine := sparseGet (fun _ => {}) s.eng.engines n

def State.setEngine (s : State) (n : Nat) (e : Engine) : State :=
  { s with eng := { s.eng with engines := sparsePut (fun _ => {}) s.eng.engines n e } }

def State.fifo (s : State) (n : Nat) : Fifo := sparseGet (fun _ => {}) s.eng.fifos n

/-- A wake source of an engine acts (R257). -/
def State.wakeEngine (s : State) (n : Nat) : State := s.setEngine n { s.engine n with wake := true }

/-- The event happens that ends a stall of the reason `why` (R253). -/
def State.stallEvent (s : State) (n why : Nat) : State :=
  if s.obj (Obj.stallReason n) % 128 = why then s.setEngine n { s.engine n with stallEnded := true } else s

/-- Transmit credit returns, and a word arrives: a stall for it ends, and the engine wakes (R253, R257). -/
def State.creditBack (s : State) (n : Nat) : State := (s.stallEvent n 2).wakeEngine n
def State.wordArrived (s : State) (n : Nat) : State := (s.stallEvent n 3).wakeEngine n

/-! ## Fill and credit (R269, R275, R277) -/

/-- Words the transmit FIFO holds. -/
def Fifo.txHeld (f : Fifo) : Nat := f.opened.length + sumOf (f.closed.map (·.words.length))

def Fifo.txCredit (f : Fifo) : Nat := 1024 - f.txHeld

/-- Words reserved and not yet arrived. -/
def Fifo.reserved (f : Fifo) : Nat := sumOf (f.granted.map (·.words.length))

/-- Free credit of the receive FIFO. -/
def Fifo.rxFree (f : Fifo) : Nat := 1024 - f.rx.length - f.reserved

/-! ## Watermarks and flow-control cells (R278, R279) -/

/-- The ABOVE flag of a fill, with hysteresis; a high watermark of 0 disables the pair. -/
def aboveNow (was : Bool) (fill hwm lwm : Nat) : Bool :=
  if hwm = 0 then false else if hwm ≤ fill then true else if fill ≤ lwm then false else was

/-- A flow-control cell follows its flag while the node serves, through its placer (R279). -/
def State.fcDrive (s : State) (cell : Nat) (above polarity : Bool) : State :=
  if s.serving ∧ cell < 320 then
    let t := (((s.place cell (some (above == polarity)) s.now256).1).setCellFlag cell csSafe false).setCellFlag cell csHold false
    t.setCell cell { t.cell cell with parked := false }
  else s

/-- Both flow-control cells of an engine follow their flags. -/
def State.fcFollow (s : State) (n : Nat) : State :=
  let t := s.fcDrive (s.obj (Obj.txFcCell n)) (s.flag (Obj.fifoFlags n) 0) (s.flag (Obj.fcPolarity n) 0)
  t.fcDrive (s.obj (Obj.rxFcCell n)) (s.flag (Obj.fifoFlags n) 1) (s.flag (Obj.fcPolarity n) 1)

/-- Every flow-control cell follows its flag, as it does again after anything that has put it at its safe value in RUNNING or DEGRADED (R279). -/
def State.fcFollowAll (s : State) : State := if s.serving then forEach (List.range 64) (fun t n => t.fcFollow n) s else s

/-- FIFO_FLAGS of a FIFO. `freshTx` and `freshRx` set the ABOVE flag from the fill alone, as at a commit or a flush (R278, R280). -/
def State.flagsOf (s : State) (n : Nat) (f : Fifo) (freshTx freshRx : Bool) : Nat :=
  let hw := s.obj (Obj.txHwm n)
  let hr := s.obj (Obj.rxHwm n)
  let tx := if freshTx then hw ≠ 0 && hw ≤ f.txHeld
            else aboveNow (s.flag (Obj.fifoFlags n) 0) f.txHeld hw (s.obj (Obj.txLwm n))
  let rx := if freshRx then hr ≠ 0 && hr ≤ f.rx.length
            else aboveNow (s.flag (Obj.fifoFlags n) 1) f.rx.length hr (s.obj (Obj.rxLwm n))
  ofBool tx + 2 * ofBool rx + 4 * ofBool (f.opened ≠ []) + 8 * ofBool (f.requests ≠ [])

/-- The FIFOs of an engine become `f`: the flags follow the net fill, and the flow-control cells the flags. -/
def State.setFifo (s : State) (n : Nat) (f : Fifo) (freshTx freshRx : Bool := false) : State :=
  let flags := s.flagsOf n f freshTx freshRx
  let moved := flags % 4 ≠ s.obj (Obj.fifoFlags n) % 4
  let t := { s with eng := { s.eng with fifos := sparsePut (fun _ => {}) s.eng.fifos n f } }
  let t := t.put (Obj.fifoFlags n) flags
  if moved then t.fcFollow n else t

/-! ## The transmit side (R270, R271) -/

/-- The open message closes; with none open nothing happens (R249, R270). -/
def State.closeMessage (s : State) (n : Nat) : State :=
  let f := s.fifo n
  if f.opened = [] then s else
  let cmdr := if s.obj (Obj.txCommander n) = 0 then s.holderNow else s.obj (Obj.txCommander n)
  s.setFifo n { f with opened := [], closed := f.closed ++ [{ words := f.opened, closedAt := s.now, commander := cmdr }] }

/-- Words are pushed one by one; a message that reaches 512 words closes by itself (R270). The credit has been checked. -/
def State.pushWords (s : State) (n : Nat) : List Nat → State
  | [] => s
  | w :: r =>
    let f := s.fifo n
    let t := s.setFifo n { f with opened := f.opened ++ [w] }
    (if 512 ≤ f.opened.length + 1 then t.closeMessage n else t).pushWords n r

/-- The bytes of words, least significant byte first (R268). -/
def wordsBytes (l : List Nat) : List Byte := l.flatMap (leBytes 4)

/-- The words of a payload (R268). -/
def bytesWords (b : List Byte) : List Nat := (List.range (b.length / 4)).map (fun i => leAt b (4 * i) 4)

/-- The address of an engine's next message (R271). -/
def State.txAddress (s : State) (n : Nat) : Nat :=
  let dest := s.obj (Obj.txDest n) % 2 ^ 48
  if s.obj (Obj.txAddrMode n) = 1 then dest + (s.fifo n).sentBytes % max 1 (s.obj (Obj.txSpan n)) else dest

/-- The frame of a closed message (R271); POSTED of class 2 is set by the session. -/
def State.txFrame (s : State) (n : Nat) (m : TxMessage) : Frame :=
  let a := s.txAddress n
  let cls := s.obj (Obj.txClass n)
  { cls := cls, type := if cls = 0 then tyEvent else tyWrite, src := s.ownId,
    dst := if addrNode a = 0 then s.ownId else addrNode a, posted := cls == 3, commander := m.commander,
    address := a, payload := wordsBytes m.words,
    param := if cls = 0 then (m.closedAt + s.obj (Obj.txLead n) * us) % 2 ^ 48 else 0 }

/-- A message leaves the FIFO and its credit returns (R271): its frame has been admitted, which TX_FRAMES counts, or will never be. -/
def State.messageGone (s : State) (n no : Nat) (admitted : Bool) : State :=
  let f := s.fifo n
  match f.closed.findIdx? (fun m => m.offered && m.no == no) with
  | none => s
  | some i =>
    let t := s.setFifo n { f with closed := f.closed.eraseIdx i }
    (if admitted then t.bump (Obj.fifoTxFrames n) else t).creditBack n

/-- The port of the block that consumes a frame of this node's own; an output stage takes its frame at ACCEPT. -/
def localPort (f : Frame) : Nat := (releasePort f).getD portAccept

/-- Whether a frame is a write to a receive FIFO, and of which engine (R22, R274). -/
def fifoTarget (f : Frame) : Option Nat :=
  if f.type = tyWrite ∧ addrSpace f.address = 4 then some (addrOffset f.address / 256 % 64) else none

/-- A write asks for its reservation, in its turn (R275). -/
def State.requestFifo (s : State) (n : Nat) (w : FifoWrite) : State :=
  let f := s.fifo n
  s.setFifo n { f with requests := f.requests ++ [w] }

/-- An engine that an issued frame belongs to is remembered for its late errors (R271). -/
def State.noteEngineFrame (s : State) (f : Frame) (n : Nat) : State :=
  { s with acc := { s.acc with class3 := lastN 1024 (s.acc.class3 ++ [(f.dst, f.address, n)]) } }

/-- Whether writes to an engine's receive FIFO are refused with HELD: it is not enabled, or has no program (R276). -/
def State.rxRefuses (s : State) (n : Nat) : Bool := s.obj (Obj.runEnable n) = 0 || s.blob (Obj.engProgram n) = []

/-- The status a write to a receive FIFO is refused with, or none (R274, R276). -/
def State.fifoRefusal (s : State) (n : Nat) (f : Frame) : Option Nat :=
  if f.payload.length % 4 ≠ 0 ∨ 2048 < f.payload.length then some stOutOfRange
  else if f.payload ≠ [] ∧ s.rxRefuses n then some stHeldStatus
  else none

/-- The offer of a block's frame, which an engine's message `no` may be, for the outputs `outs`. -/
def blockOffer (i : Issuer) (f : Frame) (no : Nat) (outs : List Nat) (unreserved : Bool) : Offered :=
  { port := issuerPort i, cls := f.cls, packet := .ring f, outs := outs, unreserved := unreserved, message := no
    engine := match i with | .engine n => some n | _ => none }

/-- The first of the statuses of two checks. -/
def firstRefusal (a : Option Nat) (b : Unit → Option Nat) : Option Nat :=
  match a with
  | some st => some st
  | none => b ()

/-- A request completed with CLAIM_LOST is counted (R106). -/
def State.countRefusal (s : State) (status : Nat) : State := if status = stClaimLost then s.bump Obj.claimRefusals else s

/-- What R33 refuses a block's write with that drives no output. -/
def State.claimStops (s : State) (commander : Nat) : Option Nat :=
  if 8 < commander then some stOutOfRange
  else if s.node = stRecovery ∨ s.node = stLoading then some stHeldStatus
  else if s.serving ∧ (commander = 0 ∨ commander ≠ s.holderNow) then some stClaimLost
  else none

/-- A frame of a local block for this node goes through the switch to its consumer. A write to a receive FIFO asks for its reservation, and
its block holds it under R151 until it has it (R275); one refused becomes a LOCAL late error (R33, R271, R276). -/
def State.offerLocal (s : State) (i : Issuer) (f : Frame) (no : Nat) : State :=
  let go (outs : List Nat) (unreserved : Bool) : State :=
    { s with sw := { s.sw with entering := s.sw.entering ++ [blockOffer i f no outs unreserved] } }
  match fifoTarget f with
  | none => go [localPort f] false
  | some m =>
    (match firstRefusal (s.claimStops f.commander) (fun _ => s.fifoRefusal m f) with
     | some st =>
       let t := if s.fifoRefusal m f = some stHeldStatus ∧ st = stHeldStatus then s.bump (Obj.rxRefused m) else s
       let t := (t.countRefusal st).completeAt i 0 st
       (match i with
        | .engine n => (t.messageGone n no false).localLateError f st
        | _ => t)
     | none => (go [portEngines] true).requestFifo m { source := .block i f, words := bytesWords f.payload })

/-- The oldest closed message not yet offered is offered to the switch as one frame (R271), after its protecting stream has acted on it
(R355); `selfCheck` is how that stream's own comparison comes out. -/
def engineFrameOffer (s : State) (n selfCheck : Nat) : State :=
  let f := s.fifo n
  if s.obj (Obj.txMode n) ≠ 0 then s else
  match f.closed.findIdx? (!·.offered) with
  | none => s
  | some i =>
    let m := f.closed[i]?.getD { words := [], closedAt := 0, commander := 0 }
    let fr := s.txFrame n m
    let (s, msg) := s.protect 4 n fr.payload selfCheck
    let fr := { fr with payload := msg.getD [] }
    let no := s.acc.issueNo
    let t := s.setFifo n { f with closed := f.closed.mapIdx (fun j x => if j = i then { x with offered := true, no := no } else x),
                                  sentBytes := f.sentBytes + 4 * m.words.length }
    let next : State := { t with acc := { t.acc with issueNo := no + 1 } }
    if msg = none then t.messageGone n no false
    else if fr.dst = s.ownId then (next.noteEngineFrame fr n).offerLocal (.engine n) fr no
    else if !s.reaches fr.dst then ((t.messageGone n no false).bump (Obj.txFails n)).localLateError fr stPathDown
    else if fr.cls = 3 then
      let t := next.noteEngineFrame fr n
      { t with sw := { t.sw with entering := t.sw.entering ++ [blockOffer (.engine n) fr no [] false] } }
    else t.issue fr (.engine n)

/-! ## Polled reading (R273) -/

/-- A read of TX_POLL: the value, and the state after the read. -/
def State.txPollRead (s : State) (n : Nat) : State × Nat :=
  let f := s.fifo n
  if s.obj (Obj.txMode n) = 0 then (s, 0) else
  match f.closed with
  | [] => (s, 0)
  | m :: r =>
    match m.words with
    | [] => (s, 0)
    | w :: ws =>
      let closed := if ws = [] then r else { m with words := ws } :: r
      let t := (s.setFifo n { f with closed := closed }).creditBack n
      let t := if ws = [] then t.bump (Obj.fifoTxFrames n) else t
      (t, w + sumOf (closed.map (·.words.length)) * 2 ^ 32 + 2 ^ 48 + ofBool (ws = []) * 2 ^ 49)

/-! ## Reservations and the receive side (R274 to R277) -/

/-- Accepted writes to a receive FIFO that have come to their turn in their session, older incarnations first, ask for their reservation
(R181, R190, R275). -/
def State.gatherRequests (s : State) : State :=
  forEach (s.acc.sessions.filter (fun e => e.role == 2 && e.cls2 && (s.workEntry e.peer true).any (·.same e))) (fun t e =>
    match e.nextToRelease with
    | some w =>
      let r : WorkRef := ⟨e.peer, e.cls2, e.incarnation, w.record.seq⟩
      (match w.frame with
       | some f =>
         (match fifoTarget f with
          | some n =>
            if w.stands ∧ w.record.length ≠ 0 ∧ !(t.fifo n).requests.any (fun q => q.source == .work r) then
              t.requestFifo n { source := .work r, words := bytesWords f.payload }
            else t
          | none => t)
       | none => t)
    | none => t) s

/-- Accepted work, while its session holds it. -/
def State.workOf (s : State) (r : WorkRef) : Option Work :=
  (s.inEntry r).bind (fun e => e.work.find? (fun w => w.record.seq == r.seq))

/-- The frame of accepted work, while its payload is present. -/
def State.workFrame (s : State) (r : WorkRef) : Option Frame := (s.workOf r).bind (·.frame)

/-- Accepted work is marked as released to its consumer (R190). -/
def State.markReleased (s : State) (r : WorkRef) : State :=
  match s.inEntry r with
  | some e => s.setSession { e with work := e.work.map (fun w => if w.record.seq = r.seq then { w with released := true } else w) }
  | none => s

/-- The held frame of a block has its reservation: the switch may admit it (R275). -/
def State.nowReserved (s : State) (f : Frame) : State :=
  let mine (o : Offered) : Bool := o.unreserved && o.packet == .ring f
  match s.sw.held.findIdx? (fun h => mine h.offered) with
  | some k => { s with sw := { s.sw with held := s.sw.held.mapIdx (fun j h =>
      if j = k then { h with offered := { h.offered with unreserved := false } } else h) } }
  | none =>
    match s.sw.entering.findIdx? mine with
    | some k => { s with sw := { s.sw with entering := s.sw.entering.mapIdx (fun j o => if j = k then { o with unreserved := false } else o) } }
    | none => s

/-- The oldest request is granted as soon as its whole word count fits (R275); its frame may enter the switch. -/
def reservationGrant (s : State) (n : Nat) : State :=
  let f := s.fifo n
  match f.requests with
  | [] => s
  | w :: r =>
    if f.rxFree < w.words.length then s
    else
      let t := s.setFifo n { f with requests := r, granted := f.granted ++ [w] }
      match w.source with
      | .work q =>
        let t := t.markReleased q
        (match s.workFrame q with
         | some fr => { t with sw := { t.sw with entering := t.sw.entering ++
             [{ port := portAccept, cls := fr.cls, packet := .ring fr, outs := [portEngines] }] } }
         | none => s.setFifo n { f with requests := r })
      | .block _ fr => t.nowReserved fr
      | .ring _ => t

/-- The frame of a reserved write. -/
def State.reservedFrame (s : State) (w : FifoWrite) : Option Frame :=
  match w.source with
  | .work q => s.workFrame q
  | .block _ fr => some fr
  | .ring fr => some fr

/-- The words of the reserved write that has come through the switch first enter the receive FIFO whole (R274). -/
def rxWordsArrive (s : State) (n : Nat) : State :=
  let f := s.fifo n
  match f.granted.find? (fun w => !(s.reservedFrame w).any s.inSwitch) with
  | none => s
  | some w =>
    let t := (s.setFifo n { f with granted := f.granted.erase w, rx := f.rx ++ w.words }).wordArrived n
    let t := match s.reservedFrame w with | some fr => t.takeFrame fr | none => t
    match w.source with
    | .work q => t.finishWork q stDone
    | .block i _ => t.completeAt i 0 stDone
    | .ring _ => t

/-- A class-3 WRITE from the ring tries for its reservation once, and with it enters the switch towards the engines (R201, R275). The status
it is refused with, or none. -/
def State.tryFifo (s : State) (n : Nat) (f : Frame) : State × Option Nat :=
  match s.fifoRefusal n f with
  | some st => (if st = stHeldStatus then s.bump (Obj.rxRefused n) else s, some st)
  | none =>
    let w := bytesWords f.payload
    let q := s.fifo n
    if q.requests ≠ [] ∨ q.rxFree < w.length then (s.bump (Obj.rxRefused n), some stRetry)
    else
      let t := s.setFifo n { q with granted := q.granted ++ [{ source := .ring f, words := w }] }
      let o : Offered := { port := portAccept, cls := f.cls, packet := .ring f, outs := [portEngines] }
      ({ t with sw := { t.sw with entering := t.sw.entering ++ [o] } }, none)

/-! ## Flushes and resets (R280) -/

/-- The open message is discarded and counted. -/
def State.discardOpen (s : State) (n : Nat) : State :=
  let f := s.fifo n
  if f.opened = [] then s else ((s.setFifo n { f with opened := [] }).bump (Obj.openDiscards n)).creditBack n

/-- The frames of an engine's messages that the switch has not yet admitted are withdrawn, with their reservation requests: their words are
discarded (R280). A command that has its sequence number stays with its session, which sends it again from its copy (R182). -/
def State.withdrawFrames (s : State) (n : Nat) : State :=
  let own (o : Offered) : Bool := o.engine == some n && (match o.packet with | .ring f => f.session == 0 | _ => true)
  let waits (m : Nat) : List FifoWrite := (s.fifo m).requests.filter (fun w => match w.source with | .block (.engine k) _ => k ≠ n | _ => true)
  let t := { s with
    sw := { s.sw with entering := s.sw.entering.filter (!own ·), held := s.sw.held.filter (!own ·.offered) }
    acc := { s.acc with sessions := s.acc.sessions.map (fun e => { e with waiting := e.waiting.filter (fun w => w.2.2 ≠ .engine n) }) } }
  forEach (s.eng.fifos.map (·.1)) (fun t m =>
    if (waits m).length = (s.fifo m).requests.length then t else t.setFifo m { t.fifo m with requests := waits m }) t

/-- FIFO_CMD: bit 0 flushes the receive FIFO, bit 1 the transmit FIFO. -/
def State.fifoFlush (s : State) (n cmd : Nat) : State :=
  let f := s.fifo n
  let t := if cmd.testBit 0 then s.setFifo n { f with rx := [] } false true else s
  if cmd.testBit 1 then
    let f := t.fifo n
    let t := if f.opened = [] then t else t.bump (Obj.openDiscards n)
    ((t.setFifo n { f with opened := [], closed := [] } true false).withdrawFrames n).creditBack n
  else t

/-- CLEAR of the FIFO record (R281). -/
def State.fifoClearNow (s : State) (n : Nat) : State :=
  s.clearKeys [Obj.fifoTxFrames n, Obj.txFails n, Obj.rxRefused n, Obj.openDiscards n]

/-- Any reset other than LOCAL empties the FIFOs and voids the reservations. -/
def State.fifosEmptied (s : State) : State :=
  let t := forEach (s.eng.fifos.map (·.1)) (fun t n => t.put (Obj.fifoFlags n) 0) s
  { t with eng := { t.eng with fifos := [] } }

/-- Objects `subs` of a FIFO record have changed at a commit: a changed watermark pair sets its flag afresh, and the flow-control cells
follow (R278, R279). -/
def State.fifoChanged (s : State) (n : Nat) (subs : List Nat) : State :=
  let tx := subs.contains 8 || subs.contains 9
  let rx := subs.contains 10 || subs.contains 11
  (s.put (Obj.fifoFlags n) (s.flagsOf n (s.fifo n) tx rx)).fcFollow n

/-! ## Validation (R272, R278, R279) -/

/-- Whether an object accepts EVENTs (R177). -/
def acceptsEvents (index sub : Nat) : Bool :=
  (0x3000 ≤ index && index ≤ 0x313F && sub == 0x14) || (0x5100 ≤ index && index ≤ 0x510F && sub == 0x14) ||
  (0x5800 ≤ index && index ≤ 0x581F && sub == 0x16) || (0x62C0 ≤ index && index ≤ 0x62FF && sub == 0)

end Sys2Proof.Machine
end

