-- ==== Sys2Proof/Machine/Engines.lean ====
section
/-! DEFINITION. The I/O engines: programs, transitions, actions, stalls, the shifter, sleep, and program swaps (file 08). -/
namespace Sys2Proof.Machine

/-! ## The program image (R243 to R249) -/

def progStates (p : List Byte) : Nat := leAt p 2 1
def progEntry (p : List Byte) : Nat := leAt p 3 1
def progSlots (p : List Byte) : Nat := leAt p 4 2
def progActions (p : List Byte) : Nat := leAt p 6 2
def progIdle (p : List Byte) (pin : Nat) : Nat := leAt p (8 + pin) 1
def progReload (p : List Byte) (c : Nat) : Nat := leAt p (16 + 4 * c) 4
def progPeriod (p : List Byte) : Nat := leAt p 32 2
def progShPins (p : List Byte) : Nat := leAt p 34 2
def progOutPin (p : List Byte) : Nat := progShPins p % 16
def progInPin (p : List Byte) : Nat := progShPins p / 16 % 16
def progClkPin (p : List Byte) : Nat := progShPins p / 256 % 16
def progMode (p : List Byte) : Nat := leAt p 36 1
def progCpol (p : List Byte) : Bool := (progMode p).testBit 0
def progCpha (p : List Byte) : Bool := (progMode p).testBit 1
def progMsb (p : List Byte) : Bool := (progMode p).testBit 2
def progAuto (p : List Byte) : Bool := (progMode p).testBit 3
def progWidth (p : List Byte) : Nat := leAt p 37 1
def progWakePins (p : List Byte) : Nat := leAt p 38 1
def progCrc (p : List Byte) : Nat := leAt p 60 4
def stateWord (p : List Byte) (i : Nat) : Nat := leAt p (64 + 8 * i) 8
def slotWord (p : List Byte) (i : Nat) : Nat := leAt p (64 + 8 * (progStates p + i)) 8
def actionWord (p : List Byte) (i : Nat) : Nat := leAt p (64 + 8 * (progStates p + progSlots p + i)) 8

/-- The fields of an action word (R248). -/
def actOp (w : Nat) : Nat := bits w 63 58
def actBase (w : Nat) : Nat := bits w 57 56
def actArg (w : Nat) : Nat := bits w 51 32
def actOffset (w : Nat) : Nat := bits w 31 0

/-- The active program of an engine. -/
def State.prog (s : State) (n : Nat) : List Byte := s.blob (Obj.engProgram n)

/-- The cell that a pin map gives a pin, 0xFFFF where it is unused. -/
def pinOf (map : List Byte) (p : Nat) : Nat := if p < 8 then leAt map (2 * p) 2 else 0xFFFF

/-- The cell of an engine's pin, 0xFFFF where the pin is unused or a commit has given its cell another OWNER (R242). -/
def State.pinCell (s : State) (n p : Nat) : Nat :=
  let c := pinOf (s.blob (Obj.pinMap n)) p
  if s.obj (Obj.cellOwner c) = n then c else 0xFFFF

/-! ### Validation (R242 to R250, R254, R255) -/

/-- The condition codes of R246. -/
def condCode (c : Nat) : Bool :=
  c == 0 || (0x08 ≤ c && c ≤ 0x1B) || (0x1C ≤ c && c ≤ 0x21) || (0x24 ≤ c && c ≤ 0x26) || c == 0x28 || c == 0x29 ||
  (0x30 ≤ c && c ≤ 0x37)

/-- The ARG bits an operation uses (R249); none for a reserved OP. The other bits must be 0. -/
def opMask : Nat → Option Nat
  | 0x00 | 0x12 | 0x19 | 0x22 | 0x23 => some 0
  | 0x01 | 0x02 | 0x03 | 0x04 | 0x14 | 0x15 | 0x1B | 0x2C | 0x2D => some 0x7
  | 0x08 | 0x0A | 0x0B => some 0x3
  | 0x09 | 0x1A | 0x21 => some 0xFFFFF
  | 0x10 | 0x11 => some 0x1
  | 0x18 => some 0xFFFF
  | 0x20 | 0x28 => some 0xF
  | _ => none

/-- What a program asks of a pin: that it is driven, read, or its capture records are used (R242). -/
inductive PinUse where
  | drives (p : Nat) | reads (p : Nat) | takes (p : Nat)
  deriving DecidableEq, Repr

def condUse (c : Nat) : List PinUse :=
  if 0x08 ≤ c ∧ c ≤ 0x0F then [.reads (c - 8)] else if 0x10 ≤ c ∧ c ≤ 0x17 then [.takes (c - 0x10)] else []

def actionUse (w : Nat) : List PinUse :=
  match actOp w with
  | 1 | 2 | 3 | 4 => [.drives (actArg w)]
  | 0x14 | 0x15 => [.takes (actArg w)]
  | 0x1B => [.reads (actArg w)]
  | _ => []

/-- Every use of a pin in a program, those of SH_PINS and WAKE_PINS included (log entry 17: WAKE_PINS names pins that the program reads). -/
def pinUses (p : List Byte) : List PinUse :=
  if p = [] then [] else
  (if progOutPin p ≤ 7 then [.drives (progOutPin p)] else []) ++ (if progClkPin p ≤ 7 then [.drives (progClkPin p)] else []) ++
  (if progInPin p ≤ 7 then [.reads (progInPin p)] else []) ++
  ((List.range 8).filter (progWakePins p).testBit).map .reads ++
  (List.range (progSlots p)).flatMap (fun i => condUse (bits (slotWord p i) 63 58) ++ condUse (bits (slotWord p i) 56 51)) ++
  (List.range (progActions p)).flatMap (fun i => actionUse (actionWord p i))

/-- Whether a use meets R242, the configuration being read through `cfg`. -/
def pinUseGood (cfg : Nat → Nat) (map : List Byte) (n : Nat) (u : PinUse) : Bool :=
  let p := match u with | .drives p => p | .reads p => p | .takes p => p
  let c := pinOf map p
  let mode := cfg (Obj.cellMode c)
  c < 320 && cfg (Obj.cellOwner c) == n &&
  (match u with
   | .drives _ => mode == 2
   | .reads _ => mode == 1 || mode == 2
   | .takes _ => (mode == 1 || mode == 2) && (cfg (Obj.cellReaders c)).testBit 1)

def stateWordGood (p : List Byte) (w : Nat) : Bool :=
  bits w 61 60 == 0 && bits w 55 41 == 0 && bits w 31 0 == 0 && bits w 59 56 ≤ 8 &&
  bits w 40 32 + bits w 59 56 ≤ progSlots p

def slotWordGood (p : List Byte) (w : Nat) : Bool :=
  bits w 49 46 == 0 && bits w 38 36 == 0 && bits w 21 0 == 0 && condCode (bits w 63 58) && condCode (bits w 56 51) &&
  bits w 45 39 < progStates p && bits w 35 32 ≤ 8 && bits w 31 22 + bits w 35 32 ≤ progActions p

def actionWordGood (p : List Byte) (w : Nat) : Bool :=
  bits w 55 52 == 0 &&
  (match opMask (actOp w) with | some m => actArg w &&& m == actArg w | none => false) &&
  !((actOp w == 0x20 || actOp w == 0x28) && 7 ≤ actArg w) &&
  !(actOp w == 0x18 && (progPeriod p == 0 || (!progAuto p && progWidth p < actArg w)))

/-- The parts of an image that do not depend on the configuration: length, PROG_CRC, then every other rule. -/
def imageStatus (p : List Byte) : Option Nat :=
  let nib (v : Nat) : Bool := v ≤ 7 || v == 15
  if p = [] then none
  else if p.length < 64 ∨ p.length ≠ 64 + 8 * (progStates p + progSlots p + progActions p) then some stOutOfRange
  else if progCrc p ≠ fcrc (overlay p 60 (leBytes 4 0)) then some stIntegrity
  else if leAt p 0 2 ≠ 1 ∨ progStates p = 0 ∨ 128 < progStates p ∨ progStates p ≤ progEntry p ∨ 512 < progSlots p ∨
          1024 < progActions p then some stOutOfRange
  else if (List.range 8).any (fun i => 3 < progIdle p i) then some stOutOfRange
  else if (1 ≤ progPeriod p ∧ progPeriod p ≤ 39) ∨ progShPins p / 4096 ≠ 0 ∨ !nib (progOutPin p) ∨ !nib (progInPin p) ∨
          !nib (progClkPin p) ∨ 16 ≤ progMode p ∨ progWidth p = 0 ∨ 32 < progWidth p ∨ leAt p 39 21 ≠ 0 then some stOutOfRange
  else if (List.range (progStates p)).all (fun i => stateWordGood p (stateWord p i)) &&
          (List.range (progSlots p)).all (fun i => slotWordGood p (slotWord p i)) &&
          (List.range (progActions p)).all (fun i => actionWordGood p (actionWord p i)) then none
  else some stOutOfRange

/-- The status that a program and a pin map are refused with at validation, or none (R242 to R249). -/
def programStatus (cfg : Nat → Nat) (n : Nat) (p map : List Byte) : Option Nat :=
  if (List.range 8).any (fun i => 319 < pinOf map i && pinOf map i ≠ 0xFFFF) then some stOutOfRange
  else match imageStatus p with
    | some st => some st
    | none => if (pinUses p).all (pinUseGood cfg map n) then none else some stOutOfRange

/-! ## Registers -/

/-- The registers of R250: 0 to 3 C0 to C3; 4 SH_IN; 5 PUB; 6 the current state. -/
def engReg (n r : Nat) : Nat :=
  if r ≤ 3 then Obj.engCounter n r else if r = 4 then Obj.shIn n else if r = 5 then Obj.engPub n else Obj.curState n

/-- A register takes a value at the time `ns`; the time of its last change is kept for the lake (R265). -/
def State.setRegAt (s : State) (n r v ns : Nat) : State :=
  if s.obj (engReg n r) = v then s else
  let e := s.engine n
  (s.setEngine n { e with changed := sparsePut (fun _ => 0) e.changed r ns }).put (engReg n r) v

/-- The same at the present time. -/
def State.setReg (s : State) (n r v : Nat) : State := s.setRegAt n r v s.now

/-- The ball instant of a pin action (R223, R225, R251): its time less the cell's output delay, on the 250 ps grid. -/
def State.pinInstant (s : State) (n p at256 : Nat) : Nat :=
  let c := s.pinCell n p
  if 320 ≤ c then at256 / 64 * 64 else s.ballInstant c at256

/-- An action drives a pin at a ball instant, through the governor, and a refused action is counted (R251). -/
def State.enginePin (s : State) (n p : Nat) (level : Option Bool) (at256 : Nat) : State :=
  let c := s.pinCell n p
  if 320 ≤ c ∨ s.obj (Obj.cellMode c) ≠ 2 then s else
  let (t, ok) := s.place c level at256
  if !ok then t.bump (Obj.govRefused n)
  else
    let t := (t.setCellFlag c csSafe false).setCellFlag c csHold false
    let e := t.engine n
    match level with
    | some l => t.setEngine n { e with lastDriven := (e.lastDriven.filter (fun x => x.1 ≠ p)) ++ [(p, l)] }
    | none => t

/-! ## Conditions (R246) -/

/-- The next bit the shifter would send (R254). -/
def State.outBit (s : State) (n : Nat) : Bool :=
  let p := s.prog n
  (s.obj (Obj.shOut n)).testBit (if progMsb p then progWidth p - 1 else 0)

/-- SH_IDLE: not shifting, not stalled, and no SHIFT or SH_STEP queued. -/
def Engine.shIdle (e : Engine) : Bool := e.shift.isNone && !e.queue.any (fun q => actOp q.2 == 0x18 || actOp q.2 == 0x1B)

/-- A condition of R246, as sampled now. -/
def State.cond (s : State) (n c : Nat) : Bool :=
  let e := s.engine n
  let f := s.fifo n
  if c = 0 then true
  else if c < 0x10 then s.levelNow (s.pinCell n (c - 8))
  else if c < 0x18 then (s.unread (s.pinCell n (c - 0x10))).isSome
  else if c < 0x1C then s.obj (Obj.engCounter n (c - 0x18)) == 0
  else if c = 0x1C then e.shIdle
  else if c = 0x1D then e.shift.any (·.stalled)
  else if c = 0x1E then e.inBit
  else if c = 0x1F then s.outBit n
  else if c = 0x20 then e.tc0.fired
  else if c = 0x21 then e.tc1.fired
  else if c = 0x24 then f.rx ≠ []
  else if c = 0x25 then 1 ≤ f.txCredit
  else if c = 0x26 then 4 ≤ f.txCredit
  else if c = 0x28 then e.queue = []
  else if c = 0x29 then e.capt.testBit 72
  else s.flag (Obj.engFlags n) (c - 0x30)

/-- The condition of a slot (R245). -/
def State.slotTrue (s : State) (n w : Nat) : Bool :=
  ((s.cond n (bits w 63 58)) != bit w 57) && ((s.cond n (bits w 56 51)) != bit w 50)

/-! ## Actions (R248 to R251) -/

/-- The bits of SH_OUT and SH_IN that the word width keeps (R254). -/
def State.shMask (s : State) (n v : Nat) : Nat := v % 2 ^ progWidth (s.prog n)

/-- A bit has been sent: SH_OUT moves on (R254). -/
def State.shiftOut (s : State) (n : Nat) : State :=
  let p := s.prog n
  let out := s.obj (Obj.shOut n)
  s.put (Obj.shOut n) (if progMsb p then out * 2 % 2 ^ progWidth p else out / 2)

/-- A bit sampled at the time `at256` enters SH_IN (R254). -/
def State.shiftIn (s : State) (n : Nat) (b : Bool) (at256 : Nat) : State :=
  let p := s.prog n
  let w := progWidth p
  let inn := s.obj (Obj.shIn n)
  let t := s.setRegAt n 4 (if progMsb p then (inn * 2 + ofBool b) % 2 ^ w else inn / 2 + ofBool b * 2 ^ (w - 1)) (at256 / 256)
  t.setEngine n { t.engine n with inBit := b }

/-- The instant at which the level of a pin is sampled for the sampling instant `at256`: its cell's capture-path delay later (R254). -/
def State.sampleInstant (s : State) (n p at256 : Nat) : Nat :=
  let c := s.pinCell n p
  if 320 ≤ c then at256 else ((at256 : Int) + s.delay256 c).toNat

/-- Bits of the present chunk of a shift: up to the next AUTO word boundary, or to the end (R255). -/
def State.chunk (s : State) (n : Nat) (h : Shift) : Nat :=
  let w := progWidth (s.prog n)
  if progAuto (s.prog n) then min h.left (w - h.done % w) else h.left

/-- How many of `k` events, `per` apart from `first` on, have come by `limit`. -/
def eventsBy (first per k limit : Nat) : Nat := if limit < first then 0 else min k ((limit - first) / max 1 per + 1)

/-- The shift in progress runs up to `limit`, within its present word (R254): data-out, clock edges, and the bits taken in, which `bit` gives;
with `all` the samples that a capture-path delay puts behind the end of the word are taken too. -/
def State.shiftRun (s : State) (n limit : Nat) (bit : Nat → Bool) (all : Bool) : State :=
  match (s.engine n).shift with
  | none => s
  | some h =>
    if h.stalled then s else
    let p := s.prog n
    let k := s.chunk n h
    let per := progPeriod p * 64
    let half := progPeriod p / 2 * 64
    let lead := h.start + if progCpha p then 0 else half
    let tail := h.start + if progCpha p then half else per
    let smp := s.sampleInstant n (progInPin p) (h.start + half)
    let sent := max h.sent (eventsBy h.start per k limit)
    let leads := max h.leads (eventsBy lead per k limit)
    let tails := max h.tails (eventsBy tail per k limit)
    let taken := if all then k else max h.taken (eventsBy smp per k limit)
    let pin (t : State) (q : Nat) (l : Bool) (at256 : Nat) : State := t.enginePin n q (some l) (t.pinInstant n q at256)
    let t := forEach (List.range k) (fun t i =>
      let t := if h.sent ≤ i ∧ i < sent then (pin t (progOutPin p) (t.outBit n) (h.start + i * per)).shiftOut n else t
      let t := if h.leads ≤ i ∧ i < leads then pin t (progClkPin p) (!progCpol p) (lead + i * per) else t
      let t := if h.taken ≤ i ∧ i < taken then t.shiftIn n (bit i) (smp + i * per) else t
      if h.tails ≤ i ∧ i < tails then pin t (progClkPin p) (progCpol p) (tail + i * per) else t) s
    t.setEngine n { t.engine n with shift := some { h with sent := sent, leads := leads, tails := tails, taken := taken } }

/-- The shifter of an engine up to the present time: samples of SH_STEP that are due, and the bits of a shift, each with the level that its
pin has (R254, R256). -/
def State.shiftUpToNow (s : State) (n : Nat) : State :=
  let e := s.engine n
  let t := s.setEngine n { e with steps := e.steps.filter (fun x => s.now256 < x.1) }
  let t := forEach (e.steps.filter (fun x => x.1 ≤ s.now256)) (fun t x => t.shiftIn n (t.levelNow (t.pinCell n x.2)) x.1) t
  t.shiftRun n t.now256 (fun _ => t.levelNow (t.pinCell n (progInPin (t.prog n)))) false

/-- The engine may run (R258): RUNNING or DEGRADED, enabled, with a program, and neither in HOLD nor in the activation pause. -/
def State.engMay (s : State) (n : Nat) : Bool :=
  s.serving && s.obj (Obj.runEnable n) == 1 && s.prog n ≠ [] && !s.quiet

/-- The same while the engine may run: after a running condition has gone no further bit is clocked (R258). -/
def State.shiftNow (s : State) (n : Nat) : State :=
  let e := s.engine n
  if (e.shift.isSome || e.steps ≠ []) && e.running && s.engMay n then s.shiftUpToNow n else s

/-- Every shifter up to the present time. -/
def State.shiftersNow (s : State) : State :=
  forEach ((s.eng.engines.filter (fun e => e.2.shift.isSome || e.2.steps ≠ [])).map (·.1)) State.shiftNow s

/-- The running shifters up to the moment at which the node leaves service, whatever the running conditions have become. -/
def State.shiftersStop (s : State) : State :=
  forEach ((s.eng.engines.filter (fun e => e.2.running && (e.2.shift.isSome || e.2.steps ≠ []))).map (·.1)) State.shiftUpToNow s

/-- SH_LEFT: bits left in the shift in progress (R267). -/
def State.shLeftNow (s : State) (n : Nat) : Nat :=
  match (s.engine n).shift with
  | some h => h.left - h.taken
  | none => s.obj (Obj.shLeft n)

/-- The value of a source of R250. -/
def State.engSource (s : State) (n r : Nat) : Nat := s.obj (engReg n r)

/-- The last level driven on a pin: by an engine action, or what the cell drives (its SAFE_VALUE, R258). -/
def State.pinDriven (s : State) (n p : Nat) : Option Bool :=
  let now := (s.engine n).placing.reverse.findSome? (fun x => if x.1 = p then x.2.1 else none)
  match now, (s.engine n).lastDriven.find? (fun x => x.1 == p) with
  | some l, _ => some l
  | none, some x => some x.2
  | none, none => (s.cell (s.pinCell n p)).driven

/-- The levels of the pin actions; PIN_TOGGLE of a pin that nothing has driven yet is a free value (log entry 3). -/
def State.pinLevel (s : State) (n op p : Nat) : Option Bool :=
  match op with
  | 1 => some false
  | 2 => some true
  | 3 => some (match s.pinDriven n p with | some l => !l | none => s.freeNow.testBit 0)
  | _ => none

/-- A pin action: its level waits to be placed at the ball instant, and takes the place of an earlier action on the pin at that instant
(R251). -/
def State.pinAction (s : State) (n w ball : Nat) : State :=
  let p := actArg w
  let fresh := actOp w = 3 ∧ s.pinDriven n p = none
  let e := s.engine n
  let t := s.setEngine n { e with
    placing := e.placing.filter (fun x => !(x.1 == p && x.2.2 == ball)) ++ [(p, s.pinLevel n (actOp w) p, ball)] }
  if fresh then t.tookFree else t

/-- The pin actions that wait are placed. -/
def State.placePins (s : State) (n : Nat) : State :=
  let e := s.engine n
  forEach e.placing (fun t x => t.enginePin n x.1 x.2.1 x.2.2) (s.setEngine n { e with placing := [] })

/-- An action is performed with its time, or the reason of R253 that it cannot be. -/
def State.perform (s : State) (n w at256 : Nat) : State × Option Nat :=
  let a := actArg w
  let e := s.engine n
  let f := s.fifo n
  let busy := e.shift.isSome
  match actOp w with
  | 0x01 | 0x02 | 0x03 | 0x04 => (s.pinAction n w (max (s.pinInstant n a at256) s.now256), none)
  | 0x08 => (s.setReg n a (progReload (s.prog n) a), none)
  | 0x09 => (s.setReg n (a / 2 ^ 18) (a % 2 ^ 18), none)
  | 0x0A => (s.setReg n a (s.obj (Obj.engCounter n a) - 1), none)
  | 0x0B => (s.setReg n a ((s.obj (Obj.engCounter n a) + 1) % 2 ^ 32), none)
  | 0x10 =>
    let c : Compare := { time := at256, armed := true }
    (s.setEngine n (if a = 0 then { e with tc0 := c } else { e with tc1 := c }), none)
  | 0x11 => (s.setEngine n (if a = 0 then { e with tc0 := {} } else { e with tc1 := {} }), none)
  | 0x12 => (s.setEngine n { e with mark := at256 }, none)
  | 0x14 =>
    let c := s.pinCell n a
    (match s.unread c with
     | some r => ((s.readOne c).setEngine n { e with capt := captureBits c r }, none)
     | none => (s, some 5))
  | 0x15 => (s.flushCaptures (s.pinCell n a), none)
  | 0x18 =>
    if busy then (s, some 4)
    else if a = 0 then (s, none)
    else ((s.setEngine n { e with shift := some { start := at256, left := a } }).put (Obj.shLeft n) a, none)
  | 0x19 =>
    (match f.rx with
     | [] => (s, some 3)
     | x :: r => ((s.setFifo n { f with rx := r }).put (Obj.shOut n) (s.shMask n x), none))
  | 0x1A => if busy then (s, some 4) else (s.put (Obj.shOut n) (s.shMask n a), none)
  | 0x1B =>
    if busy then (s, some 4)
    else
      let t := s.shiftOut n
      (t.setEngine n { t.engine n with steps := e.steps ++ [(s.sampleInstant n a at256, a)] }, none)
  | 0x20 => if f.txCredit < 1 then (s, some 2) else (s.pushWords n [s.engSource n a], none)
  | 0x21 => if f.txCredit < 1 then (s, some 2) else (s.pushWords n [a], none)
  | 0x22 =>
    if f.txCredit < 4 then (s, some 2)
    else (s.pushWords n [e.capt % 2 ^ 32, e.capt / 2 ^ 32 % 2 ^ 32, e.capt / 2 ^ 64 % 2 ^ 32, e.capt / 2 ^ 96 % 2 ^ 32], none)
  | 0x23 => (s.closeMessage n, none)
  | 0x28 => (s.setReg n 5 (s.engSource n a), none)
  | 0x2C => (s.setFlag (Obj.engFlags n) a true, none)
  | 0x2D => (s.setFlag (Obj.engFlags n) a false, none)
  | _ => (s, none)

/-- The time of an action (R248): its base plus its offset. `clock` is the transition's clock and `last` the previous action's time. -/
def State.actionTime (s : State) (n w clock last : Nat) : Nat :=
  let e := s.engine n
  (match actBase w with
   | 0 => clock
   | 1 => e.capt % 2 ^ 64 * 256 + e.capt / 2 ^ 64 % 256
   | 2 => e.mark
   | _ => last) + actOffset w * 64

/-- An entry takes its place in the action queue: in time order, behind those of equal time (R251). -/
def queueInsert : List (Nat × Nat) → Nat × Nat → List (Nat × Nat)
  | [], x => [x]
  | y :: r, x => if x.1 < y.1 then x :: y :: r else y :: queueInsert r x

/-- The actions of a transition in list order (R251); a reason of R253 means that the transition is not taken. -/
def State.runActions (n clock : Nat) : List Nat → State → Nat → State × Option Nat
  | [], s, _ => (s, none)
  | w :: r, s, last =>
    let tm := s.actionTime n w clock last
    if actOp w = 0x10 ∨ actOp w = 0x12 then State.runActions n clock r (s.perform n w tm).1 tm
    else if tm < clock + 2560 then
      match (if tm < clock then s.bump (Obj.lateActions n) else s).perform n w tm with
      | (t, none) => State.runActions n clock r t tm
      | (_, some why) => (s, some why)
    else
      let e := s.engine n
      if 16 ≤ e.queue.length then (s, some 1)
      else State.runActions n clock r (s.setEngine n { e with queue := queueInsert e.queue (tm, w) }) tm

/-! ## Running, stalls, sleep (R247, R253, R257, R258) -/

/-- ENG_STATE (R267). -/
def State.engStateNow (s : State) (n : Nat) : Nat :=
  if s.prog n = [] then 4
  else if !(s.engine n).running then 0
  else if s.obj (Obj.stallReason n) ≠ 0 then 3
  else if (s.engine n).asleep then 2 else 1

/-- The engine takes part in the present clock. -/
def State.engClocked (s : State) (n : Nat) : Bool := s.engMay n && s.engStateNow n == 1

/-- The engine stalls with a reason (R253). -/
def State.stall (s : State) (n why pin : Nat) : State :=
  let e := s.engine n
  ((s.setEngine n { e with stalledAt := s.now, stallPin := pin, stallEnded := false, longCounted := false, asleep := false }).put
    (Obj.stallReason n) why).bump (Obj.stalls n)

/-- The pin of the CAPT_TAKE in an action list that finds no record. -/
def State.emptyPin (s : State) (n : Nat) (l : List Nat) : Nat :=
  ((l.filter (fun w => actOp w == 0x14)).find? (fun w => (s.unread (s.pinCell n (actArg w))).isNone)).elim
    (((l.filter (fun w => actOp w == 0x14)).getLast?.map actArg).getD 0) actArg

/-- ABORT_RECORD's shifter fields and SNAP_VALID read 0 from the engine's next transition on (R264). -/
def State.snapGone (s : State) (n : Nat) : State :=
  let b := s.blob (Obj.abortRecord n)
  if leAt b 24 1 = 0 then s else s.putBlob (Obj.abortRecord n) (overlay b 12 (List.replicate 13 0))

/-- One engine clock (R247): the first true slot is taken whole, or the engine stalls; with no true slot it sleeps or stays. -/
def engineTransition (s : State) (n : Nat) : State :=
  if !s.engClocked n then s else
  let s : State := { s with time := s.time + 5 * 2 ^ 39 }
  let s := (s.setEngine n { s.engine n with wake := false }).shiftNow n
  let p := s.prog n
  let sw := stateWord p (s.obj (Obj.curState n))
  let clock := s.now256
  match ((List.range (bits sw 59 56)).map (fun i => slotWord p (bits sw 40 32 + i))).find? (s.slotTrue n) with
  | some w =>
    let acts := (List.range (bits w 35 32)).map (fun i => actionWord p (bits w 31 22 + i))
    (match State.runActions n clock acts s clock with
     | (t, none) => ((((t.placePins n).shiftNow n).setReg n 6 (bits w 45 39)).bump64 (Obj.transitions n) 1).snapGone n
     | (_, some why) => s.stall n why (s.emptyPin n acts))
  | none =>
    let e := s.engine n
    let due := e.queue.any (fun q => q.1 ≤ clock && !(1 ≤ actOp q.2 && actOp q.2 ≤ 4))
    if (bit sw 62 ∨ bits sw 59 56 = 0) ∧ !due then s.setEngine n { e with asleep := true } else s

/-- Whether an action word drives a pin. -/
def isPinAction (w : Nat) : Bool := 1 ≤ actOp w && actOp w ≤ 4

/-- When a queued action is due: a pin action at its ball instant (R251). -/
def State.actionDue (s : State) (n : Nat) (q : Nat × Nat) : Nat := if isPinAction q.2 then s.pinInstant n (actArg q.2) q.1 else q.1

/-- The action that is due first, of equal ones the one that entered first. -/
def State.nextAction (s : State) (n : Nat) (l : List (Nat × Nat)) : Option (Nat × Nat) :=
  l.foldl (fun b q => match b with
    | none => some q
    | some x => if s.actionDue n q < s.actionDue n x then some q else some x) none

/-- The next queued action becomes due (R251): pin actions are placed at their time whatever the clock does, every other action
waits while a stall stops the clock (R253, log entry 18), and one that cannot execute stalls the engine and stays at the head. A pin action
with another for its pin at the same instant behind it is not placed: the last level stands. -/
def queuedActionDue (s : State) (n : Nat) : State :=
  let e := s.engine n
  let held := s.obj (Obj.stallReason n) ≠ 0
  if !(s.engMay n && e.running) then s else
  match s.nextAction n (e.queue.filter (fun q => !held || isPinAction q.2)) with
  | none => s
  | some q =>
    let due := s.actionDue n q
    let u := (s.waitUntil256 due).shiftNow n
    let rest := (u.engine n).queue.erase q
    let t := (u.setEngine n { u.engine n with queue := rest }).stallEvent n 1
    if isPinAction q.2 then
      let t := t.pinAction n q.2 due
      if rest.any (fun x => isPinAction x.2 && actArg x.2 == actArg q.2 && s.actionDue n x == due) then t else t.placePins n
    else match t.perform n q.2 q.1 with
    | (v, none) => (v.setEngine n { v.engine n with asleep := false }).shiftNow n
    | (_, some why) => u.stall n (0x80 + why) (actArg q.2)

/-- A compare fires (R252) and wakes the engine. -/
def compareFire (s : State) (n tc : Nat) : State :=
  let e := s.engine n
  let c := if tc = 0 then e.tc0 else e.tc1
  if !(s.engMay n && e.running) || s.obj (Obj.stallReason n) ≠ 0 || !c.armed || c.fired then s
  else
    let c := { c with fired := true }
    (s.waitUntil256 c.time).setEngine n
      (if tc = 0 then { e with tc0 := c, wake := true } else { e with tc1 := c, wake := true })

/-- A wake source restarts the clock of a sleeping engine (R257). -/
def engineWake (s : State) (n : Nat) : State :=
  let e := s.engine n
  if e.running ∧ e.asleep ∧ e.wake then s.setEngine n { e with asleep := false, wake := false } else s

/-- The event that ends the stall has come, and the engine samples and tests afresh (R253). -/
def stallEnd (s : State) (n : Nat) : State :=
  if s.obj (Obj.stallReason n) ≠ 0 ∧ (s.engine n).stallEnded then (s.put (Obj.stallReason n) 0).wakeEngine n else s

/-- A stall has lasted longer than STALL_LIMIT: it is counted once and logged (R253). -/
def longStall (s : State) (n : Nat) : State :=
  let e := s.engine n
  let limit := s.obj (Obj.stallLimit n)
  if s.obj (Obj.stallReason n) = 0 ∨ limit = 0 ∨ e.longCounted then s
  else
    let t := (s.waitUntil (e.stalledAt + limit * us + 1)).setEngine n { e with longCounted := true }
    (t.bump (Obj.longStalls n)).transientFault (0x4100 + n) 0x17 n 0 0 false

/-- A capture record on a cell ends a stall for it (R253), and wakes its engine where WAKE_PINS names the pin (R124, R257). -/
def State.wakeByCell (s : State) (c : Nat) : State :=
  let n := s.obj (Obj.cellOwner c)
  if 64 ≤ n then s else
  let s := if s.pinCell n (s.engine n).stallPin = c ∧ (s.unread c).isSome then s.stallEvent n 5 else s
  if (List.range 8).any (fun p => s.pinCell n p == c && (progWakePins (s.prog n)).testBit p) then s.wakeEngine n else s

/-! ## The shifter (R254, R255) -/

/-- The push and pop at a boundary, or the push at the end, where both can be made (R255). -/
def State.shiftPoint (s : State) (n : Nat) (final : Bool) : Option State :=
  let f := s.fifo n
  if !progAuto (s.prog n) then some s
  else if f.txCredit < 1 then none
  else if final then some (s.pushWords n [s.obj (Obj.shIn n)])
  else match f.rx with
    | [] => none
    | x :: r =>
      let t := (s.pushWords n [s.obj (Obj.shIn n)]).setReg n 4 0
      some ((t.setFifo n { t.fifo n with rx := r }).put (Obj.shOut n) (s.shMask n x))

/-- The shifter becomes idle: a stall for it ends (R253, R257). -/
def State.shifterIdle (s : State) (n : Nat) : State := ((s.setEngine n { s.engine n with shift := none }).stallEvent n 4).wakeEngine n

/-- The word of a shift in progress runs to its end; `final` says which kind of end the command is for, and `sampled` holds its bits, the
first one lowest, of which those not taken yet are taken (R254, R255). The engine wakes where the shifter becomes idle or stalls (R257). -/
def State.runChunk (s : State) (n sampled : Nat) (final : Bool) : State :=
  match (s.engine n).shift with
  | none => s
  | some h =>
    let k := s.chunk n h
    if h.stalled ∨ (k = h.left) ≠ final ∨ !(s.engMay n && (s.engine n).running) then s
    else
      let at256 := h.start + k * progPeriod (s.prog n) * 64
      let t := (s.waitUntil256 at256).shiftRun n at256 sampled.testBit true
      let h' : Shift := { start := at256, left := h.left - k, done := h.done + k }
      let t := t.put (Obj.shLeft n) (h.left - k)
      match t.shiftPoint n final with
      | some u => if final then u.shifterIdle n else u.setEngine n { u.engine n with shift := some h' }
      | none => (t.setEngine n { t.engine n with shift := some { h' with stalled := true } }).wakeEngine n

/-- A shift ends (R254). -/
def shiftEnd (s : State) (n sampled : Nat) : State := s.runChunk n sampled true

/-- An AUTO word boundary (R255). -/
def shifterBoundary (s : State) (n sampled : Nat) : State := s.runChunk n sampled false

/-- A stalled shifter makes its push and pop and resumes 100 ns later, on the 250 ps grid (R255). -/
def shifterResume (s : State) (n : Nat) : State :=
  match (s.engine n).shift with
  | none => s
  | some h =>
    if !h.stalled ∨ !(s.engMay n && (s.engine n).running) then s
    else match s.shiftPoint n (h.left == 0) with
      | none => s
      | some t =>
        let next := ceilDiv t.now256 64 * 64 + 25600
        if h.left = 0 then t.shifterIdle n
        else (t.setEngine n { t.engine n with shift := some { h with start := next, stalled := false } }).wakeEngine n

/-! ## Starts, stops and resets (R258, R264) -/

/-- Owned output pins: the mapped cells in MODE 2, with their pins. -/
def State.enginePins (s : State) (n : Nat) : List (Nat × Nat) :=
  ((List.range 8).map (fun p => (p, s.pinCell n p))).filter (fun x => x.2 < 320 && s.obj (Obj.cellMode x.2) == 2)

/-- Every output cell that the engine owns goes to its SAFE_VALUE (R229, R243, R258), but for those that follow a FIFO's flag (R279). -/
def State.ownedSafe (s : State) (n : Nat) : State :=
  forEach ((List.range 320).filter (fun c => s.obj (Obj.cellMode c) == 2 && s.obj (Obj.cellOwner c) == n &&
    c ≠ s.obj (Obj.txFcCell n) && c ≠ s.obj (Obj.rxFcCell n))) State.toSafe s

/-- A pin takes PIN_IDLE; keep leaves it as it is. -/
def State.pinIdle (s : State) (n p : Nat) : State :=
  match progIdle (s.prog n) p with
  | 0 => s.enginePin n p (some false) s.now256
  | 1 => s.enginePin n p (some true) s.now256
  | 2 => s.enginePin n p none s.now256
  | _ => s

/-- ABORT_RECORD and CANCEL_LIST of an event (R264): 1 forced swap, 2 LOCAL reset, 3 stop, 4 activation pause. -/
def State.writeAbort (s : State) (n kind : Nat) : State :=
  let e := s.engine n
  let (done, left, st) := match e.shift with | some h => (h.done + h.taken, h.left - h.taken, h.stalled) | none => (0, 0, false)
  let r := leBytes 8 s.now ++ leBytes 1 kind ++ leBytes 1 (s.obj (Obj.curState n)) ++ leBytes 1 (s.obj (Obj.stallReason n)) ++
    leBytes 1 e.queue.length ++ leBytes 2 done ++ leBytes 2 left ++ leBytes 4 (s.obj (Obj.shOut n)) ++
    leBytes 4 (s.obj (Obj.shIn n)) ++ leBytes 1 (1 + 2 * ofBool st)
  let l := e.queue.flatMap (fun q => leBytes 8 (q.1 / 256) ++ leBytes 8 q.2)
  (s.putBlob (Obj.abortRecord n) (padTo 32 r)).putBlob (Obj.cancelList n) (padTo 256 l)

/-- Every queued action is cancelled. -/
def State.clearQueue (s : State) (n : Nat) : State := s.setEngine n { s.engine n with queue := [], placing := [] }

/-- The shifter is cleared. -/
def State.clearShifter (s : State) (n : Nat) : State :=
  let t := ((s.put (Obj.shOut n) 0).setReg n 4 0).put (Obj.shLeft n) 0
  t.setEngine n { t.engine n with shift := none, inBit := false, steps := [] }

/-- A start at ENTRY (R258). -/
def State.startEngine (s : State) (n : Nat) : State :=
  let p := s.prog n
  let t := s.setEngine n { capt := (s.engine n).capt, changed := (s.engine n).changed, running := true }
  let t := ((t.setReg n 6 (progEntry p)).put (Obj.engFlags n) 0).setReg n 5 0
  let t := forEach [0, 1, 2, 3] (fun t c => t.setReg n c (progReload p c)) t
  let t := (t.clearShifter n).put (Obj.stallReason n) 0
  forEach (s.enginePins n) (fun t x => t.pinIdle n x.1) t

/-- ENGINE_START: the running conditions have become true (R258). -/
def engineStart (s : State) (n : Nat) : State :=
  if s.engMay n ∧ !(s.engine n).running then s.startEngine n else s

/-- The engine stops: queued actions are cancelled and reported, the partial shift is over (R258, R264). -/
def State.haltEngine (s : State) (n kind : Nat) : State :=
  let t := if (s.engine n).queue ≠ [] then s.writeAbort n kind else s
  let t := (t.clearQueue n).clearShifter n
  (t.setEngine n { t.engine n with running := false, asleep := false, wake := false }).put (Obj.stallReason n) 0

/-! ## Swaps (R259 to R263) -/

/-- A program or a pin map of the engine waits for its mordant point. -/
def State.swapArmed (s : State) (n : Nat) : Bool :=
  s.dict.waiting.any (fun e => e.1 == Obj.engProgram n || e.1 == Obj.pinMap n)

/-- A mordant point (R260). -/
def State.atMordant (s : State) (n : Nat) : Bool :=
  let e := s.engine n
  bit (stateWord (s.prog n) (s.obj (Obj.curState n))) 63 && e.shIdle && e.queue = []

/-- A new generation of a DOMAIN stands (R49). -/
def State.newGeneration (s : State) (ix : Nat) : State :=
  let g := sparseGet (fun _ => 0) s.dict.generations ix + 1
  { s with dict := { s.dict with generations := sparsePut (fun _ => 0) s.dict.generations ix g } }

/-- The waiting program and pin map of the engine become active. -/
def State.takeShadow (s : State) (n : Nat) : State :=
  let mine (e : Nat × List Byte) : Bool := e.1 == Obj.engProgram n || e.1 == Obj.pinMap n
  let t := forEach (s.dict.waiting.filter mine) (fun t e =>
    if e.1 = Obj.engProgram n then (t.putBlob e.1 e.2).newGeneration (0x4400 + n) else t.putBlob e.1 e.2) s
  { t with dict := { t.dict with waiting := t.dict.waiting.filter (fun e => !mine e) } }

/-- The swap proper: the new ENTRY, compares disarmed, the rest kept; pins take PIN_IDLE where they are newly mapped, or all of them
after a forced swap; an engine left without a program stops (R243, R260, R262). -/
def State.swap (s : State) (n : Nat) (forced : Bool) : State :=
  let old := s.blob (Obj.pinMap n)
  let t := s.takeShadow n
  let t := (t.put (Obj.shOut n) (t.shMask n (t.obj (Obj.shOut n)))).setReg n 4 (t.shMask n (t.obj (Obj.shIn n)))
  let t := (t.setReg n 6 (progEntry (t.prog n))).put (Obj.swapState n) (if forced then 4 else 3)
  let e := t.engine n
  let was (c : Nat) : Option Bool :=
    ((List.range 8).find? (fun p => pinOf old p == c)).bind (fun p => (e.lastDriven.find? (fun x => x.1 == p)).map (·.2))
  let driven := (List.range 8).filterMap (fun p => if t.pinCell n p < 320 then (was (t.pinCell n p)).map (fun l => (p, l)) else none)
  let t := (t.setEngine n { e with tc0 := {}, tc1 := {}, asleep := false, wake := true, lastDriven := driven }).put (Obj.stallReason n) 0
  if !e.running then t
  else if t.prog n = [] then
    (t.haltEngine n 3).ownedSafe n
  else
    let fresh := (t.enginePins n).filter (fun x => forced || !(List.range 8).any (fun p => pinOf old p == x.2))
    forEach fresh (fun t x => t.pinIdle n x.1) t

/-- A forced swap (R262): the partial shift and the queued actions are recorded and discarded, then the swap is made. -/
def State.forceSwap (s : State) (n : Nat) : State :=
  let q := (s.engine n).queue
  let t := ((s.shiftNow n).writeAbort n 1).clearShifter n
  let t := forEach q (fun t a => t.logEvent (0x4100 + n) 0x1B n 0 (a.2 + a.1 / 256 % 2 ^ 32 * 2 ^ 64)) (t.clearQueue n)
  (t.bump Obj.aborts).swap n true

/-- ENGINE_STOP: a running condition has gone (R258). Pins go to SAFE_VALUE, in HOLD they keep their levels; an armed swap takes place
at once (R263). -/
def engineStop (s : State) (n : Nat) : State :=
  if s.engMay n ∨ !(s.engine n).running then s
  else
    let t := s.haltEngine n 3
    let t := if t.obj Obj.powerState = 2 then t else t.ownedSafe n
    if t.swapArmed n then t.swap n false else t

/-- MORDANT_SWAP: an armed swap at a mordant point, or of an engine that does not run (R260). -/
def mordantSwap (s : State) (n : Nat) : State :=
  if s.swapArmed n ∧ (!(s.engine n).running ∨ s.atMordant n) then s.swap n false else s

/-- The engines that do not run when the boundary of a commit comes swap at it (R260). -/
def State.swapStopped (s : State) : State :=
  if s.dict.waiting = [] then s
  else forEach (List.range 64) (fun t n => if (t.engine n).running || !t.swapArmed n then t else t.swap n false) s

/-- FORCED_SWAP: with SWAP_MODE 1 the armed swap is forced at the boundary; a mordant point met in that clock comes first (R261,
R263). -/
def forcedSwap (s : State) (n : Nat) : State :=
  if !s.swapArmed n ∨ s.obj (Obj.swapMode n) ≠ 1 then s
  else if !(s.engine n).running ∨ s.atMordant n then s.swap n false
  else s.forceSwap n

/-- ENG_CMD 1: the armed swap is forced at once; with none armed the write completes with RETRY (R261). -/
def State.engForce (s : State) (n : Nat) : State × Nat :=
  if s.swapArmed n then (s.forceSwap n, stDone) else (s, stRetry)

/-- ENG_CMD 2: a LOCAL reset (R258, R280). -/
def State.engLocalReset (s : State) (n : Nat) : State :=
  let t := (((s.shiftNow n).writeAbort n 2).clearQueue n).discardOpen n
  if t.engMay n then t.startEngine n
  else ((t.clearShifter n).setEngine n { t.engine n with running := false }).put (Obj.stallReason n) 0

/-- An activation pause stops the engine; its pins keep their levels (R258). -/
def State.engPause (s : State) (n : Nat) : State := if (s.engine n).running then (s.shiftNow n).haltEngine n 4 else s

/-- Any reset through LOADING: the engines and their FIFOs lose everything. -/
def State.enginesReset (s : State) : State :=
  let t := forEach (s.eng.engines.map (·.1)) (fun t n =>
    let ks := [Obj.curState n, Obj.stallReason n, Obj.shOut n, Obj.shIn n, Obj.shLeft n, Obj.engFlags n, Obj.engPub n] ++
      [0, 1, 2, 3].map (Obj.engCounter n)
    t.clearKeys ks) s
  { t.fifosEmptied with eng := {} }

/-- CLEAR of an engine's counters (R267). -/
def State.engClearNow (s : State) (n : Nat) : State :=
  s.clearKeys [Obj.transitions n, Obj.stalls n, Obj.longStalls n, Obj.lateActions n, Obj.govRefused n]

/-! ## Values read (R265 to R267) -/

/-- The maps of R266, from a property of each engine. -/
def engineMap (f : Nat → Bool) : Nat := sumOf ((List.range 64).map (fun n => if f n then 2 ^ n else 0))

def State.runningMapNow (s : State) : Nat := engineMap (fun n => (s.engine n).running)
def State.sleepingMapNow (s : State) : Nat := engineMap (fun n => (s.engine n).running && (s.engine n).asleep)
def State.stalledMapNow (s : State) : Nat := engineMap (fun n => (s.engine n).running && s.obj (Obj.stallReason n) ≠ 0)
def State.waitingMapNow (s : State) : Nat := engineMap s.swapArmed

end Sys2Proof.Machine
end

