-- ==== Sys2Proof/Machine/Can.lean ====
section
/-! DEFINITION. The CAN FD controllers (file 10). The steps of TEC and REC are those of ISO 11898-1, which the spec names and does not
repeat (PRESUMED, log entry 24). -/
namespace Sys2Proof.Machine

def State.canCtl (s : State) (n : Nat) : CanCtl := sparseGet (fun _ => {}) s.can n

def State.setCan (s : State) (n : Nat) (c : CanCtl) : State := { s with can := sparsePut (fun _ => {}) s.can n c }

/-- Bits of CAN_FLAGS (R306). -/
def cfClash : Nat := 0
def cfStuck : Nat := 1
def cfLasting : Nat := 2
def cfClipped : Nat := 3

/-! ## Frame records (R288) -/

def recTime (b : List Byte) : Nat := leAt b 0 8
def recHead (b : List Byte) : Nat := leAt b 0 16
def recId (b : List Byte) : Nat := bits (recHead b) 92 64
def recIde (b : List Byte) : Bool := bit (recHead b) 96
def recRtr (b : List Byte) : Bool := bit (recHead b) 97
def recFdf (b : List Byte) : Bool := bit (recHead b) 98
def recBrs (b : List Byte) : Bool := bit (recHead b) 99
def recUrgent (b : List Byte) : Bool := bit (recHead b) 101
def recDlc (b : List Byte) : Nat := bits (recHead b) 107 104

/-- The data length of a DLC (R288). -/
def dlcBytes (fdf : Bool) (dlc : Nat) : Nat :=
  if dlc ≤ 8 then dlc else if !fdf then 8 else [12, 16, 20, 24, 32, 48, 64].getD (dlc - 9) 64

/-- The data bytes of a record; a remote frame carries none. -/
def recLen (b : List Byte) : Nat := if recRtr b then 0 else dlcBytes (recFdf b) (recDlc b)

/-- The record of a received frame (R288, R299, R300). -/
def rxRecord (f : CanFrame) (filter : Nat) (unmatched lost : Bool) : List Byte :=
  leBytes 16 (f.sof % 2 ^ 64 + f.id * 2 ^ 64 + ofBool f.extended * 2 ^ 96 + ofBool f.rtr * 2 ^ 97 + ofBool f.fdf * 2 ^ 98 +
    ofBool f.brs * 2 ^ 99 + ofBool f.esi * 2 ^ 100 + f.dlc * 2 ^ 104 + ofBool unmatched * 2 ^ 111 + filter * 2 ^ 112 +
    2 ^ 120 + ofBool lost * 2 ^ 121) ++ padTo 64 (if f.rtr then [] else f.data.take (dlcBytes f.fdf f.dlc))

/-- The frame of a record as it goes over the bus, for internal loopback. -/
def frameOfRecord (b : List Byte) (sof : Nat) : CanFrame :=
  { extended := recIde b, rtr := recRtr b, fdf := recFdf b, brs := recBrs b, esi := bit (recHead b) 100, dlc := recDlc b, id := recId b,
    data := slice b 16 (recLen b), sof := sof }

/-! ## Error counts and states (R293 to R295) -/

/-- The controller takes part in its bus. -/
def State.canOn (s : State) (n : Nat) : Bool :=
  (s.obj (Obj.busState n) == 2 || s.obj (Obj.busState n) == 3) && s.obj (Obj.canTec n) ≤ 255 && s.obj Obj.powerState ≠ 2

/-- Error active or passive, by the counts (R293). -/
def State.canLevel (s : State) (n : Nat) : State :=
  s.put (Obj.busState n) (if 128 ≤ s.obj (Obj.canTec n) ∨ 128 ≤ s.obj (Obj.canRec n) then 3 else 2)

/-- A detected error is counted by kind and recorded (R293). -/
def State.canCountError (s : State) (n : Nat) (e : CanError) : State :=
  let k := match e.kind.val with
    | 1 => Obj.stuffErrors n | 2 => Obj.formErrors n | 3 => Obj.ackErrors n | 6 => Obj.crcErrors n | _ => Obj.bitErrors n
  (s.bump k).put (Obj.lastError n) (e.kind.val + 16 * ofBool e.dataPhase)

/-- TEC after an error of a frame that this controller sends: up by 8, but not for an ACK error of an error-passive transmitter that
sees no dominant bit in its flag, nor for a stuff error during arbitration (R294, ISO 11898-1). -/
def State.canTecUp (s : State) (n : Nat) (e : CanError) : State :=
  let exempt := (e.kind = 3 ∧ s.obj (Obj.busState n) = 3 ∧ !e.dominantSeen) ∨ (e.kind = 1 ∧ e.arbitrationStuff)
  let up := (if exempt then 0 else 8) + 8 * e.flagRuns
  (s.put (Obj.canTec n) (min 256 (s.obj (Obj.canTec n) + up))).canLevel n

/-- An error-free frame: the fault of R295 closes, or the bus-off before it was transient. -/
def State.canGood (s : State) (n : Nat) : State :=
  let c := s.canCtl n
  if !c.offOpen then s
  else
    let t := s.setCan n { c with offOpen := false }
    if t.flag (Obj.canFlags n) cfLasting then (t.setFlag (Obj.canFlags n) cfLasting false).closeFault (0x5300 + n) 0x18 n
    else t.transientFault (0x5300 + n) 0x18 n 0 0 false

/-! ## The transmit queues (R289 to R292) -/

def State.canFifo (s : State) (n : Nat) (urgent : Bool) : List CanEntry :=
  if urgent then (s.canCtl n).urgent else (s.canCtl n).normal

/-- A FIFO takes new contents; a new head has just reached the head, and is not stuck. `gone` says that the head has left, which an equal
frame behind it would hide. -/
def State.setCanFifo (s : State) (n : Nat) (urgent : Bool) (l : List CanEntry) (gone : Bool := false) : State :=
  let c := s.canCtl n
  let moved := gone || l.head? ≠ (s.canFifo n urgent).head?
  let since := if urgent then c.urgentSince else c.normalSince
  let stuck := (if urgent then c.urgentStuck else c.normalStuck) && !moved
  let since := if moved then s.now else since
  let run (k : Nat) : Nat := if moved then 0 else k
  let c := if urgent then { c with urgent := l, urgentSince := since, urgentStuck := stuck, urgentClash := run c.urgentClash }
           else { c with normal := l, normalSince := since, normalStuck := stuck, normalClash := run c.normalClash }
  (s.setCan n c).setFlag (Obj.canFlags n) cfStuck (c.urgentStuck || c.normalStuck)

/-- Room in a FIFO (R291). -/
def State.canRoom (s : State) (n : Nat) (urgent : Bool) : Bool := (s.canFifo n urgent).length < if urgent then 16 else 64

/-- The result of a command whose execution is its entry into a queue: to its session work or SME output. -/
def State.queueResult (s : State) (o : CellOrigin) (status : Nat) : State :=
  let t := if status = stClaimLost then s.bump Obj.claimRefusals else s
  match o with
  | .work r => t.finishWork r status
  | .sme e => t.completeAt (.sme e) 0 status
  | .engine m f => if status = stDone then t else (t.localLateError f status).completeAt (.engine m) 0 status
  | .object => t

/-- A frame record that R289 step 3 accepts; `limit` checks the TIME of a write. -/
def State.canRecordGood (s : State) (n : Nat) (b : List Byte) (due : Nat) : Bool :=
  let h := recHead b
  b.length == 80 && bits h 127 122 == 0 && bits h 121 111 == 0 && bits h 110 108 == 0 && bits h 103 102 == 0 && !bit h 100 &&
  bits h 95 93 == 0 && !(recRtr b && recFdf b) && !(recBrs b && !recFdf b) &&
  !((recFdf b || recBrs b) && s.obj (Obj.fdMode n) == 0) && (recIde b || bits h 92 75 == 0) &&
  (b.drop (16 + recLen b)).all (· == 0) && due ≤ s.now + 60 * sec

/-- The instant of a submission: that of the EVENT, or the record's TIME. -/
def submitTime (b : List Byte) (event : Option Nat) : Nat := event.getD (recTime b)

/-- The checks of R289 in their order; none where the command passes. -/
def State.canRefusal (s : State) (n : Nat) (b : List Byte) (commander : Nat) (event : Option Nat) : Option Nat :=
  if !s.serving ∨ s.paused then some stHeldStatus
  else if s.obj (Obj.canMode n) ≠ 1 ∧ s.obj (Obj.canMode n) ≠ 3 then some stReadOnly
  else if !s.canRecordGood n b (submitTime b event) then some stOutOfRange
  else if commander = 0 ∨ commander ≠ s.holderNow then some stClaimLost
  else none

/-- What becomes of a submission that has passed its checks. -/
inductive Taken where
  /-- it has entered its queue: executed -/
  | entered
  /-- it waits in the schedule list -/
  | scheduled
  /-- its queue is full -/
  | full
  deriving DecidableEq, Repr

/-- A submission that has passed its checks enters its FIFO, or the schedule list (R290, R291). -/
def State.canSubmit (s : State) (n : Nat) (b : List Byte) (commander : Nat) (o : CellOrigin) (event : Option Nat) : State × Taken :=
  let due := submitTime b event
  let u := recUrgent b
  let e : CanEntry := { record := b, time := due, commander := commander, origin := o }
  if due ≤ s.now then
    if s.canRoom n u then (s.setCanFifo n u (s.canFifo n u ++ [e]), .entered) else (s, .full)
  else
    let c := s.canCtl n
    if c.schedule.length < 32 then (s.setCan n { c with schedule := c.schedule ++ [e] }, .scheduled) else (s, .full)

/-- The entry of a list that falls due first: the earliest TIME, the oldest of equal ones. -/
def firstDue (l : List CanEntry) : Option CanEntry :=
  l.foldl (fun b e => match b with | none => some e | some x => if e.time < x.time then some e else some x) none

/-- The scheduled frame whose turn it is: the first due whose FIFO has room, or whose claim has gone. -/
def State.canNextDue (s : State) (n : Nat) : Option CanEntry :=
  let l := (s.canCtl n).schedule
  let ok (e : CanEntry) : Bool := s.canRoom n (recUrgent e.record) || e.commander ≠ s.holderNow
  firstDue (([true, false].filterMap (fun u => firstDue (l.filter (fun e => recUrgent e.record == u)))).filter ok)

/-- A scheduled frame falls due: it enters its FIFO after a fresh check of its claim (R290, R302). -/
def canScheduleDue (s : State) (n : Nat) : State :=
  match s.canNextDue n with
  | none => s
  | some e =>
    let t := s.waitUntil e.time
    let c := t.canCtl n
    let t := t.setCan n { c with schedule := c.schedule.erase e }
    if e.commander = 0 ∨ e.commander ≠ t.holderNow then t.queueResult e.origin stClaimLost
    else
      let u := recUrgent e.record
      (t.setCanFifo n u (t.canFifo n u ++ [e])).queueResult e.origin stDone

/-- A start point: the head of the urgent FIFO is offered, else that of the normal FIFO (R292). -/
def canStartPoint (s : State) (n : Nat) : State :=
  let c := s.canCtl n
  if !s.canOn n ∨ c.sending ≠ none ∨ (s.obj (Obj.canMode n) ≠ 1 ∧ s.obj (Obj.canMode n) ≠ 3) then s
  else if c.urgent ≠ [] then s.setCan n { c with sending := some true }
  else if c.normal ≠ [] then s.setCan n { c with sending := some false }
  else s

/-! ## Reception (R299 to R301) -/

/-- Whether a filter entry takes a frame (R299). -/
def filterTakes (w : Nat) (f : CanFrame) : Bool :=
  let f1 := bits w 57 29
  let f2 := bits w 28 0
  (match bits w 61 60 with | 0 => !f.extended | 1 => f.extended | _ => true) &&
  (match bits w 63 62 with
   | 1 => f.id &&& f2 == f1 &&& f2
   | 2 => f1 ≤ f.id && f.id ≤ f2
   | 3 => f.id == f1 || f.id == f2
   | _ => false)

/-- The filter entries of a table, as 64-bit numbers. -/
def filterEntries (b : List Byte) : List Nat := (List.range (b.length / 8)).map (fun i => leAt b (8 * i) 8)

/-- A table that validation accepts (R299). -/
def filtersGood (b : List Byte) : Bool :=
  b.length % 8 == 0 &&
  (filterEntries b).all (fun w => bits w 61 60 ≠ 3 && !(bits w 63 62 == 2 && bits w 28 0 < bits w 57 29) &&
    !(bits w 61 60 == 0 && (2 ^ 11 ≤ bits w 57 29 || 2 ^ 11 ≤ bits w 28 0)))

/-- A record arrives at the receive buffer of 128 records (R301). -/
def State.canStore (s : State) (n : Nat) (f : CanFrame) (filter : Nat) (unmatched : Bool) : State :=
  let c := s.canCtl n
  let full := 128 ≤ c.rx.length
  if full ∧ s.obj (Obj.canRxFullMode n) = 0 then (s.setCan n { c with lost := true }).bump (Obj.canRxOverflow n)
  else
    let r := rxRecord f filter unmatched (c.lost || full)
    let t := s.setCan n { c with rx := (if full then c.rx.drop 1 else c.rx) ++ [r], lost := false }
    if full then t.bump (Obj.canRxOverflow n) else t

/-- Frames of a block for the SME that the switch holds (R300, R314). -/
def State.smeHeld (s : State) (index : Nat) : Nat :=
  (s.sw.held.filter (fun h => match h.offered.packet with
    | .ring f => bits f.address 23 8 == index && h.offered.outs == [portSme]
    | _ => false)).length

/-- A record goes to the SME through the switch, after its checking stream has judged it (R300, R356): STATUS 1 of the model's frame
marks one delivered with INVALID (log entry 25). -/
def State.toSme (s : State) (port cls index kind target sel : Nat) (record data : List Byte) : State :=
  match s.checkStream kind target sel data with
  | (t, .discard) => t
  | (t, v) =>
    let f : Frame := { cls := cls, type := if cls = 0 then tyEvent else tyWrite, src := t.ownId, dst := t.ownId,
                       status := if v = .invalid then 1 else 0, address := objAddr t.ownId index 0, payload := record }
    { t with sw := { t.sw with entering := t.sw.entering ++ [{ port := port, cls := cls, packet := .ring f, outs := [portSme] }] } }

/-- A frame for the SME; in the activation pause it is lost, and counted if it is for the SME alone (R303). -/
def State.canToSme (s : State) (n : Nat) (f : CanFrame) (filter : Nat) (alone : Bool) : State :=
  let c := s.canCtl n
  if s.quiet then
    let t := s.setCan n { c with smeLost := true }
    if alone then t.bump (Obj.canSmeDrops n) else t
  else
    let r := rxRecord f filter false c.smeLost
    (s.setCan n { c with smeLost := false }).toSme portCan (s.obj (Obj.canSmeClass n)) (0x5300 + n) 2 n filter r
      (slice r 16 (dlcBytes f.fdf f.dlc))

/-- A frame received without error passes the filters (R299, R300). -/
def State.canReceive (s : State) (n : Nat) (f : CanFrame) : State :=
  let l := filterEntries (s.blob (Obj.filters n))
  match l.findIdx? (fun w => filterTakes w f) with
  | none => if s.obj (Obj.noMatch n) = 0 then s.bump (Obj.rxNoMatch n) else s.canStore n f 0 true
  | some i =>
    let dest := bits (l.getD i 0) 59 58
    if dest = 0 then s.bump (Obj.rxNoMatch n)
    else
      let t := if dest.testBit 0 then s.canStore n f i false else s
      if dest.testBit 1 ∧ !f.rtr then t.canToSme n f i (!dest.testBit 0) else t

/-- The controller hears its bus; internal loopback hears only itself (DEDUCED from R303: log entry 131). -/
def State.canHears (s : State) (n : Nat) : Bool := s.canOn n && s.obj (Obj.canMode n) ≠ 3

/-- REC after an error that this controller detects as a receiver; in bus monitoring it does not move and sends no error flag (R303). -/
def canRxError (s : State) (n : Nat) (e : CanError) : State :=
  if !s.canHears n ∨ e.kind = 0 then s
  else
    let t := s.canCountError n e
    if t.obj (Obj.canMode n) = 2 then t
    else ((t.put (Obj.canRec n) (min 255 (t.obj (Obj.canRec n) + 1 + 8 * e.flagRuns))).canLevel n).emit (.canErrorFrame n)

/-- A frame of another node has been received without error (R299), which a controller in normal mode acknowledges (R303). With FD_MODE false an FD frame is answered with an error frame
(R298). REC falls by 1; from above 127 it takes a value of 119 to 127 that ISO 11898-1 leaves open. -/
def canFrameRx (s : State) (n : Nat) (f : CanFrame) : State :=
  if !s.canHears n then s
  else if f.fdf ∧ s.obj (Obj.fdMode n) = 0 then canRxError s n { kind := 2 }
  else
    let s := if s.obj (Obj.canMode n) = 1 then s.emit (.canAck n) else s
    let t := (s.bump (Obj.rxOk n)).canGood n
    let r := t.obj (Obj.canRec n)
    let t := if t.obj (Obj.canMode n) = 2 then t
             else if 127 < r then ((t.put (Obj.canRec n) (119 + t.freeNow % 9)).tookFree).canLevel n
             else (t.put (Obj.canRec n) (r - 1)).canLevel n
    t.canReceive n f

/-- A read of RX_POLL (R301). -/
def State.canRxRead (s : State) (n : Nat) : State × List Byte :=
  let c := s.canCtl n
  match c.rx with
  | [] => (s, List.replicate 80 0)
  | r :: rest => (s.setCan n { c with rx := rest }, r)

/-! ## The end of a transmission (R292 to R297) -/

/-- A record as the controller sends it: in an FD frame it sets ESI from its own error state (R288). -/
def State.sentRecord (s : State) (n : Nat) (b : List Byte) : List Byte :=
  if recFdf b ∧ s.obj (Obj.busState n) = 3 then leBytes 16 (recHead b ||| 2 ^ 100) ++ b.drop 16 else b

/-- The loop delay measured in an FD frame that the controller sends (R287). -/
def State.noteLoopDelay (s : State) (n : Nat) (b : List Byte) (clocks : Nat) : State :=
  if recFdf b then
    (s.put (Obj.loopDelay n) (min 255 clocks)).setFlag (Obj.canFlags n) cfClipped (s.obj (Obj.sspMode n) == 1 && 127 < clocks)
  else s

/-- Every discarded frame counts, and a scheduled EVENT among them completes with `status`. -/
def State.canDiscarded (s : State) (n : Nat) (l : List CanEntry) (scheduled : Bool) (status : Nat) : State :=
  let t := s.bumpBy (Obj.canTxDiscarded n) l.length
  if scheduled then forEach l (fun t e => t.queueResult e.origin status) t else t

/-- The controller stops sending with its frame not sent: it stays at the head (R294), unless TX_ABORT has named it (R305). -/
def State.canSendEnds (s : State) (n : Nat) : State :=
  let c := s.canCtl n
  match c.sending with
  | none => s
  | some u =>
    let t := s.setCan n { c with sending := none, abortHead := false }
    if c.abortHead then (t.canDiscarded n ((t.canFifo n u).take 1) false 0).setCanFifo n u ((t.canFifo n u).drop 1) true else t

/-- The frame at the head has been sent without error. -/
def canTxOk (s : State) (n sof loopDelay : Nat) : State :=
  let c := s.canCtl n
  match c.sending with
  | none => s
  | some u =>
    match s.canFifo n u with
    | [] => s
    | e :: r =>
      let t := s.setCan n { c with sending := none, abortHead := false }
      let t := ((t.setCanFifo n u r true).bump (Obj.txOk n)).put (Obj.canLastTxTime n) sof
      let t := (t.put (Obj.canTec n) (t.obj (Obj.canTec n) - 1)).canLevel n
      let t := (t.noteLoopDelay n e.record loopDelay).canGood n
      let b := s.sentRecord n e.record
      if t.obj (Obj.canMode n) = 3 then (t.bump (Obj.rxOk n)).canReceive n (frameOfRecord b sof)
      else t.emit (.canFrame n b)

/-- The identifier clash of R297: four consecutive bit errors of the head of a FIFO after arbitration. -/
def State.canClash (s : State) (n : Nat) (u : Bool) (e : CanError) : State :=
  let c := s.canCtl n
  let run := if (e.kind.val = 4 ∨ e.kind.val = 5) ∧ e.inField then (if u then c.urgentClash else c.normalClash) + 1 else 0
  let t := s.setCan n (if u then { c with urgentClash := run } else { c with normalClash := run })
  if run = 4 then
    let b := ((t.canFifo n u).head?.map (·.record)).getD []
    let t := (t.setFlag (Obj.canFlags n) cfClash true).put (Obj.clashId n) (recId b + ofBool (recIde b) * 2 ^ 31)
    ((t.put (Obj.clashTime n) t.now).bump (Obj.clashes n)).logEvent (0x5300 + n) 0x19 n 0 0
  else t

/-- The frame being sent has lost arbitration or ended in an error. In internal loopback nothing disturbs it (R303). -/
def canTxError (s : State) (n : Nat) (e : CanError) : State :=
  let c := s.canCtl n
  match c.sending with
  | none => s
  | some u =>
    if s.obj (Obj.canMode n) = 3 then s else
    let b := ((s.canFifo n u).head?.map (·.record)).getD []
    let t := match e.loopDelay with | some d => s.noteLoopDelay n b d | none => s
    let t := t.canClash n u e
    let t := if e.kind = 0 then t else ((t.canCountError n e).canTecUp n e).emit (.canErrorFrame n)
    t.canSendEnds n

/-- TEC has passed 255: bus-off, and recovery begins at once (R295). -/
def canBusOff (s : State) (n : Nat) : State :=
  if (s.obj (Obj.busState n) = 2 ∨ s.obj (Obj.busState n) = 3) ∧ 255 < s.obj (Obj.canTec n) then
    let s := s.canSendEnds n
    let c := s.canCtl n
    let t := ((s.put (Obj.busState n) 5).bump (Obj.busoffCount n)).setCan n { c with offOpen := true }
    if c.offOpen then (t.setFlag (Obj.canFlags n) cfLasting true).lastingFault (0x5300 + n) 0x18 n 0 0 false else t
  else s

/-- 128 occurrences of 11 recessive bits have passed (R295). -/
def canBusOffRecovered (s : State) (n : Nat) : State :=
  if s.obj (Obj.busState n) = 5 then ((s.put (Obj.canTec n) 0).put (Obj.canRec n) 0).put (Obj.busState n) 2 else s

/-- A frame has stood at the head of a FIFO longer than STUCK_LIMIT (R296). -/
def canStuck (s : State) (n : Nat) (u : Bool) : State :=
  let c := s.canCtl n
  let limit := s.obj (Obj.stuckLimit n)
  let stuck := if u then c.urgentStuck else c.normalStuck
  match s.canFifo n u with
  | [] => s
  | e :: _ =>
    if limit = 0 ∨ stuck then s
    else
      let t := s.waitUntil ((if u then c.urgentSince else c.normalSince) + limit * ms + 1)
      let t := t.setCan n (if u then { c with urgentStuck := true } else { c with normalStuck := true })
      ((t.setFlag (Obj.canFlags n) cfStuck true).bump (Obj.stuckEvents n)).transientFault (0x5300 + n) 0x1A n 0 (recId e.record) false

/-- A recessive res bit with FD_MODE true (R298). -/
def protocolException (s : State) (n : Nat) : State :=
  if !s.canHears n ∨ s.obj (Obj.fdMode n) = 0 then s
  else (((s.canSendEnds n).put (Obj.busState n) 1).bump (Obj.pexCount n)).put (Obj.lastError n) 7

/-- Bus integration is complete (R303): error active, or passive where the counts say so. -/
def canBusIntegration (s : State) (n : Nat) : State := if s.obj (Obj.busState n) = 1 then s.canLevel n else s

/-! ## Claims, aborts and node states (R302, R303, R305) -/

/-- Every queue is emptied; scheduled EVENTs complete with `status`. -/
def State.canEmpty (s : State) (n status : Nat) : State :=
  let c := s.canCtl n
  let t := ((s.canDiscarded n c.urgent false 0).canDiscarded n c.normal false 0).canDiscarded n c.schedule true status
  let t := (t.setCanFifo n true []).setCanFifo n false []
  t.setCan n { t.canCtl n with schedule := [], sending := none, abortHead := false }

/-- TX_MISSED apply instants have passed without a live claim (R302). -/
def canTxHold (s : State) (n : Nat) : State :=
  if s.serving ∧ !s.holding ∧ s.liveCommanders = [] ∧ !s.frozen ∧ s.obj (Obj.canTxMissed n) ≤ s.ring.sinceNoClaim ∧ s.obj (Obj.canTxHold n) = 1 then
    s.canEmpty n stClaimLost
  else s

/-- One FIFO is discarded: a frame being sent goes at its next start point. -/
def State.canAbortFifo (s : State) (n : Nat) (u : Bool) : State :=
  let c := s.canCtl n
  let l := s.canFifo n u
  if c.sending = some u then
    ((s.canDiscarded n (l.drop 1) false 0).setCanFifo n u (l.take 1)).setCan n
      { (((s.canDiscarded n (l.drop 1) false 0).setCanFifo n u (l.take 1)).canCtl n) with abortHead := true }
  else (s.canDiscarded n l false 0).setCanFifo n u []

/-- TX_ABORT (R305). A scheduled EVENT that is discarded completes with HELD (DEDUCED: R305 names no status, log entry 40). -/
def State.canAbort (s : State) (n v : Nat) : State :=
  let t := if v.testBit 0 then s.canAbortFifo n true else s
  let t := if v.testBit 1 then t.canAbortFifo n false else t
  if v.testBit 2 then
    let c := t.canCtl n
    (t.setCan n { c with schedule := [] }).canDiscarded n c.schedule true stHeldStatus
  else t

/-- The controller begins to integrate, or stands off (R303). -/
def State.canBegin (s : State) (n : Nat) : State :=
  s.put (Obj.busState n) (if s.obj (Obj.canMode n) = 0 then 0 else 1)

/-- A LOCAL reset: CAN_CMD 1, or a commit of a timing field, CAN_MODE or FD_MODE (R303). -/
def State.canLocalReset (s : State) (n : Nat) : State :=
  let t := (s.canEmpty n stHeldStatus).dropBlock portCan (fun ix => ix == 0x5100 + n || ix == 0x5300 + n)
  let t := t.setCan n { t.canCtl n with rx := [], lost := false, smeLost := false }
  ((t.put (Obj.canTec n) 0).put (Obj.canRec n) 0).canBegin n

/-- Leaving RUNNING or DEGRADED for HELD. -/
def State.cansHeld (s : State) : State := forEach (s.can.map (·.1)) (fun t n => t.canEmpty n stHeldStatus) s

/-- The configuration is loaded: enabled controllers integrate. -/
def State.cansLoaded (s : State) : State := forEach (List.range 16) (fun t n => t.canBegin n) s

/-- CLEAR of a controller's counters (R306). -/
def State.canClearNow (s : State) (n : Nat) : State :=
  s.clearKeys ((List.range 15).map (fun i => (0x5300 + n) * 256 + 0x0E + i))

/-! ## Validation and maps (R285, R286, R304) -/

/-- The timing of a controller as it will stand, read through `cfg` (R285, R286). -/
def canTimingGood (cfg : Nat → Nat) (n : Nat) : Bool :=
  let nom := cfg (Obj.nomBrp n) * (1 + cfg (Obj.nomTseg1 n) + cfg (Obj.nomTseg2 n))
  let data := cfg (Obj.dataBrp n) * (1 + cfg (Obj.dataTseg1 n) + cfg (Obj.dataTseg2 n))
  let fd := cfg (Obj.fdMode n) == 1
  80 ≤ nom && nom ≤ 8000 && (!fd || (10 ≤ data && data ≤ nom)) &&
  cfg (Obj.nomSjw n) ≤ cfg (Obj.nomTseg2 n) && cfg (Obj.dataSjw n) ≤ cfg (Obj.dataTseg2 n) &&
  (cfg (Obj.nomTriple n) == 0 || (!fd && 3 ≤ cfg (Obj.nomTseg1 n) && 640 ≤ nom))

/-- A map over the controllers. -/
def canMap (f : Nat → Bool) : Nat := sumOf ((List.range 16).map (fun n => if f n then 2 ^ n else 0))

def State.enabledMapNow (s : State) : Nat := canMap (fun n => s.obj (Obj.canMode n) ≠ 0)
def State.busoffMapNow (s : State) : Nat := canMap (fun n => s.obj (Obj.busState n) == 4 || s.obj (Obj.busState n) == 5)
def State.attentionMapNow (s : State) : Nat := canMap (fun n => s.obj (Obj.canFlags n) % 8 ≠ 0)

/-! ## Bit timing (R284, R286, R287)

Where a controller samples its bus, in CAN clocks from the start of a bit. The bits themselves are not commands: what they make of a frame
arrives as the frames and errors of the commands (log entry 180). -/

/-- The samples of a bit of the nominal phase: at the sample point, and with NOM_TRIPLE 1 tq and 2 tq before it. -/
def State.canSamples (s : State) (n : Nat) : List Nat :=
  let q := s.obj (Obj.nomTseg1 n)
  (if s.obj (Obj.nomTriple n) = 1 then [q - 1, q, q + 1] else [q + 1]).map (· * s.obj (Obj.nomBrp n))

/-- The value of a bit of the nominal phase, given the level at each clock: that of most of its samples. -/
def State.canBit (s : State) (n : Nat) (level : Nat → Bool) : Bool :=
  let l := (s.canSamples n).map level
  l.length < 2 * (l.filter id).length

/-- Where a bit of the data phase of a frame being sent is checked, with the loop delay measured: at the secondary sample point, or at the
sample point where there is none. -/
def State.canCheckPoint (s : State) (n loopDelay : Nat) : Nat :=
  let sample := (1 + s.obj (Obj.dataTseg1 n)) * s.obj (Obj.dataBrp n)
  match s.obj (Obj.sspMode n) with
  | 1 => if 127 < loopDelay then sample else loopDelay + s.obj (Obj.sspOffset n)
  | 2 => s.obj (Obj.sspOffset n)
  | _ => sample

/-! ## Pins (R283, R303)

CAN_RX is an input in every state: what the transceiver shows on it arrives as the frames and errors of the commands. -/

/-- What a controller drives on CAN_TX. -/
inductive CanTx where
  /-- high-impedance: the board pulls the pin high -/
  | highZ
  /-- high -/
  | recessive
  /-- the bits of the frame being sent -/
  | frame (record : List Byte)
  deriving DecidableEq, Repr

/-- In OFF, HOUSEKEEPING, RECOVERY and in a reset every pin is high-impedance (R19, R283, R307, R332). -/
def State.pinsFloat (s : State) : Bool :=
  !s.rst.coreOn || s.node == 0 || s.node == 1 || s.node == stRecovery || s.now < s.rst.startAt

/-- CAN_TX: high unless a frame goes out; bus monitoring and internal loopback send nothing (R283, R303). -/
def State.canTxPin (s : State) (n : Nat) : CanTx :=
  if s.pinsFloat then .highZ
  else if s.obj (Obj.canMode n) ≠ 1 ∨ !s.canOn n then .recessive
  else match (s.canCtl n).sending.bind (fun u => (s.canFifo n u).head?) with
    | some e => .frame (s.sentRecord n e.record)
    | none => .recessive

/-- CAN_STB: high while CAN_MODE is 0, low in every other mode; none where it floats (R283). -/
def State.canStbPin (s : State) (n : Nat) : Option Bool :=
  if s.pinsFloat then none else some (s.obj (Obj.canMode n) == 0)

end Sys2Proof.Machine
end

