-- ==== Sys2Proof/Machine/Uart.lean ====
section
/-! DEFINITION. The UART channels (file 11). -/
namespace Sys2Proof.Machine

def State.chan (s : State) (n : Nat) : UartChan := sparseGet (fun _ => {}) s.uart n

def State.setChan (s : State) (n : Nat) (c : UartChan) : State := { s with uart := sparsePut (fun _ => {}) s.uart n c }

/-! ## Baud rate and bit times (R308, R309) -/

/-- The oversampling factor. -/
def uartOs (baud : Nat) : Nat := if baud ≤ 7500000 then 16 else 8

/-- The divisor D in units of 1/16, to the nearest. -/
def uartD16 (baud : Nat) : Nat := (2 * 3840000000 + uartOs baud * baud) / (2 * uartOs baud * baud)

/-- ACTUAL_BAUD. -/
def actualBaudOf (baud : Nat) : Nat :=
  let d := uartOs baud * uartD16 baud
  if d = 0 then 0 else (2 * 3840000000 + d) / (2 * d)

/-- BAUD_ERROR in ppm. -/
def baudErrorOf (baud : Nat) : Int :=
  let d := uartOs baud * uartD16 baud * baud
  if d = 0 then 0 else roundHalfAway ((3840000000 * 1000000 : Nat) - (1000000 * d : Nat) : Int) d

/-- A time in ns placed to the UART clock of 240 MHz, rounded up (R318). -/
def uartClockUp (ns : Nat) : Nat := ceilDiv (ceilDiv (ns * 6) 25 * 25) 6

/-- The stamp of an edge, in ns, at the resolution of the UART clock (R310): the clock at it or the last before it (DESIGN CHOICE: log
entry 181). -/
def uartStamp (ns : Nat) : Nat := ns * 6 / 25 * 25 / 6

/-- A time of `h` half bits, in ns, rounded up. -/
def State.halfBits (s : State) (n h : Nat) : Nat :=
  let baud := s.obj (Obj.uartBaud n)
  ceilDiv (h * uartOs baud * uartD16 baud * 1000) 7680

/-- The half bits that have begun in `ns` of a message, beyond the first. -/
def State.halfBitsIn (s : State) (n ns : Nat) : Nat :=
  let baud := s.obj (Obj.uartBaud n)
  ns * 7680 / (uartOs baud * uartD16 baud * 1000)

/-- The parity bit of data bits; none without PARITY (R308). -/
def parityBit (kind : Nat) (data : List Bool) : Option Bool :=
  match kind with
  | 0 => none
  | 1 => some ((data.filter id).length % 2 == 1)
  | 2 => some ((data.filter id).length % 2 == 0)
  | 3 => some true
  | _ => some false

/-- The bits of a character ahead of its stop bits: start bit, data bits with the least significant first, parity bit (R308). -/
def State.charLevels (s : State) (n v : Nat) : List Bool :=
  let data := (List.range (s.obj (Obj.dataBits n))).map v.testBit
  false :: data ++ (parityBit (s.obj (Obj.uartParity n)) data).toList

/-- Half bits of a character (R308). -/
def State.charHalves (s : State) (n : Nat) : Nat :=
  2 * (1 + s.obj (Obj.dataBits n) + (if s.obj (Obj.uartParity n) = 0 then 0 else 1)) + 2 + s.obj (Obj.stopBits n)

/-- A character in ns. -/
def State.charNs (s : State) (n : Nat) : Nat := s.halfBits n (s.charHalves n)

/-- An object of reception, and one of transmission, as the message in progress has it: a commit takes effect between two messages
(R321). -/
def State.rxCfg (s : State) (n key : Nat) : Nat := ((s.chan n).rxBefore.lookup key).getD (s.obj key)
def State.txCfg (s : State) (n key : Nat) : Nat := ((s.chan n).txBefore.lookup key).getD (s.obj key)

/-- A gap in ns; 0 with GAP_UNIT 0 (R311). -/
def State.gapOf (s : State) (n unit value : Nat) : Nat :=
  match unit with
  | 1 => ceilDiv (s.halfBits n value) 2
  | 2 => value * us
  | _ => 0

/-- The gap that closes the open message, and the gap before a message is sent (R311, R317). -/
def State.rxGapNs (s : State) (n : Nat) : Nat := s.gapOf n (s.rxCfg n (Obj.gapUnit n)) (s.rxCfg n (Obj.gapValue n))
def State.gapNs (s : State) (n : Nat) : Nat := s.gapOf n (s.obj (Obj.gapUnit n)) (s.obj (Obj.gapValue n))

/-- Bytes of a character (R311). -/
def State.charBytes (s : State) (n : Nat) : Nat := if s.obj (Obj.dataBits n) = 9 then 2 else 1

/-- Bits of UART_FLAGS (R323). -/
def ufStuck : Nat := 0
def ufCollision : Nat := 1

/-- The channel works: a mode other than 0, and not in HOLD. -/
def State.chanOn (s : State) (n : Nat) : Bool := s.obj (Obj.uartMode n) ≠ 0 && s.obj (Obj.lineState n) ≠ 0 && s.obj Obj.powerState ≠ 2

/-- LINE_STATE follows the line: stuck or in a break first, then sending, then receiving (R323; that order is a DESIGN CHOICE: log entry
182). -/
def State.followLine (s : State) (n : Nat) : State :=
  let c := s.chan n
  let v := if c.breakFrom.isSome then (if s.flag (Obj.uartFlags n) ufStuck then 5 else 4)
           else if c.sending.isSome then 3 else if c.message.isSome then 2 else 1
  if s.obj (Obj.lineState n) = 0 then s else s.put (Obj.lineState n) v

/-! ## Receiving (R310 to R314) -/

/-- A character as the receiver reads it. -/
structure UartHeard where
  value : Nat
  start : Nat
  parityBad : Bool := false
  framingBad : Bool := false
  noise : Bool := false
  /-- the start bit reads high at its middle -/
  falseStart : Bool := false
  /-- data, parity and stop bit all read low: a break (R312) -/
  low : Bool := false
  deriving DecidableEq, Repr

/-- The value of a bit, before INVERT: with OS 16 that of most of its three samples, with OS 8 its one sample (R310). -/
def State.bitRead (s : State) (n : Nat) (b : BitLevels) : Bool :=
  (if uartOs (s.obj (Obj.uartBaud n)) = 16 then (b.early && b.mid) || (b.mid && b.late) || (b.early && b.late) else b.mid)
    != s.flag (Obj.uartInvert n) 1

/-- The receiver samples a character and checks its parity and its first stop bit (R308, R310, R312). -/
def State.sampled (s : State) (n : Nat) (ch : UartChar) : UartHeard :=
  let d := s.obj (Obj.dataBits n)
  let count := 2 + d + (if s.obj (Obj.uartParity n) = 0 then 0 else 1)
  let bs := (ch.bits ++ List.replicate count ({} : BitLevels)).take count
  let l := bs.map (s.bitRead n)
  let data := (l.drop 1).take d
  { value := sumOf ((List.range d).map (fun i => ofBool (data.getD i false) * 2 ^ i)), start := ch.start,
    parityBad := match parityBit (s.obj (Obj.uartParity n)) data with | some p => l.getD (1 + d) p != p | none => false,
    framingBad := l.getLast? == some false,
    noise := uartOs (s.obj (Obj.uartBaud n)) == 16 && bs.any (fun b => b.early != b.mid || b.mid != b.late),
    falseStart := l.headD true, low := l.all not }

/-- The bytes of a receive record (R313). -/
def uartRecord (m : UartOpen) (close : Nat) (brk lost : Bool) : List Byte :=
  leBytes 16 (m.first % 2 ^ 64 + (m.firstErr.getD 0xFFFF) * 2 ^ 64 + m.data.length * 2 ^ 80 + ofBool m.parity * 2 ^ 96 +
    ofBool m.framing * 2 ^ 97 + ofBool m.noise * 2 ^ 98 + ofBool brk * 2 ^ 99 + close * 2 ^ 104 + 2 ^ 120 + ofBool lost * 2 ^ 121) ++
  padTo 256 m.data

/-- LENGTH and data of a record. -/
def uRecLen (b : List Byte) : Nat := bits (recHead b) 95 80
def uRecData (b : List Byte) : List Byte := slice b 16 (uRecLen b)
def uRecBreak (b : List Byte) : Bool := bit (recHead b) 96

/-- A record goes where RX_DEST sends it (R314). In the activation pause a message for the SME is lost, and counted if it is for the SME
alone (R303, R321). -/
def State.uartDeliver (s : State) (n : Nat) (m : UartOpen) (close : Nat) (brk : Bool) : State :=
  let dest := s.rxCfg n (Obj.rxDest n)
  let t := if dest.testBit 0 then
      let c := s.chan n
      let full := 64 ≤ c.rx.length
      if full ∧ s.rxCfg n (Obj.uartRxFullMode n) = 0 then (s.setChan n { c with lost := true }).bump (Obj.uartRxOverflow n)
      else
        let r := uartRecord m close brk (c.lost || full)
        let t := s.setChan n { c with rx := (if full then c.rx.drop 1 else c.rx) ++ [r], lost := false }
        if full then t.bump (Obj.uartRxOverflow n) else t
    else s
  if dest.testBit 1 then
    let c := t.chan n
    if t.quiet then
      let t := t.setChan n { c with smeLost := true }
      if dest.testBit 0 then t else t.bump (Obj.uartSmeDrops n)
    else
      let r := uartRecord m close brk c.smeLost
      let sel := match m.data with | b :: _ => b.toNat | [] => 256
      (t.setChan n { c with smeLost := false }).toSme portUart (t.rxCfg n (Obj.uartSmeClass n)) (0x5880 + n) 3 n sel r m.data
  else t

/-- The open message closes (R311): cause 0 gap, 1 length, 2 break, 3 flush. -/
def State.uartClose (s : State) (n close : Nat) : State :=
  let c := s.chan n
  match c.message with
  | none => s
  | some m =>
    let t := ((s.setChan n { c with message := none }).bump (Obj.rxMessages n)).uartDeliver n m close false
    (t.setChan n { t.chan n with rxBefore := [] }).followLine n

/-- A character enters the open message, or opens one; a message that reaches RX_MAX closes (R311). -/
def State.uartGather (s : State) (n : Nat) (ch : UartHeard) : State :=
  let c := s.chan n
  let m := c.message.getD { first := uartStamp ch.start }
  let bad := ch.parityBad || ch.framingBad || ch.noise
  let m := { m with data := m.data ++ leBytes (s.charBytes n) (ch.value % 2 ^ s.obj (Obj.dataBits n)),
                    parity := m.parity || ch.parityBad, framing := m.framing || ch.framingBad, noise := m.noise || ch.noise,
                    firstErr := match m.firstErr with | some e => some e | none => if bad then some m.data.length else none }
  let t := s.setChan n { c with message := some m, lastRx := ch.start + s.charNs n }
  if t.rxCfg n (Obj.rxMax n) ≤ m.data.length then t.uartClose n 1 else t.followLine n

/-- A character received without error is the re-test of a line that was stuck (R312). -/
def State.goodCharacter (s : State) (n : Nat) : State :=
  if s.flag (Obj.uartFlags n) ufStuck then (s.setFlag (Obj.uartFlags n) ufStuck false).closeFault (0x5880 + n) 0x02 n else s

/-- A character of a message to this channel, with its errors counted (R312). -/
def State.uartHear (s : State) (n : Nat) (ch : UartHeard) : State :=
  let t := if ch.parityBad then s.bump (Obj.parityErrors n) else s
  let t := if ch.framingBad then t.bump (Obj.framingErrors n) else t
  let t := if ch.parityBad ∨ ch.framingBad ∨ ch.noise then t else t.goodCharacter n
  t.uartGather n ch

/-- The line has stayed low longer than LINE_LIMIT (R312). -/
def State.stuckNow (s : State) (n : Nat) : State :=
  if s.flag (Obj.uartFlags n) ufStuck then s
  else ((s.setFlag (Obj.uartFlags n) ufStuck true).followLine n).lastingFault (0x5880 + n) 0x02 n 0 0 false

/-- A break that began at `b` is over at `e`: within LINE_LIMIT it is counted and transient (R312). -/
def State.breakOver (s : State) (n b e : Nat) : State :=
  if s.obj (Obj.lineLimit n) ≠ 0 ∧ b + s.obj (Obj.lineLimit n) * ms < e then s.stuckNow n
  else (s.bump (Obj.breaks n)).transientFault (0x5880 + n) 0x10 n 0 0 false

/-! ## Transmitting (R315 to R320) -/

/-- The channel drives UA_DE around each message: DE_MODE 1, but not in internal loopback, where UA_DE stays inactive (R318, R321). -/
def State.drivesDe (s : State) (n : Nat) : Bool := s.obj (Obj.deMode n) == 1 && s.obj (Obj.uartMode n) == 1

/-- The half bits of the break of a record and of the bit time of idle after it (R315). -/
def State.breakHalves (s : State) (n : Nat) (b : List Byte) : Nat :=
  if uRecBreak b then 2 * s.txCfg n (Obj.breakBits n) + 2 else 0

/-- Their time, ns. -/
def State.breakNs (s : State) (n : Nat) (b : List Byte) : Nat := s.halfBits n (s.breakHalves n b)

/-- Characters of a record. -/
def State.uRecChars (s : State) (n : Nat) (b : List Byte) : Nat := uRecLen b / s.charBytes n

/-- The start of character `i` of a message being sent, ns. -/
def State.charStart (s : State) (n : Nat) (x : UartTx) (i : Nat) : Nat :=
  x.start + s.breakNs n x.entry.record + s.halfBits n (i * s.charHalves n)

/-- LAST_TX_TIME of a message of which `k` characters have begun: its first start bit, that of the break where it has sent no character
(DEDUCED: log entry 132), 0 where it has sent nothing (R320). -/
def State.firstStart (s : State) (n : Nat) (x : UartTx) (k : Nat) : Nat :=
  if 0 < k then s.charStart n x 0 else if uRecBreak x.entry.record ∧ x.start ≤ s.now then x.start else 0

/-- The message being sent has sent its last bit at `stop`: it leaves the queue, and UA_DE is released after DE_LAG (R318, R320). -/
def State.uartLeaves (s : State) (n : Nat) (x : UartTx) (stop : Nat) : State :=
  let c := s.chan n
  (s.setChan n { c with queue := c.queue.erase x.entry, sending := none, lastTx := stop, last := some x,
                        lagFrom := if s.drivesDe n then some stop else none,
                        txBefore := if s.drivesDe n then c.txBefore else [] }).followLine n

/-- A message leaves the queue with its result (R320). -/
def State.uartResult (s : State) (n result time : Nat) : State :=
  (s.put (Obj.lastTxResult n) result).put (Obj.uartLastTxTime n) time

/-- The message being sent stops after its current character: it leaves the queue, and UA_DE is released after DE_LAG (R319, R320). -/
def State.uartStop (s : State) (n result : Nat) : State :=
  let c := s.chan n
  match c.sending with
  | none => s
  | some x =>
    let b := x.entry.record
    let k := ((List.range (s.uRecChars n b)).filter (fun i => s.charStart n x i ≤ s.now)).length
    let t := (s.uartLeaves n x (if s.now < x.start then s.now else s.charStart n x k)).uartResult n result (s.firstStart n x k)
    if s.now < x.start ∨ s.obj (Obj.uartMode n) = 3 then t else t.emit (.uartSent n (uRecBreak b) ((uRecData b).take (k * s.charBytes n)))

/-- A collision (R319). -/
def State.uartCollision (s : State) (n : Nat) : State :=
  ((s.uartStop n stIntegrity).setFlag (Obj.uartFlags n) ufCollision true).bump (Obj.collisions n)

/-- The character that the channel is to hear as its echo. -/
def State.echoWanted (s : State) (n : Nat) (x : UartTx) : Nat :=
  leAt (uRecData x.entry.record) (x.echoed * s.charBytes n) (s.charBytes n)

/-- UA_DE is asserted around a message of this channel. -/
def State.deAsserted (s : State) (n : Nat) : Bool :=
  s.drivesDe n && ((s.chan n).sending.isSome || (s.chan n).lagFrom.isSome)

/-- The receiver listens to the line: not in internal loopback (log entry 131), nor, without ECHO_CHECK, while UA_DE is asserted (R318). -/
def State.chanHears (s : State) (n : Nat) : Bool :=
  s.chanOn n && s.obj (Obj.uartMode n) ≠ 3 && !(s.deAsserted n && s.txCfg n (Obj.echoCheck n) == 0)

/-- A character that began at `start` is an echo of what this channel sends, or has sent up to `lastTx` (R319). -/
def State.echoes (s : State) (n start : Nat) : Bool :=
  s.drivesDe n &&
  (match (s.chan n).sending with
   | some x => x.start ≤ start
   | none => s.txCfg n (Obj.echoCheck n) == 1 && start < (s.chan n).lastTx)

/-- A break (R311, R312): the open message closes, and the break has a record of its own. Where the channel hears its own message, the
break before it is its echo, and any other a collision, since it has no stop bit (R319). -/
def uartBreak (s : State) (n start : Nat) : State :=
  let echoOf := if s.drivesDe n then (s.chan n).sending else none
  if !s.chanHears n ∨ (s.chan n).breakFrom ≠ none then s
  else if echoOf.any (fun x => uRecBreak x.entry.record && x.echoed == 0) then s
  else if echoOf.isSome then s.uartCollision n
  else
    let t := s.uartClose n 2
    let t := (t.setChan n { t.chan n with breakFrom := some start }).followLine n
    t.uartDeliver n { first := uartStamp start } 2 true

/-- The echo of a character of the message being sent: a mismatch, of its parity bit too, or a framing error is a collision (R319); a good one
is a character received without error (R312). -/
def State.uartEcho (s : State) (n : Nat) (ch : UartHeard) : State :=
  match (s.chan n).sending with
  | none => s
  | some x =>
    if ch.framingBad ∨ ch.parityBad ∨ ch.value ≠ s.echoWanted n x then s.uartCollision n
    else (s.setChan n { s.chan n with sending := some { x with echoed := x.echoed + 1 } }).goodCharacter n

/-- A character has been received, or a false start found (R310 to R312, R318, R319): one of low bits alone is a break, and no echo is ever
delivered. -/
def uartCharacterRx (s : State) (n : Nat) (char : UartChar) : State :=
  let ch := s.sampled n char
  if !s.chanHears n ∨ (s.chan n).breakFrom ≠ none then s
  else if ch.falseStart then s.bump (Obj.noiseEvents n)
  else if ch.low then uartBreak s n ch.start
  else if s.echoes n ch.start then s.uartEcho n ch
  else s.uartHear n ch

/-- The line has been idle for the gap (R311). -/
def uartGapClose (s : State) (n : Nat) : State :=
  if !s.chanOn n ∨ (s.chan n).message = none ∨ s.rxCfg n (Obj.gapUnit n) = 0 then s
  else (s.waitUntil ((s.chan n).lastRx + s.rxGapNs n)).uartClose n 0

/-- The line stays low longer than LINE_LIMIT (R312). -/
def lineStuck (s : State) (n : Nat) : State :=
  match (s.chan n).breakFrom with
  | none => s
  | some b =>
    let limit := s.obj (Obj.lineLimit n)
    if limit = 0 ∨ s.flag (Obj.uartFlags n) ufStuck then s
    else (s.waitUntil (b + limit * ms + 1)).stuckNow n

/-- The line returns high after a break (R312). -/
def uartBreakEnd (s : State) (n : Nat) : State :=
  match (s.chan n).breakFrom with
  | none => s
  | some b => ((s.setChan n { s.chan n with breakFrom := none, lastRx := s.now }).followLine n).breakOver n b s.now

/-- A read of RX_POLL (R314). -/
def State.uartRxRead (s : State) (n : Nat) : State × List Byte :=
  let c := s.chan n
  match c.rx with
  | [] => (s, List.replicate 272 0)
  | r :: rest => (s.setChan n { c with rx := rest }, r)

/-- A record that R315 step 3 accepts. -/
def State.uartRecordGood (s : State) (n : Nat) (b : List Byte) (due : Nat) : Bool :=
  let h := recHead b
  let d := s.obj (Obj.dataBits n)
  let len := uRecLen b
  b.length == 272 && bits h 127 97 == 0 && bits h 79 64 == 0 && len ≤ 256 && !(d == 9 && len % 2 == 1) &&
  (List.range (len / s.charBytes n)).all (fun i => leAt b (16 + i * s.charBytes n) (s.charBytes n) < 2 ^ d) &&
  (b.drop (16 + len)).all (· == 0) && due ≤ s.now + 60 * sec

/-- The checks of R315 in their order; none where the command passes. -/
def State.uartRefusal (s : State) (n : Nat) (b : List Byte) (commander : Nat) (event : Option Nat) : Option Nat :=
  if !s.serving ∨ s.paused then some stHeldStatus
  else if s.obj (Obj.uartMode n) ≠ 1 ∧ s.obj (Obj.uartMode n) ≠ 3 then some stReadOnly
  else if !s.uartRecordGood n b (submitTime b event) then some stOutOfRange
  else if commander = 0 ∨ commander ≠ s.holderNow then some stClaimLost
  else none

/-- A submission that has passed its checks enters the queue or the schedule list (R317). -/
def State.uartSubmit (s : State) (n : Nat) (b : List Byte) (commander : Nat) (o : CellOrigin) (event : Option Nat) : State × Taken :=
  let due := submitTime b event
  let e : CanEntry := { record := b, time := due, commander := commander, origin := o }
  let c := s.chan n
  if due ≤ s.now then
    if c.queue.length < 16 then (s.setChan n { c with queue := c.queue ++ [e] }, .entered) else (s, .full)
  else if c.schedule.length < 8 then (s.setChan n { c with schedule := c.schedule ++ [e] }, .scheduled) else (s, .full)

/-- A scheduled message falls due (R317, R290). -/
def uartScheduleDue (s : State) (n : Nat) : State :=
  let c := s.chan n
  match firstDue c.schedule with
  | none => s
  | some e =>
    if 16 ≤ c.queue.length ∧ e.commander = s.holderNow then s
    else
      let t := s.waitUntil e.time
      let t := t.setChan n { c with schedule := c.schedule.erase e }
      if e.commander = 0 ∨ e.commander ≠ t.holderNow then t.queueResult e.origin stClaimLost
      else (t.setChan n { t.chan n with queue := (t.chan n).queue ++ [e] }).queueResult e.origin stDone

/-- The head message starts (R316 to R318): UA_DE is asserted DE_LEAD before its first start bit; a message that sends nothing completes
at once. With a gap set in DE_MODE 1 it waits while the line is low in a break, since the line is not idle. -/
def uartMessageStart (s : State) (n : Nat) : State :=
  let c := s.chan n
  match c.queue with
  | [] => s
  | e :: r =>
    let mode := s.obj (Obj.uartMode n)
    let low := s.obj (Obj.deMode n) = 1 ∧ s.obj (Obj.gapUnit n) ≠ 0 ∧ c.breakFrom ≠ none
    if !s.chanOn n ∨ (mode ≠ 1 ∧ mode ≠ 3) ∨ c.sending ≠ none ∨ c.lagFrom ≠ none ∨ low then s
    else if uRecLen e.record = 0 ∧ !uRecBreak e.record then
      ((s.setChan n { c with queue := r }).uartResult n stDone 0).bump (Obj.txMessages n)
    else
      let from' := if s.obj (Obj.deMode n) = 1 then max c.lastTx c.lastRx else c.lastTx
      let t := s.waitUntil (from' + s.gapNs n)
      let lead := if t.drivesDe n then uartClockUp (t.obj (Obj.deLead n)) else 0
      let t := (t.setChan n { c with sending := some { entry := e, start := t.now + lead } }).followLine n
      if t.drivesDe n then t.emit (.uartDe n true) else t

/-- The last stop bit of the message being sent (R320). In internal loopback the channel's own receiver takes its characters (R321). -/
def uartMessageEnd (s : State) (n : Nat) : State :=
  let c := s.chan n
  match c.sending with
  | none => s
  | some x =>
    let b := x.entry.record
    let chars := s.uRecChars n b
    let stop := s.charStart n x chars
    let t := s.waitUntil stop
    let t := ((t.uartLeaves n x stop).uartResult n stDone (t.firstStart n x chars)).bump (Obj.txMessages n)
    if t.obj (Obj.uartMode n) = 3 then
      let t := if uRecBreak b then
          (((t.uartClose n 2).uartDeliver n { first := uartStamp x.start } 2 true).breakOver n x.start
            (x.start + s.halfBits n (2 * s.txCfg n (Obj.breakBits n))))
        else t
      forEach (List.range chars) (fun t i => t.uartHear n
        { value := leAt (uRecData b) (i * t.charBytes n) (t.charBytes n), start := t.charStart n x i }) t
    else t.emit (.uartSent n (uRecBreak b) (uRecData b))

/-- DE_LAG after the last stop bit (R318). -/
def deLagEnd (s : State) (n : Nat) : State :=
  match (s.chan n).lagFrom with
  | none => s
  | some e =>
    let t := s.waitUntil (e + uartClockUp (s.txCfg n (Obj.deLag n)))
    (t.setChan n { t.chan n with lagFrom := none, txBefore := [] }).emit (.uartDe n false)

/-! ## Claims, aborts and node states (R320, R321) -/

/-- The queue is emptied: each message counts and leaves with `result`; the message being sent goes on where `keep` says so. -/
def State.uartEmptyQueue (s : State) (n result : Nat) (keep : Bool) : State :=
  let c := s.chan n
  let cur := (c.sending.map (·.entry)).toList
  let rest := match c.sending with | some x => c.queue.erase x.entry | none => c.queue
  let t := (s.bumpBy (Obj.uartTxDiscarded n) rest.length).setChan n { c with queue := cur }
  let t := if rest = [] then t else t.uartResult n result 0
  if keep ∨ cur = [] then t else (t.bump (Obj.uartTxDiscarded n)).uartStop n result

/-- The schedule list is emptied; EVENTs in it complete with `status`. -/
def State.uartEmptySchedule (s : State) (n status : Nat) : State :=
  let c := s.chan n
  let t := (s.bumpBy (Obj.uartTxDiscarded n) c.schedule.length).setChan n { c with schedule := [] }
  forEach c.schedule (fun t e => t.queueResult e.origin status) t

/-- TX_MISSED apply instants have passed without a live claim (R320). -/
def uartTxHold (s : State) (n : Nat) : State :=
  if s.serving ∧ !s.holding ∧ s.liveCommanders = [] ∧ !s.frozen ∧ s.obj (Obj.uartTxMissed n) ≤ s.ring.sinceNoClaim ∧ s.obj (Obj.uartTxHold n) = 1 then
    (s.uartEmptyQueue n stClaimLost true).uartEmptySchedule n stClaimLost
  else s

/-- TX_ABORT (R320, R322). The result that a discarded message leaves in LAST_TX_RESULT is not stated: a free value (log entry 3). -/
def State.uartAbort (s : State) (n v : Nat) : State :=
  let t := if v.testBit 0 then (s.uartEmptyQueue n s.freeStatus false).tookFree else s
  if v.testBit 1 then t.uartEmptySchedule n stHeldStatus else t

/-- The line comes into service, or is off. -/
def State.uartBegin (s : State) (n : Nat) : State :=
  s.put (Obj.lineState n) (if s.obj (Obj.uartMode n) = 0 then 0 else 1)

/-- A LOCAL reset: UART_CMD 1, or a commit of R321's objects. -/
def State.uartLocalReset (s : State) (n : Nat) : State :=
  let t := (s.uartClose n 3).dropBlock portUart (fun ix => ix == 0x5800 + n || ix == 0x5880 + n)
  let t := ((t.uartEmptyQueue n t.freeStatus false).tookFree).uartEmptySchedule n stHeldStatus
  let t := t.setChan n { lastRx := (t.chan n).lastRx, lastTx := (t.chan n).lastTx }
  (t.emit (.uartDe n false)).uartBegin n

/-- The objects that a message being received, and one being sent, keep until it has ended (R321). -/
def rxKeys (n : Nat) : List Nat :=
  [Obj.gapUnit n, Obj.gapValue n, Obj.rxMax n, Obj.rxDest n, Obj.uartRxFullMode n, Obj.uartSmeClass n]
def txKeys (n : Nat) : List Nat :=
  [Obj.dePolarity n, Obj.deLead n, Obj.deLag n, Obj.echoCheck n, Obj.breakBits n]

/-- A commit of a channel's other objects takes effect between two messages (R321): a message in progress keeps those of `old`. -/
def State.uartCommitted (s old : State) (n : Nat) : State :=
  let c := s.chan n
  let was := fun keys => keys.map (fun k => (k, old.obj k))
  let rx := if c.message.isSome ∧ c.rxBefore = [] then was (rxKeys n) else c.rxBefore
  let tx := if (c.sending.isSome ∨ c.lagFrom.isSome) ∧ c.txBefore = [] then was (txKeys n) else c.txBefore
  s.setChan n { c with rxBefore := rx, txBefore := tx }

/-- The HOLD power state begins: nothing is sent and UA_DE is inactive, so that a message being sent stays in the queue, unsent (R303,
R321). -/
def State.uartPauses (s : State) (n : Nat) : State :=
  let c := s.chan n
  let de := s.deAsserted n
  let t := s.setChan n { c with sending := none, last := none, lagFrom := none, txBefore := [],
                                lastTx := if c.sending.isSome then max c.lastTx s.now else c.lastTx }
  let t := t.followLine n
  if de then t.emit (.uartDe n false) else t

/-- Leaving RUNNING or DEGRADED for HELD (R303, R311, R321). -/
def State.uartsHeld (s : State) : State :=
  forEach (s.uart.map (·.1)) (fun t n =>
    ((t.uartClose n 3).uartEmptyQueue n stHeldStatus false).uartEmptySchedule n stHeldStatus) s

/-- The configuration is loaded. -/
def State.uartsLoaded (s : State) : State := forEach (List.range 32) (fun t n => t.uartBegin n) s

/-- CLEAR of a channel's counters (R323). -/
def State.uartClearNow (s : State) (n : Nat) : State :=
  s.clearKeys ((List.range 10).map (fun i => (0x5880 + n) * 256 + 0x0B + i))

/-! ## Pins (R307, R318, R321)

UA_RX is an input in every state: what the line shows on it arrives as the characters and breaks of the commands. -/

/-- The level of a message being sent, before INVERT: its break and the bit time of idle after it, then its characters back to back (R308,
R315, R317). -/
def State.messageLevel (s : State) (n : Nat) (x : UartTx) : Bool :=
  let b := x.entry.record
  let h := s.halfBitsIn n (s.now - x.start)
  let brk := s.breakHalves n b
  let i := (h - brk) / s.charHalves n
  if s.now < x.start then true
  else if h < brk then brk ≤ h + 2
  else if i < s.uRecChars n b then
    (s.charLevels n (leAt (uRecData b) (i * s.charBytes n) (s.charBytes n))).getD ((h - brk) % s.charHalves n / 2) true
  else true

/-- The level of UA_TX, none where it floats: the idle level unless a message goes out; receive only, internal loopback and the HOLD power
state send nothing (R307, R321). -/
def State.uaTxPin (s : State) (n : Nat) : Option Bool :=
  let c := s.chan n
  let sends := s.obj (Obj.uartMode n) == 1 && s.chanOn n
  let x := match c.sending with | some x => some x | none => if s.now < c.lastTx then c.last else none
  let level := match x with | some x => !sends || s.messageLevel n x | none => true
  if s.pinsFloat then none else some (level != s.flag (Obj.uartInvert n) 0)

/-- The level of UA_DE, none where it floats: DE_MODE 1 asserts it around each message, DE_MODE 2 while the channel may send; in internal
loopback it stays inactive (R307, R318, R321: log entry 132). -/
def State.uaDePin (s : State) (n : Nat) : Option Bool :=
  let asserted := s.obj (Obj.uartMode n) == 1 && s.chanOn n && (s.deAsserted n || s.obj (Obj.deMode n) == 2)
  if s.pinsFloat then none else some (asserted == (s.txCfg n (Obj.dePolarity n) == 1))

/-- The configuration of a channel as it will stand, read through `cfg` (R309, R311); the error of the rate is held, unrounded, against
10,000 ppm. -/
def uartGood (cfg : Nat → Nat) (n : Nat) : Bool :=
  let baud := cfg (Obj.uartBaud n)
  let rate := uartOs baud * uartD16 baud * baud
  let gap := cfg (Obj.gapValue n)
  300 ≤ baud && baud ≤ 12000000 && 100 * Int.natAbs (3840000000 - (rate : Int)) ≤ rate &&
  (match cfg (Obj.gapUnit n) with
   | 1 => 1 ≤ gap && gap ≤ 65535
   | 2 => 1 ≤ gap && gap ≤ 10000000
   | _ => true) &&
  !(cfg (Obj.dataBits n) == 9 && cfg (Obj.rxMax n) % 2 == 1)

/-- ACTUAL_BAUD and BAUD_ERROR: 0 until the channel has come into service (R323; DEDUCED from their reset value: log entry 183). -/
def State.actualBaudNow (s : State) (n : Nat) : Nat :=
  if s.obj (Obj.lineState n) = 0 then 0 else actualBaudOf (s.obj (Obj.uartBaud n))
def State.baudErrorNow (s : State) (n : Nat) : Nat :=
  if s.obj (Obj.lineState n) = 0 then 0 else ofSigned 32 (baudErrorOf (s.obj (Obj.uartBaud n)))

/-! ## The hold areas of the SME (R300, R314) -/

/-- A record for the SME that the switch has come to hold finds the hold area of its block full: it is discarded and counted, and the
block's next record for the SME carries LOST. -/
def State.smeOverflow (s : State) : State :=
  match s.sw.held.getLast? with
  | some h =>
    match h.offered.packet with
    | .ring f =>
      let ix := bits f.address 23 8
      let t := { s with sw := { s.sw with held := s.sw.held.dropLast } }
      let n := ix - 0x5300
      let m := ix - 0x5880
      if h.offered.outs ≠ [portSme] then s
      else if 0x5300 ≤ ix ∧ ix < 0x5310 ∧ 32 < s.smeHeld ix then
        (t.setCan n { t.canCtl n with smeLost := true }).bump (Obj.canSmeDrops n)
      else if 0x5880 ≤ ix ∧ ix < 0x58A0 ∧ 8 < s.smeHeld ix then
        (t.setChan m { t.chan m with smeLost := true }).bump (Obj.uartSmeDrops m)
      else s
    | _ => s
  | none => s

end Sys2Proof.Machine
end

