-- ==== Sys2Proof/Machine/MapEntry.lean ====
section
/-! DEFINITION. The tables of the signal map (file 12): the fields of an entry (R340), of an output buffer and a host input block (R345,
R349), and which entries are out of service (R372). An entry is kept as its 384-bit number. -/
namespace Sys2Proof.Machine

/-- The entries of a table of `n`-byte records, as numbers. -/
def recordsOf (n : Nat) (b : List Byte) : List Nat := (List.range (b.length / n)).map (fun i => leAt b (n * i) n)

/-- The signal map's entries. -/
def State.mapTableNow (s : State) : List Nat := recordsOf 48 (s.blob Obj.mapTable)
def State.obTableNow (s : State) : List Nat := recordsOf 16 (s.blob Obj.obTable)
def State.hibTableNow (s : State) : List Nat := recordsOf 8 (s.blob Obj.hibTable)

def meTrig (w : Nat) : Nat := bits w 383 382
def meSrcKind (w : Nat) : Nat := bits w 381 378
def meSrcFmt (w : Nat) : Nat := bits w 377 376
def meSrcBe (w : Nat) : Bool := bit w 375
def meSrcWidth (w : Nat) : Nat := bits w 374 370 + 1
def meSrcBit (w : Nat) : Nat := bits w 369 358
def meSelAny (w : Nat) : Bool := bit w 353
def meQualAsValue (w : Nat) : Bool := bit w 352
def meSrcIndex (w : Nat) : Nat := bits w 351 336
def meSrcSel (w : Nat) : Nat := bits w 335 328
def meQsrc (w : Nat) : Nat := bits w 327 320
def meGain (w : Nat) : Int := toSigned 32 (bits w 319 288)
def meOffset (w : Nat) : Int := toSigned 32 (bits w 287 256)
def meOutMin (w : Nat) : Int := toSigned 32 (bits w 255 224)
def meOutMax (w : Nat) : Int := toSigned 32 (bits w 223 192)
def meGainShift (w : Nat) : Nat := bits w 191 187
def meRound (w : Nat) : Nat := bits w 186 184
def meDstKind (w : Nat) : Nat := bits w 183 181
def meDstFmt (w : Nat) : Nat := bits w 180 179
def meDstBe (w : Nat) : Bool := bit w 178
def meDstWidth (w : Nat) : Nat := bits w 177 173 + 1
def meDstBit (w : Nat) : Nat := bits w 172 161
def meDstIndex (w : Nat) : Nat := bits w 160 152
def meTimeSrc (w : Nat) : Nat := bits w 151 150
def meTimeByte (w : Nat) : Nat := bits w 143 136
def meOutDelay (w : Nat) : Nat := bits w 135 104
def meAction (w : Nat) : Nat := bits w 103 96
def mePulseWidth (w : Nat) : Nat := bits w 95 64
def meDeadband (w : Nat) : Nat := bits w 63 48
def meTconst (w : Nat) : Nat := bits w 47 32
def meEcrc (w : Nat) : Nat := bits w 15 0

/-- Reserved bits of an entry. -/
def meReserved (w : Nat) : Bool := bits w 357 354 ≠ 0 || bits w 149 144 ≠ 0 || bits w 31 16 ≠ 0

/-- The entry's CRC is right (R340): over bytes 2 to 47. -/
def meCrcGood (w : Nat) : Bool := meEcrc w == hcrc ((leBytes 48 w).drop 2)

def obKind (w : Nat) : Nat := bits w 7 0
def obTarget (w : Nat) : Nat := bits w 15 8
def obSend (w : Nat) : Nat := bits w 23 16
def obFlags (w : Nat) : Nat := bits w 31 24
def obIdAddr (w : Nat) : Nat := bits w 63 32
def obSize (w : Nat) : Nat := bits w 79 64

/-- Bytes of an output buffer's image (R345). -/
def obBytes (w : Nat) : Nat :=
  match obKind w with
  | 1 => dlcBytes (bit (obIdAddr w) 30) (obSize w)
  | 2 | 3 => obSize w
  | _ => 0

def hibAddress (w : Nat) : Nat := bits w 31 0
def hibLength (w : Nat) : Nat := bits w 39 32

/-- An entry is out of service (R372): the whole SME, or the bank of 2,048 entries that holds it. -/
def State.entryOos (s : State) (e : Nat) : Bool := s.flag Obj.smeOosMap 4 || s.flag Obj.smeOosMap (e / 2048)

/-- The entries in use that drive a destination, with their numbers. -/
def State.entriesTo (s : State) (kind index : Nat) : List Nat :=
  (s.mapTableNow.mapIdx (fun e w => (e, w))).filterMap (fun x =>
    if meTrig x.2 ≠ 0 ∧ meDstKind x.2 = kind ∧ meDstIndex x.2 = index then some x.1 else none)

/-- A destination has an entry that is out of service. -/
def State.destOos (s : State) (kind index : Nat) : Bool := s.obj Obj.smeOosMap ≠ 0 && (s.entriesTo kind index).any s.entryOos

/-! ## Validation (R346, R364) -/

/-- The source size in bits of an entry, of each SRC_KIND (R341); none for the constant. -/
def sourceBits (hib : List Nat) (w : Nat) : Option Nat :=
  match meSrcKind w with
  | 0 | 3 | 6 => some 32
  | 1 => some 512
  | 2 | 5 => some 2048
  | 4 => some (8 * hibLength (hib.getD (meSrcIndex w) 0))
  | _ => none

/-- The field formats: F32 is 32 bits wide, a BCD width a multiple of 4. -/
def formatGood (fmt width : Nat) : Bool := !(fmt == 2 && width ≠ 32) && !(fmt == 3 && width % 4 ≠ 0)

/-- SRC_INDEX, SRC_SEL and TRIG agree with SRC_KIND (R341). -/
def sourceGood (hib : List Nat) (e w : Nat) : Bool :=
  let i := meSrcIndex w
  let sel := meSrcSel w
  (match meSrcKind w with
   | 0 => meTrig w == 2 && i < 4096 && 1 ≤ sel && sel ≤ 96
   | 1 => meTrig w == 1 && i < 16
   | 2 => meTrig w == 1 && i < 32
   | 3 => meTrig w == 1 && i < 128 && sel < 64
   | 4 => meTrig w == 2 && i < 64 && hibLength (hib.getD i 0) ≠ 0
   | 5 => meTrig w == 1 && i < 64
   | 6 => i < e
   | 7 => meTrig w == 2
   | _ => false) &&
  (!meSelAny w || meSrcKind w == 1 || meSrcKind w == 2) &&
  formatGood (meSrcFmt w) (meSrcWidth w) &&
  (match sourceBits hib w with
   | some n => meQualAsValue w || fieldFits (n / 8) (meSrcBe w) (meSrcBit w) (meSrcWidth w)
   | none => true)

/-- The destination of an entry is one that R344 and R346 allow. -/
def destGood (cfg : Nat → Nat) (groups : Nat → List Byte) (ob : List Nat) (w : Nat) : Bool :=
  let i := meDstIndex w
  match meDstKind w with
  | 0 => true
  | 1 => i < 320 && cfg (Obj.cellMode i) == 2 && cfg (Obj.cellOwner i) == 0xFF && meAction w ≤ 2 &&
         (meAction w == 0 || mePulseWidth w ≠ 0)
  | 2 => i < 256 && obKind (ob.getD i 0) ≠ 0 && formatGood (meDstFmt w) (meDstWidth w) &&
         fieldFits (obBytes (ob.getD i 0)) (meDstBe w) (meDstBit w) (meDstWidth w)
  | 3 => i % 16 < (groupsOf' (groups (i / 16))).length
  | _ => false
where
  groupsOf' (b : List Byte) : List Nat := (b.map (·.toNat)).takeWhile (· ≠ 0xFF)

/-- An entry in use that validation takes, its ECRC apart; TIME_SRC 2 names a time that the source can hold. -/
def entryGood (cfg : Nat → Nat) (groups : Nat → List Byte) (ob hib : List Nat) (e w : Nat) : Bool :=
  meTrig w ≠ 3 && !meReserved w && sourceGood hib e w && destGood cfg groups ob w &&
  meOutMin w ≤ meOutMax w && meRound w ≤ 3 && meTimeSrc w ≠ 3 && meTconst w ≠ 0 &&
  (meTimeSrc w ≠ 2 || (match meSrcKind w with
    | 3 => meTimeByte w < 64
    | 1 | 2 | 4 | 5 => 8 * (meTimeByte w + 8) ≤ (sourceBits hib w).getD 0
    | _ => false))

/-- An output buffer entry that validation takes (R345). -/
def bufferGood (w : Nat) : Bool :=
  bits w 127 80 == 0 && obSend w ≤ 1 &&
  (match obKind w with
   | 0 => true
   | 1 => obTarget w < 16 && obFlags w ≤ 1 && obSize w ≤ 15
   | 2 => obTarget w < 32 && (obFlags w == 0 || obFlags w == 2) && obSize w ≤ 256
   | 3 => obTarget w == 0 && obFlags w == 0 && 1 ≤ obSize w && obSize w ≤ 64
   | _ => false)

/-- A host input block entry that validation takes (R349). -/
def blockGood (w : Nat) : Bool := bits w 63 40 == 0 && hibLength w ≤ 64

/-- The validation of the map, the output buffers and the host input blocks (R346): the status, or none where they pass. A reserved
bit that is not 0 makes any entry invalid, used or not (R5). -/
def mapRefusal (cfg : Nat → Nat) (groups : Nat → List Byte) (map ob hib : List Byte) : Option Nat :=
  let obs := recordsOf 16 ob
  let hibs := recordsOf 8 hib
  let entries := (recordsOf 48 map).mapIdx (fun e w => (e, w))
  if map.length % 48 ≠ 0 ∨ 393216 < map.length ∨ ob.length % 16 ≠ 0 ∨ 4096 < ob.length ∨ hib.length % 8 ≠ 0 ∨ 512 < hib.length then
    some stOutOfRange
  else if entries.any (fun x => meReserved x.2) then some stOutOfRange
  else if entries.any (fun x => meTrig x.2 ≠ 0 && !meCrcGood x.2) then some stIntegrity
  else if !obs.all bufferGood ∨ !hibs.all blockGood ∨
      entries.any (fun x => meTrig x.2 ≠ 0 && !entryGood cfg groups obs hibs x.1 x.2) then some stOutOfRange
  else none

end Sys2Proof.Machine
end

