-- ==== Sys2Proof/Machine/Goose.lean ====
section
/-! DEFINITION. GOOSE subscription and publication (file 12, R333 to R338): the BER of IEC 61850-8-1, the members and their words, and
the frames of a publication. The tags and the order of the fields are IEC 61850-8-1's (log entry 26). -/
namespace Sys2Proof.Machine

def State.gooseSub (s : State) (n : Nat) : GooseSub := sparseGet (fun _ => {}) s.sme.subs n
def State.setSub (s : State) (n : Nat) (g : GooseSub) : State :=
  { s with sme := { s.sme with subs := sparsePut (fun _ => {}) s.sme.subs n g } }
def State.goosePub (s : State) (n : Nat) : GoosePub := sparseGet (fun _ => {}) s.sme.pubs n
def State.setPub (s : State) (n : Nat) (g : GoosePub) : State :=
  { s with sme := { s.sme with pubs := sparsePut (fun _ => {}) s.sme.pubs n g } }

/-! ## Quality (R129, R337) -/

def qOverrange : Nat := 0x80
def qMapFault : Nat := 0x40
def qStale : Nat := 0x20
def qAbsent : Nat := 0x10
def qTest : Nat := 0x08
def qSubstituted : Nat := 0x04
def qHeld : Nat := 0x02
def qInvalid : Nat := 0x01

/-- The 13-bit q of a quality byte (R337), the first bit of the string most significant: validity, overflow, outOfRange, badReference,
oscillatory, failure, oldData, inconsistent, inaccurate, source, test, operatorBlocked. -/
def qOfQuality (q : Nat) : Nat :=
  let has (m : Nat) : Bool := q &&& m ≠ 0
  (if has qInvalid || has qAbsent || has qMapFault then 1 * 2 ^ 11 + ofBool (has qMapFault) * 2 ^ 6
   else if has qStale || has qHeld then 3 * 2 ^ 11 + 2 ^ 5
   else if has qOverrange then 3 * 2 ^ 11 + 2 ^ 9
   else 0) + ofBool (has qSubstituted) * 2 ^ 2 + ofBool (has qTest) * 2 ^ 1

/-- The quality byte of a received 13-bit q (R337). -/
def qualityOfQ (q : Nat) : Nat :=
  let validity := q / 2 ^ 11 % 4
  (if validity = 1 then qInvalid
   else if validity = 3 then
     (let old := q.testBit 5
      let beyond := q.testBit 10 || q.testBit 9
      if old || beyond then (if old then qStale else 0) + (if beyond then qOverrange else 0) else qInvalid)
   else 0) +
  (if q.testBit 2 then qSubstituted else 0) + (if q.testBit 1 then qTest else 0) + (if q.testBit 0 then qHeld else 0)

/-! ## BER -/

/-- The length octets of BER, definite forms of at most two octets: the length and the octets left. -/
def berLength : List Byte → Option (Nat × List Byte)
  | a :: r =>
    if a.toNat < 128 then some (a.toNat, r)
    else if a.toNat = 0x81 then (match r with | b :: r => some (b.toNat, r) | [] => none)
    else if a.toNat = 0x82 then (match r with | b :: c :: r => some (b.toNat * 256 + c.toNat, r) | _ => none)
    else none
  | [] => none

/-- The tagged values of a BER string, each with its content; none where the structure is not valid. `n` bounds their number. -/
def berItems : Nat → List Byte → Option (List (Nat × List Byte))
  | _, [] => some []
  | 0, _ => none
  | n + 1, tag :: r =>
    match berLength r with
    | none => none
    | some (len, r) =>
      if r.length < len then none
      else (berItems n (r.drop len)).map (fun l => (tag.toNat, r.take len) :: l)

/-- The members of allData, structures flattened depth-first and an array one member of another type (R334); `n` bounds the depth. -/
def berFlat : Nat → List (Nat × List Byte) → Option (List (Nat × List Byte))
  | 0, _ => none
  | n + 1, l => (l.mapM (fun (e : Nat × List Byte) =>
      if e.1 = 0xA2 then (berItems e.2.length e.2).bind (berFlat n) else some [e])).map List.flatten

/-- One BER value: tag, length and content. -/
def berValue (tag : Nat) (content : List Byte) : List Byte :=
  let n := content.length
  leBytes 1 tag ++ (if n < 128 then leBytes 1 n else if n < 256 then leBytes 1 0x81 ++ leBytes 1 n else leBytes 1 0x82 ++ beBytes 2 n) ++
    content

/-- The least number of octets, up to `n`, that hold `v` in two's complement. -/
def intOctets : Nat → Int → Nat
  | 0, _ => 1
  | n + 1, v => if -(2 ^ (8 * n + 7) : Nat) ≤ v ∧ v < (2 ^ (8 * n + 7) : Nat) then min (n + 1) (intOctets n v) else n + 2

/-- The content of a BER integer in the fewest octets. -/
def berInt (v : Int) : List Byte :=
  let n := intOctets 8 v
  beBytes n (ofSigned (8 * n) v)

/-- A signed BER integer. -/
def berIntVal (l : List Byte) : Int := toSigned (8 * max 1 l.length) (beVal l)

/-! ## The goosePdu -/

/-- The fields of a goosePdu. -/
structure GoosePdu where
  gocbRef : List Byte
  tal : Nat
  datSet : List Byte
  time : List Byte
  stNum : Nat
  sqNum : Nat
  simulation : Bool
  confRev : Nat
  ndsCom : Bool
  entries : Nat
  members : List (Nat × List Byte)
  deriving DecidableEq, Repr

/-- The content of the field with a tag. -/
def berField (l : List (Nat × List Byte)) (tag : Nat) : Option (List Byte) := (l.find? (fun e => e.1 == tag)).map (·.2)

def berTrue (l : Option (List Byte)) : Bool := l.any (fun b => b.any (· ≠ 0))

/-- Tags in strictly rising order. -/
def rising : List Nat → Bool
  | a :: b :: r => a < b && rising (b :: r)
  | _ => true

/-- The goosePdu of an Ethernet payload; none where its BER structure is not valid (R333). -/
def gooseOf (payload : List Byte) : Option GoosePdu :=
  let len := beVal (slice payload 2 2)
  let body := (payload.drop 8).take (len - 8)
  match berItems 1 body with
  | some [(0x61, content)] =>
    (match berItems content.length content with
     | some l =>
       (match berField l 0x80, berField l 0x81, berField l 0x82, berField l 0x84, berField l 0x85, berField l 0x86,
              berField l 0x88, berField l 0x8A, berField l 0xAB with
        | some a, some b, some c, some d, some e, some f, some g, some h, some data =>
          if rising (l.map (·.1)) ∧ d.length = 8 then
            match (berItems data.length data).bind (berFlat (data.length + 1)) with
            | some m => some { gocbRef := a, tal := beVal b, datSet := c, time := d, stNum := beVal e, sqNum := beVal f,
                               simulation := berTrue (berField l 0x87), confRev := beVal g,
                               ndsCom := berTrue (berField l 0x89), entries := beVal h, members := m }
            | none => none
          else none
        | _, _, _, _, _, _, _, _, _ => none)
     | none => none)
  | _ => none

/-! ## Times (R336, R339) -/

/-- A TIME64, in ns, of the UTC seconds and 24-bit fraction of a utc-time: UTC_OFFSET reaches the PTP timescale (R112). -/
def State.timeOfUtc (s : State) (b : List Byte) : Nat :=
  (((beVal (slice b 0 4) : Int) + toSigned 16 (s.obj Obj.utcOffset)) * sec).toNat + beVal (slice b 4 3) * sec / 2 ^ 24

/-- The 8 octets of a utc-time (R336): time quality after TIME_FLAGS. Whether leap seconds are known is not in the spec. -/
def State.utcOfTime (s : State) (t flags : Nat) : List Byte :=
  let secs := ((t / sec : Nat) : Int) - toSigned 16 (s.obj Obj.utcOffset)
  let traceable := flags.testBit 1
  let quality := s.freeNow % 2 * 128 + ofBool (!flags.testBit 0) * 64 + ofBool (!traceable) * 32 + (if traceable then 24 else 31)
  beBytes 4 (ofSigned 32 secs) ++ beBytes 3 (t % sec * 2 ^ 24 / sec) ++ leBytes 1 quality

/-! ## Subscription (R333 to R335) -/

/-- A member as its 32-bit word (R334). -/
def State.gooseMember (s : State) (e : Nat × List Byte) : GooseMember :=
  match e.1 with
  | 0x83 => { word := ofBool (e.2.any (· ≠ 0)) }
  | 0x84 =>
    let unused := leAt e.2 0 1
    let n := 8 * (e.2.length - 1) - unused
    if e.2 ≠ [] ∧ unused < 8 ∧ 1 ≤ n ∧ n ≤ 32 then { word := beVal (e.2.drop 1) / 2 ^ unused } else { word := 0, quality := qInvalid }
  | 0x85 =>
    let v := berIntVal e.2
    if v = saturate 32 v then { word := ofSigned 32 v } else { word := ofSigned 32 (saturate 32 v), quality := qOverrange }
  | 0x86 =>
    let v := beVal e.2
    if v < 2 ^ 32 then { word := v } else { word := 2 ^ 32 - 1, quality := qOverrange }
  | 0x87 => if e.2.length = 5 ∧ leAt e.2 0 1 = 8 then { word := beVal (e.2.drop 1) } else { word := 0, quality := qInvalid }
  | 0x91 => if e.2.length = 8 then { word := beVal (e.2.take 4), time := some (s.timeOfUtc e.2) } else { word := 0, quality := qInvalid }
  | _ => { word := 0, quality := qInvalid }

/-- A subscription's frame is discarded and counted. -/
def State.gooseDiscard (s : State) (n : Nat) : State := s.bump (Obj.subDiscards n)

/-- The goosePdu of a frame that subscription `n` takes, checked in the order of R333. -/
def State.gooseTake (s : State) (n : Nat) (f : EthFrame) : State :=
  match gooseOf f.payload with
  | none => s.gooseDiscard n
  | some p =>
    if p.gocbRef ≠ s.blob (Obj.subGocbref n) ∨ p.datSet ≠ s.blob (Obj.subDatset n) then s.gooseDiscard n
    else if p.simulation ∧ s.obj (Obj.subSim n) = 0 then s.gooseDiscard n
    else if p.confRev ≠ s.obj (Obj.subConfrev n) ∨ p.ndsCom ∨ p.entries ≠ s.obj (Obj.subMembers n) then
      ((s.setSub n { s.gooseSub n with invalid := true }).put (Obj.subState n) 5).gooseDiscard n
    else if 2 ^ 31 ≤ (p.stNum + 2 ^ 32 - s.obj (Obj.stNum n)) % 2 ^ 32 then s.gooseDiscard n
    else
      let st := s.obj (Obj.subState n)
      let g := s.gooseSub n
      let fresh := p.stNum ≠ s.obj (Obj.stNum n) ∨ st ≠ 2
      let again := p.stNum = s.obj (Obj.stNum n) ∧ s.obj (Obj.sqNum n) < p.sqNum
      let t := s.bump Obj.gooseRx
      if !fresh ∧ !again then t
      else
        let t := (((t.put (Obj.stNum n) p.stNum).put (Obj.sqNum n) p.sqNum).put (Obj.lastRx n) s.now).put (Obj.subState n) 2
        let g := { g with tal := p.tal * ms, stale := false, invalid := false }
        if fresh then
          let members := (p.members.take 64).map s.gooseMember
          let time := s.timeOfUtc p.time
          let t := t.setSub n { g with members := members, time := time, test := p.simulation }
          let i : MapInput := { cls := 0, kind := 3, index := n, members := members, time := time,
                                quality := if p.simulation then qTest else 0 }
          if t.quiet then t else { t with sme := { t.sme with waiting := t.sme.waiting ++ [i] } }
        else t.setSub n g

/-- A GOOSE frame of a port reaches the SME (R162): it is taken from the switch and goes to the first matching subscription. -/
def gooseRx (s : State) (port : Nat) (f : EthFrame) : State :=
  let s := match s.sw.inbox.find? (fun e => e.2 == .eth f && e.1 == portSme) with
    | some e => { s with sw := { s.sw with inbox := s.sw.inbox.erase e } }
    | none => s
  match s.gooseMatch port f with
  | some n => s.gooseTake n f
  | none => s

/-- No frame within the TAL (R335). -/
def gooseTalExpiry (s : State) (n : Nat) : State :=
  if s.obj (Obj.subState n) = 2 then
    let g := s.gooseSub n
    ((s.waitUntil (s.obj (Obj.lastRx n) + g.tal)).setSub n { g with stale := true }).put (Obj.subState n) 3
  else s

/-- SUB_INVALID_MS after staleness (R335). -/
def gooseInvalidExpiry (s : State) (n : Nat) : State :=
  if s.obj (Obj.subState n) = 3 ∧ s.obj (Obj.subInvalidMs n) ≠ 0 then
    let g := s.gooseSub n
    ((s.waitUntil (s.obj (Obj.lastRx n) + g.tal + s.obj (Obj.subInvalidMs n) * ms)).setSub n { g with invalid := true }).put
      (Obj.subState n) 4
  else s

/-- A subscription is configured: waiting when enabled, else disabled. -/
def State.subConfigured (s : State) (n : Nat) : State :=
  (s.setSub n {}).put (Obj.subState n) (if s.obj (Obj.subEnable n) = 1 then 1 else 0)

/-! ## Publication (R336 to R338) -/

/-- The groups in use (R336): an unused one makes every later one unused. -/
def groupsOf (b : List Byte) : List Nat := (b.map (·.toNat)).takeWhile (· ≠ 0xFF)

/-- Template codes that validation takes. -/
def groupsGood (b : List Byte) : Bool := b.all (fun x => x.toNat ≤ 7 || x.toNat == 0xFF)

/-- Quality of group `i` of publication `p` as it is sent: in HELD every group is INVALID (R338), an entry out of service gives MAP_FAULT
with INVALID (R372), and DEBUG_BROKE gives TEST (R374). -/
def State.groupQuality (s : State) (p i : Nat) (g : GroupValue) : Nat :=
  g.quality ||| (if s.node = stHeld then qInvalid else 0) ||| (if s.destOos 3 (p * 16 + i) then qMapFault + qInvalid else 0) |||
    (if s.flag Obj.faultSummary fsDebugBroke then qTest else 0)

/-- The members of one group by its template (R336). -/
def State.groupData (s : State) (flags : Nat) (code : Nat) (g : GroupValue) : List Byte :=
  let q := berValue 0x84 (leBytes 1 3 ++ beBytes 2 (qOfQuality g.quality * 8))
  let t := berValue 0x91 (s.utcOfTime g.time flags)
  let st := berValue 0x83 (leBytes 1 (ofBool (g.value ≠ 0)))
  let dp := berValue 0x84 (leBytes 1 6 ++ leBytes 1 (ofSigned 2 g.value * 64))
  let mv := berValue 0x87 (leBytes 1 8 ++ beBytes 4 (f32OfInt g.value g.scale))
  match code with
  | 0 => st
  | 1 => st ++ q
  | 2 => st ++ q ++ t
  | 3 => dp ++ q
  | 4 => dp ++ q ++ t
  | 5 => berValue 0x85 (berInt g.value) ++ q
  | 6 => mv ++ q
  | _ => mv ++ q ++ t

/-- Members of one group. -/
def groupMembers (code : Nat) : Nat := match code with | 0 => 1 | 1 | 3 | 5 | 6 => 2 | _ => 3

/-- The group values of a publication. -/
def State.pubGroup (s : State) (p i : Nat) : GroupValue := sparseGet (fun _ => {}) s.sme.map.groups (p * 16 + i)

/-- The goosePdu of a publication (R338): the TAL is twice the interval to the next transmission. -/
def State.pubPdu (s : State) (p : Nat) (tal : Nat) : List Byte :=
  let codes := groupsOf (s.blob (Obj.pubGroups p))
  let flags := s.obj Obj.timeFlags
  let groups := codes.mapIdx (fun i c =>
    let g := s.pubGroup p i
    (c, { g with quality := s.groupQuality p i g }))
  let test := groups.any (fun g => g.2.quality &&& qTest ≠ 0)
  berValue 0x61 (
    berValue 0x80 (s.blob (Obj.pubGocbref p)) ++ berValue 0x81 (berInt (tal : Nat)) ++ berValue 0x82 (s.blob (Obj.pubDatset p)) ++
    berValue 0x83 (s.blob (Obj.pubGoid p)) ++ berValue 0x84 (s.utcOfTime (s.goosePub p).time flags) ++
    berValue 0x85 (berInt (s.obj (Obj.pubStnum p) : Nat)) ++ berValue 0x86 (berInt (s.obj (Obj.pubSqnum p) : Nat)) ++
    berValue 0x87 (leBytes 1 (ofBool test)) ++ berValue 0x88 (berInt (s.obj (Obj.pubConfrev p) : Nat)) ++ berValue 0x89 (leBytes 1 0) ++
    berValue 0x8A (berInt (sumOf (codes.map groupMembers) : Nat)) ++
    berValue 0xAB (groups.flatMap (fun g => s.groupData flags g.1 g.2)))

/-- A publication's frame leaves port 10 in class 0 (R338). -/
def State.pubSend (s : State) (p tal : Nat) : State :=
  let pdu := s.pubPdu p tal
  let port := s.obj (Obj.pubPort p)
  let vlan := s.obj (Obj.pubVlan p)
  let body := beBytes 2 (s.obj (Obj.pubAppid p)) ++ beBytes 2 (8 + pdu.length) ++ beBytes 4 0 ++ pdu
  let f : EthFrame := { dst := s.mac (Obj.pubMac p), src := s.mac (Obj.macAddr (s.addressPort port)), vlan := some (bits vlan 15 13, bits vlan 11 0),
                        etherType := 0x88B8, payload := body, length := max 64 (22 + body.length) }
  (((s.offerEth portSme 0 f [2 + port]).bump (Obj.pubSent p)).bump Obj.gooseTx).tookFree

/-- The interval that follows one of `i` ns: doubled, up to MAX_TIME (R338). -/
def State.nextInterval (s : State) (p i : Nat) : Nat := min (2 * i) (s.obj (Obj.maxTime p) * ms)

/-- An agreed run has changed a publication's groups (R338): `time` is the latest changed group's. -/
def State.pubChange (s : State) (p time : Nat) : State :=
  if s.obj (Obj.pubEnable p) = 0 then s else
  let st := s.obj (Obj.pubStnum p)
  let i := s.obj (Obj.minTime p) * ms
  let t := (s.put (Obj.pubStnum p) (if st = 2 ^ 32 - 1 then 1 else st + 1)).put (Obj.pubSqnum p) 0
  let t := t.setPub p { time := time, interval := some i, next := t.now + i }
  t.pubSend p (2 * i / ms)

/-- The next repeat of a publication is due (R338). -/
def gooseRepeat (s : State) (p : Nat) : State :=
  match (s.goosePub p).interval with
  | none => s
  | some i =>
    let g := s.goosePub p
    let t := s.waitUntil g.next
    if !t.onRing ∨ t.quiet ∨ t.obj (Obj.pubEnable p) = 0 then t
    else
      let j := t.nextInterval p i
      let sq := t.obj (Obj.pubSqnum p)
      let t := t.put (Obj.pubSqnum p) (if sq = 2 ^ 32 - 1 then 1 else sq + 1)
      let t := t.setPub p { g with interval := some j, next := t.now + j }
      t.pubSend p (2 * j / ms)

/-- CLEAR of 0x6100 (R348). -/
def State.gooseClearNow (s : State) : State :=
  s.clearKeys ([Obj.gooseRx, Obj.gooseTx] ++ (List.range 128).map (fun n => Obj.subDiscards n) ++
    (List.range 32).map (fun p => Obj.pubSent p))

end Sys2Proof.Machine
end

