-- ==== Sys2Proof/Machine/Sme.lean ====
section
/-! DEFINITION. The signal-mapping engine (files 12 and 14): a run of the signal map in two passes, the comparator, the release, the
restart from the mordant point, the self-test and the debugger halt. -/
namespace Sys2Proof.Machine

/-! ## The transform (R364) -/

/-- The multiplier of the codes and its inverses. -/
def codeK : Nat := 61723
def codeInv40 : Nat := 729771606291
def codeInv80 : Nat := 293872997059408909762835

/-- C(u): the code of a 32-bit pattern. -/
def code40 (b u : Nat) : Nat := (u * codeK + b) % 2 ^ 40

/-- D(c) of a code. -/
def decode40 (b c : Nat) : Nat := (c + 2 ^ 40 - b % 2 ^ 40) * codeInv40 % 2 ^ 40

/-- The wide code of a value, modulo 2^80; a signed value is taken by its two's-complement pattern (log entry 27). -/
def code80 (b : Nat) (v : Int) : Nat := ((v * codeK + b) % (2 ^ 80 : Nat)).toNat

/-- The value of a wide code. -/
def decode80 (b c : Nat) : Int := toSigned 80 ((c + 2 ^ 80 - b % 2 ^ 80) * codeInv80)

/-! ## One step of the rescaling, plain and as codes (R343, R365) -/

/-- Whether the quotient is rounded up: `y` the dividend, `q` its floor, `r` the bits shifted out of `d` (ROUND of R340). -/
def roundsUp (round : Nat) (y q : Int) (r d : Nat) : Bool :=
  match round with
  | 0 => decide (d < 2 * r) || (decide (2 * r = d) && decide (0 < y) && decide (r ≠ 0))
  | 1 => decide (d < 2 * r) || (decide (2 * r = d) && decide (q % 2 = 1) && decide (r ≠ 0))
  | 2 => decide (r ≠ 0) && decide (y < 0)
  | _ => false

/-- `y` divided by 2^sh and rounded. -/
def roundShift (round sh : Nat) (y : Int) : Int :=
  let q := y / (2 ^ sh : Nat)
  let r := (y % (2 ^ sh : Nat)).toNat
  q + (ofBool (roundsUp round y q r (2 ^ sh)) : Nat)

/-- The dual form on the complement of the operand: an arithmetic right shift, the increment subtracted, the result complemented back. -/
def roundShiftDual (round sh : Nat) (z : Int) : Int :=
  let q := z / (2 ^ sh : Nat)
  let r := 2 ^ sh - 1 - (z % (2 ^ sh : Nat)).toNat
  q - (ofBool (roundsUp round (-z - 1) (-q - 1) r (2 ^ sh)) : Nat)

/-- The sum limited to OUT_MIN and OUT_MAX, and whether it was. -/
def limitTo (lo hi v : Int) : Int × Bool := if v < lo then (lo, true) else if hi < v then (hi, true) else (v, false)

/-- The limit on the complement, with the comparisons reversed. -/
def limitDual (lo hi z : Int) : Int × Bool :=
  if -lo - 1 < z then (-lo - 1, true) else if z < -hi - 1 then (-hi - 1, true) else (z, false)

/-- Steps 1 to 4 of R343 in pass P. -/
def scaleP (w : Nat) (x : Int) : Int × Bool :=
  limitTo (meOutMin w) (meOutMax w) (roundShift (meRound w) (meGainShift w) (x * meGain w) + meOffset w)

/-- The same steps in pass T (R365): the result as its code. -/
def scaleT (w : Nat) (x : Int) : Nat × Bool :=
  let b := meTconst w
  let cy := (((code80 b x : Int) - b) * meGain w + b) % (2 ^ 80 : Nat)
  let y := -(roundShiftDual (meRound w) (meGainShift w) (-(decode80 b cy.toNat) - 1)) - 1
  let cs := ((code80 b y : Int) + code80 b (meOffset w) - b) % (2 ^ 80 : Nat)
  let (z, past) := limitDual (meOutMin w) (meOutMax w) (-(decode80 b cs.toNat) - 1)
  (code40 b (ofSigned 32 (-z - 1)), past)

/-- The rescaled result of a pass. -/
def scaleBy (passT : Bool) (w : Nat) (x : Int) : Int × Bool :=
  if passT then
    let (c, past) := scaleT w x
    (toSigned 32 (decode40 (meTconst w) c), past)
  else scaleP w x

/-! ## Sources (R341, R342) -/

/-- A field as the value *x* (R342): none where it gives INVALID; the Boolean is OVERRANGE. -/
def fieldValue (fmt width v : Nat) : Option Int × Bool :=
  match fmt with
  | 0 => (some v, false)
  | 1 => (some (toSigned width v), false)
  | 2 => (match f32Fixed v with
          | none => (none, false)
          | some x => (some (saturate 32 x), x ≠ saturate 32 x))
  | _ => ((bcdValue (width / 4) v).map (fun n => (n : Int)), false)

/-- What an entry's source gives: the payload for its field, the quality, and its own time. -/
structure MapSource where
  data : List Byte
  quality : Nat
  time : Option Nat := none
  missing : Bool := false
  /-- *x* of the constant, which has no field -/
  constant : Bool := false
  deriving DecidableEq, Repr

/-- The result register of an entry in a working copy; none before it is first computed. -/
def MapState.result (m : MapState) (e : Nat) : Option MapResult := sparseGet (fun _ => none) m.results e

def MapState.image (m : MapState) (b n : Nat) : List Byte := padTo n (sparseGet (fun _ => []) m.images b)

/-- Quality of a GOOSE member (R341): from QSRC under R337, with the member's own and what R333 and R335 add. -/
def memberQuality (i : MapInput) (w : Nat) (g : GooseMember) : Nat :=
  let q := if meQsrc w = 0xFF then 0
           else match i.members[meQsrc w]? with
             | some m => qualityOfQ m.word
             | none => qInvalid
  q ||| g.quality ||| i.quality

/-- The source of an entry in a run (R341). -/
def State.mapSource (s : State) (snap : MapSnapshot) (m : MapState) (w : Nat) : MapSource :=
  match meSrcKind w with
  | 0 =>
    let slot := sparseGet (fun _ => 0) snap.lake (meSrcSel w * 4096 + meSrcIndex w)
    let off := bits slot 63 40
    { data := leBytes 4 (bits slot 31 0), quality := bits slot 39 32, time := if off < 0xFFFFFE then some (snap.sampleAt + off) else none }
  | 4 =>
    let b := sparseGet (fun _ => {}) snap.blocks (meSrcIndex w)
    { data := b.data, quality := if b.failed then qInvalid else 0, time := some b.start }
  | 6 =>
    let e := meSrcIndex w
    (match m.result e with
     | some r => { data := leBytes 4 (ofSigned 32 r.value), time := some r.time,
                   quality := r.quality ||| (if s.entryOos e then qMapFault + qInvalid else 0) }
     | none => { data := leBytes 4 0, quality := qInvalid ||| (if s.entryOos e then qMapFault else 0) })
  | 7 => { data := [], quality := 0, time := some snap.applyAt, constant := true }
  | k =>
    match snap.input with
    | none => { data := [], quality := qInvalid, missing := true }
    | some i =>
      if k = 3 then
        match i.members[meSrcSel w]? with
        | some g => { data := leBytes 4 g.word, quality := memberQuality i w g, time := some i.time }
        | none => { data := [], quality := qInvalid ||| i.quality, time := some i.time, missing := true }
      else { data := i.data, quality := i.quality, time := some i.time }

/-- The time that a reported change carries (R340, TIME_SRC); none where the source gives none. -/
def sourceTime (snap : MapSnapshot) (src : MapSource) (w : Nat) : Option Nat :=
  match meTimeSrc w with
  | 1 => src.time
  | 2 =>
    if meSrcKind w = 3 then (snap.input.bind (fun i => i.members[meTimeByte w]?)).bind (·.time)
    else if meTimeByte w + 8 ≤ src.data.length then some (leAt src.data (meTimeByte w) 8) else none
  | _ => none

/-! ## One pass (R362, R366) -/

/-- What a pass makes: its words, each with the constant of its code, the working copy, the output commands with their cells, the
buffers written, the groups changed with their times, the entries whose field was missing, and whether an entry was out of service. -/
structure MapPass where
  words : List (Nat × Nat × Nat) := []
  map : MapState := {}
  cells : List (Nat × Nat × List Byte) := []
  written : List Nat := []
  groups : List (Nat × Nat) := []
  missing : Nat := 0
  oos : Bool := false
  deriving DecidableEq, Repr

/-- The 16 bytes of the output command of an entry (R344, R224). -/
def mapCommand (w action : Nat) (time : Option Nat) : List Byte :=
  let at' := match time with | some t => t + meOutDelay w | none => 0
  leBytes 8 at' ++ leBytes 1 0 ++ leBytes 1 action ++ leBytes 2 0 ++ leBytes 4 (if meAction w = 0 then 0 else mePulseWidth w)

/-- ACTION of the output command that a change of result calls for; none for a pulse that is not due (R344). -/
def mapAction (w : Nat) (last v : Int) : Option Nat :=
  match meAction w with
  | 0 => some (if v = 0 then 0 else 1)
  | a => if last = 0 ∧ v ≠ 0 then some (a + 1) else none

/-- A result in the range of a buffer field, and whether it was limited (R344). -/
def fieldOfResult (fmt width : Nat) (v : Int) : Nat × Bool :=
  match fmt with
  | 0 => let u := max 0 (min v ((2 ^ width : Nat) - 1))
         (u.toNat, u ≠ v)
  | 1 => let u := saturate width v
         (ofSigned width u, u ≠ v)
  | 2 => (f32OfInt v 0, false)
  | _ => let u := max 0 (min v ((10 ^ (width / 4) : Nat) - 1))
         (bcdBits (width / 4) u.toNat, u ≠ v)

/-- The words of a list of bytes. -/
def byteWords (b : List Byte) : List Nat := (List.range (ceilDiv b.length 4)).map (fun i => leAt b (4 * i) 4)

/-- The result an entry computes, before its change is judged: value, quality with OVERRANGE, and whether its field was missing. -/
def entryResult (passT : Bool) (w : Nat) (src : MapSource) (last : Int) : Int × Nat × Bool :=
  if src.constant then
    let (v, past) := scaleBy passT w 0
    (v, src.quality ||| (if past then qOverrange else 0), false)
  else
    let got : Option (Option Int × Bool) :=
      if src.missing then none
      else if meQualAsValue w then some (some src.quality, false)
      else (getField src.data (meSrcBe w) (meSrcBit w) (meSrcWidth w)).map (fieldValue (meSrcFmt w) (meSrcWidth w))
    match got with
    | none => (last, src.quality ||| qInvalid, true)
    | some (none, _) => (last, src.quality ||| qInvalid, false)
    | some (some x, far) =>
      let (v, past) := scaleBy passT w x
      (v, src.quality ||| (if past || far then qOverrange else 0), false)

/-- One entry of a run in one pass (R342 to R344, R366). -/
def State.mapEntry (s : State) (snap : MapSnapshot) (passT : Bool) (p : MapPass) (e w : Nat) : MapPass :=
  if s.entryOos e then { p with oos := true } else
  let b := meTconst w
  let src := s.mapSource snap p.map w
  let old := p.map.result e
  let last := (old.map (·.value)).getD 0
  let (v, q, miss) := if snap.lost then (last, (old.map (·.quality)).getD 0 ||| qInvalid, false) else entryResult passT w src last
  let q := q ||| (if s.flag Obj.faultSummary fsDebugBroke then qTest else 0)
  let field := fieldOfResult (meDstFmt w) (meDstWidth w) v
  let q := if meDstKind w = 2 ∧ field.2 then q ||| qOverrange else q
  let changed := match old with
    | none => true
    | some r => r.quality ≠ q || meDeadband w < (v - r.value).natAbs
  let head := (e * 65536 + q * 256 + ofBool changed, b, e)
  let p := { p with missing := p.missing + ofBool miss }
  if !changed then { p with words := p.words ++ [head] } else
  let st := if snap.lost then none else sourceTime snap src w
  let time := st.getD snap.time
  let r : MapResult := { value := v, quality := q, time := time, changed := snap.time }
  let stamp := [(ofSigned 32 v, b, e), (time % 2 ^ 32, b, e), (time / 2 ^ 32, b, e)]
  let m := { p.map with results := sparsePut (fun _ => none) p.map.results e (some r) }
  let p := { p with words := p.words ++ [head] ++ stamp, map := m }
  match meDstKind w with
  | 1 =>
    (match mapAction w last v with
     | some a =>
       let cmd := mapCommand w a st
       { p with cells := p.cells ++ [(e, meDstIndex w, cmd)], words := p.words ++ (byteWords cmd).map (fun u => (u, b, e)) }
     | none => p)
  | 2 =>
    let n := obBytes (s.obTableNow.getD (meDstIndex w) 0)
    let img := putField (m.image (meDstIndex w) n) (meDstBe w) (meDstBit w) (meDstWidth w) field.1
    { p with map := { m with images := sparsePut (fun _ => []) m.images (meDstIndex w) img },
             written := p.written.filter (· ≠ meDstIndex w) ++ [meDstIndex w] }
  | 3 =>
    let g : GroupValue := { value := v, quality := q, time := time, scale := meDstBit w % 32 }
    { p with map := { m with groups := sparsePut (fun _ => {}) m.groups (meDstIndex w) g },
             groups := p.groups.filter (fun x => x.1 ≠ meDstIndex w) ++ [(meDstIndex w, time)],
             words := p.words ++ stamp.take 1 ++ [(q, b, e)] ++ stamp.drop 1 }
  | _ => p

/-- Whether a run executes an entry (R339): TRIG 2 in a cyclic run; TRIG 1 that names the input, or chained from one that does. -/
def runsEntry (snap : MapSnapshot) (hit : List Nat) (w : Nat) : Bool :=
  match snap.input with
  | none => meTrig w == 2
  | some i => meTrig w == 1 &&
      ((meSrcKind w == i.kind && meSrcIndex w == i.index && (i.kind == 3 || i.kind == 5 || meSelAny w || meSrcSel w == i.sel)) ||
       (meSrcKind w == 6 && hit.contains (meSrcIndex w)))

/-- The entries of a run in ascending order, each with its number. -/
def State.runEntries (s : State) (snap : MapSnapshot) : List (Nat × Nat) :=
  ((s.mapTableNow.mapIdx (fun e w => (e, w))).foldl (fun (a : List Nat × List (Nat × Nat)) x =>
    if runsEntry snap a.1 x.2 then (a.1 ++ [x.1], a.2 ++ [x]) else a) ([], [])).2

/-- The buffers that a run submits, in buffer order (R345): those it changed, with SEND 1 those it wrote; none with an entry out of
service (R372). -/
def State.runBuffers (s : State) (before : MapState) (p : MapPass) : List (Nat × List Byte) :=
  (List.range 256).filterMap (fun b =>
    if p.written.contains b ∧ !s.destOos 2 b then
      let w := s.obTableNow.getD b 0
      let img := p.map.image b (obBytes w)
      if obSend w = 1 ∨ img ≠ before.image b (obBytes w) then some (b, img) else none
    else none)

/-- One pass of a run over a committed state (R362): its words end with the images of the buffers it submits and the count of words. -/
def State.mapPass (s : State) (m : MapState) (snap : MapSnapshot) (passT : Bool) : MapPass :=
  let p := (s.runEntries snap).foldl (fun p x => s.mapEntry snap passT p x.1 x.2) { map := m }
  let tb := s.obj Obj.tconstBuf
  let words := p.words ++ (s.runBuffers m p).flatMap (fun x => (byteWords x.2).map (fun u => (u, tb, 0xFFFF)))
  { p with words := words ++ [(words.length, tb, 0xFFFF)] }

/-- The comparator (R366): the first word whose code differs from the T code, with its lane and entry. -/
def compareWords : Nat → List (Nat × Nat × Nat) → List Nat → Option (Nat × Nat)
  | _, [], _ => none
  | _, _, [] => none
  | j, (u, b, e) :: p, c :: t => if code40 b u = c then compareWords (j + 1) p t else some (j % 8, e)

/-- The T codes of a run: pass T's own words as codes, one bit of one of them inverted by an upset. -/
def tCodes (words : List (Nat × Nat × Nat)) (f : Option SmeFault) : List Nat :=
  words.mapIdx (fun j x =>
    let c := code40 x.2.1 x.1
    match f with
    | some f => if f.cause = 1 ∧ f.word = j ∧ f.bit < 40 then c ^^^ 2 ^ f.bit else c
    | none => c)

/-- Both passes of a run and the verdict (R362, R366): what pass P made, and the mismatch if there is one: cause, lane, entry. -/
def State.attempt (s : State) (m : MapState) (snap : MapSnapshot) (f : Option SmeFault) : MapPass × Option (Nat × Nat × Nat) :=
  let p := s.mapPass m snap false
  match f with
  | some f' =>
    if 2 ≤ f'.cause ∧ f'.cause ≤ 6 then (p, some (f'.cause, 0xFF, f'.entry))
    else
      let t := s.mapPass m snap true
      (p, match compareWords 0 p.words (tCodes t.words f) with
        | some (lane, e) => some (1, lane, e)
        | none => if p.words.length = t.words.length then none else some (5, 0xFF, 0xFFFF))
  | none =>
    let t := s.mapPass m snap true
    (p, match compareWords 0 p.words (tCodes t.words none) with
      | some (lane, e) => some (1, lane, e)
      | none => if p.words.length = t.words.length then none else some (5, 0xFF, 0xFFFF))

/-! ## Mismatch and restart (R367 to R371) -/

/-- SME_STATE codes (R376). -/
def smeStopped : Nat := 0
def smeRunning : Nat := 1
def smeRestarting : Nat := 2
def smeTesting : Nat := 3
def smeOut : Nat := 4
def smeHalted : Nat := 5

/-- The SME takes runs now (R339). -/
def State.smeOn (s : State) : Bool := s.obj Obj.smeState == smeRunning && s.onRing && !s.quiet

/-- WINDOW_COUNT: mismatches over the last 64 sample instants, at most 3 (R370). -/
def State.refreshWindowCount (s : State) : State :=
  let k := s.epochAt s.now
  let w := s.sme.window.filter (fun x => k < x + 64)
  { s with sme := { s.sme with window := w } }.put Obj.windowCount (min 3 w.length)

/-- OUTCOME of LAST_MISMATCH (R375). -/
def State.setOutcome (s : State) (v : Nat) : State :=
  s.putBlob Obj.lastMismatch ((s.blob Obj.lastMismatch).set 1 (BitVec.ofNat 8 v))

/-- A mismatch is counted and recorded (R370, R375). -/
def State.mismatch (s : State) (cause lane entry runKind : Nat) : State :=
  let t := s.bump Obj.smeMismatches
  let t := { t with sme := { t.sme with window := t.sme.window ++ [t.epochAt t.now] } }.refreshWindowCount
  t.putBlob Obj.lastMismatch (leBytes 16 (t.obj Obj.windowCount * 2 ^ 16 + runKind * 2 ^ 24 + lane * 2 ^ 32 + cause * 2 ^ 40 +
    entry * 2 ^ 48 + t.now * 2 ^ 64))

/-- The self-test starts (R370, R371). -/
def State.startSelftest (s : State) : State := (s.put Obj.smeState smeTesting).bump Obj.selftests

/-- Whether the mismatch just counted leads to the self-test (R370): the third in the window, or CHECKPOINT. -/
def State.escalates (s : State) (cause : Nat) : Bool := s.obj Obj.windowCount == 3 || cause == 6

/-- The replay of the log over the mordant point, both passes compared (R368 step 4): the state reached, and a mismatch. -/
def State.replayLog (s : State) (f : Option SmeFault) : MapState × Option (Nat × Nat × Nat) :=
  ((s.sme.log.mapIdx (fun i x => (i, x))).foldl (fun (a : MapState × Option (Nat × Nat × Nat)) x =>
    match a.2 with
    | some _ => a
    | none =>
      let f' := match f with | some g => if g.replay = some x.1 then f else none | none => none
      let (p, mm) := s.attempt a.1 x.2 f'
      (match mm with
       | some y => (a.1, some y)
       | none => (p.map, none))) (s.sme.mordant, none))

/-- Upset that hits a replayed run, if the next one does. -/
def replayFault (l : List SmeFault) : Option SmeFault := l.head?.filter (fun f => f.replay.isSome)

/-- How a run ends: agreed, its input lost (SNAPSHOT) so that its entries report INVALID, or in the self-test. -/
inductive RunEnd where
  | agreed (p : MapPass)
  | lost (p : MapPass)
  | testing
  deriving DecidableEq, Repr

/-- A run is executed until it agrees, is lost, or the self-test starts (R368 to R370). `kind` is RUN_KIND; `restart` says that the
mordant point is to be reloaded and the log replayed first; `lost` that the input cannot be read again. `fuel` is bounded by the upsets. -/
def State.tryRun : Nat → State → MapSnapshot → Nat → Bool → Bool → List SmeFault → State × RunEnd
  | 0, s, _, _, _, _, _ => (s, .lost { map := s.sme.map })
  | fuel + 1, s, snap, kind, restart, lost, faults =>
    if restart then
      let f := replayFault faults
      let (m, mm) := s.replayLog f
      match mm with
      | some (cause, lane, e) =>
        let t := s.mismatch cause lane e 3
        if t.escalates cause then ((t.setOutcome 2).startSelftest, .testing)
        else State.tryRun fuel t snap 4 true lost faults.tail
      | none =>
        let t := { s with sme := { s.sme with map := m } }
        if lost then (t.setOutcome 3, .lost (t.mapPass m { snap with lost := true } false))
        else State.tryRun fuel t snap 4 false false (if f.isSome then faults.tail else faults)
    else
      let f := faults.head?.filter (fun f => f.replay.isNone)
      let (p, mm) := s.attempt s.sme.map snap f
      match mm with
      | none => (if kind = 4 then (s.bump Obj.smeTransient).setOutcome 1 else s, .agreed p)
      | some (cause, lane, e) =>
        let t := s.mismatch cause lane e kind
        if t.escalates cause then ((t.setOutcome 2).startSelftest, .testing)
        else State.tryRun fuel t snap 4 true (cause = 3) faults.tail

/-! ## Release (R339, R344, R345) -/

/-- With DEBUG_BROKE and DEBUG_SUPPRESS, outputs that carry no quality are not made (R374). -/
def State.suppressed (s : State) : Bool := s.flag Obj.faultSummary fsDebugBroke && s.obj Obj.debugSuppress == 1

/-- An output command of the SME (R344): a refusal is counted. -/
def State.smeCell (s : State) (e n : Nat) (cmd : List Byte) (holder : Nat) : State :=
  if s.suppressed then s.bump Obj.outRefused
  else match s.cellRefusal n cmd holder none with
    | some st => (s.countRefusal st).bump Obj.outRefused
    | none =>
      match s.takeCommand n cmd holder (.sme e) none false with
      | (t, some st) => if st = stDone then t else t.bump Obj.outRefused
      | (t, none) => t.bump Obj.outRefused

/-- The CAN record of a buffer (R288, R345). -/
def bufferCan (w : Nat) (img : List Byte) : List Byte :=
  let a := obIdAddr w
  leBytes 16 (bits a 28 0 * 2 ^ 64 + ofBool (bit a 29) * 2 ^ 96 + ofBool (bit a 30) * 2 ^ 98 + ofBool (bit a 31) * 2 ^ 99 +
    ofBool (bit (obFlags w) 0) * 2 ^ 101 + obSize w * 2 ^ 104) ++ padTo 64 img

/-- The UART record of a buffer (R315, R345). -/
def bufferUart (w : Nat) (img : List Byte) : List Byte :=
  leBytes 16 (obSize w * 2 ^ 80 + ofBool (bit (obFlags w) 1) * 2 ^ 96) ++ padTo 256 img

/-- The record a buffer is submitted as. -/
def bufferRecord (w : Nat) (img : List Byte) : List Byte := if obKind w = 1 then bufferCan w img else bufferUart w img

/-- Room in the queue that a buffer's message enters at once. -/
def State.bufferRoom (s : State) (w : Nat) : Bool :=
  if obKind w = 1 then s.canRoom (obTarget w) (bit (obFlags w) 0) else (s.chan (obTarget w)).queue.length < 16

/-- A request joins the bridge's queue as master (R331). -/
def State.enqueueMaster (s : State) (r : MasterReq) : State :=
  { s with bridge := { s.bridge with queue := s.bridge.queue ++ [r] } }

/-- An image that waits for room: a newer one replaces it, counted (R345). -/
def State.keepBuffer (s : State) (b : Nat) (img : List Byte) : State :=
  let was := s.sme.kept.any (fun x => x.1 == b)
  let t := if was then s.bump Obj.obReplaced else s
  { t with sme := { t.sme with kept := sparsePut (fun _ => []) t.sme.kept b img } }

/-- A buffer is submitted (R345), its protecting stream acting once its queue takes it (R355). -/
def State.submitBuffer (s : State) (b : Nat) (img : List Byte) (holder upset : Nat) : State :=
  let w := s.obTableNow.getD b 0
  if s.suppressed then s.bump Obj.outRefused
  else if obKind w = 3 then
    if s.obj Obj.hbEnable / 2 % 2 = 0 ∨ !s.serving then s.bump Obj.outRefused
    else s.enqueueMaster { origin := .output b, write := true, address := obIdAddr w, length := obSize w, data := img }
  else
    let n := obTarget w
    let plain := bufferRecord w img
    let refusal := if obKind w = 1 then s.canRefusal n plain holder none else s.uartRefusal n plain holder none
    if refusal.isSome then (s.countRefusal (refusal.getD 0)).bump Obj.outRefused
    else if !s.bufferRoom w then s.keepBuffer b img
    else
      let (t, m) := s.protect 1 b img upset
      match m with
      | none => t.bump Obj.outRefused
      | some msg =>
        let t := if t.sme.kept.any (fun x => x.1 == b) then t.bump Obj.obReplaced else t
        let t := { t with sme := { t.sme with kept := t.sme.kept.filter (fun x => x.1 ≠ b) } }
        if obKind w = 1 then (t.canSubmit n (bufferCan w msg) holder (.sme 0xFFFF) none).1
        else (t.uartSubmit n (bufferUart w msg) holder (.sme 0xFFFF) none).1

/-- Buffers that wait are offered again (R345). -/
def State.offerKept (s : State) (upset : Nat) : State :=
  forEach s.sme.kept (fun t x => if t.bufferRoom (t.obTableNow.getD x.1 0) then
    { t with sme := { t.sme with kept := t.sme.kept.filter (fun y => y.1 ≠ x.1) } }.submitBuffer x.1 x.2 t.holderNow upset else t) s

/-- The publications that a run changes, each with its latest group time (R338). -/
def changedPubs (groups : List (Nat × Nat)) : List (Nat × Nat) :=
  (List.range 32).filterMap (fun p =>
    let l := (groups.filter (fun g => g.1 / 16 = p)).map (·.2)
    if l = [] then none else some (p, l.foldl max 0))

/-- A run commits its state and releases its outputs: commands in entry order, then buffers in buffer order, and the
publications it changed (R339, R362). -/
def State.releaseRun (s : State) (p : MapPass) (snap : MapSnapshot) (upset : Nat) : State :=
  let buffers := s.runBuffers s.sme.map p
  let t := { s with sme := { s.sme with map := p.map } }
  let t := t.bumpBy Obj.fieldMissing p.missing
  let t := forEach p.cells (fun t x => t.smeCell x.1 x.2.1 x.2.2 snap.holder) t
  let t := forEach buffers (fun t x => t.submitBuffer x.1 x.2 snap.holder upset) t
  let t := forEach (changedPubs p.groups) (fun t x => t.pubChange x.1 x.2) t
  t.offerKept upset

/-- The execution of an EVENT to EVENT_IN ends with its run (R339, R363, R372). -/
def State.endInput (s : State) (snap : MapSnapshot) (status : Nat) : State :=
  match snap.input with
  | some i =>
    let t := match i.work with | some w => s.finishWork w status | none => s
    (match i.block with | some b => t.completeAt b 0 status | none => t)
  | none => s

/-- Bytes of a snapshot in the replay log. -/
def snapshotBytes (x : MapSnapshot) : Nat :=
  16 + (match x.input with | some i => i.data.length + 8 * i.members.length | none => 0) + 8 * x.lake.length +
  sumOf (x.blocks.map (fun b => b.2.data.length))

/-- A mordant point is taken (R367). -/
def State.takeMordant (s : State) : State := { s with sme := { s.sme with mordant := s.sme.map, log := [], logBytes := 0 } }

/-- An agreed arrival run enters the replay log; with more than 384 KiB in the log a further mordant point is taken (R367). -/
def State.logRun (s : State) (snap : MapSnapshot) : State :=
  if 384 * 1024 < s.sme.logBytes then (s.bump Obj.extraMordant).takeMordant
  else { s with sme := { s.sme with log := s.sme.log ++ [snap], logBytes := s.sme.logBytes + snapshotBytes snap } }

/-- MAX_RESTART_NS after a run executed again (R368). -/
def State.noteRestart (s : State) (faults : List SmeFault) : State :=
  let n := faults.foldl (fun m f => max m f.restartNs) (s.obj Obj.maxRestartNs)
  s.put Obj.maxRestartNs (min n (2 ^ 32 - 1))

/-- The run of a snapshot from its first execution or, with `kind` 4, from a restart. An upset of CAUSE 0 is a word of the agreement
buffer that its ECC corrects (R363). -/
def State.run (s : State) (snap : MapSnapshot) (kind : Nat) (faults : List SmeFault) (upset : Nat) : State :=
  let restart := kind == 4
  let s := s.bumpBy Obj.eccCorrected (faults.filter (fun f => f.cause == 0)).length
  let faults := faults.filter (fun f => f.cause ≠ 0)
  match State.tryRun (2 * faults.length + 2) s snap kind restart false faults with
  | (t, .agreed p) =>
    let t := if faults ≠ [] ∧ t.obj Obj.smeTransient ≠ s.obj Obj.smeTransient then t.noteRestart faults else t
    let t := (t.bump64 Obj.mapRuns 1).releaseRun p snap upset
    let t := t.endInput snap (if p.oos then stInternal else stDone)
    if snap.input.isSome then t.logRun snap
    else
      let t := { t with sme := { t.sme with cyclic := none, agreed := true } }
      (t.takeMordant).put Obj.mordantEpoch snap.epoch
  | (t, .lost p) =>
    let t := (t.releaseRun p snap upset).endInput snap stIntegrity
    if snap.input.isSome then t else { t with sme := { t.sme with cyclic := none, agreed := false } }
  | (t, .testing) => { t with sme := { t.sme with escalated := true, failed := some snap } }

/-! ## Arrival and cyclic runs (R339) -/

/-- What every snapshot holds (R363). -/
def State.snapshot (s : State) (input : Option MapInput) : MapSnapshot :=
  { input := input, epoch := s.epochAt s.now, holder := s.holderNow, flags := s.obj Obj.timeFlags, time := s.now }

/-- The waiting input that is taken next: class 0 before class 2, in order of arrival. -/
def State.nextInput (s : State) : Option MapInput :=
  match s.sme.waiting.find? (fun i => i.cls == 0) with
  | some i => some i
  | none => s.sme.waiting.head?

/-- An input with what R333 and R335 give its subscription at the snapshot. -/
def State.inputNow (s : State) (i : MapInput) : MapInput :=
  if i.kind = 3 then
    let g := s.gooseSub i.index
    { i with quality := i.quality ||| (if g.stale then qStale else 0) ||| (if g.invalid then qInvalid else 0) }
  else i

/-- An arrival run of the next waiting input. -/
def arrivalRun (s : State) (faults : List SmeFault) (upset : Nat) : State :=
  if !s.smeOn then s else
  match s.nextInput with
  | none => s
  | some i =>
    let t := { s with sme := { s.sme with waiting := s.sme.waiting.erase i } }
    t.run (t.snapshot (some (t.inputNow i))) 1 faults upset

/-- An apply instant reaches the SME (R339, R367, R371): the cyclic run of epoch `k` is due, or is skipped; the host input blocks are
read, and the buffers that wait are offered again. -/
def State.smeApply (s : State) (k : Nat) : State :=
  let s := s.refreshWindowCount
  let cyclic := s.mapTableNow.any (fun w => meTrig w == 2)
  let st := s.obj Obj.smeState
  if !s.onRing ∨ s.quiet ∨ st = smeStopped then s
  else
    let t := if st = smeRunning then s.offerKept 0 else s
    if st = smeTesting then
      (if cyclic then { t.bump Obj.skippedByTest with sme := { t.sme with agreed := false } } else t)
    else if st = smeOut then { t with sme := { t.sme with agreed := false } }
    else if !cyclic then (if st = smeRunning then (t.takeMordant).put Obj.mordantEpoch k else t)
    else if t.sme.cyclic.isSome then
      let t := t.bump Obj.cycleOverruns
      { t with sme := { t.sme with agreed := false } }
    else
      let t := { t with sme := { t.sme with cyclic := some k, agreed := false } }
      forEach (t.hibTableNow.mapIdx (fun i w => (i, w))) (fun t x =>
        if hibLength x.2 = 0 then t
        else t.enqueueMaster { origin := .input x.1, write := false, address := hibAddress x.2, length := hibLength x.2 }) t

/-- Host input blocks are still being read. -/
def State.blocksPending (s : State) : Bool :=
  s.bridge.queue.any (fun r => match r.origin with | .input _ => true | _ => false)

/-- The lake slots that the entries of a cyclic run name, as applied. -/
def State.slotsNamed (s : State) : List (Nat × Nat) :=
  (s.mapTableNow.filter (fun w => meTrig w == 2 && meSrcKind w == 0)).foldl (fun l w =>
    let k := meSrcSel w * 4096 + meSrcIndex w
    sparsePut (fun _ => 0) l k (s.lakeSlot k)) []

/-- The cyclic run that is due, once its host input blocks have been read (R339). -/
def cyclicRun (s : State) (faults : List SmeFault) (upset : Nat) : State :=
  match s.sme.cyclic with
  | none => s
  | some k =>
    if !s.smeOn ∨ s.blocksPending then s
    else
      let snap := { s.snapshot none with
        lake := s.slotsNamed, blocks := s.sme.blocks, epoch := k, applyAt := s.sampleOf k + s.applyNs, sampleAt := s.sampleOf (k - 1) }
      s.run snap 2 faults upset

/-- Records of CAN and UART for the SME leave the switch and wait for their runs (R339, R341). -/
def State.smeGather (s : State) : State :=
  forEach s.sw.inbox (fun t e =>
    match e with
    | (10, .ring f) =>
      let ix := bits f.address 23 8
      let can := 0x5300 ≤ ix && ix < 0x5310
      let b := f.payload
      let lost := bit (recHead b) 121
      let bad := if can then lost else lost || bit (recHead b) 96 || bit (recHead b) 97
      let i : MapInput := if can then
          { cls := f.cls, kind := 1, index := ix - 0x5300, sel := bits (recHead b) 119 112, data := slice b 16 (recLen b),
            time := recTime b, quality := ofBool (bad || f.status == 1) }
        else
          { cls := f.cls, kind := 2, index := ix - 0x5880, sel := if uRecLen b = 0 then 256 else leAt b 16 1, data := uRecData b,
            time := recTime b, quality := ofBool (bad || f.status == 1) }
      if can || (0x5880 ≤ ix && ix < 0x58A0) then
        { t with sw := { t.sw with inbox := t.sw.inbox.erase e }, sme := { t.sme with waiting := t.sme.waiting ++ [i] } }
      else t
    | _ => t) s

/-- A write or an EVENT to EVENT_IN (R349, R372): it waits for its run; with the whole SME out of service an EVENT ends as INTERNAL. -/
def State.eventInput (s : State) (i : MapInput) : State :=
  if s.flag Obj.smeOosMap 4 then s.endInput { input := some i } stInternal
  else { s with sme := { s.sme with waiting := s.sme.waiting ++ [{ i with data := padTo 256 i.data }] } }

/-! ## Self-test (R370 to R372) -/

/-- The self-test is started by its own schedule or by command. -/
def selftest (s : State) : State := if s.smeOn then s.startSelftest else s

/-- SELFTEST_INTERVAL hours have passed (R370). -/
def selftestIntervalExpiry (s : State) : State :=
  if s.smeOn ∧ s.obj Obj.selftestInterval ≠ 0 then
    (s.waitUntil (s.sme.lastTest + s.obj Obj.selftestInterval * 3600 * sec)).startSelftest
  else s

/-- SELFTEST_CMD 1: the status (R377). -/
def State.selftestCommand (s : State) (v : Nat) : State × Nat :=
  if v ≠ 1 then (s, stOutOfRange)
  else if s.obj Obj.smeState = smeTesting then (s, stRetry)
  else if s.obj Obj.smeState = smeOut ∨ s.obj Obj.smeState = smeHalted then (s, stHeldStatus)
  else (s.startSelftest, stDone)

/-- Field cells driven by entries that are out of service go to their safe values (R372). -/
def State.cellsOos (s : State) : State :=
  forEach (s.mapTableNow.mapIdx (fun e w => (e, w))) (fun t x =>
    if meTrig x.2 ≠ 0 ∧ meDstKind x.2 = 1 ∧ t.entryOos x.1 then t.toSafe (meDstIndex x.2) else t) s

/-- The self-test ends (R371): `computeFails`, `banks` and `areaFails` are what it found. -/
def selftestComplete (s : State) (computeFails : Bool) (banks : Nat) (areaFails : Bool) : State :=
  if s.obj Obj.smeState ≠ smeTesting then s else
  let memory := banks ≠ 0 || areaFails
  let result := if computeFails then (if memory then 4 else 2) else if memory then 3 else 1
  let whole := computeFails || areaFails
  let failed := s.sme.failed
  let esc := s.sme.escalated
  let t := s.put Obj.selftestResult result
  let t := { t with sme := { t.sme with failed := none, escalated := false, lastTest := t.now } }
  if result = 1 then
    let t := t.put Obj.smeState smeRunning
    if !esc then t
    else
      let n := t.sme.window.length
      let t := { t with sme := { t.sme with window := [] } }
      let t := ((t.put Obj.windowCount 0).bumpBy Obj.smeTransient n).transientFault 0x7400 0x04 0xFFFF 0 0 false
      (match failed with
       | some snap => t.run snap 4 [] 0
       | none => t)
  else
    let oos := t.obj Obj.smeOosMap ||| (if computeFails then 0 else banks) ||| (if whole then 16 else 0)
    let t := (t.put Obj.smeOosMap oos).lastingFault 0x7400 0x08 0xFFFF 0 oos false
    let t := (t.put Obj.smeState (if whole then smeOut else smeRunning)).cellsOos
    if whole then
      let l := t.sme.waiting
      let t := { t with sme := { t.sme with waiting := [], cyclic := none, agreed := false } }
      let t := forEach l (fun t i => t.endInput { input := some i } stInternal) t
      (match failed with
       | some snap => t.endInput snap stInternal
       | none => t)
    else match failed with
      | some snap => t.run snap 4 [] 0
      | none => t

/-! ## Debugger halt (R374) -/

/-- DEBUG_CMD (R374): 1 halts, 2 resumes; the status. The input of a run that a halt abandons waits again (DEDUCED, log entry 48). -/
def State.debugCommand (s : State) (v : Nat) : State × Nat :=
  if v ≠ 1 ∧ v ≠ 2 then (s, stOutOfRange)
  else if v = 1 then
    if s.obj Obj.smeState = smeHalted then (s, stDone)
    else
      let back := (s.sme.failed.bind (·.input)).toList
      let t := (s.put Obj.smeState smeHalted).setFlag Obj.faultSummary fsDebugBroke true
      ({ t with sme := { t.sme with failed := none, escalated := false, waiting := back ++ t.sme.waiting } }, stDone)
  else if s.obj Obj.smeState ≠ smeHalted then (s, stDone)
  else
    let (m, _) := s.replayLog none
    let t := { s with sme := { s.sme with map := m } }
    (t.put Obj.smeState (if t.flag Obj.smeOosMap 4 then smeOut else smeRunning), stDone)

/-! ## Results, counters, commits and resets (R349, R369, R377) -/

/-- The 64-bit slot of an entry's result (R349): its quality with what R372 and R374 add. -/
def State.mapResultNow (s : State) (e : Nat) : Nat :=
  let more := (if s.entryOos e then qMapFault + qInvalid else 0) ||| (if s.flag Obj.faultSummary fsDebugBroke then qTest else 0)
  match s.sme.map.result e with
  | some r =>
    let off := (r.changed - s.sampleOf (s.epochAt r.changed)) % 2 ^ 24
    ofSigned 32 r.value + (r.quality ||| more) * 2 ^ 32 + off * 2 ^ 40
  | none => (qInvalid ||| more) * 2 ^ 32 + 0xFFFFFF * 2 ^ 40

/-- MAP_TABLE, OB_TABLE or TCONST_BUF has changed at a commit (R369): results of entries that stay as they were are kept, images of
changed buffers are zero, and a fresh mordant point is taken. -/
def State.mapChanged (s : State) (oldMap oldOb : List Byte) : State :=
  let a := recordsOf 48 oldMap
  let b := recordsOf 16 oldOb
  let same (e : Nat) : Bool := a[e]? == s.mapTableNow[e]?
  let sameB (i : Nat) : Bool := b[i]? == s.obTableNow[i]?
  let m := s.sme.map
  let m := { m with results := m.results.filter (fun x => same x.1), images := m.images.filter (fun x => sameB x.1) }
  let t := { s with sme := { s.sme with map := m, kept := s.sme.kept.filter (fun x => sameB x.1) } }
  (t.put Obj.mapEntries s.mapTableNow.length).takeMordant

/-- CLEAR of 0x6203 and of 0x7410 (R349, R377). -/
def State.mapClearNow (s : State) : State :=
  s.clearKeys [Obj.mapRuns, Obj.cycleOverruns, Obj.outRefused, Obj.obReplaced, Obj.fieldMissing]
def State.smeClearNow (s : State) : State :=
  s.clearKeys [Obj.smeMismatches, Obj.smeTransient, Obj.selftests, Obj.maxRestartNs, Obj.skippedByTest, Obj.extraMordant, Obj.eccCorrected]

/-- The SME's state and the GOOSE state are lost at a reset through LOADING and in the activation pause (class V, R369). -/
def State.smeReset (s : State) : State :=
  let t := { s with sme := {} }
  (t.put Obj.smeState smeStopped).put Obj.windowCount 0

end Sys2Proof.Machine
end

