-- ==== Sys2Proof/Machine/Lake.lean ====
section
/-! DEFINITION. The lake (file 04, R125 to R142): sample instants, publication, lake output slots, reception, and the apply. -/
namespace Sys2Proof.Machine

/-- TIME_OFFSET of no change, and of a change whose time is not agreed (R128). -/
def offNone : Nat := 0xFFFFFF
def offNotAgreed : Nat := 0xFFFFFE

/-- A lake slot (R128). -/
def mkSlot (value quality offset : Nat) : Nat := value % 2 ^ 32 + quality % 2 ^ 8 * 2 ^ 32 + offset % 2 ^ 24 * 2 ^ 40

/-- TIME_OFFSET of a change at time `t` in the epoch that starts at `start` and ends before `stop` (R128, R119). -/
def State.offsetOf (s : State) (start stop : Nat) (t : Option Nat) : Nat :=
  match t with
  | some t =>
    if start ≤ t ∧ t < stop then
      (if s.lake.notAgreed.1 ≤ t ∧ t ≤ s.lake.notAgreed.2 then offNotAgreed else t - start)
    else offNone
  | none => offNone

/-- PUB_SOURCE of slot `i`. -/
def State.pubSourceOf (s : State) (i : Nat) : Nat := s.obj (Obj.pubSource (i / 128) (i % 128))

/-- A published slot of KIND 0x2 (R130). -/
def State.isLoutSlot (s : State) (i : Nat) : Bool := i < s.obj Obj.pubCount && bits (s.pubSourceOf i) 31 28 == 2

/-- A PUB_SOURCE value that validation takes (R130, R265). -/
def pubSourceGood (v : Nat) : Bool :=
  let i := bits v 15 0
  bits v 27 16 == 0 &&
  (match bits v 31 28 with
   | 0 | 2 | 5 => true
   | 1 => i < 320
   | 3 => i < 8192
   | 4 => bits i 15 14 == 0 && bits i 7 4 == 0 && bits i 3 0 ≤ 6
   | _ => false)

/-! ## What a slot publishes (R130, R131, R133, R265) -/

/-- A field cell level slot (R131): captures strictly before `stop` count. It is HELD while a hold policy keeps the output (R230), INVALID
with a bank in fault, chatter, or an output that does not follow (R219, R222, R228). -/
def State.cellSlot (s : State) (n start stop : Nat) : Nat :=
  let c := s.cell n
  if s.obj (Obj.cellMode n) = 0 ∨ s.obj (Obj.bankVolt (n / 40)) = 0 then mkSlot 0 qInvalid offNone
  else
    let before := c.sampled.filter (fun e => e.1 < stop)
    let level := match before.getLast?, c.sampleLevel, c.sampled.head? with
      | some e, _, _ => e.2
      | none, some l, _ => l
      | none, none, some e => !e.2
      | none, none, none => s.capturedLevel n
    let edges := (before.filter (fun e => start ≤ e.1)).length
    let invalid : Bool := s.cellFlag n csBankFault || s.cellFlag n csChatter || s.cellFlag n csMismatch
    mkSlot (ofBool level + ofBool (edges ≠ 0) * 2 + min 255 edges * 256)
      ((if invalid then qInvalid else 0) + (if s.cellFlag n csHold then qHeld else 0))
      (s.offsetOf start stop (before.getLast?.map (·.1)))

def State.lout (s : State) (i : Nat) : LoutSlot := sparseGet (fun _ => {}) s.lake.lout i
def State.setLout (s : State) (i : Nat) (l : LoutSlot) : State :=
  { s with lake := { s.lake with lout := sparsePut (fun _ => {}) s.lake.lout i l } }

/-- The slot `i` as sampled at the end `stop` of the epoch that started at `start`. -/
def State.slotSample (s : State) (i start stop : Nat) : Nat :=
  let src := s.pubSourceOf i
  let ix := bits src 15 0
  match bits src 31 28 with
  | 1 => s.cellSlot ix start stop
  | 2 =>
    let l := s.lout i
    if l.latched then mkSlot l.value l.quality (s.offsetOf start stop l.changed) else mkSlot 0 qInvalid offNone
  | 3 =>
    let e := ix
    let trig := meTrig (s.mapTableNow.getD e 0)
    let now := s.mapResultNow e
    let q := bits now 39 32 ||| (if trig = 2 ∧ !s.sme.agreed then qMapFault else 0)
    mkSlot (bits now 31 0) q (s.offsetOf start stop ((s.sme.map.result e).map (·.changed)))
  | 4 =>
    let n := bits ix 13 8
    let r := bits ix 3 0
    let s := s.shiftNow n
    let e := s.engine n
    mkSlot (s.obj (engReg n r)) (if e.running then 0 else qInvalid)
      (s.offsetOf start stop ((e.changed.find? (fun x => x.1 == r)).map (·.2)))
  | 5 => mkSlot (s.obj Obj.faultSummary) 0 (s.offsetOf start stop (some s.lake.statusChanged))
  | _ => mkSlot 0 qInvalid offNone

/-- A published slot. A node in HELD publishes INVALID (R16, R129); in the HOLD power state the node publishes what it last published,
with HELD (R413); in the activation pause KIND 0x3 keeps its last VALUE with HELD and KIND 0x4 with INVALID (R436). -/
def State.publishedSlot (s : State) (i start stop : Nat) : Nat :=
  let kind := bits (s.pubSourceOf i) 31 28
  let old := ((s.lake.last.find? (fun e => e.1 == i)).map (·.2)).getD (mkSlot 0 qInvalid offNone)
  let also (q : Nat) : Nat := mkSlot (bits old 31 0) (bits old 39 32 ||| q) (bits old 63 40)
  let v := if s.holding ∨ (s.paused ∧ kind = 3) then also qHeld
           else if s.paused ∧ kind = 4 then also qInvalid else s.slotSample i start stop
  if s.node = stHeld then mkSlot (bits v 31 0) (bits v 39 32 ||| qInvalid) (bits v 63 40) else v

/-- Captures of the epoch that has ended leave the account of each cell (R131). -/
def State.dropSampled (s : State) (stop : Nat) : State :=
  forEach (s.fc.cells.map (·.1)) (fun t n =>
    let c := t.cell n
    let before := c.sampled.filter (fun e => e.1 < stop)
    t.setCell n { c with sampled := c.sampled.filter (fun e => stop ≤ e.1)
                         sampleLevel := (before.getLast?.map (·.2)).or c.sampleLevel }) s

/-! ## Lake output slots (R133, R141) -/

/-- The engine that a frame of this node's own came from (R271). -/
def State.engineOf (s : State) (node address : Nat) : Option Nat :=
  (s.acc.class3.reverse.find? (fun e => e.1 == node && e.2.1 == address)).map (·.2.2)

/-- A write of this node's own, to itself and outside a session, fails: a LOCAL record, and TX_FAILS of its engine (R271). -/
def State.localFailed (s : State) (f : Frame) (status : Nat) : State :=
  let t := s.localLateError f status
  match s.engineOf f.dst f.address with
  | some n => t.bump (Obj.txFails n)
  | none => t

/-- A class-3 WRITE fails: a late-error record with SEQ 0 goes to its source (R197, R201). -/
def State.class3Failed (s : State) (f : Frame) (status : Nat) : State :=
  if f.src = s.ownId then s.localFailed f status
  else s.sendLateError f.src { time := s.now, address := f.address, seq := 0, tag := f.tag, status := status, node := s.ownId,
                               type := f.type, cls := f.cls, isLocal := false } none

/-- A write to a lake output slot is taken: it goes to the slot's pending register (R133). -/
def State.loutSubmit (s : State) (slot value commander : Nat) (work : Option WorkRef) (last : Bool) (late : Option Frame) : State :=
  let w : LoutWrite := { slot := slot, value := value, commander := commander, accepted := s.now, work := work, last := last, late := late }
  { s with lake := { s.lake with loutPending := s.lake.loutPending ++ [w] } }

/-- The pending writes are latched in order of acceptance (R133); a request for several slots counts once where it is refused (R106). -/
def State.latchLout (s : State) : State :=
  let t := { s with lake := { s.lake with loutPending := [] } }
  forEach s.lake.loutPending (fun t w =>
    if w.commander = 0 ∨ w.commander ≠ t.holderNow then
      let t := (if w.last then t.bump Obj.claimRefusals else t).finishRef w.work stClaimLost
      match w.late with | some f => t.class3Failed f stClaimLost | none => t
    else
      let q := bits w.value 39 32 &&& (qSubstituted + qTest)
      (t.setLout w.slot { value := bits w.value 31 0, quality := q, changed := some w.accepted, latched := true }).finishRef
        w.work stDone) t

/-- The lake output slots that have been latched follow LOUT_HOLD (R103, R141). -/
def State.applyLoutHold (s : State) : State :=
  if s.lake.loutHeld then s else
  let t := { s with lake := { s.lake with loutHeld := true } }
  forEach (s.lake.lout.map (·.1)) (fun t i =>
    let l := t.lout i
    if !l.latched then t
    else if t.obj Obj.loutHold = 0 then t.setLout i { l with quality := l.quality ||| qHeld }
    else t.setLout i { l with value := 0, quality := qInvalid, changed := some t.now }) t

/-- LOUT_MISSED apply instants have passed without a live claim; not inside a freeze (R89, R141). -/
def loutHold (s : State) : State :=
  if s.serving ∧ !s.holding ∧ s.liveCommanders = [] ∧ !s.frozen ∧ s.obj Obj.loutMissed ≤ s.ring.sinceNoClaim then s.applyLoutHold else s

/-! ## The sample instant (R125, R126, R132) -/

/-- The number of the next epoch to be sampled. -/
def State.nextEpoch (s : State) : Nat := max (s.epochAt (s.sampleFrom s.now)) s.lake.nextSample

/-- The slots of this node for epoch `k`, from first to last. -/
def State.ownSlots (s : State) (k : Nat) : List (Nat × Nat) :=
  (List.range (s.obj Obj.pubCount)).map (fun i => (i, s.publishedSlot i (s.sampleOf k - s.epochNs) (s.sampleOf k)))

/-- One LAKE frame of a publication (R132). -/
def State.lakeFrame (s : State) (k first : Nat) (last : Bool) (slots : List (Nat × Nat)) : Frame :=
  { cls := 1, type := tyLake, src := s.ownId, dst := 0xFF,
    tag := ofBool last + ofBool (!s.agreed) * 2 + ofBool (!s.traceable) * 4, seq := s.obj Obj.pubCount,
    address := mkAddr s.ownId 1 (s.ownId * 2 ^ 15 + 8 * first), param := k % 2 ^ 48,
    payload := slots.flatMap (fun e => leBytes 8 e.2) }

/-- The frames of a publication, up to 256 slots each (R132). -/
def State.lakeFrames (s : State) (k : Nat) (slots : List (Nat × Nat)) : List Frame :=
  let n := ceilDiv slots.length 256
  (List.range n).map (fun i => s.lakeFrame k (256 * i) (i + 1 == n) ((slots.drop (256 * i)).take 256))

/-- APPLY_MIN: D_min of R137 rounded up to whole µs, V being the volume of the last epoch. The terms are added in 1/1212 ns, in which
the time of a byte at 12.12 GB/s is 100, and rounded once. -/
def State.applyMinUs (s : State) (v : Nat) : Nat :=
  let n := s.obj Obj.ringNodes
  ceilDiv ((950 + 700 * n + 2 * s.fibreNow) * 1212 + v * 100 + s.epochNs * 1212 / 20) (1212 * us)

/-- The lake volume of the epoch that ended (R137, R138); this node's own publication counts in it. -/
def State.volumeEpoch (s : State) : State :=
  let v := s.lake.volume
  let high := 606 * s.epochNs < 100 * v
  let t := (s.put Obj.lakeVolume (v % 2 ^ 32)).put Obj.applyMin (min 65535 (s.applyMinUs v))
  let t := if high then t.bump Obj.ceilingExceed else t
  let t := (t.setFlag Obj.lakeFlags 0 (t.obj Obj.ringApply < t.obj Obj.applyMin)).setFlag Obj.lakeFlags 1 high
  { t with lake := { t.lake with volume := 8 * t.obj Obj.pubCount } }

/-- Ring parameters that wait act from this sample instant (R127). Epochs in flight keep their apply instants (DESIGN CHOICE, log entry
129). -/
def State.useWaiting (s : State) : State :=
  match s.tb.paramsWaiting with
  | some q => let t := s.useParams q
              { t with tb := { t.tb with paramsWaiting := none } }
  | none => s

/-- The node publishes its slots of epoch `k` (R130, R132); it keeps its own copy (R134). Without an ID it sends none (R471). -/
def State.publish (s : State) (k : Nat) : State :=
  let n := s.obj Obj.pubCount
  if n = 0 ∨ s.ownId = 0 ∨ !s.onRing then s
  else
    let slots := s.ownSlots k
    let t := forEach (s.lakeFrames k slots) (fun t f => t.offerRing portLake f) s
    let own : PendingSlots := { publisher := s.ownId, epoch := k, count := n, slots := slots }
    { t with lake := { t.lake with received := t.lake.received ++ [own], last := slots } }

/-! ## Reception (R135, R138) -/

/-- Epoch `k` is in flight, or comes next. -/
def State.awaitsEpoch (s : State) (k : Nat) : Bool := s.lake.inFlight.any (fun e => e.1 == k) || s.nextEpoch == k

/-- The epoch number nearest to the present with the given low 48 bits. -/
def State.fullEpoch (s : State) (low48 : Nat) : Nat := fullInstant (s.epochAt s.now) low48

/-- A LAKE frame of another node (R135). -/
def lakeRx (s : State) (f : Frame) : State :=
  let s := (s.takeFrame f).bump Obj.lakeFramesRx
  let s := { s with lake := { s.lake with volume := s.lake.volume + f.payload.length } }
  let k := s.fullEpoch f.param
  if !s.awaitsEpoch k then
    (if s.sampleOf k + s.applyNs ≤ s.now then s.bump Obj.lateFrames else s.bump Obj.epochDiscards)
  else
    let first := bits f.address 14 3
    let slots := (List.range (f.payload.length / 8)).map (fun i => (first + i, leAt f.payload (8 * i) 8))
    let old := s.lake.received.find? (fun p => p.publisher == f.src && p.epoch == k)
    let p : PendingSlots := { publisher := f.src, epoch := k, count := f.seq, slots := (old.map (·.slots)).getD [] ++ slots }
    { s with lake := { s.lake with received := s.lake.received.filter (fun p => !(p.publisher == f.src && p.epoch == k)) ++ [p] } }

/-! ## The apply (R135) -/

/-- The slots a subscription entry names, as keys publisher × 4096 + slot (R142). -/
def entrySlots (v : Nat) : List Nat :=
  let p := bits v 31 24
  if p = 0 then [] else (List.range (bits v 11 0 + 1)).map (fun i => p * 4096 + bits v 23 12 + i)

/-- The slots that this node stores: subscribed or published (R134), each once. A node outside the membership subscribes to nothing
(R78). -/
def State.storedSlots (s : State) : List Nat :=
  let subs := if s.acc.members ≠ [] ∧ s.ownId = 0 then [] else (List.range (s.obj Obj.subCount)).flatMap (fun i => entrySlots (s.obj (Obj.subEntry (i / 128) (i % 128))))
  let own := if s.ownId = 0 then [] else (List.range (s.obj Obj.pubCount)).map (fun i => s.ownId * 4096 + i)
  (subs ++ own).eraseDups

/-- A publisher that is a census member and is being neither welded nor unwelded. -/
def State.lakeMember (s : State) (p : Nat) : Bool :=
  s.acc.members.any (fun m => m.id == p) && !s.acc.welding.contains p && s.acc.leaving ≠ some p

/-- The apply of one slot for epoch `k` (R135); a slot missing inside a freeze is also HELD (R89). A slot of a publisher that has welded in,
or of a raised PUB_COUNT, stays ABSENT until an epoch that carries it has been applied (R207, R210). -/
def State.applySlot (s : State) (k key : Nat) : State :=
  let p := key / 4096
  let i := key % 4096
  let put (t : State) (v n : Nat) : State :=
    { t with lake := { t.lake with applied := sparsePut (fun _ => slotAbsent) t.lake.applied key v,
                                   stale := sparsePut (fun _ => 0) t.lake.stale key n } }
  let pub := s.lake.received.find? (fun r => r.publisher == p && r.epoch == k)
  match pub.bind (fun r => (r.slots.find? (fun e => e.1 == i)).map (·.2)) with
  | some v =>
    let t := put s v 0
    { t with lake := { t.lake with awaited := t.lake.awaited.filter (· ≠ key), awaitedFrom := t.lake.awaitedFrom.filter (· ≠ p) } }
  | none =>
    if !s.lakeMember p ∨ pub.any (fun r => r.count ≤ i) then
      let t := put s (mkSlot 0 qAbsent offNone) 0
      { t with lake := { t.lake with awaited := t.lake.awaited.filter (· ≠ key) ++ [key] } }
    else if s.lake.awaited.contains key ∨ s.lake.awaitedFrom.contains p then put s (mkSlot 0 qAbsent offNone) 0
    else
      let n := sparseGet (fun _ => 0) s.lake.stale key + 1
      let old := s.lakeSlot key
      let limit := s.obj Obj.staleInvalid
      let q := (bits old 39 32 &&& (255 - qAbsent)) ||| qStale ||| (if limit ≠ 0 ∧ limit ≤ n then qInvalid else 0) |||
        (if s.frozen then qHeld else 0)
      (put s (mkSlot (bits old 31 0) q (bits old 63 40)) n).bump Obj.staleSlots

/-- The apply instant counts towards claim leases (R98); an instant inside a freeze does not (R89). -/
def State.countLeases (s : State) : State :=
  if s.frozen then s else
  let live := s.liveCommanders
  let t := { s with ring := { s.ring with leaseAt := some s.now, lapsedAt := [] } }
  let t := forEach live (fun t c =>
    let n := sparseGet (fun _ => 0) t.ring.claimAge c + 1
    let t := { t with ring := { t.ring with claimAge := sparsePut (fun _ => 0) t.ring.claimAge c n } }
    if t.obj Obj.claimLease ≤ n then
      { t.lapse c with ring := { (t.lapse c).ring with lapsedAt := (t.lapse c).ring.lapsedAt ++ [c] } }
    else t) t
  if live ≠ [] then t else { t with ring := { t.ring with sinceNoClaim := t.ring.sinceNoClaim + 1 } }

/-- The hold policies that are due: with no live claim for MISSED apply instants, 0 meaning at once (R103). -/
def State.holdsDue (s : State) : State :=
  if !s.serving ∨ s.holding ∨ s.liveCommanders ≠ [] ∨ s.frozen then s else
  let t := loutHold s.holdDue
  let t := forEach (s.can.map (·.1)) (fun t n => canTxHold t n) t
  forEach (s.uart.map (·.1)) (fun t n => uartTxHold t n) t

/-- The claims have changed: once none is live the count of missed apply instants starts, and policies without a count act at once
(R103). -/
def State.claimsChanged (s before : State) : State :=
  if s.liveCommanders ≠ [] then (if s.lake.loutHeld then { s with lake := { s.lake with loutHeld := false } } else s)
  else if before.liveCommanders ≠ [] then ({ s with ring := { s.ring with sinceNoClaim := 0 } } : State).holdsDue
  else s

/-- The apply instant counts towards leases and hold policies, last of what happens at it (R126). -/
def State.countInstant (s : State) : State := (((({ s with lake := { s.lake with countDue := false } } : State).countLeases).claimsChanged s).holdsDue)

/-- The next apply instant A(k) (R126, R135): the publications of epoch `k` are applied, the cyclic run is due, and the instant counts; one
that is also a sample instant counts after the sample and the latch. -/
def applyInstant (s : State) : State :=
  match s.lake.inFlight with
  | [] => s
  | (k, at') :: r =>
    let t := s.waitUntil at'
    let t := { t with lake := { t.lake with inFlight := r } }
    let t := if t.holding then t else forEach t.storedSlots (fun t key => t.applySlot k key) t
    let t := { t with lake := { t.lake with received := t.lake.received.filter (fun p => p.epoch ≠ k && t.awaitsEpoch p.epoch) } }
    let t := { t with bridge := { t.bridge with intStatus := t.bridge.intStatus ||| 2 ^ 7 } }
    let t := t.smeApply k
    if t.sampleOf t.nextEpoch = t.now then { t with lake := { t.lake with countDue := true } } else t.countInstant

/-- The next sample instant (R125, R126): the input sample, the latch of the lake output slots, the epoch's publication,
and the count of an apply instant that it coincides with. -/
def sampleInstant (s : State) : State :=
  let t := (s.waitUntil (s.sampleOf s.nextEpoch)).useWaiting
  -- new parameters may place the instant off their own grid
  if t.sampleFrom t.now ≠ t.now then t else
  let k := t.nextEpoch
  let t := { t with lake := { t.lake with inFlight := t.lake.inFlight ++ [(k, t.sampleOf k + t.applyNs)], nextSample := k + 1 } }
  let t := ((t.volumeEpoch).latchLout).quotaEpoch
  let t := ((t.publish k).dropSampled (t.sampleOf k)).sendAnnouncements
  let t := if t.acc.splice.isSome then { t with acc := { t.acc with spliceEpochs := t.acc.spliceEpochs + 1 } } else t
  let t := t.refreshWindowCount
  if t.lake.countDue then t.countInstant else t

/-- The 8 bytes of slot `i` of publisher `p` as a read gives them (R22, R31). -/
def State.slotRead (s : State) (p i : Nat) : Nat :=
  if s.storedSlots.contains (p * 4096 + i) then s.lakeSlot (p * 4096 + i) else slotAbsent

/-- A read of LAKE space (R22, R23). -/
def State.lakeBytes (s : State) (off n : Nat) : List Byte :=
  (List.range (n / 8)).flatMap (fun j =>
    let at' := bits off 21 0 + 8 * j
    leBytes 8 (s.slotRead (at' / 2 ^ 15) (at' % 2 ^ 15 / 8)))

/-- CLEAR of 0x2250 (R142). -/
def State.lakeClearNow (s : State) : State :=
  s.clearKeys [Obj.lakeFramesRx, Obj.lateFrames, Obj.epochDiscards, Obj.staleSlots, Obj.skippedApplies, Obj.ceilingExceed]

/-! ## Validation (R134, R141, R142) -/

/-- A subscription entry that validation takes. -/
def subEntryGood (v : Nat) : Bool :=
  bits v 31 24 ≤ 96 && (bits v 31 24 == 0 || bits v 23 12 + bits v 11 0 ≤ 4095)

/-- Distinct slots that a configuration stores. -/
def storedCount (cfg : Nat → Nat) (own : Nat) : Nat :=
  (((List.range (cfg Obj.subCount)).flatMap (fun i => entrySlots (cfg (Obj.subEntry (i / 128) (i % 128))))) ++
   (if own = 0 then [] else (List.range (cfg Obj.pubCount)).map (fun i => own * 4096 + i))).eraseDups.length

/-- The capacity check of R134 for one epoch length and apply delay, in µs. -/
def lakeFits (n e d : Nat) : Bool := n * (ceilDiv d (max 1 e) + 2) ≤ 262144

end Sys2Proof.Machine
end

