-- ==== Sys2Proof/Machine/Bridge.lean ====
section
/-! DEFINITION. Memory accesses (R22 to R24) and the host bus bridge (file 12, R324 to R332): the UV960 as target, its fabric windows
and the pending fabric cycle, crossing, and the bridge as master. -/
namespace Sys2Proof.Machine

/-! ## Memory accesses (R22, R23) -/

/-- First OFFSET past the LAKE space: that behind publisher 96's slots (R22). -/
def lakeEnd : Nat := 97 * 2 ^ 15

/-- A write to the LAKE space names lake output slots of this node alone (R133). -/
def State.lakeOutputs (s : State) (off len : Nat) : Bool :=
  (List.range (len / 8)).all (fun j => (off + 8 * j) / 2 ^ 15 == s.ownId && s.isLoutSlot ((off + 8 * j) % 2 ^ 15 / 8))

/-- The status that the address of a memory access earns, or none (R22, R23). -/
def State.memRefusal (s : State) (address len : Nat) (write : Bool) : Option Nat :=
  let off := addrOffset address
  match addrSpace address with
  | 1 =>
    if bits off 35 22 ≠ 0 ∨ bits off 21 15 = 0 ∨ off % 8 ≠ 0 ∨ len % 8 ≠ 0 ∨ lakeEnd < bits off 21 0 + len ∨
        96 < bits off 21 15 then some stOutOfRange
    else none
  | 2 => if bits off 35 32 ≠ 0 ∨ 2 ^ 32 < off + len then some stOutOfRange else none
  | 3 =>
    if bits off 35 34 ≠ 0 ∨ s.dramSize = 0 ∨ s.dramSize < off + len then some stOutOfRange
    else if write ∧ off < s.stagingFirst ∧ len ≠ 0 then some stReadOnly else none
  | 4 =>
    if bits off 35 14 ≠ 0 ∨ bits off 7 0 ≠ 0 then some stOutOfRange
    else if !write then some stWriteOnly else none
  | _ => some stOutOfRange

/-- A READ_RESP with its status and data (R70, R472). -/
def State.sendReadResp (s : State) (f : Frame) (status : Nat) (data : List Byte) : State :=
  s.offerRing (match addrSpace f.address with | 1 => portLake | 2 => portHost | 3 => portDram | 4 => portEngines | _ => portMp)
    { cls := f.cls, type := tyReadResp, src := s.ownId, dst := f.src, status := status, commander := f.commander, tag := f.tag,
      payload := data }

/-- The status that refuses a memory access with its commander, or none, in the order of R470: the COMMANDER, the node state, the
address, the claim (R33), and the rules of a lake output slot (R133). -/
def State.accessRefusal (s : State) (address len : Nat) (write : Bool) (commander : Nat) : Option Nat :=
  if write ∧ 8 < commander then some stOutOfRange
  else if s.node = stRecovery then some (if write then stHeldStatus else stNoObject)
  else if write ∧ s.node = stLoading then some stHeldStatus
  else match s.memRefusal address len write with
    | some st => some st
    | none =>
      let lake : Bool := write && addrSpace address == 1
      let own := s.lakeOutputs (bits (addrOffset address) 21 0) len
      if lake ∧ own ∧ !s.serving then some stHeldStatus
      else if write ∧ s.serving ∧ (commander = 0 ∨ commander ≠ s.holderNow) then some stClaimLost
      else if lake ∧ !own then some stReadOnly
      else none

/-- The writes of LAKE space as output commands (R22, R133): the status a slot is refused with, or STAGED. -/
def State.lakeWrite (s : State) (address : Nat) (data : List Byte) (commander : Nat) (work : Option WorkRef)
    (late : Option Frame) : State × Nat :=
  if !s.serving then (s, stHeldStatus)
  else if commander = 0 ∨ commander ≠ s.holderNow then (s.bump Obj.claimRefusals, stClaimLost)
  else
    let n := data.length / 8
    let first := bits (addrOffset address) 14 3
    -- the work is executed, and a failure reported, with its last slot
    (forEach (List.range n) (fun t j =>
      t.loutSubmit (first + j) (leAt data (8 * j) 8) commander (if j + 1 = n then work else none) (decide (j + 1 = n))
        (if j + 1 = n then late else none)) s, stStaged)

/-! ## The host's cycles as target (R325, R326) -/

/-- The enabled bytes of a cycle: byte number from the first word, and the byte driven. -/
def cycEnabled (c : HostCycle) : List (Nat × Byte) :=
  (c.beats.mapIdx (fun i b => [0, 1, 2, 3].filterMap (fun j =>
    if b.1.testBit j then some (4 * i + j, BitVec.ofNat 8 (b.2 / 256 ^ j)) else none))).flatten

/-- 1 to 16 beats inside one aligned 64-byte block, the enabled bytes contiguous (R325). -/
def cycGood (c : HostCycle) : Bool :=
  let e := (cycEnabled c).map (·.1)
  c.address % 4 == 0 && 1 ≤ c.beats.length && c.address % 64 / 4 + c.beats.length ≤ 16 && e ≠ [] &&
  e == (List.range e.length).map (fun i => e.headD 0 + i)

/-- The offset the UV960 decodes, and that of the first enabled byte. -/
def cycOffset (c : HostCycle) : Nat := c.address % 2 ^ 24
def cycFirstByte (c : HostCycle) : Nat := (cycOffset c) + ((cycEnabled c).map (·.1)).headD 0
def cycBytes (c : HostCycle) : List Byte := (cycEnabled c).map (·.2)

/-- Two cycles are the same request (R329): direction, address, byte enables, beat count, and the data of a write. -/
def cycRepeats (a b : HostCycle) : Bool :=
  a.write == b.write && a.address == b.address && a.beats.map (·.1) == b.beats.map (·.1) && (!a.write || cycBytes a == cycBytes b)

/-- A cycle completes for the host with the words of a read, every beat the same word where `fill` says so. -/
def State.hostDone (s : State) (c : HostCycle) (words : List Nat) : State :=
  s.emit (.hostCycle false (if c.write then [] else words))

/-- The words that carry bytes at their places in a cycle; other bytes are 0. -/
def cycPlaced (c : HostCycle) (data : List Byte) : List Nat :=
  let e := (cycEnabled c).map (·.1)
  (List.range c.beats.length).map (fun i => leVal ([0, 1, 2, 3].map (fun j =>
    match e.findIdx? (· == 4 * i + j) with
    | some k => data.getD k 0
    | none => 0)))

def cycOnes (c : HostCycle) : List Nat := c.beats.map (fun _ => 0xFFFFFFFF)

/-- The target ends a cycle with HB_RETRY_N, counted (R329). -/
def State.hostRetry (s : State) : State := (s.bump Obj.retries).emit (.hostCycle true [])

def State.setPending (s : State) (p : Option PendingCycle) : State := { s with bridge := { s.bridge with pending := p } }

/-- STATUS of TGT_STATUS. -/
def State.setTgtStatus (s : State) (st : Nat) : State := { s with bridge := { s.bridge with status := st } }

/-- An INT_STATUS bit is set (R327). -/
def State.raise (s : State) (i : Nat) : State := { s with bridge := { s.bridge with intStatus := s.bridge.intStatus ||| 2 ^ i } }

/-- INT_STATUS bits (R327). -/
def intMboxDone : Nat := 0
def intTgtReady : Nat := 1
def intTgtError : Nat := 2
def intLeq : Nat := 3
def intState : Nat := 4
def intHolder : Nat := 5
def intFault : Nat := 6
def intApply : Nat := 7
def intSoe : Nat := 8
def intCanRx : Nat := 9
def intUartRx : Nat := 10
def intEngPoll : Nat := 11
def intGoose : Nat := 12
def intCross : Nat := 13

/-- The result of a window cycle that the host sees (R329). -/
def State.windowResult (s : State) (c : HostCycle) (status : Nat) (data : List Byte) : State :=
  s.hostDone c (if status = stDone then cycPlaced c data else (cycOnes c))

/-- A fabric cycle has completed: STATUS, and an error counted (R327, R329). -/
def State.noteFabric (s : State) (status : Nat) : State :=
  let t := s.setTgtStatus status
  if status = stDone then t else (t.bump Obj.tgtErrors).raise intTgtError

/-- The request of a window cycle has its result, which waits to be passed on (R329). -/
def State.windowArrive (s : State) (tag status : Nat) (data : List Byte) : State :=
  match s.bridge.pending with
  | some p => if p.tag = tag ∧ p.arrived.isNone then s.setPending (some { p with arrived := some (status, data) }) else s
  | none => s

/-- The pending fabric cycle completes (R329): the held cycle ends normally, or READY and TGT_READY are set. -/
def fabricCycleComplete (s : State) : State :=
  match s.bridge.pending with
  | some p =>
    match p.arrived with
    | some (st, data) =>
      if p.ready then s
      else
        let t := s.noteFabric st
        if p.held then (t.setPending none).windowResult p.cycle st data
        else (t.setPending (some { p with ready := true })).raise intTgtReady
    | none => s
  | none => s

/-- The fabric address of a window cycle (R328). -/
def State.windowAddress (s : State) (c : HostCycle) : Nat :=
  let w := (cycOffset c) / 2 ^ 20 - 1
  (s.obj (Obj.fwBase w) % 2 ^ 48 + ((cycFirstByte c) - (w + 1) * 2 ^ 20)) % 2 ^ 48

/-- A window cycle to this node's own memory is a local access (R328), whose write has the issuer `i`: a result at once, or none while it
is under way. -/
def State.windowHere (s : State) (c : HostCycle) (f : Frame) (i : Issuer) : State × Option (Nat × List Byte) :=
  let off := addrOffset f.address
  let n := (cycBytes c).length
  match s.accessRefusal f.address n c.write f.commander with
  | some st => (s.countRefusal st, some (st, []))
  | none =>
    match addrSpace f.address, c.write with
    | 1, false => (s, some (stDone, s.lakeBytes off n))
    | 1, true => let (t, st) := s.lakeWrite f.address f.payload f.commander none (if i = .posted f then some f else none)
                 (t, some (st, []))
    | 3, false => (s, some (stDone, s.dramView off n))
    | 3, true => (s.dramWrite off f.payload, some (stDone, []))
    | 4, _ => (s.offerLocal i f 0, none)
    | _, true => (s.enqueueMaster { origin := .block i f, write := true, address := off, length := n, data := f.payload }, none)
    | _, false => (s.enqueueMaster { origin := .window s.bridge.tag, write := false, address := off, length := n }, none)

/-- The request of a window cycle: a result at once, or none while it is under way (R328, R329). A posted write to this node completes when
it is taken, and leaves a LOCAL record if it fails (R179, R196, R197). -/
def State.windowRequest (s : State) (c : HostCycle) : State × Option (Nat × List Byte) :=
  let a := s.windowAddress c
  let node := addrNode a
  let here : Bool := node == 0 || node == s.ownId
  let f : Frame := { cls := 2, type := tyWrite, src := s.ownId, dst := if here then s.ownId else node, commander := s.obj Obj.fwCommander,
                     address := a, payload := cycBytes c, posted := here && c.write && s.postedWindow a (cycBytes c).length }
  if f.posted then
    match s.windowHere c f (.posted f) with
    | (t, some (st, _)) => (if st = stDone ∨ st = stStaged then t else t.localLateError f st, some (stDone, []))
    | (t, none) => (t, some (stDone, []))
  else if here then s.windowHere c f (.window s.bridge.tag)
  else if 96 < node then (s, some (stOutOfRange, []))
  else if !s.reaches node then (s, some (stPathDown, []))
  else if c.write then (s.issue f (.window s.bridge.tag), none)
  else
    (s.offerRing portHost { cls := 2, type := tyRead, src := s.ownId, dst := node, commander := f.commander, tag := s.bridge.tag, address := a,
                            param := (cycBytes c).length }, none)

/-- A cycle whose request goes to another node; with TGT_HOLD 0 it never completes at once (R329). -/
def State.remoteCycle (s : State) (c : HostCycle) : Bool :=
  let node := addrNode (s.windowAddress c)
  node ≠ 0 && node ≠ s.ownId

/-- A cycle in a fabric window (R329). -/
def State.windowCycle (s : State) (c : HostCycle) : State :=
  match s.bridge.pending with
  | some p =>
    if !cycRepeats p.cycle c then s.hostRetry
    else if p.ready then
      let (st, data) := p.arrived.getD (stInternal, [])
      (s.setPending none).windowResult c st data
    else if s.obj Obj.tgtHold = 0 then s.hostRetry
    else s.setPending (some { p with held := true })
  | none =>
    let (t, result) := s.windowRequest c
    match (if s.obj Obj.tgtHold = 0 ∧ s.remoteCycle c then none else result) with
    | some (st, data) => (t.noteFabric st).windowResult c st data
    | none =>
      let p : PendingCycle := { cycle := c, tag := s.bridge.tag, node := addrNode (s.windowAddress c),
                                held := s.obj Obj.tgtHold ≠ 0, arrived := result }
      let t := t.setPending (some p)
      let t := { t with bridge := { t.bridge with tag := (s.bridge.tag + 1) % 2 ^ 16 } }
      if s.obj Obj.tgtHold = 0 then t.hostRetry else t

/-- TGT_HOLD clocks have passed: the held cycle ends with HB_RETRY_N and its request stays pending (R329). -/
def tgtHoldExpiry (s : State) : State :=
  match s.bridge.pending with
  | some p => if p.held then (s.setPending (some { p with held := false })).hostRetry else s
  | none => s

/-! ## Bridge registers (R327) -/

/-- The UV960 answers a cycle with HB_CS_N low: not with HB_ENABLE [0] clear, nor while it is itself the master (R326, R331). -/
def State.answersHost (s : State) : Bool := s.rst.coreOn && (s.obj Obj.hbEnable).testBit 0 && !s.bridge.granted

/-- A write of one register by the host's own cycle (R326). -/
def State.byHost (s : State) (write : State → State) : State := if s.answersHost then write s else s

/-- SB_STATUS. -/
def State.sbStatusNow (s : State) : Nat :=
  let fs := s.obj Obj.faultSummary
  s.node + ofBool (fs.testBit 4) * 2 ^ 4 + ofBool (fs.testBit 5) * 2 ^ 5 + ofBool (fs.testBit 9) * 2 ^ 6 + ofBool (fs.testBit 0) * 2 ^ 7 +
  ofBool (s.acc.leq ≠ []) * 2 ^ 8 + ofBool (s.bridge.pending.any (·.ready)) * 2 ^ 9 + ofBool s.dict.mbDone * 2 ^ 10 +
  (s.epochAt s.now % 2 ^ 16) * 2 ^ 16

/-- TGT_STATUS. -/
def State.tgtStatusNow (s : State) : Nat :=
  s.bridge.status + ofBool s.bridge.pending.isSome * 2 ^ 15 + ofBool (s.bridge.pending.any (·.ready)) * 2 ^ 16

/-- HB_INT_N[i] is driven low; an open-drain line is released otherwise, and wherever R19 applies (R332). -/
def State.intAsserted (s : State) (i : Nat) : Bool :=
  !s.pinsFloat && s.bridge.intStatus &&& s.obj (if i = 0 then Obj.intEn0 else Obj.intEn1) ≠ 0

/-- The level of HB_SB[j], none where it is released (R332). -/
def State.sideBand (s : State) (j : Nat) : Option Bool :=
  let sel := s.obj Obj.sbSelect / 256 ^ j % 256
  if s.pinsFloat then none else some (sel < 32 && s.sbStatusNow.testBit sel)

/-- HB_CLK_KHZ: a measurement of the host's clock that no command brings, so that its value is open; 0 while the bridge is off
(log entry 133). -/
def State.hbClkNow (s : State) : Nat := if s.obj Obj.hbEnable = 0 then 0 else Config.hostClockKhz % 2 ^ 32

/-- INT_STATUS: writing 1 to a bit clears it. -/
def intStatusWrite (s : State) (v : Nat) : State :=
  { s with bridge := { s.bridge with intStatus := s.bridge.intStatus &&& (2 ^ 32 - 1 - v % 2 ^ 32) } }

/-- CLAIM_LO holds the claim number for the next CLAIM_HI. -/
def claimLoWrite (s : State) (v : Nat) : State := { s with bridge := { s.bridge with claimLo := v % 2 ^ 32 } }

/-- CLAIM_HI sends one claim frame, or is discarded and counted (R100, R327). -/
def claimHiWrite (s : State) (v : Nat) : State :=
  if bits v 7 4 ≠ 0 ∨ bits v 31 16 ≠ 0 then s.bump Obj.claimDiscards
  else s.sendClaim portHost (bits v 3 0) s.bridge.claimLo (bits v 15 8)

/-- TGT_ABANDON: the pending fabric cycle is given up; its result is dropped when it comes (R329). -/
def tgtAbandon (s : State) (v : Nat) : State :=
  if v = 1 then s.setPending none else s

/-- A read of a bridge register. -/
def State.bridgeRead (s : State) (off : Nat) : Nat :=
  match off with
  | 0x00 => s.sbStatusNow
  | 0x04 => s.bridge.intStatus
  | 0x08 => s.obj Obj.intEn0
  | 0x0C => s.obj Obj.intEn1
  | 0x18 => s.tgtStatusNow
  | _ => 0

/-- A write of a whole bridge register. -/
def State.bridgeWrite (s : State) (off v : Nat) : State :=
  match off with
  | 0x04 => intStatusWrite s v
  | 0x08 => s.put Obj.intEn0 v
  | 0x0C => s.put Obj.intEn1 v
  | 0x10 => claimLoWrite s v
  | 0x14 => claimHiWrite s v
  | 0x1C => tgtAbandon s v
  | _ => s

/-- The words of a bridge register cycle, each written with all four bytes enabled; a word with other enables keeps the bytes not
enabled of a register that is stored (DESIGN CHOICE, log entry 134). -/
def State.bridgeCycle (s : State) (c : HostCycle) (base : Nat) : State :=
  let at' (i : Nat) : Nat := (cycOffset c) - base + 4 * i
  if c.write then
    (c.beats.mapIdx (fun i b => (i, b))).foldl (fun t x =>
      let keep := if at' x.1 = 0x08 ∨ at' x.1 = 0x0C then t.bridgeRead (at' x.1) else 0
      let v := leVal ([0, 1, 2, 3].map (fun j =>
        if x.2.1.testBit j then BitVec.ofNat 8 (x.2.2 / 256 ^ j) else BitVec.ofNat 8 (keep / 256 ^ j)))
      if x.2.1 % 16 = 0 then t else t.bridgeWrite (at' x.1) v) (s.hostDone c [])
  else s.hostDone c ((List.range c.beats.length).map (fun i => s.bridgeRead (at' i)))

/-! ## The mailbox (R53) -/

/-- A write to REQUEST: ignored with OVERRUN while BUSY. -/
def State.mbWrite (s : State) (off : Nat) (data : List Byte) : State :=
  if s.dict.mbBusy then { s with dict := { s.dict with mbOverrun := true } }
  else
    let m := (data.mapIdx (fun i b => (off + i, b))).foldl (fun l e => sparsePut (fun _ => 0) l e.1 e.2) s.dict.mbRequest
    { s with dict := { s.dict with mbRequest := m } }

/-- One byte of the mailbox as it reads. -/
def State.mbByte (s : State) (off : Nat) : Byte :=
  if off < 0x410 then sparseGet (fun _ => 0) s.dict.mbRequest off
  else if 0x800 ≤ off ∧ off < 0xC10 then ((s.dict.mbResponse.map respBytes).getD []).getD (off - 0x800) 0
  else if off = 0xF04 then
    BitVec.ofNat 8 (ofBool s.dict.mbBusy + ofBool s.dict.mbDone * 2 + ofBool s.dict.mbOverrun * 4)
  else 0

/-! ## The bridge as master (R331) -/

/-- Bytes of the next cycle of a request: inside one aligned 64-byte block. -/
def MasterReq.chunk (r : MasterReq) : Nat := min (r.length - r.pos) (64 - (r.address + r.pos) % 64)

/-- Up to `n` cycles of a request complete; a read takes its bytes from `data`. -/
def State.masterCycles : Nat → State → MasterReq → List Byte → State × MasterReq
  | 0, s, r, _ => (s, r)
  | n + 1, s, r, data =>
    if r.length ≤ r.pos then (s, r)
    else
      let k := r.chunk
      let t := s.emit (.hostMaster r.write (r.address + r.pos) (if r.write then slice r.data r.pos k else []))
      State.masterCycles n t
        { r with pos := r.pos + k, got := if r.write then r.got else r.got ++ slice data 0 k, retries := 0 } (data.drop k)

/-- A request of the bridge as master has its outcome (R331). -/
def State.masterDone (s : State) (r : MasterReq) (status : Nat) : State :=
  let s := { s with bridge := { s.bridge with queue := s.bridge.queue.drop 1, requesting := false, granted := false } }
  let s := s.emit (.hostRequest false)
  match r.origin with
  | .work w => s.finishWork w status
  | .frame f =>
    if f.type = tyRead then s.sendReadResp f status (if status = stDone then r.got else [])
    else if status = stDone then s else s.class3Failed f status
  | .block i f => let t := s.completeAt i 0 status
                  (match i with
                   | .engine _ => if status = stDone then t else t.localLateError f status
                   | _ => t)
  | .window tag => s.windowArrive tag status r.got
  | .input b =>
    let h : HostBlock := { data := if status = stDone then r.got else (sparseGet (fun _ => {}) s.sme.blocks b).data,
                           start := r.began.getD s.now, failed := status ≠ stDone }
    { s with sme := { s.sme with blocks := sparsePut (fun _ => {}) s.sme.blocks b h } }
  | .output _ => if status = stDone then s else s.bump Obj.outRefused

/-- The head of the queue after it has got on by some cycles: complete, or kept. -/
def State.masterStep (s : State) (cycles : Nat) (data : List Byte) : State × Option MasterReq :=
  match s.bridge.queue with
  | [] => (s, none)
  | r :: rest =>
    let (t, r) := State.masterCycles cycles s { r with began := some (r.began.getD s.now) } data
    if r.length ≤ r.pos then (t.masterDone r stDone, none)
    else ({ t with bridge := { t.bridge with queue := r :: rest } }, some r)

/-- The next request asks for the bus (R331); with HB_ENABLE [1] clear it completes with PATH_DOWN, and while a window cycle is held it
waits (R330). -/
def masterRequest (s : State) : State :=
  match s.bridge.queue with
  | [] => s
  | r :: _ =>
    if s.bridge.requesting then s
    else if !(s.obj Obj.hbEnable).testBit 1 then s.masterDone r stPathDown
    else if r.length = 0 then s.masterDone r stDone
    else if s.bridge.pending.any (·.held) then s
    else { s with bridge := { s.bridge with requesting := true } }.emit (.hostRequest true)

/-- HB_GNT_N is low with the bus idle: cycles of the request run (R331). Where the request needs more of them, HB_GNT_N has risen: the
bridge has finished its cycle and requests the bus again. -/
def busGrant (s : State) (cycles : Nat) (data : List Byte) : State :=
  if !s.bridge.requesting then s
  else match s.masterStep cycles data with
    | (t, none) => t
    | (t, some _) => { t with bridge := { t.bridge with granted := false } }.emit (.hostRequest true)

/-- Under its grant, after some cycles, the target ends one with HB_RETRY_N: the bridge, still the master, repeats it (R331). -/
def masterRetry (s : State) (cycles : Nat) (data : List Byte) : State :=
  if !s.bridge.requesting then s
  else match s.masterStep cycles data with
    | (t, none) => t
    | (t, some r) =>
      let limit := t.obj Obj.mstRetryLimit
      let r := { r with retries := r.retries + 1 }
      let t := t.bump Obj.mstRetries
      if limit ≠ 0 ∧ limit < r.retries then t.masterDone r stTimeout
      else { t with bridge := { t.bridge with queue := r :: t.bridge.queue.drop 1, granted := true } }

/-- Under its grant, after some cycles, no beat completes within MST_WAIT_LIMIT clocks (R331). -/
def mstWaitTimeout (s : State) (cycles : Nat) (data : List Byte) : State :=
  if !s.bridge.requesting then s
  else match s.masterStep cycles data with
    | (t, none) => t
    | (t, some r) => (t.bump Obj.mstTimeouts).masterDone r stTimeout

/-- The node that a request for the bus comes from. -/
def MasterReq.source (r : MasterReq) : Option Nat :=
  match r.origin with
  | .work w => some w.peer
  | .frame f => some f.src
  | _ => none

/-- A crossing with node `y` (R330): the bridge of the higher node ends its held cycle with BUSY_CROSS and asks for the bus. -/
def crossing (s : State) (y : Nat) : State :=
  match s.bridge.pending with
  | some p =>
    if p.held ∧ p.arrived.isNone ∧ p.node = y ∧ y < s.ownId ∧ y ≠ 0 ∧ s.bridge.queue.any (fun r => r.source == some y) then
      let t := ((s.setPending (some { p with held := false })).hostRetry).setTgtStatus stBusyCross
      let t := (t.raise intCross).bump Obj.crossCount
      let mine := t.bridge.queue.filter (fun r => r.source == some y)
      let rest := t.bridge.queue.filter (fun r => r.source ≠ some y)
      masterRequest { t with bridge := { t.bridge with queue := mine ++ rest } }
    else s
  | none => s

/-- CLEAR of 0x6001 (R347). -/
def State.bridgeClearNow (s : State) : State :=
  s.clearKeys [Obj.retries, Obj.crossCount, Obj.mstTimeouts, Obj.mstRetries, Obj.tgtErrors]

/-- The bridge loses what it holds at a reset, with the host bus released (R19). -/
def State.bridgeReset (s : State) : State :=
  { s with bridge := {}, dict := { s.dict with mbRequest := [], mbResponse := none, mbWaiting := none, mbBusy := false, mbDone := false,
                                               mbOverrun := false } }

/-! ## Writes and reads that reach their consumers (R22, R23, R472) -/

/-- A WRITE to SPACE 0x1 to 0x4 is carried out for its origin: the status, or none where it completes later. -/
def State.memWrite (s : State) (f : Frame) (origin : MasterOrigin) (work : Option WorkRef) : State × Option Nat :=
  match s.memRefusal f.address f.payload.length true with
  | some st => (s, some st)
  | none =>
    match addrSpace f.address with
    | 1 =>
      if !s.lakeOutputs (bits (addrOffset f.address) 21 0) f.payload.length then (s, some stReadOnly) else
      let (t, st) := s.lakeWrite f.address f.payload f.commander work (if work.isSome then none else some f)
      (t, if work.isSome ∧ st = stStaged ∧ f.payload ≠ [] then none else some (if st = stStaged then stDone else st))
    | 2 =>
      (s.enqueueMaster { origin := origin, write := true, address := addrOffset f.address, length := f.payload.length, data := f.payload },
       none)
    | 3 => (s.dramWrite (addrOffset f.address) f.payload, some stDone)
    | _ => let (t, st) := s.tryFifo (addrOffset f.address / 256 % 64) f
           (t, some (st.getD stDone))

/-- A READ of SPACE 0x1 to 0x4 addressed to this node (R22, R23, R472). In RECOVERY it is not answered (R32). -/
def memoryRead (s : State) (f : Frame) : State :=
  if s.node = stRecovery then s else
  let s := s.takeFrame f
  let n := bits f.param 11 0
  if 2048 < n then s.sendReadResp f stOutOfRange []
  else match s.memRefusal f.address n false with
    | some st => s.sendReadResp f st []
    | none =>
      match addrSpace f.address with
      | 1 => s.sendReadResp f stDone (s.lakeBytes (addrOffset f.address) n)
      | 2 => s.enqueueMaster { origin := .frame f, write := false, address := addrOffset f.address, length := n }
      | _ => s.sendReadResp f stDone (s.dramView (addrOffset f.address) n)

end Sys2Proof.Machine
end

