-- ==== Sys2Proof/Machine/Image.lean ====
section
/-! DEFINITION. Firmware images and the boot record (R430 to R432, R446, R447): the check of an image, the record that holds the slot
choice, and the objects that follow both. The hash of R431 is SHA-256 as FIPS 180-4 defines it (log entry 29). -/
namespace Sys2Proof.Machine

/-! ## The image hash (R431) -/

/-- The 32 bits of the fraction of the `k`-th root of `p`, the highest first: each bit is set where the power stays within `p`. -/
def rootFraction (k p : Nat) : Nat :=
  (List.range 36).foldl (fun r i => if (r + 2 ^ (35 - i)) ^ k ≤ p * 2 ^ (32 * k) then r + 2 ^ (35 - i) else r) 0 % 2 ^ 32

/-- The primes up to the 64th. -/
def hashPrimes : List Nat :=
  (List.range 312).filter (fun n => 2 ≤ n && [2, 3, 5, 7, 11, 13, 17].all (fun d => n < d * d || n % d ≠ 0))

/-- A 32-bit word turned right by each amount, and shifted right where `cut` says how far, all exclusive-ored. -/
def spin (amounts : List Nat) (cut : Option Nat) (x : Nat) : Nat :=
  let turned := amounts.foldl (fun y n => y ^^^ (x * (2 ^ 32 + 1) / 2 ^ n % 2 ^ 32)) 0
  match cut with
  | some n => turned ^^^ (x / 2 ^ n)
  | none => turned

/-- The schedule of a block as it slides on: `n` words from a window of 16. -/
def hashWords : Nat → List Nat → List Nat
  | 0, _ => []
  | n + 1, w =>
    let next := (w.getD 0 0 + spin [7, 18] (some 3) (w.getD 1 0) + w.getD 9 0 + spin [17, 19] (some 10) (w.getD 14 0)) % 2 ^ 32
    w.getD 0 0 :: hashWords n (w.drop 1 ++ [next])

/-- The chaining value in two halves, the newest word of each first. -/
structure HashHalves where
  upper : List Nat
  lower : List Nat
  deriving DecidableEq, Repr

/-- One round takes in the sum of a constant and a schedule word. -/
def HashHalves.turn (h : HashHalves) (k : Nat) : HashHalves :=
  let u := h.upper
  let l := h.lower
  let pick := l.getD 2 0 ^^^ (l.getD 0 0 &&& (l.getD 1 0 ^^^ l.getD 2 0))
  let most := (u.getD 0 0 &&& u.getD 1 0) ||| (u.getD 2 0 &&& (u.getD 0 0 ||| u.getD 1 0))
  let x := l.getD 3 0 + spin [6, 11, 25] none (l.getD 0 0) + pick + k
  { upper := (x + spin [2, 13, 22] none (u.getD 0 0) + most) % 2 ^ 32 :: u.take 3
    lower := (x + u.getD 3 0) % 2 ^ 32 :: l.take 3 }

/-- A message's chaining value after the blocks of `m`, of `n` blocks in all. -/
def hashBlocks (ks : List Nat) : Nat → HashHalves → List Byte → HashHalves
  | 0, h, _ => h
  | n + 1, h, m =>
    let words := hashWords 64 ((List.range 16).map (fun i => beVal (slice m (4 * i) 4)))
    let r := (List.zipWith (· + ·) ks words).foldl HashHalves.turn h
    let add (a b : List Nat) : List Nat := List.zipWith (fun x y => (x + y) % 2 ^ 32) a b
    hashBlocks ks n { upper := add h.upper r.upper, lower := add h.lower r.lower } (m.drop 64)

/-- SHA-256 of a message, 32 bytes. -/
def sha256 (m : List Byte) : List Byte :=
  let blocks := m.length / 64 + (if m.length % 64 < 56 then 1 else 2)
  let padded := slice (m ++ [0x80]) 0 (64 * blocks - 8) ++ beBytes 8 (8 * m.length)
  let start := (hashPrimes.take 8).map (rootFraction 2)
  let h := hashBlocks (hashPrimes.map (rootFraction 3)) blocks { upper := start.take 4, lower := start.drop 4 } padded
  (h.upper ++ h.lower).flatMap (beBytes 4)

/-! ## The image (R431, R432) -/

def imgKey (d : List Byte) : Nat := leAt d 7 1
def imgVersionOf (d : List Byte) : Nat := leAt d 8 4
def imgDictRevOf (d : List Byte) : Nat := leAt d 12 2
def imgFormatOf (d : List Byte) : Nat := leAt d 14 2
def imgBodyLen (d : List Byte) : Nat := leAt d 16 4
def imgSection (d : List Byte) (i : Nat) : Nat × Nat × Nat :=
  (leAt d (64 + 12 * i) 4, leAt d (68 + 12 * i) 4, leAt d (72 + 12 * i) 4)

/-- The body; flash bytes that nothing has programmed since the erase read 0xFF. -/
def imgBody (d : List Byte) : List Byte :=
  let b := (d.drop 256).take (imgBodyLen d)
  b ++ List.replicate (imgBodyLen d - b.length) 0xFF

/-- The check of R432 in its order: none where the image passes, else the status of the first failure. -/
def State.imageStatus (s : State) (d : List Byte) : Option Nat :=
  let len := imgBodyLen d
  let zero (o n : Nat) : Bool := (slice d o n).all (· == 0)
  if leAt d 0 4 ≠ 0x36395655 ∨ leAt d 4 2 ≠ 1 ∨ !zero 20 12 ∨ !zero 112 80 ∨ 3 < imgKey d ∨ imgFormatOf d = 0 ∨
     len < 4096 ∨ 33554176 < len then some stOutOfRange
  else if leAt d 6 1 ≠ s.obj Obj.stepping then some stOutOfRange
  else if !([0, 1, 2, 3].all (fun i => (imgSection d i).2.1 ≠ 0 && (imgSection d i).1 + (imgSection d i).2.1 ≤ len)) then
    some stOutOfRange
  else if sha256 (imgBody d) ≠ slice d 32 32 then some stIntegrity
  else if !Config.signatureValid (imgKey d) (d.take 192) (slice d 192 64) then some stIntegrity
  else none

/-- The reload check of step 5 of R418: the CRC-32 of each section. -/
def imgSectionsGood (d : List Byte) : Bool :=
  [0, 1, 2, 3].all (fun i => crc32 (slice (imgBody d) (imgSection d i).1 (imgSection d i).2.1) == (imgSection d i).2.2)

/-! ## The boot record (R430) -/

/-- The record the ROM uses: the valid one with the newer sequence number; S0 with FAILED_STARTS 0 where neither is valid. -/
def State.boot (s : State) : BootRecord :=
  match s.fw.boot0, s.fw.boot1 with
  | some a, some b => if seqNewer b.seq a.seq then b else a
  | some a, none => a
  | none, some b => b
  | none, none => {}

def BootRecord.slotState (r : BootRecord) (n : Nat) : Nat := if n = 0 then r.slot0 else r.slot1
def BootRecord.setSlot (r : BootRecord) (n v : Nat) : BootRecord := if n = 0 then { r with slot0 := v } else { r with slot1 := v }

def State.image (s : State) (n : Nat) : SlotImage := if n = 0 then s.fw.image0 else s.fw.image1
def State.setImage (s : State) (n : Nat) (i : SlotImage) : State :=
  if n = 0 then { s with fw := { s.fw with image0 := i } } else { s with fw := { s.fw with image1 := i } }

/-- The record of a slot follows its header (R447); the fields read 0 unless the slot is in state 5 or 6. -/
def State.refreshSlot (s : State) (n : Nat) : State :=
  let i := s.image n
  let st := s.boot.slotState n
  let d := if st = 5 ∨ st = 6 then i.data else []
  let t := (s.put (Obj.slotState n) st).put (Obj.imgVersion n) (imgVersionOf d)
  let t := (t.put (Obj.imgDictRev n) (imgDictRevOf d)).put (Obj.imgConfigFormat n) (imgFormatOf d)
  let t := (t.put (Obj.imgLength n) (if d = [] then 0 else 256 + imgBodyLen d)).put (Obj.imgKeyId n) (imgKey d)
  (t.put (Obj.imgWritten n) (if d = [] then 0 else i.written)).putBlob (Obj.imgHash n) (slice d 32 32)

/-- The objects that R446 and R447 copy from the boot record. -/
def State.refreshBoot (s : State) : State :=
  let r := s.boot
  let t := ((s.put Obj.activeSlot r.active).putBool Obj.fwTrial r.trial).put Obj.lastActResult r.result
  let t := ((t.put Obj.lastActPauseUs r.pauseUs).put Obj.failedStarts r.failed).put Obj.lastFailCause r.cause
  (t.refreshSlot 0).refreshSlot 1

/-- An update of the boot record goes to the record with the older sequence number; with neither valid both are written afresh. -/
def State.writeBoot (s : State) (r : BootRecord) : State :=
  let r := { r with seq := seqNext s.boot.seq }
  let (a, b) := match s.fw.boot0, s.fw.boot1 with
    | some a, some b => if seqNewer b.seq a.seq then (some r, some b) else (some a, some r)
    | some a, none => (some a, some r)
    | none, some b => (some r, some b)
    | none, none => (some r, some r)
  { s with fw := { s.fw with boot0 := a, boot1 := b } }.refreshBoot

/-- The state of a slot is changed in the boot record. -/
def State.putSlotState (s : State) (n v : Nat) : State := s.writeBoot (s.boot.setSlot n v)

/-- Reversion from trial (R441): the next start uses PREV_SLOT, which is active and confirmed, and the trial slot is in state 6. -/
def State.revertTrial (s : State) : State :=
  let r := s.boot
  let t := s.writeBoot { r.setSlot r.active 6 with active := r.prev, prev := r.active, trial := false, result := 3 }
  t.logEvent 0x1300 0x07 r.prev 0 3

end Sys2Proof.Machine
end

