-- ==== Sys2Proof/Machine/Resets.lean ====
section
/-! DEFINITION. Resets and starts (file 16 of the spec): what each reset keeps, the ranks of resets, the backup island, the start
sequence, and the loss and return of the core supplies. Reset kinds are the codes of `LAST_RESET`: 1 POR, 2 PIN, 3 WDG, 4 RING,
5 WARM, 6 ACT, 7 STBY. -/
namespace Sys2Proof.Machine

/-! ## What a reset keeps (R416, R417) -/

/-- The kinds that keep class W, and those that hold DRAM in self-refresh. -/
def keepsW (kind : Nat) : Bool := kind == 3 || kind == 4 || kind == 5 || kind == 7
def keepsDram (kind : Nat) : Bool := kind == 3 || kind == 4 || kind == 5

/-- Whether an object keeps its value through a reset of a kind; class P is reloaded by the start. -/
def keepObj (kind k : Nat) : Bool :=
  match rowOf k with
  | some r => r.kept == .f || r.kept == .b || (r.kept == .w && keepsW kind)
  | none => false

/-- An object of a persistence class. -/
def keptAs (c : Kept) (k : Nat) : Bool := (rowOf k).map (·.kept) == some c

/-- The averaged delay of a hop is class W; a measurement in progress is lost (R116). -/
def HopState.retained (h : HopState) : HopState := { delay := h.delay, taken := h.taken }

/-- Cells without the governor's account; the level at the ball is the board's. -/
def cellsCleared (l : List (Nat × Cell)) : List (Nat × Cell) :=
  (l.map (fun e => (e.1, ({ ball := e.2.ball, ballAt := e.2.ballAt } : Cell)))).filter (fun e => e.2 ≠ ({} : Cell))

/-- Cells with the governor's account at 0 (R234). -/
def accountsCleared (l : List (Nat × Cell)) : List (Nat × Cell) :=
  (l.map (fun e => (e.1, { e.2 with eventPj := 0, buckets := [] }))).filter (fun e => e.2 ≠ ({} : Cell))

/-- The time base after a reset: the real-time clock runs on, and with class W the hop delays stay. -/
def TimeState.afterReset (b : TimeState) (w : Bool) : TimeState :=
  { rtcTime := b.rtcTime, rtcValid := b.rtcValid, rtcMark := b.rtcMark,
    hopA := if w then b.hopA.retained else {}, hopB := if w then b.hopB.retained else {} }

/-- The dictionary after a reset: only the configuration store is kept; a store in progress leaves the copy it was writing
invalid (R40). -/
def DictState.afterReset (d : DictState) : DictState :=
  let torn (n : Nat) : Bool := d.storing.isSome && d.newer ≠ n
  { copy0 := if torn 0 then none else d.copy0, copy1 := if torn 1 then none else d.copy1, newer := d.newer }

/-- The blocks that a reset of a kind returns to their start condition, with what R416 and R417 keep. The housekeeping domain, the
backup island, the boot record, the slots and the real-time clock run on. -/
def State.coreReset (s : State) (kind : Nat) : State :=
  let w := keepsW kind
  let dram := keepsDram kind
  let broke := kind ≠ 1 && s.flag Obj.faultSummary fsDebugBroke
  let retired := if kind = 1 ∨ kind = 2 then 0 else s.obj Obj.cellsRetired
  let t := State.startWrites 4 s.cellsReleased
  let t := forEach t.inFlight (fun t x => t.tornRecord t.mramsUp x.ring x.record) t
  let cells := if w then t.fc.cells else cellsCleared t.fc.cells
  let t : State := { t with
    objs := t.objs.filter (fun e => keepObj kind e.1)
    blobs := t.blobs.filter (fun e => keepObj kind e.1)
    dict := t.dict.afterReset
    ring := { bSaved := w && t.ring.bSaved }
    tb := t.tb.afterReset w
    lake := {}
    sw := {}
    acc := { mram0 := { t.acc.mram0 with inService := false }, mram1 := { t.acc.mram1 with inService := false } }
    fc := { cells := cells, soe := { wasFull := dram && t.fc.soe.wasFull } }
    eng := {}
    ck := (t.ckReset (!w)).ck
    can := []
    uart := []
    bridge := {}
    sme := {}
    dram := if dram then t.dram else []
    vgMain := if dram then t.vgMain else t.vgHead
    vgOpen := [] }
  let fw := { t.fw with download := none, pauseAt := none, pause := none, trialFrom := none, linkRate := none }
  let rst := { t.rst with loaded := false, due := none, wakeWaiting := none }
  let t : State := { t with fw := fw, rst := rst }
  let t := t.put Obj.cellsRetired retired
  if broke then t.setFlag Obj.faultSummary fsDebugBroke true else t

/-! ## The backup island (R419, R420) -/

/-- An entry written by the housekeeping domain while the core is off goes to the head alone, with the time of the real-time clock
(R421, R422). -/
def State.logHead (s : State) (e : VgEntry) : State :=
  let e' := { e with time := s.rtcNow, seq := s.obj Obj.vgNextSeq, fromIsland := true, notAgreed := !s.agreed }
  { s.put Obj.vgNextSeq ((s.obj Obj.vgNextSeq + 1) % 2 ^ 32) with vgHead := lastN 32 (s.vgHead ++ [e']) }

/-- The retention check of a start (R420). -/
def State.retentionCheck (s : State) : State :=
  let pass := !s.rst.vbatLow
  let t : State := if pass then s else
    { s with objs := s.objs.filter (fun e => !keptAs .b e.1), blobs := s.blobs.filter (fun e => !keptAs .b e.1),
             tb := { s.tb with rtcValid := false }, vgHead := [],
             vgMain := if s.vgMain = s.vgHead then [] else s.vgMain }
  let t := t.put Obj.islandState (ofBool pass + 8 * ofBool s.rst.vbatUsed)
  let t : State := { t with rst := { t.rst with vbatLow := false, vbatUsed := s.rst.onVbat } }
  if pass then t else t.logEvent 0x1230 0 0xFFFF stIntegrity 0

/-! ## Raising a reset (R407, R411) -/

/-- A reset of a kind: with one raised since the last start that reached HELD, the retention of the highest-ranked applies, and
LAST_RESET records that one. -/
def State.raiseReset (s : State) (kind origin reason : Nat) : State :=
  let eff := match s.rst.starting with | some k => min k kind | none => kind
  let t := (s.coreReset eff).retentionCheck
  let t := ((t.put Obj.lastReset eff).put Obj.lastResetTime t.now).put Obj.resetOrigin origin
  let t := t.bump (Obj.resets (kind - 1))
  let t := ((t.put Obj.nodeState stLoading).put Obj.stateReason reason).put Obj.stateEntered t.now
  { t with rst := { t.rst with starting := some eff, raised := kind, startAt := t.now, coreOn := true } }

/-- The counter is loaded from the real-time clock if that is valid, otherwise with 0 (R108). -/
def State.loadCounter (s : State) : State :=
  let v := s.rtcNow
  { s with time := v * 2 ^ 40, tb := { s.tb with rtcMark := s.tb.rtcMark + ((v : Int) - s.now) } }

/-- POR: the core supply monitor has found VDD_CORE below its threshold for 2 µs (R407). The POR of a rise of PGOOD is part of what
raises PGOOD. -/
def por (s : State) : State :=
  if s.rst.coreOn then
    let t := s.loadCounter
    (if s.node = stLoading ∨ s.node = stRecovery ∨ s.onRing then t.raiseReset 1 0 0x08 else t)
  else s

/-- The core supplies fall: everything volatile is lost (R17, R379); in STANDBY class W is kept (R416). -/
def State.coreDown (s : State) (nodeState : Nat) : State :=
  if !s.rst.coreOn then s.put Obj.nodeState nodeState else
  let t := (s.coreReset (if s.rst.standby then 7 else 1)).put Obj.nodeState nodeState
  { t with rst := { t.rst with coreOn := false, offTick := s.pe.tick } }

/-- PGOOD is high and the core has power (R17, R389): a POR, or the STBY start of a wake (R415). While RST_N is low the node stays in
HOUSEKEEPING (log entry 142). The counter is loaded before the retention check (DESIGN CHOICE, log entry 162). -/
def State.coreUp (s : State) : State :=
  if s.pe.tick < s.rst.lowUntil then s else
  match s.rst.wokenBy with
  | some c =>
    let t := s.raiseReset 7 0 0x00
    let t := t.put Obj.lastWake c
    { t with rst := { t.rst with standby := false, wokenBy := none } }
  | none =>
    let t : State := { s with tb := { s.tb with rtcTime := s.tb.rtcTime + (s.pe.tick - s.rst.offTick) * us } }
    let t : State := { t with rst := { t.rst with starting := some 1, standby := false } }
    t.loadCounter.raiseReset 1 0 0x00

/-- PIN_RESET: RST_N goes low for `lowNs` (R408); between 0.2 µs and 1 µs the low is a reset if it is taken as one. The node is in
reset until RST_N has been high for 10 µs; a low that meets a core without power holds the start back for as long (R17). -/
def pinReset (s : State) (lowNs : Nat) (taken : Bool) : State :=
  if lowNs < 200 ∨ (lowNs < 1000 ∧ !taken) then s
  else if !s.rst.coreOn then { s with rst := { s.rst with lowUntil := s.pe.tick + (lowNs + 999) / 1000 + 10 } }
  else
    let t := (s.waitUntil (s.now + lowNs + 10 * us)).raiseReset 2 0 0x08
    { t with rst := { t.rst with startAt := t.now } }

/-- A failed start adds 1 to FAILED_STARTS, is logged, and ends in a WDG reset (R442, R473). -/
def State.failedStart (s : State) (cause : Nat) : State :=
  let r := s.boot
  let n := min 3 (r.failed + 1)
  let t := s.writeBoot { r with failed := n, cause := cause }
  let t := t.log { index := 0x1300, sub := 0x0A, inst := t.fw.slot, kind := 1, detail := cause + n * 256 }
  t.raiseReset 3 0 0x08

/-- WDG_EXPIRY: the watchdog has not been serviced within WDG_PERIOD (R410); before the node has reached HELD the start has
failed (R442; log entry 143). -/
def wdgExpiry (s : State) : State :=
  if !s.rst.coreOn then s
  else if s.node = stLoading then s.failedStart 4
  else s.raiseReset 3 0 0x08

/-- A write of RESET_CMD (R409): over the ring it needs the holder's claim whatever the node state, and is a RING reset; on any other
path it is a WARM reset. -/
def State.resetCommand (s : State) (v : Nat) (who : Requester) (commander : Nat) : State × Nat :=
  let ring : Bool := match who with | .ring _ _ => true | _ => false
  let origin := match who with | .ring _ _ => commander | .mailbox => 1 | .kedogil _ _ => 2 | .farif => 3
  if ring ∧ (commander = 0 ∨ commander ≠ s.holderNow) then (s, stClaimLost)
  else if v ≠ 1 ∧ v ≠ 2 then (s, stOutOfRange)
  else if v = 1 ∧ s.wrapActive then (s, stRetry)
  else ({ s with rst := { s.rst with due := some (if ring then 4 else 5, origin, s.now + ms) } }, stDone)

/-- RESET_BEGIN: 1 ms after the response the reset begins (R409, R445). -/
def resetBegin (s : State) : State :=
  match s.rst.due with
  | some (kind, origin, at') => (s.waitUntil at').raiseReset kind origin 0x08
  | none => s

/-- RAIL_TIMEOUT: the waited-for rails are not all within limits 100 ms after PGOOD rose (R453). -/
def railTimeout (s : State) (rails : Nat) : State :=
  if s.rst.coreOn ∧ s.node = stLoading ∧ !s.rst.loaded then
    (s.waitUntil (s.rst.startAt + 100 * ms)).logHead { index := 0x1200, kind := 1, status := stInternal, detail := rails }
  else s

/-! ## The journal at a start (R189, R192, R193) -/

/-- Of the two copies of a record slot the one that is kept (R192); 0 leaves the slot free. -/
def keptSlot (a b : Nat) : Nat :=
  let x := recordOfBits a
  let y := recordOfBits b
  let ahead := (x.writeGen + 256 - y.writeGen) % 256
  if !recordValid a then (if recordValid b then b else 0)
  else if !recordValid b then a
  else if x.seq = y.seq then (if 0 < ahead ∧ ahead < 128 then a else b)
  else if seqNewer x.seq y.seq then a else b

/-- Of two tables that name journal rings the entries kept: for each ring the entry opened later (R186). -/
def keptDirectory (a b : List DirEntry) : List DirEntry :=
  a.filter (fun x => !b.any (fun y => y.ring == x.ring && seqNewer y.openSeq x.openSeq)) ++
  b.filter (fun y => !a.any (fun x => x.ring == y.ring && !seqNewer y.openSeq x.openSeq))

/-- The slots of one device after reconciliation with the other (R192). -/
def reconcileRecords (a b : MramDevice) : List (Nat × Nat) :=
  ((a.records ++ b.records).map (·.1)).foldl (fun l k => sparsePut (fun _ => 0) l k (keptSlot (a.slot k) (b.slot k))) []

/-- What a start finds in a device whose header, directory or incarnation table fails its CRC (R192): bits 0, 2 and 4 of `bad` for
device 0, bits 1, 3 and 5 for device 1. -/
def MramDevice.asFound (m : MramDevice) (d bad : Nat) : MramDevice :=
  { m with mark := m.mark && !bad.testBit d, openCount := if bad.testBit d then 0 else m.openCount,
           directory := if bad.testBit (2 + d) then [] else m.directory,
           incarnations := if bad.testBit (4 + d) then [] else m.incarnations }

/-- Both devices after reconciliation, in the areas that hold journal data. -/
def reconcile (a b : MramDevice) : MramDevice :=
  { a with records := reconcileRecords a b, directory := keptDirectory a.directory b.directory, inService := true, mark := false,
           openCount := if seqNewer b.openCount a.openCount then b.openCount else a.openCount,
           incarnations := if a.incarnations = [] then b.incarnations else a.incarnations }

/-- A device takes the journal data of the other (R189). -/
def MramDevice.rewritten (m from' : MramDevice) : MramDevice :=
  { m with inService := true, mark := false, records := from'.records, directory := from'.directory,
           incarnations := from'.incarnations, openCount := from'.openCount }

/-- The devices that a start finds (R189): one marked by the other is rewritten from it, and returns to service if the verification
passes; with no other device in service it stays out. -/
def State.journalDevices (s : State) (o : StartFound) : State :=
  let a := s.acc.mram0.asFound 0 o.mramBad
  let b := s.acc.mram1.asFound 1 o.mramBad
  let up0 := a.fitted && !b.mark
  let up1 := b.fitted && !a.mark
  let fail (t : State) (d : Nat) : State := t.lastingFault 0x2800 0x05 d 0 0 true
  let set (x y : MramDevice) : State := { s with acc := { s.acc with mram0 := x, mram1 := y } }
  let alone (m : MramDevice) : MramDevice := reconcile m { m with records := [] }
  let t := match up0, up1 with
    | true, true =>
      let m := reconcile a b
      set m (b.rewritten m)
    | true, false =>
      let m := alone a
      if b.fitted ∧ o.rewriteGood then set m (b.rewritten m) else fail (set { m with mark := a.mark } b) 1
    | false, true =>
      let m := alone b
      if a.fitted ∧ o.rewriteGood then set (a.rewritten m) m else fail (set a { m with mark := b.mark }) 0
    | false, false => fail (fail s 0) 1
  t.refreshJournal

/-- The valid records of a session in its ring. -/
def MramDevice.ringOf (m : MramDevice) (d : DirEntry) : List JRecord :=
  ((m.records.filter (fun e => (e.1 - 0x10000) / 8192 == d.ring && recordValid e.2)).map (fun e => recordOfBits e.2)).filter (fun r =>
    r.src == d.src && r.session == sessionField d.cls2 d.incarnation)

/-- The newest and the oldest of some sequences. -/
def newestSeq (l : List Nat) : Option Nat := l.foldl (fun b q => match b with | none => some q | some x => some (if seqNewer q x then q else x)) none
def oldestSeq (l : List Nat) : Option Nat := l.foldl (fun b q => match b with | none => some q | some x => some (if seqNewer x q then q else x)) none

/-- The executed mark from `q` on: the last of the sequences that are done without a gap. At most `fuel` steps. -/
def doneRun (done : List Nat) : Nat → Nat → Nat
  | 0, q => q
  | fuel + 1, q => if done.contains (seqNext q) then doneRun done fuel (seqNext q) else q

/-- The in-order executed mark of a ring (R193): the newest done record with every one before it done. What came before the oldest record
of the ring is done (R182), but an incarnation that has not filled its ring starts at 1. (DEDUCED, log entry 175). -/
def executedMark (recs : List JRecord) (newest : Nat) : Nat :=
  let young : Bool := newest < 256 && recs.all (fun r => r.seq ≤ newest)
  let base := if young then 0 else seqPrev ((oldestSeq (recs.map (·.seq))).getD (seqNext newest))
  doneRun ((recs.filter (fun r => r.state == 2)).map (·.seq)) 256 base

/-- An incoming session rebuilt from its ring (R193), in the hardware entry `slot`. Records that are done stay in it, for duplicates that
ask for their results (R183, R205). -/
def recoverSession (m : MramDevice) (d : DirEntry) (slot : Nat) : Session :=
  let recs := m.ringOf d
  let newest := newestSeq (recs.map (·.seq))
  let accepted := newest.getD d.prevLast
  { role := 2, peer := d.src, cls2 := d.cls2, incarnation := d.incarnation, state := 1, slot := slot,
    next := if newest.isNone then 1 else seqNext accepted, acked := if newest.isNone then 0 else accepted,
    exec := if newest.isNone then 0 else executedMark recs accepted, prevLast := d.prevLast, ring := d.ring, openSeq := d.openSeq,
    work := recs.map (fun r => { record := r, stands := true, recovered := true, released := r.state == 2 }) }

/-- Every incoming session is rebuilt, and the records awaiting payload are counted (R193, R211). -/
def State.journalRecover (s : State) : State :=
  match s.firstMram with
  | none => s
  | some m =>
    let l := m.directory.mapIdx (fun k d => recoverSession m d k)
    let open' (e : Session) : Nat := (e.work.filter (fun w => w.record.state == 1)).length
    ({ s with acc := { s.acc with sessions := l } } : State).put Obj.recovered (sumOf (l.map open'))

/-! ## The object load (R43) -/

/-- The newer valid copy of the configuration store. -/
def State.newerCopy (s : State) : Option StoreCopy :=
  match s.dict.copy0, s.dict.copy1 with
  | some a, some b => if s.dict.newer = 0 then some a else some b
  | some a, none => some a
  | none, b => b

/-- Class P takes the values of a copy. -/
def State.loadCopy (s : State) (c : StoreCopy) : State :=
  let t := c.scalars.foldl (fun (t : State) e => t.put e.1 e.2) s
  c.blobs.foldl (fun (t : State) e => t.putBlob e.1 e.2) t

/-- Class W takes its defaults after a change of the settings format. -/
def State.dropW (s : State) : State :=
  { s with objs := s.objs.filter (fun e => !keptAs .w e.1), blobs := s.blobs.filter (fun e => !keptAs .w e.1)
           fc := { s.fc with cells := accountsCleared s.fc.cells }, ck := { s.ck with contexts := [] }
           tb := { s.tb with hopA := {}, hopB := {} }, ring := { s.ring with bSaved := false } }

/-- Free bytes: the layout of a configuration copy is each image's own (R440, log entry 3). -/
def State.freeBytes (s : State) (n : Nat) : List Byte :=
  (List.range n).map (fun i => BitVec.ofNat 8 (Config.freeValue (s.freeCount + 1 + i)))

/-- FORMAT_RESET (R43, R440): the newer valid copy goes to the export copy, with its format, time and length. -/
def State.formatReset (s : State) (c : StoreCopy) : State :=
  let n := s.freeNow % 2621441
  let t := ((s.put Obj.exportFormat c.format).put Obj.exportTime c.time).put Obj.exportLength n
  let t := (t.putBlob Obj.exportConfig (s.freeBytes n)).newGeneration 0x1331
  let t := t.setFlag Obj.faultSummary fsFormatReset true
  { t with fw := { t.fw with exported := some c }, freeCount := t.freeCount + 1 + n }

/-- The housekeeping copy takes the active values of the power entry's objects (R381). -/
def State.writePeCopy (s : State) : State :=
  let copy := s.objs.filter (fun e => e.1 / 256 == 0x7800)
  let rate := s.obj Obj.rampRate
  let c := s.obj Obj.busCapUf
  let v := s.obj Obj.ovMv
  let t := s.put Obj.limitMa (s.obj Obj.ilim * 100000 / s.obj Obj.senseUohm)
  let t := (t.put Obj.predInrushMa (c * rate / 1000)).put Obj.predRampMj (c * v * v / 2 / 10 ^ 9)
  { t with pe := { t.pe with copy := copy, copied := true } }

/-- The LAST_ objects take what the housekeeping domain has measured (R401). -/
def State.copyMeasures (s : State) : State :=
  ((((s.put Obj.lastInrushUc s.pe.lastCharge).put Obj.lastRampMj s.pe.lastEnergy).put Obj.lastRampUs s.pe.lastLength).put
    Obj.lastLimitMj s.pe.lastLimit)

/-- The objects at step 6 of a start, and in step P6 of an activation (R43): the image's own, the store's, and those found. -/
def State.loadObjects (s : State) (slot : Nat) : State :=
  let d := (s.image slot).data
  let t := ((s.put Obj.dictRevision (imgDictRevOf d)).put Obj.configFormat (imgFormatOf d)).put Obj.fwVersion (imgVersionOf d)
  let t := t.put Obj.dramSize s.boardDram
  let t := t.put Obj.mramPresent (ofBool s.acc.mram0.fitted + 2 * ofBool s.acc.mram1.fitted)
  let t := t.put Obj.vgCapacity (if s.boardDram = 0 then 1024 else 65536)
  let c := s.newerCopy
  let t := t.put Obj.storedFormat ((c.map (·.format)).getD 0)
  let t := match c with
    | none => t.putBool Obj.configValid false
    | some c =>
      if c.format = imgFormatOf d then ((t.loadCopy c).put Obj.storeTime c.time).putBool Obj.configValid true
      else (t.dropW.formatReset c).putBool Obj.configValid false
  let t := (t.put Obj.startCount ((t.obj Obj.startCount + 1) % 2 ^ 32)).refreshBoot
  t.writePeCopy

/-! ## The start sequence (R418) -/

/-- ROM recovery (R443, R444). -/
def State.toRecovery (s : State) (reason : Nat) : State :=
  let t := s.enter stRecovery reason
  { t with rst := { t.rst with loaded := true } }

/-- The slot the ROM starts from, once no rule of R443 leads to RECOVERY or to a reversion. -/
def BootRecord.chosen (r : BootRecord) : Nat :=
  let other := 1 - r.active
  if (r.failed = 1 ∨ r.failed = 2) ∧ r.slotState other = 5 then other else r.active

/-- The faults of retired cells above the first `n` that the kept log shows open (R155; DEDUCED, log entry 155). -/
def State.retiredOpen (s : State) (n : Nat) : List VgEntry :=
  let own (e : VgEntry) : Bool := e.index == 0x2400 && e.sub == 0x04
  s.vgMain.filter (fun e => own e && e.kind == 2 && n < e.inst &&
    !s.vgMain.any (fun x => own x && x.kind == 3 && x.inst == e.inst && seqNewer x.seq e.seq))

/-- The tests of switch cells and check-value units at a start (R155, R360): after a POR or PIN reset every cell is tested, and the
fault of a retired cell that passes closes. -/
def State.startTests (s : State) (kind : Nat) (o : StartFound) : State :=
  let all := kind = 1 ∨ kind = 2
  let retired := if all then o.badCells else s.obj Obj.cellsRetired
  let t := (if all then s.retiredOpen retired else []).foldl (fun (t : State) e => t.log { e with kind := 3 }) s
  let t := t.put Obj.cellsRetired retired
  let t := forEach (List.range retired) (fun t i => t.lastingFault 0x2400 0x04 (i + 1) stIntegrity 0 true) t
  let t := forEach ((List.range 24).filter (fun u => o.ckTransient.testBit u && !o.ckFail.testBit u)) (fun t u => t.ckFault u false) t
  forEach ((List.range 24).filter (fun u => o.ckFail.testBit u)) (fun t u => t.ckFault u true) t

/-- The blocks come up with the loaded configuration (R229, R258, R303, R321, R333, R374, R74, R127). -/
def State.startBlocks (s : State) (kind : Nat) : State :=
  let t := (s.put Obj.smeState smeRunning).put Obj.injectState 0xFF
  let t := (if keepsDram kind then t.soeReloaded else t.soeReset).soeMarker
  let t := t.cellsLoaded
  let t := forEach (List.range 16) (fun t n => if t.obj (Obj.canMode n) = 0 then t else t.canBegin n) t
  let t := forEach (List.range 32) (fun t n => if t.obj (Obj.uartMode n) = 0 then t else t.uartBegin n) t
  let t := forEach (List.range 128) (fun t n => if t.obj (Obj.subEnable n) = 0 then t else t.subConfigured n) t
  let q : EpochParams := ⟨t.obj Obj.epochLength, t.obj Obj.applyDelay, t.obj Obj.epochPhase⟩
  let t : State := { t with tb := { t.tb with paramsWaiting := some q } }
  let t := ((t.linkEnter .b (if t.ring.bSaved then lkCold else lkOff)).setSends .a true).train .a true
  t.heatB

/-- Steps 5 and 6 of a start from a slot whose image has passed its check, and the links' bring-up of step 7. -/
def State.startFrom (s : State) (slot : Nat) (o : StartFound) : State :=
  let kind := s.rst.starting.getD 1
  let s : State := { s with fw := { s.fw with slot := slot } }
  if !o.reloadGood ∨ !imgSectionsGood (s.image slot).data then s.failedStart 2
  else
    let t := (((s.loadObjects slot).copyMeasures).journalDevices o).journalRecover
    let t := t.startTests kind o
    if !o.injectGood ∧ !o.injectAgain then t.failedStart 3
    else
      let t := t.startBlocks kind
      { t with rst := { t.rst with loaded := true, broughtUp := t.now } }

/-- START_SEQUENCE: steps 1 to 7 of R418; the weld, or being alone, then takes the node to HELD. -/
def startSequence (s : State) (o : StartFound) : State :=
  if s.node ≠ stLoading ∨ s.rst.loaded ∨ !s.rst.coreOn then s
  else
    let t := s.waitUntil (s.rst.startAt + o.ns)
    let t := if t.fw.boot0 = none ∧ t.fw.boot1 = none then t.writeBoot {} else t
    let t := forEach [0, 1] (fun t n =>
      if 1 ≤ t.boot.slotState n ∧ t.boot.slotState n ≤ 3 then t.putSlotState n 4 else t) t
    let t := t.logEvent 0x1200 0x02 0xFFFF 0 (t.obj Obj.lastReset + t.obj Obj.lastWake * 256)
    let t := match t.fw.badStrap with | some v => t.logEvent 0x1100 0 0xFFFF 0 v | none => t
    let bad := if o.bootSel = 1 ∨ o.bootSel = 3 then some o.bootSel else none
    let t : State := { t with fw := { t.fw with badStrap := bad } }
    let t := t.refreshBoot
    let r := t.boot
    if o.bootSel = 2 then t.toRecovery 0x09
    else if 3 ≤ r.failed then t.toRecovery 0x0A
    else
      let back := r.trial ∧ (0 < r.failed ∨ t.rst.raised = 3)
      let t := if back then t.revertTrial else t
      let slot := if back then t.boot.active else t.boot.chosen
      let t : State := { t with fw := { t.fw with slot := slot } }
      match t.imageStatus (t.image slot).data with
      | some _ => t.failedStart 1
      | none => t.startFrom slot o

/-- The image is confirmed (R441). -/
def State.confirmTrial (s : State) : State := if s.boot.trial then s.writeBoot { s.boot with trial := false } else s

/-- A start has reached HELD (R418, R442, R443): START_TIME, FAILED_STARTS 0, the slot started from is active. -/
def State.startReached (s : State) : State :=
  if s.rst.starting.isNone ∨ !s.onRing then s
  else
    let t := s.put Obj.startTime ((s.now - s.rst.startAt) / us % 2 ^ 32)
    let r := t.boot
    let r' := { r with failed := 0, active := t.fw.slot, prev := if r.active = t.fw.slot then r.prev else r.active }
    let t := if r' = r then t else t.writeBoot r'
    let t : State := { t with rst := { t.rst with starting := none }, fw := { t.fw with trialFrom := some t.now },
                              pe := { t.pe with loadedAt := some t.pe.tick } }
    if t.obj Obj.trialTime = 0 then t.confirmTrial else t

end Sys2Proof.Machine
end

