-- ==== Sys2Proof/Machine/PowerEntry.lean ====
section
/-! DEFINITION. The power entry (file 15 of the spec): feeds, hot insertion, electronic fuse, the two paths and power-good. It works on
ticks of 1 µs; a tick brings what the power entry samples, and its steps run in the order of R384. -/
namespace Sys2Proof.Machine

/-- A second in ticks of the power entry. -/
def secTicks : Nat := 1000000

/-- The states of R385. -/
def peOff : Nat := 0
def peInsert : Nat := 1
def peRamp : Nat := 2
def peSettle : Nat := 3
def peOn : Nat := 4
def peLimit : Nat := 5
def peTripped : Nat := 6
def peLatched : Nat := 7
def peDisabled : Nat := 8
def peOvervolt : Nat := 9
def peHold : Nat := 10

/-- The causes of R402. -/
def causeOvercurrent : Nat := 1
def causeShort : Nat := 2
def causeRampTimeout : Nat := 3
def causeOvervoltage : Nat := 4
def causePeEn : Nat := 5

/-- A setting in the housekeeping copy (R381). -/
def State.peCfg (s : State) (k : Nat) : Nat := sparseGet scalarDefault s.pe.copy k
def State.setPe (s : State) (p : PowerState) : State := { s with pe := p }
def State.single (s : State) : Bool := s.peCfg Obj.combine == 2

/-- A measurement under the factory calibration, and under the effective calibration once the MP has written the copy (R381). -/
def State.peMeasure (s : State) (item raw : Nat) : Nat :=
  if s.pe.copied then (s.corrected item raw).toNat
  else (calibrate (s.obj (Obj.fGain item)) (s.obj (Obj.fOffset item)) raw).toNat

/-! ## Feeds (R382) -/

def State.feed (s : State) (n : Nat) : Feed := if n = 1 then s.pe.feed1 else s.pe.feed2
def State.setFeed (s : State) (n : Nat) (f : Feed) : State :=
  if n = 1 then s.setPe { s.pe with feed1 := f } else s.setPe { s.pe with feed2 := f }

/-- Feed 2 is ignored with COMBINE 2. -/
def State.feedUsed (s : State) (n : Nat) : Bool := n == 1 || !s.single
def State.feedGood (s : State) (n : Nat) : Bool := s.feedUsed n && (s.feed n).up && !(s.feed n).high
def State.feedOver (s : State) (n : Nat) : Bool := s.feedUsed n && (s.feed n).high

/-- The class of a feed. -/
def State.feedClass (s : State) (n : Nat) : FeedClass :=
  if !s.feedUsed n ∨ (s.feed n).absent then .absent
  else if (s.feed n).high then .high else if (s.feed n).up then .good else .low

/-- A feed is good and at or above WARN_MV (R397). -/
def State.feedStrong (s : State) (n : Nat) : Bool := s.feedGood n && s.peCfg Obj.warnMv ≤ (s.feed n).mv

/-- The other feed. -/
def otherFeed (n : Nat) : Nat := 3 - n

def pathOn (p : PowerState) (n : Nat) : Bool := if n = 1 then p.on1 else p.on2
def State.setPath (s : State) (n : Nat) (b : Bool) : State :=
  if n = 1 then s.setPe { s.pe with on1 := b } else s.setPe { s.pe with on2 := b }

/-- The states in which the hot-swap gate is driven. -/
def peConducts (st : Nat) : Bool := st == peRamp || st == peSettle || st == peOn || st == peLimit

/-- A lasting feed fault (R398). -/
def State.feedLasts (s : State) (n : Nat) : State :=
  if (s.feed n).lasting ∨ !s.feedUsed n then s
  else
    let t := (s.setFeed n { s.feed n with lasting := true, lostAt := none }).bump Obj.feedLasting
    t.lastingFault 0x7810 0x0D n 0 0 true

/-- A transient feed fault (R398). -/
def State.feedTransient (s : State) (n : Nat) : State :=
  (s.bump Obj.feedTransient).transientFault 0x7810 0x0C n 0 0 true

/-- The lasting fault of a feed closes. -/
def State.feedCloses (s : State) (n : Nat) : State :=
  (s.setFeed n { s.feed n with lasting := false }).closeFault 0x7810 0x0D n

/-- One feed is classed in a tick (R382), with its insertion count (R386) and its fault timers (R398). -/
def State.classify (s : State) (n raw : Nat) : State :=
  let f := s.feed n
  let now := s.pe.tick
  let mv := s.peMeasure (0x43F + n) raw
  let was := s.feedGood n
  let low := mv + s.peCfg Obj.ovHystMv < s.peCfg Obj.ovMv
  let overLow := if f.high ∧ low then some (f.overLow.getD now) else none
  let high := if f.high then !(overLow.any (fun q => q + 1000 ≤ now)) else s.peCfg Obj.ovMv < mv
  let up := if mv < s.peCfg Obj.uvMv then false else f.up || s.peCfg Obj.uvMv + s.peCfg Obj.uvHystMv ≤ mv
  let good := s.feedUsed n && up && !high
  let strong := good && s.peCfg Obj.warnMv ≤ mv
  let f' := { f with mv := mv, up := up, high := high, overLow := overLow, absent := mv < 2000,
                     goodSince := if good then (if was then f.goodSince else some now) else none,
                     warnSince := if strong then some (f.warnSince.getD now) else none,
                     lostAt := if good then none else if was then some now else f.lostAt }
  let t := s.setFeed n f'
  let back : Bool := good && !was && f.lostAt.any (fun q => now ≤ q + secTicks)
  let gone : Bool := !good && f'.lostAt.any (fun q => q + secTicks ≤ now)
  let never : Bool := f'.absent && s.pe.loadedAt.any (fun q => q + secTicks ≤ now)
  let closes : Bool := f.lasting && f'.goodSince.any (fun q => q + secTicks ≤ now)
  let t := if back then t.feedTransient n else t
  let t := if gone ∨ never then t.feedLasts n else t
  if closes then t.feedCloses n else t

/-! ## The last-fault record and trips (R391, R402) -/

def samplePeak (l : List (Nat × Nat × Nat × Nat)) : Nat := l.foldl (fun m x => max m x.2.2.2) 0
def sampleMean (l : List (Nat × Nat × Nat × Nat)) (f : Nat × Nat × Nat × Nat → Nat) : Nat :=
  if l = [] then 0 else l.foldl (fun m x => m + f x) 0 / l.length

/-- PE_LAST_FAULT is written (R402). -/
def State.recordFault (s : State) (cause before : Nat) : State :=
  let volts (n : Nat) : Nat := min 255 ((s.feed n).mv / 200)
  let v := before * 2 ^ 8 + min 255 s.pe.retryCount * 2 ^ 16 + cause * 2 ^ 24 + volts 2 * 2 ^ 32 + volts 1 * 2 ^ 40 +
    min 0xFFFF (samplePeak s.pe.samples / 10) * 2 ^ 48 + s.rtcNow * 2 ^ 64
  s.putBlob Obj.peLastFault (leBytes 16 v)

/-- PGOOD falls: the core supplies fall and the node goes to OFF (R17, R389). -/
def State.pgoodFall (s : State) : State :=
  (s.setPe { s.pe with pgood := false }).coreDown 0

/-- The hot-swap gate goes off; a feed test ends incomplete. -/
def State.gateOff (s : State) : State :=
  let t := if s.pe.test.isSome then s.put Obj.testResult 4 else s
  t.setPe { t.pe with ramp := none, gateFull := false, test := none, retest := none, transfer := none, faultTimer := 0 }

/-- Every gate goes off. -/
def State.gatesOff (s : State) : State :=
  let t := s.gateOff
  t.setPe { t.pe with on1 := false, on2 := false }

/-- The energy of a limiting interval that ends is reported (R390). -/
def State.endLimit (s : State) : State :=
  if s.pe.state = peLimit then
    let e := s.pe.limitEnergy / 10 ^ 9 % 2 ^ 32
    (s.put Obj.lastLimitMj e).setPe { s.pe with limitEnergy := 0, lastLimit := e }
  else s

/-- The island log of trips and overvoltages: the head alone once the core is off (R421). -/
def State.peLog (s : State) (cause : Nat) : State :=
  if s.rst.coreOn then s.logEvent 0x7840 0 0xFFFF 0 cause
  else s.logHead { index := 0x7840, detail := cause }

/-- A trip (R391). -/
def State.trip (s : State) (cause : Nat) : State :=
  let before := s.pe.state
  let n := s.pe.retryCount + 1
  let limit := s.peCfg Obj.retryLimit
  let latch := limit = 0 || (limit ≠ 255 && limit < n)
  let t := s.endLimit.gatesOff
  let t := t.setPe { t.pe with retryCount := n, latched := latch, state := if latch then peLatched else peTripped,
                               retryAt := if latch then none else some (t.pe.tick + s.peCfg Obj.retryTime * 1000) }
  let t := (t.recordFault cause before).bump Obj.trips
  (t.pgoodFall).peLog cause

/-! ## Ramps (R386 to R388) -/

/-- The feeds from which a ramp may start. -/
def State.rampFeeds (s : State) (counted : Bool) : List Nat :=
  [1, 2].filter (fun n => s.feedGood n && (!counted ||
    (s.feed n).goodSince.any (fun q => q + max 1 (s.peCfg Obj.insertDelay * 1000) ≤ s.pe.tick)))

/-- The start path among them (R387). -/
def State.startPath (s : State) (l : List Nat) : Nat :=
  let p := s.peCfg Obj.prioFeed
  if s.peCfg Obj.combine = 1 ∧ l.contains p then p
  else if l = [2] then 2
  else if l.contains 2 ∧ s.pe.feed1.mv + 100 < s.pe.feed2.mv then 2 else 1

/-- A ramp starts on the start path, and a node that was OFF enters HOUSEKEEPING (R17, R387, R389). -/
def State.startRamp (s : State) (l : List Nat) : State :=
  let n := s.startPath l
  let t := s.setPe { s.pe with state := peRamp, retryAt := none, ramp := some { path := n, start := s.pe.tick },
                               on1 := n == 1, on2 := n == 2, gateFull := false, transfer := none }
  if t.rst.coreOn then t else t.put Obj.nodeState 1

/-- A ramp starts where the state calls for one: after the insertion delay, or without it after a retry or an overvoltage. -/
def State.mayRamp (s : State) : State :=
  let st := s.pe.state
  let counted := s.rampFeeds true
  let any := s.rampFeeds false
  if st = peOff ∧ any ≠ [] then s.setPe { s.pe with state := peInsert }
  else if st = peInsert ∧ counted ≠ [] then s.startRamp counted
  else if st = peTripped ∧ s.pe.retryAt.any (fun q => q ≤ s.pe.tick) ∧ any ≠ [] then s.startRamp any
  else if st = peOvervolt ∧ any ≠ [] then s.startRamp any
  else if st = peRamp ∧ s.pe.ramp.isNone ∧ any ≠ [] then s.startRamp any
  else s

/-- The start feed has left good during RAMP or SETTLE: the ramp is abandoned (R387). -/
def State.abandonRamp (s : State) : State :=
  match s.pe.ramp with
  | some r =>
    if (s.pe.state = peRamp ∨ s.pe.state = peSettle) ∧ !s.feedGood r.path then
      let t := s.gatesOff
      (t.setPe { t.pe with state := peInsert }).coreDown 0
    else s
  | none => s

/-- The measurements of a ramp that is complete (R388), which the MP copies at LOADING (R401). -/
def State.rampMeasured (s : State) (r : Ramp) (us' : Nat) : State :=
  (s.setPe { s.pe with lastCharge := r.charge / 1000 % 2 ^ 32, lastEnergy := r.energy / 10 ^ 9 % 2 ^ 32,
                       lastLength := us' % 2 ^ 32 }).copyMeasures

/-- The bus is within 300 mV of VCOM: the gate is driven fully on (R387). -/
def State.rampWhole (s : State) (r : Ramp) : State :=
  let n := s.pe.tick - r.start
  (s.setPe { s.pe with ramp := some { r with whole := some n } }).rampMeasured r n

/-- Full enhancement is reached: SETTLE, and the settle time counts from here (R387, R389). -/
def State.fullyOn (s : State) : State :=
  s.setPe { s.pe with state := peSettle, gateFull := true, settleFrom := max s.pe.settleFrom s.pe.tick }

/-- The ramp in one tick (R387, R388). -/
def State.rampTick (s : State) (bus vcom ma gateHs : Nat) : State :=
  let s := s.abandonRamp
  match s.pe.ramp with
  | none => s
  | some r =>
    let ramping := s.pe.state = peRamp || (s.pe.state = peLimit && s.pe.limitFrom == peRamp)
    if !ramping then s
    else
      let r := if r.whole.isNone then { r with charge := r.charge + ma, energy := r.energy + (vcom - bus) * ma } else r
      let t := s.setPe { s.pe with ramp := some r }
      let t := if t.pe.state = peRamp ∧ r.whole.isNone ∧ vcom ≤ bus + 300 then t.rampWhole r else t
      let whole : Bool := t.pe.ramp.any (fun x => x.whole.isSome)
      if t.pe.state = peRamp ∧ whole ∧ 10000 ≤ gateHs then t.fullyOn
      else if r.start + s.peCfg Obj.rampLimit * 1000 ≤ t.pe.tick then t.trip causeRampTimeout
      else t

/-! ## Overvoltage, PE_EN, hold and removal (R380, R383, R392, R393) -/

/-- Removal (R383). -/
def State.remove (s : State) : State :=
  let t := s.gatesOff
  let t := t.setPe { t.pe with state := peOff, latched := false, retryAt := none, retryCount := 0, removed := true }
  t.pgoodFall

/-- The domain is in hold mode while both feeds are below 5 V (R380). -/
def State.holdMode (s : State) (powered : Bool) : State :=
  if powered then
    let t := if s.rst.onVbat then { s with rst := { s.rst with onVbat := false } } else s
    if t.pe.state = peHold then t.setPe { t.pe with state := t.pe.heldFrom, removed := false }
    else t.setPe { t.pe with removed := false }
  else if s.pe.state = peHold ∨ s.pe.removed then s
  else
    let from' := if peConducts s.pe.state then peRamp else s.pe.state
    let t := s.gatesOff
    (t.setPe { t.pe with state := peHold, heldFrom := from' }).pgoodFall

/-- The feeds have all been below 2 V for 10 ms (R383). -/
def State.removalTick (s : State) : State :=
  let gone := (s.feedClass 1 == .absent) && (s.feedClass 2 == .absent)
  let since := if gone then some (s.pe.goneSince.getD s.pe.tick) else none
  let t := s.setPe { s.pe with goneSince := since }
  if since.any (fun q => q + 10000 ≤ t.pe.tick) ∧ !t.pe.removed then t.remove else t

/-- PE_EN falls: every gate goes off (R392). -/
def State.disable (s : State) : State :=
  let before := s.pe.state
  let fresh := s.pe.enLow.isNone
  let t := s.setPe { s.pe with peEn := false, enLow := some (s.pe.enLow.getD s.pe.tick) }
  if before = peHold ∨ before = peDisabled then t
  else
    let t := t.endLimit.gatesOff
    let t := t.setPe { t.pe with state := peDisabled }
    let t := if fresh ∧ (t.feedGood 1 ∨ t.feedGood 2) then t.recordFault causePeEn before else t
    t.pgoodFall

/-- PE_EN rises after a low of `low` µs: 10 µs clear the latch; with the latch clear the state goes to INSERT (R392). -/
def State.enable (s : State) (low : Nat) : State :=
  let latched := s.pe.latched && low < 10
  let t := s.setPe { s.pe with peEn := true, enLow := none, latched := latched }
  if t.pe.state = peDisabled then
    t.setPe { t.pe with state := if latched then peLatched else peInsert, retryAt := none }
  else t

/-- Step 2 of R384. -/
def State.readEnable (s : State) (level : Bool) : State :=
  if !level then s.disable
  else match s.pe.enLow with
    | some q => s.enable (s.pe.tick - q)
    | none => s.setPe { s.pe with peEn := true }

/-- The path of a feed that is not permitted to carry is turned off; an overvoltage turn-off is recorded (R393, R402). -/
def State.dropPath (s : State) (n : Nat) : State :=
  if pathOn s.pe n ∧ s.feedOver n then
    let t := (s.setPath n false).recordFault causeOvervoltage s.pe.state
    t.peLog causeOvervoltage
  else s

/-- Step 3 of R384: overvoltage (R393); with no path permitted to carry the hot-swap gate goes off. -/
def State.overvoltTick (s : State) : State :=
  let t := (s.dropPath 1).dropPath 2
  let none' := !t.feedGood 1 && !t.feedGood 2
  let high := t.feedOver 1 || t.feedOver 2
  if none' ∧ (if high then peConducts t.pe.state else t.pe.state = peOn ∨ t.pe.state = peLimit) then
    let t := t.endLimit.gatesOff
    let t := t.setPe { t.pe with state := peOvervolt }
    if high ∨ !t.pe.pgood then t.pgoodFall else t
  else t

/-! ## The fault timer (R390) -/

/-- The fault timer returns to 0 (R389, R390). -/
def State.limitOver (s : State) : State :=
  let t := s.endLimit
  t.setPe { t.pe with state := t.pe.limitFrom, settleFrom := t.pe.tick }

/-- Step 4 of R384. -/
def State.faultTick (s : State) (ma bus vcom sense : Nat) : State :=
  if !peConducts s.pe.state ∨ (s.pe.state = peRamp ∧ s.pe.ramp.isNone) then s
  else if 2 * s.peCfg Obj.ilim * 100 ≤ sense then s.trip causeShort
  else
    let limit := s.peCfg Obj.ilim * 100000 / s.peCfg Obj.senseUohm
    if limit ≤ ma then
      let n := s.pe.faultTimer + 1
      let fresh := s.pe.state ≠ peLimit
      let t := s.setPe { s.pe with faultTimer := n, state := peLimit,
                                   limitFrom := if fresh then s.pe.state else s.pe.limitFrom,
                                   limitEnergy := s.pe.limitEnergy + (vcom - bus) * ma }
      if s.peCfg Obj.faultTime ≤ n then t.trip causeOvercurrent else t
    else if s.pe.faultTimer = 0 then s
    else
      let t := s.setPe { s.pe with faultTimer := s.pe.faultTimer - 1, limitEnergy := s.pe.limitEnergy + (vcom - bus) * ma }
      if t.pe.faultTimer = 0 then t.limitOver else t

/-! ## Paths (R394 to R398) -/

/-- A break-before-make transfer begins: the outgoing gate is pulled off (R396). -/
def State.beginTransfer (s : State) (outgoing incoming : Nat) : State :=
  let t := (s.setPath outgoing false).bump Obj.transfers
  t.setPe { t.pe with transfer := some { outgoing := outgoing, incoming := incoming, start := t.pe.tick } }

/-- The incoming gate is driven fully on. -/
def State.endTransfer (s : State) (x : Transfer) : State :=
  let t := s.setPath x.incoming true
  let t := t.setPe { t.pe with transfer := none }
  match t.pe.test with
  | some e => t.setPe { t.pe with test := some { e with start := t.pe.tick } }
  | none => t

/-- The carrying path of PRIORITY and SINGLE mode. -/
def State.carrier (s : State) : Nat :=
  if s.pe.on1 then 1 else if s.pe.on2 then 2 else if s.peCfg Obj.combine = 1 then s.peCfg Obj.prioFeed else 1

/-- The paths that R394 calls for are restored after a test. -/
def State.restorePaths (s : State) : State :=
  let p := s.peCfg Obj.prioFeed
  if s.peCfg Obj.combine = 1 ∧ s.carrier ≠ p ∧ s.feedStrong p then s.beginTransfer s.carrier p else s

/-- A feed test begins (R398); of the feed that carries alone it is an observation. -/
def State.startTest (s : State) (n : Nat) (second : Bool) : State :=
  let t := s.setPe { s.pe with test := some { feed := n, start := s.pe.tick, minMv := (s.feed n).mv, second := second } }
  if pathOn t.pe (otherFeed n) then t.beginTransfer (otherFeed n) n else t

/-- A feed test ends with a result (R398). -/
def State.endTest (s : State) (result : Nat) : State :=
  (s.put Obj.testResult result).setPe { s.pe with test := none }

/-- The test has run its time with the feed at or above WARN_MV throughout. -/
def State.testPasses (s : State) (e : FeedTest) : State :=
  let t := s.endTest (if e.second then 2 else 1)
  let t := if e.second then t.feedTransient e.feed else t
  t.restorePaths

/-- The tested feed has fallen below WARN_MV: it is tested again 1 s later; a second failure is a lasting feed fault. -/
def State.testFails (s : State) (e : FeedTest) : State :=
  let t : State := if e.second then (s.endTest 3).feedLasts e.feed
    else s.setPe { s.pe with test := none, retest := some (e.feed, s.pe.tick + secTicks) }
  t.restorePaths

/-- A feed test in one tick. -/
def State.testTick (s : State) (e : FeedTest) : State :=
  if !s.feedGood (otherFeed e.feed) ∧ s.feedUsed (otherFeed e.feed) then s.endTest 4
  else if s.pe.transfer.isSome then s
  else
    let mv := (s.feed e.feed).mv
    let e := { e with minMv := min e.minMv mv }
    let t := s.setPe { s.pe with test := some e }
    if mv < s.peCfg Obj.warnMv then t.testFails e
    else if e.start + s.peCfg Obj.testTime * 1000 ≤ s.pe.tick then t.testPasses e
    else t

/-- A feed is tested again (R398). -/
def State.retestNow (s : State) (n : Nat) : State :=
  let t := s.setPe { s.pe with retest := none }
  if t.pe.state = peOn ∧ t.feedGood (otherFeed n) then t.startTest n true else t.put Obj.testResult 4

/-- A path as an ideal diode in a tick (R395). -/
def State.diodeTick (s : State) (n vcom : Nat) : State :=
  let mv := (s.feed n).mv
  if pathOn s.pe n then
    if !s.feedGood n then s.setPath n false
    else if mv + 10 < vcom then (s.setPath n false).bump Obj.revTurnoffs
    else s
  else if s.feedGood n ∧ vcom + 20 ≤ mv then s.setPath n true
  else s

/-- The automatic return to PRIO_FEED is due (R397). -/
def State.returnDue (s : State) (atOnce : Bool) : Bool :=
  let p := s.peCfg Obj.prioFeed
  let wait := s.peCfg Obj.prioReturn
  s.feedStrong p && (s.feed p).warnSince.any (fun q => q + wait * 1000 ≤ s.pe.tick) && (atOnce || wait ≠ 0)

/-- PRIORITY mode in a tick (R394, R397). -/
def State.priorityTick (s : State) : State :=
  let p := s.peCfg Obj.prioFeed
  let c := s.carrier
  let o := otherFeed c
  let t := if pathOn s.pe c then s.setPath o false else s
  if !t.feedStrong c ∧ t.feedStrong o then t.beginTransfer c o
  else if c ≠ p ∧ t.returnDue false then t.beginTransfer c p
  else t.setPath c (t.feedGood c)

/-- Step 6 of R384. -/
def State.pathTick (s : State) (vcom gate1 gate2 : Nat) : State :=
  let from' := if s.pe.state = peLimit then s.pe.limitFrom else s.pe.state
  if !peConducts s.pe.state then s.setPe { s.pe with on1 := false, on2 := false, transfer := none }
  else if from' ≠ peOn then
    match s.pe.ramp with
    | some r => s.setPe { s.pe with on1 := r.path == 1, on2 := r.path == 2, transfer := none }
    | none => s
  else
    let t := match s.pe.transfer with
      | some x =>
        let g := if x.outgoing = 1 then gate1 else gate2
        if g < 1000 ∧ x.start + s.peCfg Obj.bbmUs ≤ s.pe.tick then s.endTransfer x else s
      | none => s
    let t := match t.pe.test with
      | some e => t.testTick e
      | none => match t.pe.retest with
        | some (n, q) => if q ≤ t.pe.tick then t.retestNow n else t
        | none => t
    if t.pe.transfer.isSome ∨ t.pe.test.isSome then t
    else if t.peCfg Obj.combine = 0 then (t.diodeTick 1 vcom).diodeTick 2 vcom
    else if t.peCfg Obj.combine = 1 then t.priorityTick
    else (t.setPath 1 (t.feedGood 1)).setPath 2 false

/-! ## Power-good and the early warning (R389, R399) -/

/-- PGOOD may rise: the gate is fully on and the fault timer has been at 0 for SETTLE_TIME. -/
def State.mayRise (s : State) : Bool :=
  (s.pe.state == peSettle || s.pe.state == peOn) && s.pe.gateFull && s.pe.faultTimer == 0 && !s.pe.standby &&
  s.pe.settleFrom + s.peCfg Obj.settleTime * 1000 ≤ s.pe.tick

/-- PGOOD rises, the state is ON, in DIODE mode the second path joins, and the core starts (R389, R394, R407). -/
def State.pgoodRise (s : State) : State :=
  let diode := s.peCfg Obj.combine = 0
  let t := s.setPe { s.pe with pgood := true, pgoodSince := s.pe.tick, state := peOn, ramp := none,
                               on1 := s.pe.on1 || (diode && s.feedGood 1), on2 := s.pe.on2 || (diode && s.feedGood 2) }
  t.coreUp

/-- Step 7 of R384. -/
def State.pgoodTick (s : State) (bus : Nat) : State :=
  let low := bus < s.peCfg Obj.busUvMv
  if s.pe.pgood then
    if low then
      let p := if s.pe.state = peOn then { s.pe with state := peSettle, ramp := some { path := s.carrier, start := s.pe.tick } }
               else if s.pe.state = peLimit ∧ s.pe.limitFrom = peOn then { s.pe with limitFrom := peSettle } else s.pe
      (s.setPe p).pgoodFall
    else
      let t := if s.rst.coreOn then s else s.coreUp
      if t.pe.pgoodSince + 10 * secTicks ≤ t.pe.tick then t.setPe { t.pe with retryCount := 0 } else t
  else if s.mayRise ∧ !low then s.pgoodRise
  else s

/-- The feed that carries the load is below WARN_MV while PGOOD is high; in DIODE mode it is the higher feed (R399). -/
def State.warnNow (s : State) : Bool :=
  let mv := if s.peCfg Obj.combine = 0 then max s.pe.feed1.mv s.pe.feed2.mv else (s.feed s.carrier).mv
  s.pe.pgood && mv < s.peCfg Obj.warnMv

/-- PE_FAULT_N is low while a trip waits for retry or is latched (R378). -/
def State.peFaultN (s : State) : Bool := !(s.pe.state == peTripped || s.pe.state == peLatched)

/-- Step 8 of R384: the warning is counted as it appears. -/
def State.warnTick (s : State) : State :=
  let w := s.warnNow
  let t := if w ∧ !s.pe.warn then s.bump Obj.warnings else s
  t.setPe { t.pe with warn := w }

/-! ## Measurements (R401, R405, R406) -/

/-- PE_FLAGS (R405). -/
def State.peFlagsNow (s : State) : Nat :=
  ofBool s.pe.peEn + 2 * ofBool (s.feedGood 1) + 4 * ofBool (s.feedGood 2) + 8 * ofBool (s.feedOver 1) +
  16 * ofBool (s.feedOver 2) + 32 * ofBool s.pe.gateFull + 64 * ofBool s.pe.pgood + 128 * ofBool s.pe.warn +
  256 * ofBool (s.pe.faultTimer ≠ 0) + 512 * ofBool s.pe.transfer.isSome +
  1024 * ofBool (s.peCfg Obj.combine == 1 && s.pe.pgood && s.carrier ≠ s.peCfg Obj.prioFeed) + 2048 * ofBool s.pe.test.isSome

/-- CARRYING (R405). -/
def State.carryingNow (s : State) : Nat := ofBool s.pe.on1 + 2 * ofBool s.pe.on2

/-- What the power entry reports: averages over 1 ms, peaks and extremes of single samples (R401). -/
def State.report (s : State) (ma bus : Nat) : State :=
  let l := s.pe.samples
  let t := (s.put Obj.peState s.pe.state).put Obj.peFlags s.peFlagsNow
  let t := (t.put Obj.feed1Mv (min 0xFFFF (sampleMean l (·.1)))).put Obj.feed2Mv (min 0xFFFF (sampleMean l (·.2.1)))
  let t := (t.put Obj.busMv (min 0xFFFF (sampleMean l (·.2.2.1)))).put Obj.busMa (sampleMean l (·.2.2.2) % 2 ^ 32)
  let t := (t.put Obj.carrying s.carryingNow).put Obj.retryCount (min 255 s.pe.retryCount)
  let t := if t.obj Obj.peakMa < ma then (t.put Obj.peakMa (ma % 2 ^ 32)).put Obj.peakTime (if t.onRing then t.now else 0) else t
  let f1 := min 0xFFFF s.pe.feed1.mv
  let f2 := min 0xFFFF s.pe.feed2.mv
  let t := (t.put Obj.maxFeed1Mv (max f1 (t.obj Obj.maxFeed1Mv))).put Obj.maxFeed2Mv (max f2 (t.obj Obj.maxFeed2Mv))
  if s.pe.pgood then
    ((t.put Obj.minFeed1Mv (min f1 (t.obj Obj.minFeed1Mv))).put Obj.minFeed2Mv (min f2 (t.obj Obj.minFeed2Mv))).put Obj.minBusMv
      (min bus (t.obj Obj.minBusMv))
  else t

/-- CLEAR of 0x7820: subindices 1 to 7 restart (R406). -/
def State.peClearNow (s : State) : State :=
  let t := s.clearKeys [Obj.peakMa, Obj.peakTime, Obj.maxFeed1Mv, Obj.maxFeed2Mv]
  ((t.put Obj.minFeed1Mv 0xFFFF).put Obj.minFeed2Mv 0xFFFF).put Obj.minBusMv 0xFFFF

/-- The bus current in mA, corrected by item 0x442 (R390). -/
def State.busCurrent (s : State) (sense : Nat) : Nat := s.peMeasure 0x442 (sense * 1000 / s.peCfg Obj.senseUohm)

/-- The housekeeping domain is supplied. -/
def State.hkPowered (i : PeSample) : Bool := 5000 ≤ i.feed1 || 5000 ≤ i.feed2

/-! ## The tick and the events of the power entry -/

/-- Steps 3 to 8 of R384. -/
def State.peSteps (s : State) (i : PeSample) (ma : Nat) : State :=
  let t := (s.overvoltTick).faultTick ma i.bus i.vcom i.sense
  let t := t.mayRamp.rampTick i.bus i.vcom ma i.gateHs
  let t := t.pathTick i.vcom i.gateOr1 i.gateOr2
  (t.pgoodTick i.bus).warnTick

/-- POWER_ENTRY_TICK: one tick of 1 µs (R384). PE_EN that falls in the tick of a trip comes after the trip (R400). -/
def powerEntryTick (s : State) (i : PeSample) : State :=
  if !s.pe.alive then s
  else
    let time := if s.rst.standby then s.time + us * 2 ^ 40 else s.time
    let s : State := { s with time := time, pe := { s.pe with tick := s.pe.tick + 1 } }
    let t := (s.classify 1 i.feed1).classify 2 i.feed2
    let t := (t.removalTick).holdMode (State.hkPowered i)
    let ma := t.busCurrent i.sense
    let t := t.setPe { t.pe with samples := lastN 1000 (t.pe.samples ++ [(t.pe.feed1.mv, t.pe.feed2.mv, i.bus, ma)]) }
    let t := if t.pe.state = peHold then t
      else if !i.peEn ∧ t.pe.enLow.isNone then
        let u := (t.overvoltTick).faultTick ma i.bus i.vcom i.sense
        (if u.pe.state = peTripped ∨ u.pe.state = peLatched then u else t).readEnable i.peEn
      else t.readEnable i.peEn
    let t := if t.pe.state = peHold ∨ t.pe.state = peDisabled then t.warnTick else t.peSteps i ma
    t.report ma i.bus

/-- A time of the tick passes (log entry 9). -/
def State.waitTick (s : State) (q : Nat) : State := s.setPe { s.pe with tick := max s.pe.tick q }

/-- REMOVAL: every feed has been below 2 V for 10 ms (R383). -/
def removal (s : State) : State :=
  match s.pe.goneSince with
  | some q => if s.pe.removed ∨ !s.pe.alive then s else (s.waitTick (q + 10000)).remove
  | none => s

/-- HK_DOMAIN_RESET: VHK has fallen below 2.5 V (R380): nothing runs until a feed brings the domain up clean. -/
def hkDomainReset (s : State) : State :=
  let t := s.gatesOff.pgoodFall
  t.setPe { alive := false, tick := t.pe.tick, state := peOff, pgood := false, gateFull := false, on1 := false, on2 := false,
            feed1 := { up := false, goodSince := none, warnSince := none }, feed2 := { up := false, goodSince := none, warnSince := none },
            samples := [] }

/-- HK_DOMAIN_CLEAN_START: a feed has risen to 5 V while the domain was unpowered (R380). The real-time clock has counted `periods` of
32,768 Hz since the domain lost its supply. -/
def hkDomainCleanStart (s : State) (periods : Nat) : State :=
  if s.pe.alive then s
  else
    let t : State := { s with tb := { s.tb with rtcTime := s.tb.rtcTime + periods * sec / 32768 } }
    let t : State := { t with rst := { t.rst with onVbat := false, standby := false, wokenBy := none } }
    t.setPe { t.pe with alive := true, state := peOff }

/-- INSERT_DELAY_EXPIRY: a feed has been good for INSERT_DELAY (R386). -/
def insertDelayExpiry (s : State) : State :=
  let d := max 1 (s.peCfg Obj.insertDelay * 1000)
  let due := ([1, 2].filter (fun n => s.feedGood n)).filterMap (fun n => (s.feed n).goodSince.map (· + d))
  match due.min? with
  | some q => if s.pe.state = peInsert then
      let t := s.waitTick q
      t.startRamp (t.rampFeeds true) else s
  | none => s

/-- RAMP_COMPLETE: the bus is within 300 mV of VCOM, the gate is driven fully on and reaches full enhancement (R387). -/
def rampComplete (s : State) : State :=
  match s.pe.ramp with
  | some r =>
    if s.pe.state = peRamp then (if r.whole.isSome then s else s.rampWhole r).fullyOn else s
  | none => s

/-- RAMP_TIMEOUT (R387). -/
def rampTimeout (s : State) : State :=
  match s.pe.ramp with
  | some r =>
    if s.pe.state = peRamp ∨ (s.pe.state = peLimit ∧ s.pe.limitFrom = peRamp) then
      (s.waitTick (r.start + s.peCfg Obj.rampLimit * 1000)).trip causeRampTimeout
    else s
  | none => s

/-- SETTLE_EXPIRY: SETTLE_TIME has passed with the fault timer at 0 (R389). -/
def settleExpiry (s : State) : State :=
  let t := s.waitTick (s.pe.settleFrom + s.peCfg Obj.settleTime * 1000)
  if !s.pe.pgood ∧ t.mayRise then t.pgoodRise else s

/-- FAULT_TIME_EXPIRY: the fault timer reaches FAULT_TIME (R390). -/
def faultTimeExpiry (s : State) : State :=
  if s.pe.state = peLimit then (s.waitTick (s.pe.tick + (s.peCfg Obj.faultTime - s.pe.faultTimer))).trip causeOvercurrent else s

/-- SHORT_TRIP: the sense voltage has reached twice ILIM (R390). -/
def shortTrip (s : State) : State := if peConducts s.pe.state then s.trip causeShort else s

/-- RETRY_TIME_EXPIRY: the retry timer expires; with a feed good a ramp starts at once (R391). -/
def retryTimeExpiry (s : State) : State :=
  match s.pe.retryAt with
  | some q => if s.pe.state = peTripped then (s.waitTick q).mayRamp else s
  | none => s

/-- RETRY_COUNT_RESET: PGOOD has been high for 10 s (R391). -/
def retryCountReset (s : State) : State :=
  if s.pe.pgood then
    let t := s.waitTick (s.pe.pgoodSince + 10 * secTicks)
    (t.setPe { t.pe with retryCount := 0 }).put Obj.retryCount 0
  else s

/-- PE_EN_LOW and PE_EN_HIGH: the pin changes level (R392). -/
def peEnLow (s : State) : State := if s.pe.alive then s.disable else s
def peEnHigh (s : State) (lowNs : Nat) : State := if s.pe.alive then s.enable (lowNs / 1000) else s

/-- REVERSE_TURNOFF: the feed of an ideal diode has fallen more than 10 mV below VCOM (R395). -/
def reverseTurnoff (s : State) (n : Nat) : State :=
  if s.peCfg Obj.combine = 0 ∧ pathOn s.pe n then (s.setPath n false).bump Obj.revTurnoffs else s

/-- BBM_TRANSFER: the outgoing gate is off and BBM_US have passed (R396). -/
def bbmTransfer (s : State) : State :=
  match s.pe.transfer with
  | some x => (s.waitTick (x.start + s.peCfg Obj.bbmUs)).endTransfer x
  | none => s

/-- PRIO_RETURN_EXPIRY: PRIO_FEED has been good and at or above WARN_MV for PRIO_RETURN (R397). -/
def prioReturnExpiry (s : State) : State :=
  let p := s.peCfg Obj.prioFeed
  match (s.feed p).warnSince with
  | some q =>
    let t := s.waitTick (q + s.peCfg Obj.prioReturn * 1000)
    if s.peCfg Obj.combine = 1 ∧ s.pe.state = peOn ∧ s.pe.transfer.isNone ∧ s.pe.test.isNone ∧ s.carrier ≠ p ∧ t.returnDue false then
      t.beginTransfer s.carrier p
    else s
  | none => s

/-- A write of PE_CMD (R397, R398). -/
def State.peCommand (s : State) (v : Nat) : State × Nat :=
  if v = 1 ∨ v = 2 then
    if v = 2 ∧ s.single then (s, stHeldStatus)
    else if s.pe.test.isSome ∨ s.pe.state ≠ peOn ∨ !s.feedGood (otherFeed v) then (s, stRetry)
    else (s.startTest v false, stDone)
  else if v = 3 then
    let p := s.peCfg Obj.prioFeed
    if !s.returnDue true then (s, stRetry)
    else if s.peCfg Obj.combine = 1 ∧ s.pe.state = peOn ∧ s.pe.transfer.isNone ∧ s.pe.test.isNone ∧ s.carrier ≠ p then
      (s.beginTransfer s.carrier p, stDone)
    else (s, stDone)
  else (s, stOutOfRange)

/-- TEST_TIME_EXPIRY: the test has run its time (R398). -/
def testTimeExpiry (s : State) : State :=
  match s.pe.test with
  | some e =>
    let t := bbmTransfer s
    let e := t.pe.test.getD e
    (t.waitTick (e.start + s.peCfg Obj.testTime * 1000)).testPasses e
  | none => s

/-- FEED_RETEST: 1 s after a test in which the feed fell below WARN_MV it is tested again (R398). -/
def feedRetest (s : State) : State :=
  match s.pe.retest with
  | some (n, q) => (s.waitTick q).retestNow n
  | none => s

/-- FEED_FAULT_LASTING: a feed is not back within 1 s, or is still absent 1 s after the node left LOADING (R398). -/
def feedFaultLasting (s : State) (n : Nat) : State :=
  match (s.feed n).lostAt with
  | some q => (s.waitTick (q + secTicks)).feedLasts n
  | none =>
    match s.pe.loadedAt with
    | some q => if (s.feed n).absent then (s.waitTick (q + secTicks)).feedLasts n else s
    | none => s

/-- FEED_FAULT_CLOSE: the feed has been good for 1 s (R398). -/
def feedFaultClose (s : State) (n : Nat) : State :=
  match (s.feed n).goodSince with
  | some q => if (s.feed n).lasting then (s.waitTick (q + secTicks)).feedCloses n else s
  | none => s

end Sys2Proof.Machine
end

