-- ==== Sys2Proof/Machine/Power.lean ====
section
/-! DEFINITION. Power states, STANDBY and waking, the backup island's supply and the commands of the verdigris log (R412 to R415, R419,
R422 to R424). -/
namespace Sys2Proof.Machine

/-- HOLD is entered (R413): output placements are cancelled with HELD, engines stop with their levels kept, the bus transmitters are
quiet. -/
def State.enterHold (s : State) : State :=
  let t := s.shiftersNow.put Obj.powerState 2
  let t := forEach (t.fc.cells.map (·.1)) (fun t n => t.discardPlacements n stHeldStatus) t
  let t := forEach (t.can.map (·.1)) State.canSendEnds t
  let t := forEach (t.uart.map (·.1)) State.uartPauses t
  forEach ((t.eng.engines.filter (fun e => e.2.running)).map (·.1)) (fun t n => engineStop t n) t

/-- A power command is turned away (R412, R414). -/
def State.powerRefusal (s : State) (v : Nat) : Option Nat :=
  let cur := s.obj Obj.powerState
  if 3 < v then some stOutOfRange
  else if cur = v then none
  else if v = 3 ∧ s.obj Obj.wakePinEn = 0 ∧ (s.obj Obj.wakeAt = 0 ∨ s.obj Obj.wakeAt < s.now + sec) then some stOutOfRange
  else if cur = 2 ∧ (v = 1 ∨ v = 3) then some stRetry
  else if (v = 2 ∨ v = 3) ∧ (s.obj Obj.stageState = 2 ∨ s.obj Obj.stageState = 3 ∨ s.obj Obj.storeState = 1 ∨
      s.obj Obj.smeState = smeTesting) then some stRetry
  else if v = 3 ∧ (s.wrapActive ∨ s.ringState = 4 ∨ s.acc.unweld.isSome) then some stRetry
  else none

/-- A write of POWER_CMD (R412, R414). -/
def State.powerCommand (s : State) (v : Nat) : State × Nat :=
  match s.powerRefusal v with
  | some st => (s, st)
  | none =>
    if v = s.obj Obj.powerState then (s, stDone)
    else if v = 2 then (s.enterHold, stDone)
    else if v = 3 then (s.startUnweld none true, stDone)
    else (s.put Obj.powerState v, stDone)

/-- A wake of a node in STANDBY: PGOOD rises as soon as the rise rule allows it (R389, R415). -/
def State.wakeNow (s : State) (cause : Nat) : State :=
  let t : State := { s with rst := { s.rst with wokenBy := some cause } }
  let t := t.setPe { t.pe with standby := false }
  if t.mayRise then t.pgoodRise else t

/-- A wake (R415): in STANDBY it starts the node; before the census of the entry it abandons the entry; between the two it waits. -/
def State.wake (s : State) (cause : Nat) : State :=
  if s.rst.standby then s.wakeNow cause
  else match s.acc.unweld with
    | some u =>
      if !u.standby then s
      else if s.acc.census.isNone ∧ s.ownId ≠ 0 then
        let t : State := { s with acc := { s.acc with unweld := none, leaving := none } }
        t.put Obj.weldState (if s.ownId = 0 then 0 else 2)
      else { s with rst := { s.rst with wakeWaiting := some cause } }
    | none => s

/-- STANDBY_ENTRY: steps 2 and 3 of R414, once the membership boundary has put the node out of the ring. -/
def standbyEntry (s : State) : State :=
  match s.acc.unweld with
  | some u =>
    if u.standby ∧ u.requested ∧ (s.obj Obj.weldState = 0 ∨ s.ownId = 0) ∧ s.rst.coreOn then
      let waiting := s.rst.wakeWaiting
      let r := { s.rst with standby := true, wakeAt := s.obj Obj.wakeAt, wakePin := s.obj Obj.wakePinEn == 1 }
      let t : State := { s with rst := r }
      let t := t.setPe { t.pe with pgood := false, standby := true }
      let t := t.coreDown 1
      match waiting with
      | some c => t.wakeNow c
      | none => t
    else s
  | none => s

/-- WAKE_N has been low for 10 µs (R415). -/
def wakeN (s : State) : State :=
  let en := if s.rst.standby then s.rst.wakePin else s.obj Obj.wakePinEn == 1
  if en then s.wake 1 else s

/-- WAKE_AT_REACHED: the time counter has reached WAKE_AT (R415). -/
def wakeAtReached (s : State) : State :=
  let at' := if s.rst.standby then s.rst.wakeAt else s.obj Obj.wakeAt
  if at' = 0 ∨ (!s.rst.standby ∧ !s.acc.unweld.any (·.standby)) then s else (s.waitUntil at').wake 2

/-- BACKUP_ENTRY: VHK is below 2.7 V, and the island runs from VBAT (R412, R419). A node in STANDBY loses what it kept. -/
def backupEntry (s : State) : State :=
  if s.rst.onVbat then s
  else
    let t := s.bump Obj.backupEntries
    let t := t.pgoodFall
    let t := if s.rst.standby then t.coreReset 1 else t
    let t : State := { t with rst := { t.rst with onVbat := true, vbatUsed := true, standby := false, wokenBy := none } }
    (t.setPe { t.pe with standby := false }).put Obj.nodeState 0

/-- VBAT_LOW: VBAT falls to `mv`, below 1.6 V; while it supplies the island the low-VBAT flag is set (R419). -/
def vbatLow (s : State) (mv : Nat) : State :=
  { s with rst := { s.rst with vbatMv := some (min 0xFFFF mv), vbatLow := s.rst.vbatLow || s.rst.onVbat } }

/-- ISLAND_STATE: what the last retention check found, and whether the clock is valid and VBAT below 1.6 V now (R427). VBAT is known from
VBAT_LOW alone (DESIGN CHOICE, log entry 144). -/
def State.islandStateNow (s : State) : Nat :=
  let low : Bool := s.rst.vbatMv.any (fun mv => mv < 1600)
  s.obj Obj.islandState + 2 * ofBool s.tb.rtcValid + 4 * ofBool low

/-! ## The verdigris log (R421 to R424, R428) -/

/-- A write of VG_CMD (R422): 1 empties both places and is itself logged. -/
def State.vgCommand (s : State) (v : Nat) : State × Nat :=
  if v ≠ 1 then (s, stOutOfRange)
  else (({ s with vgHead := [], vgMain := [] } : State).logEvent 0xF000 0x06 0xFFFF 0 0, stDone)

/-- VG_WINDOW: the 8 entries from VG_READ_FROM (R424). -/
def State.vgWindowNow (s : State) : List Byte :=
  (List.range 8).flatMap (fun i =>
    match s.vgMain.find? (fun e => e.seq == (s.obj Obj.vgReadFrom + i) % 2 ^ 32) with
    | some e => vgBytes e
    | none => List.replicate 32 0)

/-- VG_HEAD, OPEN_FAULTS and OPEN_COUNT (R422, R423): at most 64 faults are listed. -/
def State.vgHeadNow (s : State) : List Byte := padTo 1024 (s.vgHead.flatMap vgBytes)
def State.openFaultsNow (s : State) : List Byte := (s.vgOpen.take 64).flatMap (fun o => vgBytes o.entry)
def State.openCountNow (s : State) : Nat := min 64 s.vgOpen.length

end Sys2Proof.Machine
end

