-- ==== Sys2Proof/Machine/Firmware.lean ====
section
/-! DEFINITION. Firmware (file 17 of the spec): downloads over the service link, activation and its pause, trial and confirmation, and
ROM recovery. -/
namespace Sys2Proof.Machine

/-! ## The service link (R54, R433, R461) -/

/-- The IMG_RESP that answers an image frame (R433). -/
def State.imgResp (s : State) (type status : Nat) : State :=
  let r := s.boot
  s.emit (.farif (farifBytes 0x18 (leBytes 1 type ++ leBytes 1 status ++ leBytes 2 0 ++ leBytes 4 (s.obj Obj.dlReceived) ++
    leBytes 1 (s.obj Obj.dlState) ++ leBytes 1 (s.obj Obj.dlSlot) ++ leBytes 2 0 ++ leBytes 1 r.slot0 ++ leBytes 1 r.slot1 ++
    leBytes 1 r.active ++ leBytes 1 r.failed)))

/-- The node takes image frames: the core has power, and the link has locked (R434, R461). -/
def State.farifUp (s : State) : Bool := s.rst.coreOn && s.fw.linkRate.isSome

/-- An image frame is taken: HELD in LOADING and in the pause (R434); any image frame restarts the 10 s of an open download. -/
def State.imgFrame (s : State) (type : Nat) (f : State → State × Nat) : State :=
  if !s.farifUp then s
  else if s.node = stLoading ∨ s.paused then s.imgResp type stHeldStatus
  else
    let t : State := match s.fw.download with
      | some d => { s with fw := { s.fw with download := some { d with last := s.now } } }
      | none => s
    let (u, st) := f t
    u.imgResp type st

/-- A download ends without a pass: the slot is left in state 4 (R434). -/
def State.abortDownload (s : State) : State :=
  match s.fw.download with
  | some d =>
    let t : State := { s with fw := { s.fw with download := none } }
    ((t.putSlotState d.slot 4).put Obj.dlState 0).bump Obj.dlAborts
  | none => s

/-- IMG_BEGIN (R434). -/
def State.beginImage (s : State) (slot total : Nat) : State × Nat :=
  if 1 < slot ∨ total < 4352 ∨ 33554432 < total then (s, stOutOfRange)
  else if s.node ≠ stRecovery ∧ slot = s.boot.active then (s, stReadOnly)
  else
    let t := s.abortDownload
    let t := (t.setImage slot {}).putSlotState slot 1
    let t := ((t.put Obj.dlState 1).put Obj.dlSlot slot).put Obj.dlReceived 0
    let t := t.put Obj.dlTotal total
    ({ t with fw := { t.fw with download := some { slot := slot, total := total, last := t.now } } }, stDone)

/-- IMG_DATA (R434): programmed at NEXT_OFFSET, answered again for a repeat, and refused with an abort otherwise. -/
def State.dataImage (s : State) (offset : Nat) (data : List Byte) : State × Nat :=
  match s.fw.download with
  | none => (s, stOutOfRange)
  | some d =>
    let next := s.obj Obj.dlReceived
    if !d.erased then (s, stRetry)
    else if data = [] ∨ 1024 < data.length then (s.abortDownload, stOutOfRange)
    else if d.lastFrame.any (fun l => l.1 == offset) then
      (if d.lastFrame = some (offset, data) then (s, stDone) else (s.abortDownload, stIntegrity))
    else if offset ≠ next ∨ d.total < next + data.length then (s.abortDownload, stOutOfRange)
    else
      let i := s.image d.slot
      let t := (s.setImage d.slot { i with data := i.data ++ data }).put Obj.dlReceived (next + data.length)
      ({ t with fw := { t.fw with download := some { d with lastFrame := some (offset, data) } } }, stDone)

/-- IMG_END (R434): the complete image is checked under R432. -/
def State.endImage (s : State) : State × Nat :=
  match s.fw.download with
  | none => (s, stOutOfRange)
  | some d =>
    if s.obj Obj.dlReceived < d.total then (s.abortDownload, stOutOfRange)
    else
      let i := s.image d.slot
      match s.imageStatus i.data with
      | some st => (s.abortDownload, st)
      | none =>
        let t := (s.setImage d.slot { i with written := s.now }).put Obj.dlState 0
        let t : State := { t with fw := { t.fw with download := none } }
        (t.putSlotState d.slot 5, stDone)

/-- IMG_ABORT (R434). -/
def State.abortImage (s : State) : State × Nat := (s.abortDownload, stDone)

def imgBegin (s : State) (slot total : Nat) : State := s.imgFrame 0x10 (fun t => t.beginImage slot total)
def imgData (s : State) (offset : Nat) (data : List Byte) : State := s.imgFrame 0x11 (fun t => t.dataImage offset data)
def imgEnd (s : State) : State := s.imgFrame 0x12 (fun t => t.endImage)
def imgAbort (s : State) : State := s.imgFrame 0x13 (fun t => t.abortImage)
def imgStatusFrame (s : State) : State := s.imgFrame 0x15 (fun t => (t, stDone))

/-- ERASE_COMPLETE: data frames are taken (R434). -/
def eraseComplete (s : State) : State :=
  match s.fw.download with
  | some d =>
    if d.erased then s
    else
      let t : State := { s with fw := { s.fw with download := some { d with erased := true } } }
      (t.putSlotState d.slot 2).put Obj.dlState 2
  | none => s

/-- DOWNLOAD_TIMEOUT: 10 s with no image frame end the download (R434). -/
def downloadTimeout (s : State) : State :=
  match s.fw.download with
  | some d => (s.waitUntil (d.last + 10 * sec)).abortDownload
  | none => s

/-- RECOVER_START (R445). -/
def State.recover (s : State) (slot : Nat) : State × Nat :=
  if s.node ≠ stRecovery then (s, stHeldStatus)
  else if 1 < slot ∨ s.boot.slotState slot ≠ 5 then (s, stOutOfRange)
  else
    let t := s.writeBoot { s.boot with active := slot, prev := 1 - slot, trial := false, failed := 0 }
    ({ t with rst := { t.rst with due := some (5, 3, t.now + ms) } }, stDone)

def recoverStart (s : State) (slot : Nat) : State := s.imgFrame 0x14 (fun t => t.recover slot)

/-- SERVICE_LINK_LOCK and SERVICE_LINK_LOCK_LOST (R461). -/
def serviceLinkLock (s : State) (rate : Nat) : State :=
  if s.rst.coreOn ∧ s.fw.linkRate.isNone then { s with fw := { s.fw with linkRate := some rate } } else s
def serviceLinkLockLost (s : State) : State := { s with fw := { s.fw with linkRate := none } }

/-! ## Activation (R435 to R438) -/

/-- What stands against an activation (R435). -/
def State.activateRefusal (s : State) : Option Nat :=
  if s.boot.slotState (1 - s.boot.active) ≠ 5 then some stOutOfRange
  else if s.fw.download.isSome ∨ s.obj Obj.stageState = 2 ∨ s.obj Obj.stageState = 3 ∨ s.obj Obj.storeState = 1 ∨
      s.obj Obj.smeState = smeTesting ∨ s.fw.pauseAt.isSome ∨ s.paused ∨ s.holding then some stRetry
  else none

/-- A write of FW_CMD (R435, R440, R441). -/
def State.fwCommand (s : State) (v : Nat) : State × Nat :=
  if v = 1 then
    match s.activateRefusal with
    | some st => (s, st)
    | none =>
      let slot := 1 - s.boot.active
      match s.imageStatus (s.image slot).data with
      | some st => (s.writeBoot { s.boot.setSlot slot 4 with result := 4 }, st)
      | none => ({ s.put Obj.actState 2 with fw := { s.fw with pauseAt := some (s.now + ms) } }, stDone)
  else if v = 2 then (s.confirmTrial, stDone)
  else if v = 3 then
    let t := ((s.put Obj.exportFormat 0).put Obj.exportTime 0).put Obj.exportLength 0
    let t := (t.putBlob Obj.exportConfig []).newGeneration 0x1331
    ({ t with fw := { t.fw with exported := none } }, stDone)
  else (s, stOutOfRange)

/-- The pause begins 1 ms after the response (R435, P1 of R437): the boot record names the new slot on trial, engines and SME stop. -/
def State.pauseBegins (s : State) (at' : Nat) : State :=
  let t := (s.waitUntil at').shiftersNow
  let r := t.boot
  let slot := 1 - r.active
  let t := t.writeBoot { r with active := slot, prev := r.active, trial := true }
  let t : State := { t with fw := { t.fw with pauseAt := none, pause := some t.now, pausedIn := t.node } }
  forEach ((t.eng.engines.filter (fun e => e.2.running)).map (·.1)) (fun t n => t.engPause n) t

/-- The scope of an activation loses class V (R407, R416): the SME and its map state; the staging area is emptied (R438). -/
def State.actReset (s : State) : State :=
  let t := s.smeReset
  let t := { t with dict := { t.dict with staged := [], held := [], waiting := [], commitAt := 0, waitEpochs := 0 } }
  let t := ((t.put Obj.stageState 0).put Obj.stageCount 0).put Obj.commitAt 0
  t.clearKeys [Obj.stageFailObject, Obj.stageFailStatus, Obj.actState]

/-- Whether a key is that of a DOMAIN object. -/
def isDomainKey (k : Nat) : Bool := match rowOf k with | some r => (match r.ty with | .domain _ _ _ => true | _ => false) | none => false

/-- Every DOMAIN whose content differs from what it was has a new generation (R49). -/
def State.noteRewrites (s before : State) : State :=
  let changed := ((before.blobs ++ s.blobs).map (·.1)).eraseDups.filter (fun k => isDomainKey k && s.blob k ≠ before.blob k)
  forEach changed (fun t k => t.newGeneration (k / 256)) s

/-- The blocks after a pause that has loaded the image of `slot` (P6 and P7 of R437, R439). With TRIAL_TIME 0 the image is confirmed where
the node is then in HELD (R441). -/
def State.pauseResumes (s : State) (slot result us' : Nat) : State :=
  let t : State := { s with fw := { s.fw with slot := slot } }
  -- class P reloads: every value written but not stored goes
  let t : State := { t with objs := t.objs.filter (fun e => !keptAs .p e.1), blobs := t.blobs.filter (fun e => !keptAs .p e.1) }
  let t := ((((t.loadObjects slot).noteRewrites s).cellsReloaded s).soeReloaded)
  let t := t.writeBoot { t.boot with result := result, pauseUs := us' }
  let t : State := { t with fw := { t.fw with pause := none, trialFrom := some t.now } }
  let t := (t.put Obj.smeState smeRunning).put Obj.lastReset 6
  let t := (t.put Obj.lastResetTime t.now).bump (Obj.resets 5)
  let t := t.logEvent 0x1200 0x02 0xFFFF 0 (6 + t.obj Obj.lastWake * 256)
  let t := if t.flag Obj.faultSummary fsFormatReset ∧ t.serving then t.enter stHeld 0x04 else t
  if t.obj Obj.trialTime = 0 ∧ t.node = stHeld then t.confirmTrial else t

/-- The pause ends (P2 to P7 of R437): on the new image, on the old one where P3 or P4 failed, or as a failed start where P5 fails. -/
def State.pauseEnds (s : State) (start : Nat) (e : PauseEnd) : State :=
  let t := (s.waitUntil (start + e.us * us)).actReset
  let slot := t.boot.active
  let good (n : Nat) (loaded : Bool) : Bool :=
    (t.imageStatus (t.image n).data).isNone && loaded && imgSectionsGood (t.image n).data
  if good slot e.reloadGood then t.pauseResumes slot 1 e.us
  else
    let old := t.boot.prev
    let t := t.writeBoot { t.boot.setSlot slot 4 with active := old, prev := slot, trial := false }
    if good old e.oldReloadGood then t.pauseResumes old 2 e.us
    else
      let t : State := { t with fw := { t.fw with pause := none, slot := old } }
      t.failedStart (if (t.imageStatus (t.image old).data).isNone then 2 else 1)

/-- ACTIVATION_PAUSE: without an operand the pause begins, with one it ends (log entry 28). -/
def activationPause (s : State) (finish : Option PauseEnd) : State :=
  match finish with
  | none => match s.fw.pauseAt with
    | some q => s.pauseBegins q
    | none => s
  | some e => match s.fw.pause with
    | some q => s.pauseEnds q e
    | none => s

/-- TRIAL_EXPIRY: TRIAL_TIME in HELD, RUNNING or DEGRADED without a reset confirms the image (R441). -/
def trialExpiry (s : State) : State :=
  match s.fw.trialFrom with
  | some q => if s.boot.trial ∧ s.onRing then (s.waitUntil (q + s.obj Obj.trialTime * sec)).confirmTrial else s
  | none => s

/-- TRIAL_LEFT (R446). -/
def State.trialLeftNow (s : State) : Nat :=
  match s.fw.trialFrom with
  | some q => if s.boot.trial then ceilDiv (q + s.obj Obj.trialTime * sec - s.now) sec else 0
  | none => if s.boot.trial then s.obj Obj.trialTime else 0

end Sys2Proof.Machine
end

