-- ==== Sys2Proof/Machine/Dictionary.lean ====
section
/-! DEFINITION. The object dictionary as requests see it: which objects exist with which type and access code, what each reads as, and
which values each may take (R25 to R31, R470 steps 5 and 9). -/
namespace Sys2Proof.Machine

/-! ## Lookup -/

/-- Index range of the lake value objects (R31). -/
def isLakeIndex (ix : Nat) : Bool := 0xA000 ≤ ix && ix < 0xB800

/-- Publisher and slot of a lake value object (R31). -/
def lakePublisher (ix : Nat) : Nat := (ix - 0xA000) / 64 + 1
def lakeSlotNumber (ix sub : Nat) : Nat := (ix - 0xA000) % 64 * 64 + (sub - 1)

/-- The object at an index and subindex (R25, R30, R31): its row, or the status of step 5 of R470. -/
def State.lookup (s : State) (ix sub : Nat) : Except Nat Row :=
  if isLakeIndex ix then
    if sub = 0 then .ok { name := "count", ix := ix, n := 1, lo := 0, hi := 0, ty := .u8, acc := .const, kept := .f, dflt := 64 }
    else if sub ≤ 64 then
      let acc := if lakePublisher ix = s.ownId ∧ s.isLoutSlot (lakeSlotNumber ix sub) then Acc.rws else .ro
      .ok { name := "slot", ix := ix, n := 1, lo := 1, hi := 64, ty := .u64, acc := acc, kept := .v }
    else .error stNoSubindex
  else match rowOf (ix * 256 + sub) with
    | some r => .ok r
    | none => .error (if indexExists ix then stNoSubindex else stNoObject)

/-! ## What an object reads as -/

/-- Ns since the node last left LOADING, 0 in LOADING (UPTIME). -/
def State.uptimeNow (s : State) : Nat := match s.rst.leftAt with | some t => ((s.now : Int) - t).toNat | none => 0

/-- Staged objects, with those held for the next commit (STAGE_COUNT). -/
def State.stageCountNow (s : State) : Nat := s.dict.staged.length + s.dict.held.length

/-- Objects of one place that report the state of their blocks. -/
def State.plainViews (s : State) : List (Nat × Nat) :=
  [ (Obj.stagingBase, if s.dramSize ≤ s.stagingFirst then 0 else s.stagingFirst),
    (Obj.stagingSize, s.dramSize - s.stagingFirst),
    (Obj.stageCount, s.stageCountNow),
    (Obj.uptime, s.uptimeNow),
    (Obj.timeNow, s.now % 2 ^ 64),
    (Obj.epochNow, s.epochAt s.now),
    (Obj.nextSample, s.sampleAfter s.now),
    (Obj.cellsFree, s.cellsFreeNow),
    (Obj.hbClkKhz, s.hbClkNow),
    (Obj.quotaBytes2, s.quotaNow 2),
    (Obj.quotaBytes3, s.quotaNow 3),
    (Obj.limitSum, s.limitSumNow),
    (Obj.flowEntries, (s.blob Obj.flowTable).length / 32),
    (Obj.sessionsIn, s.inInUse),
    (Obj.sessionsOut, s.outInUse),
    (Obj.leqCount, s.acc.leq.length),
    (Obj.runningMap, s.runningMapNow),
    (Obj.sleepingMap, s.sleepingMapNow),
    (Obj.stalledMap, s.stalledMapNow),
    (Obj.swapWaitingMap, s.waitingMapNow),
    (Obj.enabledMap, s.enabledMapNow),
    (Obj.busoffMap, s.busoffMapNow),
    (Obj.attentionMap, s.attentionMapNow),
    (Obj.mapEntries, (s.blob Obj.mapTable).length / 48),
    (Obj.rtcTime, s.rtcNow),
    (Obj.islandState, s.islandStateNow),
    (Obj.vbatMv, s.rst.vbatMv.getD 0),
    (Obj.trialLeft, s.trialLeftNow),
    (Obj.vgHeld, s.vgMain.length),
    (Obj.openCount, s.openCountNow) ]

/-- Objects of numbered blocks that report the state of their block. -/
def State.blockView (s : State) (ix sub : Nat) : Option Nat :=
  if ix < 0x3000 then
    if 0x2410 ≤ ix ∧ ix < 0x2420 then
      if 9 ≤ sub ∧ sub ≤ 12 then some (s.inUsedNow (ix - 0x2410) (sub - 9))
      else if 13 ≤ sub ∧ sub ≤ 16 then some (s.outUsedNow (ix - 0x2410) (sub - 13))
      else none
    else none
  else if ix < 0x3140 then
    let n := ix - 0x3000
    match sub with
    | 23 => some (ofBool (s.levelNow n))
    | 24 => some (s.cell n).placements.length
    | 26 => some (s.eventEnergyNow n)
    | 27 => some (s.windowEnergyNow n)
    | _ => none
  else if ix < 0x4100 then none
  else if ix < 0x4140 then
    let n := ix - 0x4100
    match sub with
    | 6 => some (s.engStateNow n)
    | 13 => some ((s.shiftNow n).obj (Obj.shOut n))
    | 14 => some ((s.shiftNow n).obj (Obj.shIn n))
    | 15 => some ((s.shiftNow n).shLeftNow n)
    | 17 => some ((s.engine n).mark / 256)
    | 19 => some (s.engine n).queue.length
    | _ => none
  else if ix < 0x4200 then none
  else if ix < 0x4240 then
    let f := s.fifo (ix - 0x4200)
    match sub with
    | 15 => some f.txHeld
    | 16 => some f.txCredit
    | 17 => some f.rx.length
    | 18 => some f.reserved
    | _ => none
  else if ix < 0x5300 then none
  else if ix < 0x5310 then
    let c := s.canCtl (ix - 0x5300)
    match sub with
    | 8 => some c.urgent.length
    | 9 => some c.normal.length
    | 10 => some c.schedule.length
    | 11 => some c.rx.length
    | _ => none
  else if ix < 0x5880 then none
  else if ix < 0x58A0 then
    let n := ix - 0x5880
    let c := s.chan n
    match sub with
    | 3 => some (s.actualBaudNow n)
    | 4 => some (s.baudErrorNow n)
    | 5 => some c.queue.length
    | 6 => some c.schedule.length
    | 7 => some c.rx.length
    | _ => none
  else if ix < 0x6300 then none
  else if ix < 0x6380 then (if 1 ≤ sub ∧ sub ≤ 64 then some (s.mapResultNow ((ix - 0x6300) * 64 + (sub - 1))) else none)
  else if ix < 0x70A0 then none
  else if ix < 0x70B8 then
    let u := ix - 0x70A0
    let c := s.obj (Obj.ctxSelect u)
    match sub with
    | 2 => some (s.ctxValueNow u c)
    | 3 => some (s.ckCtx u c).alive
    | 4 => some (ofBool (s.ckCtx u c).synced)
    | _ => none
  else if ix < 0x9000 then none
  else if ix < 0xA000 then
    match sub with
    | 3 => some (s.effGain (ix - 0x9000))
    | 4 => some (s.effOffset (ix - 0x9000))
    | _ => none
  else if isLakeIndex ix ∧ 1 ≤ sub then some (s.slotRead (lakePublisher ix) (lakeSlotNumber ix sub))
  else none

/-- What the scalar object at an index and subindex reads as. -/
def State.scalarNow (s : State) (r : Row) (ix sub : Nat) : Nat :=
  if isLakeIndex ix ∧ sub = 0 then r.dflt
  else match s.plainViews.lookup (ix * 256 + sub) with
    | some v => v
    | none => (s.blockView ix sub).getD (s.obj (ix * 256 + sub))

/-- Bytes objects that report the state of their blocks. -/
def State.bytesViews (s : State) : List (Nat × List Byte) :=
  [ (Obj.leqHead, s.leqHeadNow),
    (Obj.leqAll, s.acc.leq.flatMap lateErrorBytes),
    (Obj.sessionTable, s.sessionTableNow),
    (Obj.sampleBuffer, s.sw.samples.flatten),
    (Obj.vgWindow, s.vgWindowNow),
    (Obj.vgHead, s.vgHeadNow),
    (Obj.openFaults, s.openFaultsNow) ]

/-- What an OCTETS, VSTRING or DOMAIN object reads as. -/
def State.bytesNow (s : State) (k : Nat) : List Byte := (s.bytesViews.lookup k).getD (s.blob k)

/-- The bytes that a read of an object returns (R28). -/
def State.valueNow (s : State) (r : Row) (ix sub : Nat) : List Byte :=
  if tyIsBytes r.ty then s.bytesNow (ix * 256 + sub) else leBytes (tySize r.ty) (s.scalarNow r ix sub)

/-- The staged value of an object, held writes first (R28, R38). -/
def State.stagedOf (s : State) (k : Nat) : Option (List Byte) :=
  match s.dict.held.lookup k with
  | some b => some b
  | none => s.dict.staged.lookup k

/-- A read of an object: the reads that remove what they return, the staged view, or the value (R28, R273, R301, R314). -/
def State.readObject (s : State) (r : Row) (ix sub : Nat) (stagedView : Bool) : State × List Byte :=
  if 0x4200 ≤ ix ∧ ix < 0x4240 ∧ sub = 20 then
    let (t, v) := s.txPollRead (ix - 0x4200)
    (t, leBytes 8 v)
  else if 0x5300 ≤ ix ∧ ix < 0x5310 ∧ sub = 12 then s.canRxRead (ix - 0x5300)
  else if 0x5880 ≤ ix ∧ ix < 0x58A0 ∧ sub = 8 then s.uartRxRead (ix - 0x5880)
  else
    let v := s.valueNow r ix sub
    (s, if stagedView ∧ r.acc = .rws then (s.stagedOf (ix * 256 + sub)).getD v else v)

/-! ## Values (R26, R470 step 9) -/

/-- One byte of a UTF-8 text: continuation bytes to come and the bounds of the next; none after a fault. -/
def utf8Step (st : Option (Nat × Nat × Nat)) (x : Byte) : Option (Nat × Nat × Nat) :=
  let b := x.toNat
  match st with
  | none => none
  | some (n + 1, lo, hi) => if lo ≤ b ∧ b ≤ hi then some (n, 0x80, 0xBF) else none
  | some (0, _, _) =>
    if b < 0x80 then some (0, 0, 0)
    else if 0xC2 ≤ b ∧ b ≤ 0xDF then some (1, 0x80, 0xBF)
    else if b = 0xE0 then some (2, 0xA0, 0xBF)
    else if b = 0xED then some (2, 0x80, 0x9F)
    else if 0xE1 ≤ b ∧ b ≤ 0xEF then some (2, 0x80, 0xBF)
    else if b = 0xF0 then some (3, 0x90, 0xBF)
    else if 0xF1 ≤ b ∧ b ≤ 0xF3 then some (3, 0x80, 0xBF)
    else if b = 0xF4 then some (3, 0x80, 0x8F)
    else none

/-- Whether bytes are valid UTF-8. -/
def utf8Good (l : List Byte) : Bool := (l.foldl utf8Step (some (0, 0, 0))).any (fun st => st.1 == 0)

/-- Whether an F32 lies within ±5 % of the full scale of a measurement item (R45, log entry 30). -/
def withinFullScale (k w : Nat) : Bool :=
  let (_, m, e) := f32Parts w
  m * 2 ^ e * 20 ≤ Config.fullScale k * 2 ^ 149

/-- Written data with the object's reserved bits ignored (R5). -/
def maskedData (r : Row) (data : List Byte) : List Byte :=
  if r.mask = 0 ∨ tyIsBytes r.ty then data else leBytes (tySize r.ty) (leVal data &&& r.mask)

/-- Whether a value of the right length, its reserved bits cleared, is one that its type and its object's stated range allow. -/
def valueGood (r : Row) (ix sub : Nat) (data : List Byte) : Bool :=
  let v := leVal data
  match r.ty with
  | .bool => v ≤ 1
  | .vstring _ => utf8Good data
  | .octets _ =>
    if 0x2600 ≤ ix ∧ ix < 0x2604 then leVal (data.take 1) % 2 == 0
    else if 0x4100 ≤ ix ∧ ix < 0x4140 ∧ sub = 2 then
      (List.range 8).all (fun p => leAt data (2 * p) 2 < 320 || leAt data (2 * p) 2 == 0xFFFF)
    else if 0x6190 ≤ ix ∧ ix < 0x61B0 ∧ sub = 3 then 0x010CCD010000 ≤ beVal data && beVal data ≤ 0x010CCD0101FF
    else true
  | .domain _ _ _ => true
  | t =>
    !(t == .f32 && f32Special v) &&
    (r.range == [] || r.range.any (fun i => i.1 ≤ v && v ≤ i.2)) &&
    !(0x9440 ≤ ix && ix < 0x9444 && sub == 2 && !withinFullScale (ix - 0x9000) v) &&
    !(0x3000 ≤ ix && ix < 0x3140 && sub == 18 && v % 16 ≠ 0) &&
    !(0x6190 ≤ ix && ix < 0x61B0 && sub == 5 && bit v 12) &&
    !(ix == 0x6000 && sub == 9 && data.any (fun b => 32 ≤ b.toNat && b ≠ 0xFF))

/-- The status that the length of written data earns, if any (R27). -/
def lengthRefusal (r : Row) (n : Nat) : Option Nat :=
  match r.ty with
  | .vstring m => if m < n then some stTypeMismatch else none
  | .domain _ _ _ => some stTypeMismatch
  | t => if n = tySize t then none else some stTypeMismatch

end Sys2Proof.Machine
end

