-- ==== Sys2Proof/Machine/Staging.lean ====
section
/-! DEFINITION. The staging area: validation against the configuration as it will stand, the commit at an epoch boundary with what it
changes in each block, and the configuration store (R35 to R42). -/
namespace Sys2Proof.Machine

/-! ## The configuration as it will stand -/

/-- A scalar object as it will stand after the commit of a set. -/
def State.cfgWith (s : State) (set : List (Nat × List Byte)) (k : Nat) : Nat :=
  match set.lookup k with | some b => leVal b | none => s.obj k

/-- A bytes object as it will stand after the commit of a set. -/
def State.bytesWith (s : State) (set : List (Nat × List Byte)) (k : Nat) : List Byte := (set.lookup k).getD (s.blob k)

/-- A check of validation: `OUT_OF_RANGE` where it fails. -/
def needs (b : Bool) : Option Nat := if b then none else some stOutOfRange

/-! ## The checks of validation -/

/-- The ring and lake parameters: EPOCH_PHASE below E, APPLY_DELAY at most 16 × E. -/
def epochGood (cfg : Nat → Nat) : Bool :=
  cfg Obj.epochPhase < cfg Obj.epochLength * us && cfg Obj.applyDelay ≤ 16 * cfg Obj.epochLength

/-- The capacity of the lake store, with the ring's parameters in use and with the node's own (R134). -/
def State.storeFits (s : State) (cfg : Nat → Nat) : Bool :=
  let n := storedCount cfg s.ownId
  lakeFits n (s.obj Obj.ringEpoch) (s.obj Obj.ringApply) && lakeFits n (cfg Obj.epochLength) (cfg Obj.applyDelay)

/-- The limits of the switch (R153). -/
def limitsGood (cfg : Nat → Nat) : Bool :=
  let ins := (List.range 16).flatMap (fun p => (List.range 4).map (fun c => cfg (Obj.inLimit p c)))
  let outs := (List.range 16).flatMap (fun p => (List.range 4).map (fun c => cfg (Obj.outLimit p c)))
  sumOf ins + cfg Obj.mirrorLimit + cfg Obj.sampleLimit ≤ 98304 &&
  (ins ++ outs).all (fun v => (v == 0 || 9 ≤ v) && v ≤ 98304) &&
  [0, 1].all (fun p => cfg (Obj.inLimit p 0) ≠ 0 && [1, 2, 3].all (fun c => 9 ≤ cfg (Obj.inLimit p c)))

/-- An entry of the flow table (R160, R161, R5). -/
def flowEntryGood (w : Nat) : Bool :=
  let outs := bits w 47 32
  bits w 253 240 == 0 && bits w 25 24 == 0 && bits w 15 0 == 0 && bits w 23 16 ≤ 64 &&
  (match bits w 255 254 with
   | 0 => true
   | 1 => outs &&& 0xC7C == outs
   | 2 => outs == 0 && !bit w 29 && !bit w 26
   | _ => false)

/-- A port pair with redundancy has both ports enabled and neither is the tap's (R163, R176). -/
def pairsGood (cfg : Nat → Nat) : Bool :=
  [0, 1].all (fun q => cfg (Obj.redMode q) == 0 ||
    [2 * q, 2 * q + 1].all (fun e => cfg (Obj.ethMode e) ≠ 0 && cfg Obj.tapDest ≠ e + 1))

/-- A cell's own settings (R218, R221, R237). -/
def cellGood (cfg : Nat → Nat) (n : Nat) : Bool :=
  (cfg (Obj.cellMode n) == 0 || cfg (Obj.bankVolt (n / 40)) ≠ 0) &&
  !(cfg (Obj.cellFilter n) == 1 && cfg (Obj.glitchNs n) == 0) && !(cfg (Obj.cellFilter n) == 2 && cfg (Obj.debounceUs n) == 0) &&
  !(bit (cfg (Obj.cellReaders n)) 1 && 63 < cfg (Obj.cellOwner n))

/-- SOE_SIZE against the installed DRAM (R236). -/
def State.soeGood (s : State) (size : Nat) : Bool :=
  size == 0 || (s.obj Obj.dramSize ≠ 0 && 2 * size ≤ s.obj Obj.dramSize && size ≤ 4096)

/-- Every engine's program and pin map: the first status of those that fail (R242 to R249). -/
def State.programRefusal (s : State) (set : List (Nat × List Byte)) (engines : List Nat) : Option Nat :=
  engines.findSome? (fun n =>
    programStatus (s.cfgWith set) n (s.bytesWith set (Obj.engProgram n)) (s.bytesWith set (Obj.pinMap n)))

/-- The destination of an engine's frames (R272): for this node's own DRAM, the staging region bounds it (R22, R24). -/
def State.txDestGood (s : State) (cfg : Nat → Nat) (n : Nat) : Bool :=
  let dest := cfg (Obj.txDest n)
  let cls := cfg (Obj.txClass n)
  let mode := cfg (Obj.txAddrMode n)
  let span := cfg (Obj.txSpan n)
  let space := addrSpace dest
  let off := addrOffset dest
  let last := off + (if mode = 1 then span - 4 else 0) + 2048
  cls ≠ 1 &&
  (if cls = 0 then mode ≠ 1 && space == 0 && off < 2 ^ 24 && acceptsEvents (off / 256) (off % 256)
   else
    !(mode == 1 && (space == 4 || span == 0 || span % 4 ≠ 0)) &&
    (match space with
     | 2 => last ≤ 2 ^ 32
     | 3 => last ≤ 2 ^ 34 && (!(addrNode dest == 0 || addrNode dest == s.ownId) ||
              (0x18400000 + cfg Obj.soeSize * 2 ^ 20 ≤ off && last ≤ s.dramSize))
     | 4 => off < 2 ^ 14 && off % 256 == 0
     | _ => false))

/-- A watermark pair (R278). -/
def pairGood (hwm lwm : Nat) : Bool := hwm == 0 || (hwm ≤ 1024 && lwm < hwm)

/-- The flow-control cells of every engine (R279). -/
def State.fcGood (s : State) (set : List (Nat × List Byte)) : Bool :=
  let cfg := s.cfgWith set
  let used := (List.range 64).flatMap (fun n => ([cfg (Obj.txFcCell n), cfg (Obj.rxFcCell n)].filter (· ≠ 0xFFFF)).map (fun c => (n, c)))
  used.all (fun x => x.2 < 320 && cfg (Obj.cellMode x.2) == 2 && cfg (Obj.cellOwner x.2) == x.1 &&
    (List.range 8).all (fun p => pinOf (s.bytesWith set (Obj.pinMap x.1)) p ≠ x.2)) &&
  (used.map (·.2)).Nodup

/-- The tables of the signal map (R346). -/
def State.mapStatus (s : State) (set : List (Nat × List Byte)) : Option Nat :=
  mapRefusal (s.cfgWith set) (fun p => s.bytesWith set (Obj.pubGroups p)) (s.bytesWith set Obj.mapTable) (s.bytesWith set Obj.obTable)
    (s.bytesWith set Obj.hibTable)

/-- The stream tables of every check-value unit (R350, R354). -/
def State.streamsGood (s : State) (set : List (Nat × List Byte)) : Bool :=
  let obs := recordsOf 16 (s.bytesWith set Obj.obTable)
  let size (b : Nat) : Nat := (obs[b]?.map obSize).getD 0
  (List.range 24).all (fun u =>
    let b := s.bytesWith set (Obj.streams u)
    b.length % 16 == 0 && (streamEntries b).all (streamEntryGood (ceilDiv (s.cfgWith set (Obj.ckWidth u)) 8) size)) &&
  streamsApart ((List.range 24).flatMap (fun u => streamEntries (s.bytesWith set (Obj.streams u))))

/-- The parameters of a check-value unit (R350). -/
def ckGood (cfg : Nat → Nat) (u : Nat) : Bool :=
  CkParams.good { width := cfg (Obj.ckWidth u), poly := cfg (Obj.ckPoly u), init := cfg (Obj.ckInit u), xorout := cfg (Obj.ckXorout u),
                  refin := false, refout := false }

/-- The power entry's settings (R388, R403). -/
def peGood (cfg : Nat → Nat) : Bool :=
  let inrush := cfg Obj.busCapUf * cfg Obj.rampRate / 1000
  let limit := cfg Obj.ilim * 100000 / cfg Obj.senseUohm
  cfg Obj.uvMv + cfg Obj.uvHystMv ≤ cfg Obj.warnMv && cfg Obj.warnMv + cfg Obj.ovHystMv < cfg Obj.ovMv &&
  cfg Obj.busUvMv ≤ cfg Obj.uvMv && !(cfg Obj.prioFeed == 2 && cfg Obj.combine == 2) &&
  2 * inrush ≤ limit && cfg Obj.ovMv ≤ cfg Obj.rampLimit * cfg Obj.rampRate

/-- The status that validation gives one staged object of a set, none where it passes: its own block's rules, and those of the blocks
that depend on it (R36). -/
def State.stagedRefusal (s : State) (set : List (Nat × List Byte)) (k : Nat) : Option Nat :=
  let ix := k / 256
  let sub := k % 256
  let cfg := s.cfgWith set
  let bytes := s.bytesWith set
  if ix = 0x2200 then needs (epochGood cfg && s.storeFits cfg)
  else if ix = 0x2210 ∨ ix = 0x2240 then needs (s.storeFits cfg)
  else if 0x2220 ≤ ix ∧ ix < 0x2240 then needs (pubSourceGood (cfg k))
  else if 0x2241 ≤ ix ∧ ix < 0x2250 then needs (subEntryGood (cfg k) && s.storeFits cfg)
  else if (ix = 0x2400 ∧ 8 ≤ sub) ∨ (0x2410 ≤ ix ∧ ix < 0x2420) then needs (limitsGood cfg)
  else if ix = 0x2430 then needs ((bytes k).length % 32 == 0 && (recordsOf 32 (bytes k)).all flowEntryGood)
  else if (ix = 0x2460 ∧ sub = 1) ∨ (0x2600 ≤ ix ∧ ix < 0x2612 ∧ sub = 1) then needs (pairsGood cfg)
  else if 0x3000 ≤ ix ∧ ix < 0x3140 then
    (if sub ≤ 2 ∨ sub = 9 then
       (match needs (cellGood cfg (ix - 0x3000) && s.fcGood set) with
        | some st => some st
        | none => match s.programRefusal set (List.range 64) with
          | some st => some st
          | none => s.mapStatus set)
     else needs (cellGood cfg (ix - 0x3000)))
  else if 0x3200 ≤ ix ∧ ix < 0x3208 then needs ((bankCells (ix - 0x3200)).all (cellGood cfg))
  else if ix = 0x3210 then needs (s.soeGood (cfg Obj.soeSize))
  else if (0x4100 ≤ ix ∧ ix < 0x4140 ∧ sub = 2) ∨ (0x4400 ≤ ix ∧ ix < 0x4440) then
    (match s.programRefusal set [ix % 0x40] with
     | some st => some st
     | none => needs (s.fcGood set))
  else if 0x4200 ≤ ix ∧ ix < 0x4240 then
    let n := ix - 0x4200
    (if sub ≤ 5 then needs (cfg (Obj.txClass n) ≠ 1 && s.txDestGood cfg n)
     else if sub ≤ 11 then needs (pairGood (cfg (Obj.txHwm n)) (cfg (Obj.txLwm n)) && pairGood (cfg (Obj.rxHwm n)) (cfg (Obj.rxLwm n)))
     else needs (s.fcGood set))
  else if 0x5100 ≤ ix ∧ ix < 0x5110 then needs (canTimingGood cfg (ix - 0x5100))
  else if 0x5200 ≤ ix ∧ ix < 0x5210 then needs (filtersGood (bytes k))
  else if 0x5800 ≤ ix ∧ ix < 0x5820 then needs (uartGood cfg (ix - 0x5800))
  else if ix = 0x6000 ∧ sub = 2 then needs (cfg k % 0x2000 == 0 && cfg k < 0x100000)
  else if ix = 0x6000 ∧ 11 ≤ sub then needs (1 ≤ addrSpace (cfg k) && addrSpace (cfg k) ≤ 4)
  else if 0x6190 ≤ ix ∧ ix < 0x61B0 then
    let p := ix - 0x6190
    (if sub = 10 ∨ sub = 11 then needs (cfg (Obj.minTime p) ≤ cfg (Obj.maxTime p))
     else if sub = 12 then (match needs (groupsGood (bytes k)) with | some st => some st | none => s.mapStatus set)
     else none)
  else if ix = 0x6201 then (match s.mapStatus set with | some st => some st | none => needs (s.streamsGood set))
  else if ix = 0x6200 ∨ ix = 0x6202 then s.mapStatus set
  else if 0x7010 ≤ ix ∧ ix < 0x7028 then needs (ckGood cfg (ix - 0x7010) && s.streamsGood set)
  else if 0x7040 ≤ ix ∧ ix < 0x7058 then needs (s.streamsGood set)
  else if ix = 0x7800 then needs (peGood cfg)
  else none

/-- The first staged object, in staging order, that validation refuses, with its status. -/
def State.firstFailing (s : State) (set : List (Nat × List Byte)) : Option (Nat × Nat) :=
  set.findSome? (fun e => (s.stagedRefusal set e.1).map (fun st => (e.1, st)))

/-- STAGE_FAIL_OBJECT and STAGE_FAIL_STATUS report a failure. -/
def State.reportStaged (s : State) (f : Nat × Nat) : State := (s.put Obj.stageFailObject f.1).put Obj.stageFailStatus f.2

/-! ## Staged writes and the staging commands (R35, R36, R38) -/

/-- An entry of a set is replaced, or added at its end. -/
def stageInto (l : List (Nat × List Byte)) (k : Nat) (b : List Byte) : List (Nat × List Byte) :=
  if l.any (fun e => e.1 == k) then l.map (fun e => if e.1 = k then (k, b) else e) else l ++ [(k, b)]

/-- Engine of a mordant-point object: its program, or its pin map. -/
def mordantEngine (k : Nat) : Option Nat :=
  let ix := k / 256
  if 0x4400 ≤ ix ∧ ix < 0x4440 then some (ix - 0x4400)
  else if 0x4100 ≤ ix ∧ ix < 0x4140 ∧ k % 256 = 2 then some (ix - 0x4100)
  else none

/-- SWAP_STATE of the engines whose mordant-point objects stand in a list. -/
def State.swapStates (s : State) (l : List (Nat × List Byte)) (v : Nat) : State :=
  forEach (l.filterMap (fun e => mordantEngine e.1)) (fun t n => t.put (Obj.swapState n) v) s

/-- A write is staged (R35), or held for the next commit while one is validated or applied (R38): `STAGED`, or `RETRY` when 2,048
objects are held. -/
def State.stage (s : State) (k : Nat) (b : List Byte) : State × Nat :=
  let st := s.obj Obj.stageState
  let busy := st == 2 || st == 3
  let l := if busy then s.dict.held else s.dict.staged
  if !l.any (fun e => e.1 == k) ∧ 2048 ≤ s.stageCountNow then (s, stRetry)
  else
    let l := stageInto l k b
    let t := if busy then { s with dict := { s.dict with held := l } } else { s with dict := { s.dict with staged := l } }
    let t := if busy then t else t.put Obj.stageState 1
    (if (mordantEngine k).any (fun n => t.swapArmed n) then t else t.swapStates [(k, b)] 1, stStaged)

/-- The held writes become the staging area. -/
def State.nextStage (s : State) : State := { s with dict := { s.dict with staged := s.dict.held, held := [] } }

/-- A validated set has been applied whole: COMMIT_FAIL clears (R57). -/
def State.finishCommit (s : State) : State :=
  let st := if s.dict.held = [] then 0 else 1
  ((s.nextStage.put Obj.stageState st).setFlag Obj.faultSummary fsCommitFail false)

/-- A commit has failed (R37): COMMIT_FAIL, and HELD for a node that serves. -/
def State.failCommit (s : State) : State :=
  let t := (s.nextStage.put Obj.stageState 4).setFlag Obj.faultSummary fsCommitFail true
  if t.serving then t.enter stHeld 0x03 else t

/-- STAGE_CMD 1 (R36). -/
def State.stageValidate (s : State) : State × Nat :=
  let st := s.obj Obj.stageState
  if st = 2 ∨ st = 3 then (s, stRetry)
  else if s.dict.staged = [] then (s.setFlag Obj.faultSummary fsCommitFail false, stDone)
  else match s.firstFailing s.dict.staged with
    | some f => (s.reportStaged f, stOutOfRange)
    | none =>
      let t := (s.reportStaged (0, 0)).put Obj.stageState 2
      ({ t with dict := { t.dict with commitAt := max (s.obj Obj.commitAt) (s.now + 1) } }, stDone)

/-- STAGE_CMD 2 (R38). STAGE_STATE 4 stays until the next staged write (R39). -/
def State.stageDiscard (s : State) : State × Nat :=
  if s.obj Obj.stageState = 3 then (s, stRetry)
  else
    let t := s.swapStates (s.dict.staged ++ s.dict.held) 0
    let t := { t with dict := { t.dict with staged := [], held := [], commitAt := 0 } }
    (t.put Obj.stageState (if s.obj Obj.stageState = 4 then 4 else 0), stDone)

/-- STAGE_CMD 3 (R38). -/
def State.stageWithdraw (s : State) : State × Nat :=
  match s.obj Obj.stageState with
  | 3 => (s, stRetry)
  | 2 =>
    let l := s.dict.held.foldl (fun l e => stageInto l e.1 e.2) s.dict.staged
    let t := { s with dict := { s.dict with staged := l, held := [], commitAt := 0 } }
    (t.put Obj.stageState 1, stDone)
  | _ => (s, stDone)

/-! ## The commit (R36, R37) -/

/-- One object takes its staged value. -/
def State.applyOne (s : State) (e : Nat × List Byte) : State :=
  match rowOf e.1 with
  | none => s
  | some r =>
    match r.ty with
    | .domain _ _ _ => (s.putBlob e.1 e.2).newGeneration (e.1 / 256)
    | .octets _ => s.putBlob e.1 e.2
    | .vstring _ => s.putBlob e.1 e.2
    | _ => s.put e.1 (leVal e.2)

/-- What the commit of changed objects of one index makes its block do; `subs` are the subindices that changed. -/
def State.blockCommitted (s old : State) (ix : Nat) (subs : List Nat) : State :=
  if ix = 0x2000 then
    (if s.hotB = old.hotB then s else if s.hotB then s.heatB else if s.wrapActive ∨ s.ring.prove.isSome then s else s.coolB false)
  else if ix = 0x2101 ∧ (subs.contains 2 ∨ subs.contains 3) then s.sourceLost.selectGm
  else if 0x2110 ≤ ix ∧ ix < 0x2114 then s.ptpPortChanged (ix - 0x2110)
  else if ix = 0x2200 then
    (if s.isGm then s.announceParams
     else if s.tb.paramsSeen then s
     else { s with tb := { s.tb with paramsWaiting := some { epoch := s.obj Obj.epochLength, apply := s.obj Obj.applyDelay,
                                                              phase := s.obj Obj.epochPhase } } })
  else if 0x3000 ≤ ix ∧ ix < 0x3140 then
    s.cellCommitted old (ix - 0x3000) subs
  else if 0x3200 ≤ ix ∧ ix < 0x3208 ∧ subs.contains 1 then s.bankChanged (ix - 0x3200)
  else if ix = 0x3210 ∧ subs.contains 1 then forEach (s.fc.cells.map (·.1)) State.dropReaders s.soeReset
  else if 0x4200 ≤ ix ∧ ix < 0x4240 ∧ subs.any (fun q => 8 ≤ q) then s.fifoChanged (ix - 0x4200) subs
  else if 0x5100 ≤ ix ∧ ix < 0x5110 ∧ subs.any (fun q => q ≤ 13) then s.canLocalReset (ix - 0x5100)
  else if 0x5800 ≤ ix ∧ ix < 0x5820 ∧ subs.any (fun q => q ≤ 6 || q == 13) then s.uartLocalReset (ix - 0x5800)
  else if 0x5800 ≤ ix ∧ ix < 0x5820 then s.uartCommitted old (ix - 0x5800)
  else if 0x6110 ≤ ix ∧ ix < 0x6190 then s.subConfigured (ix - 0x6110)
  else if 0x7010 ≤ ix ∧ ix < 0x7028 then s.ckClearContexts (ix - 0x7010)
  else if 0x7040 ≤ ix ∧ ix < 0x7058 then
    let u := ix - 0x7040
    forEach ((List.range 64).filter (fun i => s.streamEntry u i ≠ old.streamEntry u i)) (fun t i => t.ckClearContext u i) s
  else if ix = 0x7800 then s.writePeCopy
  else s

/-- Every object of a set but those of mordant points takes its value, and the blocks follow the changes (R36). -/
def State.applySet (s : State) (set : List (Nat × List Byte)) : State :=
  let t := forEach set State.applyOne s
  let changed := (set.map (·.1)).filter (fun k => t.obj k ≠ s.obj k || t.blob k ≠ s.blob k)
  let t := forEach ((changed.map (· / 256)).eraseDups)
    (fun t ix => t.blockCommitted s ix ((changed.filter (fun k => k / 256 == ix)).map (· % 256))) t
  if changed.any (fun k => k == Obj.mapTable || k == Obj.obTable || k == Obj.tconstBuf) then
    t.mapChanged (s.blob Obj.mapTable) (s.blob Obj.obTable)
  else t

/-- COMMIT_APPLY: the boundary of a validated set has come (R36, R37). -/
def commitApply (s : State) : State :=
  if s.obj Obj.stageState ≠ 2 then s
  else
    let s := (s.waitUntil (s.sampleFrom s.dict.commitAt)).shiftersNow
    let set := s.dict.staged
    match s.firstFailing set with
    | some f => ((s.swapStates set 0).reportStaged f).failCommit
    | none =>
      let mordant := set.filter (fun e => (mordantEngine e.1).isSome)
      let t := { s with dict := { s.dict with staged := [], commitAt := 0, waiting := mordant,
                                              waitEpochs := s.epochAt s.now + s.obj Obj.commitTimeout } }
      let t := (((t.put Obj.stageState 3).applySet (set.filter (fun e => (mordantEngine e.1).isNone))).fcFollowAll).swapStates mordant 2
      if mordant = [] then t.finishCommit else t

/-- COMMIT_TIMEOUT: a mordant-point object has not been applied in time (R37). -/
def commitTimeout (s : State) : State :=
  if s.obj Obj.stageState ≠ 3 then s
  else
    let s := s.waitUntil (s.sampleOf s.dict.waitEpochs)
    let t := s.swapStates s.dict.waiting 0
    { t with dict := { t.dict with waiting := [] } }.failCommit

/-! ## The configuration store (R40, R42) -/

/-- Every class-P object's active value (R40). -/
def State.configCopy (s : State) : StoreCopy :=
  { format := s.obj Obj.configFormat, time := s.now, scalars := s.objs.filter (fun e => keptAs .p e.1),
    blobs := s.blobs.filter (fun e => keptAs .p e.1) }

/-- STORE_CMD 1: a snapshot is taken and its writing starts. -/
def State.storeStart (s : State) : State × Nat :=
  if s.obj Obj.storeState = 1 then (s, stRetry)
  else ({ s with dict := { s.dict with storing := some s.configCopy } }.put Obj.storeState 1, stDone)

/-- STORE_CMD 2: both copies are erased. -/
def State.storeErase (s : State) : State × Nat :=
  if s.obj Obj.storeState = 1 then (s, stRetry)
  else ({ s with dict := { s.dict with copy0 := none, copy1 := none } }.put Obj.storedFormat 0, stDone)

/-- STORE_COMPLETE: the read-back check of the copy that was written, the older of the two. -/
def storeComplete (s : State) (good : Bool) : State :=
  match s.dict.storing with
  | none => s
  | some c =>
    let older := 1 - s.dict.newer
    let kept := if good then some c else none
    let d := if older = 0 then { s.dict with copy0 := kept, storing := none } else { s.dict with copy1 := kept, storing := none }
    if good then
      let t := { s with dict := { d with newer := older } }
      let t := (((t.put Obj.storeState 2).bump Obj.storeCount).put Obj.storeTime c.time).put Obj.storedFormat c.format
      (t.put Obj.configValid 1).setFlag Obj.faultSummary fsFormatReset false
    else { s with dict := d }.put Obj.storeState 3

end Sys2Proof.Machine
end

