-- ==== Sys2Proof/Machine/Requests.lean ====
section
/-! DEFINITION. Object requests: the checks of R470 in their order, the DOMAIN rules of R49, what a write does, the responses, and the four
access paths (R47 to R54). -/
namespace Sys2Proof.Machine

/-! ## Responses (R48, R50 to R54) -/

/-- The response body goes out on the access path of its request. A ring response echoes the session of a write (R177). -/
def State.respond (s : State) (who : Requester) (r : ObjResp) (work : Option WorkRef) : State :=
  let t := s.emit (.response who r)
  match who with
  | .ring src c =>
    let inc := match work with
      | some w => w.inc
      | none => ((s.inSession src true).map (·.incarnation)).getD 0
    let write := r.opcode % 128 ≠ 1 && r.opcode % 128 ≠ 3
    t.offerRing portMp { cls := 2, type := tyObjectResp, src := s.ownId, dst := src, commander := c, tag := r.tag,
                         session := if write then sessionField true inc else 0, payload := respBytes r }
  | .mailbox => { t with dict := { t.dict with mbWaiting := some r } }
  | .kedogil a p =>
    let kept := lastN 64 (t.dict.kept ++ [{ address := a, tag := r.tag, resp := r }])
    ({ t with dict := { t.dict with kept := kept } } : State).emit (.datagram a p ([0x4B, 0x44, 1, 0] ++ respBytes r))
  | .farif => if s.farifUp then t.emit (.farif (farifBytes 0x81 (respBytes r))) else t

/-- What becomes of a request: its status, response flags and data; or it was passed on to another node. -/
inductive Answer where
  | now (status : Nat) (flags : Nat) (data : List Byte)
  | passed
  deriving DecidableEq, Repr

/-- A request that completes with a status alone. -/
def justStatus (x : State × Nat) : State × Answer := (x.1, .now x.2 0 [])

/-! ## Forwarding (R50) -/

def isWriteOp (op : Nat) : Bool := op == 2 || op == 4 || op == 5

/-- A request is passed on to another node over the ring: a write as accepted work, a read outside sessions (R50, R51). COMMANDER goes into
the 4 bits of the frame header modulo 16 (DESIGN CHOICE, log entry 136). -/
def State.passOn (s : State) (who : Requester) (r : ObjReq) (target : Nat) (work : Option WorkRef) : State × Answer :=
  if s.node = stLoading then (s, .now stHeldStatus 0 [])
  else if 96 < target then (s, .now stOutOfRange 0 [])
  else if !s.reaches target then (s, .now stPathDown 0 [])
  else
    let f : Frame := { cls := 2, type := tyObjectReq, src := s.ownId, dst := target, commander := r.commander % 16, tag := r.tag,
                       address := objAddr target r.index r.sub, payload := reqBytes { r with target := 0 } }
    let t := if isWriteOp r.opcode then s.issue f (.object who r.tag) else s.offerRing portMp f
    let o : Outstanding := { tag := r.tag, isRead := !isWriteOp r.opcode, who := who, req := { r with target := target },
                             deadline := s.now + s.obj Obj.remoteTimeout * ms, work := work }
    ({ t with dict := { t.dict with outstanding := t.dict.outstanding ++ [o] } }, .passed)

/-- A request that was passed on has its response: it is relayed, and the work it came as ends. -/
def State.relay (s : State) (o : Outstanding) (r : ObjResp) : State :=
  let t := { s with dict := { s.dict with outstanding := s.dict.outstanding.erase o } }
  (t.respond o.who r o.work).finishRef o.work r.status

/-- OBJECT_RESP_RX: a response of another node; one without an outstanding request is counted (R50, R70). -/
def objectRespRx (s : State) (f : Frame) : State :=
  let s := s.takeFrame f
  match s.dict.outstanding.find? (fun o => o.tag == f.tag && o.req.target == f.src) with
  | some o => s.relay o (respOfBytes f.payload)
  | none => s.bump Obj.orphanResponses

/-- REMOTE_TIMEOUT: no response within REMOTE_TIMEOUT (R50). -/
def remoteTimeout (s : State) (tag : Nat) : State :=
  match s.dict.outstanding.find? (fun o => o.tag == tag) with
  | some o => (s.waitUntil o.deadline).relay o (respTo (s.waitUntil o.deadline) o.req stTimeout)
  | none => s

/-- READ_RESP_RX: the answer to a window READ; one that nothing waits for is counted (R70, R329). -/
def readRespRx (s : State) (f : Frame) : State :=
  let s := s.takeFrame f
  if s.bridge.pending.any (fun p => p.tag == f.tag && p.node == f.src && !p.cycle.write && p.arrived.isNone) then
    s.windowArrive f.tag f.status f.payload
  else s.bump Obj.orphanResponses

/-! ## The checks of R470 -/

/-- Step 1, the body form. `addressOk`: on the ring, INDEX and SUBINDEX agree with the frame's ADDRESS (R51). -/
def bodyRefusal (who : Requester) (r : ObjReq) (addressOk : Bool) : Option Nat :=
  let ring : Bool := match who with | .ring _ _ => true | _ => false
  let data := if r.opcode = 2 ∨ r.opcode = 4 then r.length else 0
  if r.opcode = 0 ∨ 5 < r.opcode ∨ 4 ≤ r.flags ∨ r.reserved ≠ 0 then some stOutOfRange
  else if 2 ≤ r.opcode ∧ r.opcode ≤ 4 ∧ 1024 < r.length then some stTypeMismatch
  else if who ≠ .mailbox ∧ r.data.length ≠ data then some stTypeMismatch
  else if ring ∧ (r.target ≠ 0 ∨ !addressOk) then some stOutOfRange
  else none

/-- Steps 3 and 4: the COMMANDER of a write, and the node state (R32, R33). -/
def State.stateRefusal (s : State) (r : ObjReq) : Option Nat :=
  let w := isWriteOp r.opcode
  if w ∧ 8 < r.commander then some stOutOfRange
  else if w ∧ (s.node = stLoading ∨ s.node = stRecovery) then some stHeldStatus
  else if s.node = stRecovery ∧ !(0x1000 ≤ r.index ∧ r.index ≤ 0x10FF ∨ r.index = 0x1100 ∨ r.index = 0x1103) then some stNoObject
  else none

/-- Objects whose write drives an output stage (R33). -/
def State.isOutputCommand (s : State) (ix sub : Nat) : Bool :=
  (0x3000 ≤ ix && ix < 0x3140 && (sub == 20 || sub == 21)) || (0x5100 ≤ ix && ix < 0x5110 && (sub == 20 || sub == 21)) ||
  (0x5800 ≤ ix && ix < 0x5820 && (sub == 22 || sub == 23)) ||
  (isLakeIndex ix && 1 ≤ sub && lakePublisher ix == s.ownId && s.isLoutSlot (lakeSlotNumber ix sub))

/-- Step 6, for writes: output commands in HELD, the release of HELD_ORDER, and the highest live claim (R33). -/
def State.claimRefusal (s : State) (r : ObjReq) : Option Nat :=
  let holds : Bool := r.commander ≠ 0 && r.commander == s.holderNow
  if !isWriteOp r.opcode then none
  else if s.isOutputCommand r.index r.sub ∧ (!s.serving ∨ s.paused ∨ (s.holding ∧ r.index < 0x3140)) then some stHeldStatus
  else if s.node = stHeld ∧ r.index = 0x1107 ∧ leVal r.data = 0 ∧ !holds then some stClaimLost
  else if s.serving ∧ !(0xF000 ≤ r.index ∧ r.index ≤ 0xF0FF) ∧ !holds then some stClaimLost
  else none

/-- Step 7, the access code (R28). -/
def codeRefusal (a : Acc) (write : Bool) : Option Nat :=
  match a with
  | .const | .ro => if write then some stReadOnly else none
  | .wo => if write then none else some stWriteOnly
  | .rw | .rws => none

/-- Steps 8 and 9: type, length and value (R26, R27). -/
def formRefusal (row : Row) (r : ObjReq) : Option Nat :=
  let dom : Bool := match row.ty with | .domain _ _ _ => true | _ => false
  if dom = (decide (r.opcode ≤ 2)) then some stTypeMismatch
  else if r.opcode = 2 then
    match lengthRefusal row r.data.length with
    | some st => some st
    | none => if valueGood row r.index r.sub (maskedData row r.data) then none else some stOutOfRange
  else none

/-! ## DOMAIN transfers (R49) -/

/-- The open write session of a DOMAIN; one idle for 1 s is gone. -/
def State.writeSession (s : State) (ix : Nat) : Option WriteSession :=
  s.dict.sessions.find? (fun w => w.index == ix && s.now < w.last + sec)

/-- The session of a DOMAIN is replaced, or closed. -/
def State.setWriteSession (s : State) (ix : Nat) (w : Option WriteSession) : State :=
  { s with dict := { s.dict with sessions := s.dict.sessions.filter (fun x => x.index ≠ ix) ++ w.toList } }

/-- One segment joins the bytes received before it (R27, R49). -/
def State.takeSegment (s : State) (who : Requester) (r : ObjReq) (row : Row) (before : List Byte) : State × Nat :=
  let data := before ++ r.data
  match row.ty with
  | .domain max emptyOk _ =>
    if max < data.length then (s.setWriteSession r.index none, stTypeMismatch)
    else if !r.flags.testBit 1 then
      (s.setWriteSession r.index (some { index := r.index, who := who, data := data, last := s.now }), stDone)
    else if data = [] ∧ !emptyOk then (s.setWriteSession r.index none, stOutOfRange)
    else
      let (t, st) := s.stage (r.index * 256 + r.sub) data
      if st = stRetry then (s, stRetry) else (t.setWriteSession r.index none, st)
  | _ => (s, stTypeMismatch)

/-- SEG_WRITE. A program whose swap is armed takes no new one (R259). -/
def State.segWrite (s : State) (who : Requester) (r : ObjReq) (row : Row) : State × Nat :=
  let armed : Bool := 0x4400 ≤ r.index && r.index < 0x4440 && s.swapArmed (r.index - 0x4400)
  match s.writeSession r.index with
  | some w =>
    if w.who ≠ who then (s, stRetry)
    else if r.segOffset = 0 then (if armed then (s, stRetry) else s.takeSegment who r row [])
    else if r.segOffset ≠ w.data.length then (s.setWriteSession r.index none, stOutOfRange)
    else s.takeSegment who r row w.data
  | none =>
    if r.segOffset ≠ 0 then (s, stOutOfRange)
    else if armed then (s, stRetry)
    else s.takeSegment who r row []

/-- SEG_ABORT. -/
def State.segAbort (s : State) (who : Requester) (r : ObjReq) : State × Nat :=
  match s.writeSession r.index with
  | some w => if w.who ≠ who then (s, stRetry) else (s.setWriteSession r.index none, stDone)
  | none => (s, stDone)

/-- The generation of a DOMAIN: counted for those that are stored, and following the content of those that report the state of a
block. -/
def State.generationOf (s : State) (ix sub : Nat) : Nat :=
  if (s.bytesViews.lookup (ix * 256 + sub)).isSome then leVal (s.bytesNow (ix * 256 + sub) ++ [1])
  else sparseGet (fun _ => 0) s.dict.generations ix

/-- The latch of a requester for a DOMAIN is replaced, or dropped. -/
def State.setLatch (s : State) (who : Requester) (ix : Nat) (l : Option ReadLatch) : State :=
  { s with dict := { s.dict with latches := s.dict.latches.filter (fun x => !(x.index == ix && x.who == who)) ++ l.toList } }

/-- SEG_READ. -/
def State.segRead (s : State) (who : Requester) (r : ObjReq) (row : Row) : State × Answer :=
  let k := r.index * 256 + r.sub
  let g := s.generationOf r.index r.sub
  let content := if r.flags.testBit 0 ∧ row.acc = .rws then (s.stagedOf k).getD (s.bytesNow k) else s.bytesNow k
  let good : Bool := r.segOffset == 0 ||
    s.dict.latches.any (fun l => l.index == r.index && l.who == who && s.now < l.last + sec && l.generation == g)
  if !good then (s.setLatch who r.index none, .now stRetry 0 [])
  else
    let t := s.setLatch who r.index (some { index := r.index, who := who, generation := g, last := s.now })
    if content.length < r.segOffset then (t, .now stOutOfRange 0 [])
    else
      let data := (content.drop r.segOffset).take (if r.length = 0 then 1024 else r.length)
      (t, .now stDone (ofBool (content.length ≤ r.segOffset + data.length)) data)

/-- WRITE_SESSION_IDLE: a write session idle for 1 s is discarded. -/
def writeSessionIdle (s : State) (ix : Nat) : State :=
  match s.dict.sessions.find? (fun w => w.index == ix) with
  | some w => (s.waitUntil (w.last + sec)).setWriteSession ix none
  | none => s

/-- READ_LATCH_LAPSE: a latch lapses 1 s after its requester's last segment. -/
def readLatchLapse (s : State) (who : Requester) (ix : Nat) : State :=
  match s.dict.latches.find? (fun l => l.index == ix && l.who == who) with
  | some l => (s.waitUntil (l.last + sec)).setLatch who ix none
  | none => s

/-! ## Commands of single objects -/

/-- ID_ASSIGN (R77): over the host bus or the service link only, in HELD only. -/
def State.idAssign (s : State) (who : Requester) (v : Nat) : State × Nat :=
  if !(who = .mailbox ∨ who = .farif) then (s, stReadOnly)
  else if s.node ≠ stHeld then (s, stRetry)
  else
    let t := s.put Obj.nodeId v
    if t.ringState ≠ 0 ∨ t.upSegment ∨ t.downSegment then ((if t.ownId ≠ 0 then t.startUnweld (some v) false else t), stDone)
    else
      let t := (t.put Obj.effectiveId v).put Obj.idState (if v = 0 then idUnassigned else idInUse)
      let t := t.put Obj.coordinator v
      let t := { t with acc := { t.acc with members := [{ id := v, identity := t.identity }] } }
      (t.selectGm, stDone)

/-- PROVE_CMD (R93): passed to the coordinator at any other node. -/
def State.proveCommand (s : State) (who : Requester) (r : ObjReq) (work : Option WorkRef) : State × Answer :=
  if !s.ringWhole then (s, .now stRetry 0 [])
  else if s.isCoordinator then (s.startProve 1, .now stDone 0 [])
  else s.passOn who r (s.obj Obj.coordinator) work

/-- REVERT_CMD (R91): passed to U at any other node. -/
def State.revertCommand (s : State) (who : Requester) (r : ObjReq) (work : Option WorkRef) : State × Answer :=
  let u := s.obj Obj.wrapSegment / 256
  if s.obj Obj.wrapSegment = 0 then (s, .now stRetry 0 [])
  else match s.madeAsU with
    | some w => if s.segmentUp ∧ s.ring.revert.isNone then (s.startRevert w, .now stDone 0 []) else (s, .now stRetry 0 [])
    | none => if u = s.ownId then (s, .now stRetry 0 []) else s.passOn who r u work

/-- UNWELD_CMD (R208). -/
def State.unweldCommand (s : State) : State × Nat :=
  if s.wrapActive ∨ s.ringState = 3 ∨ s.ringState = 4 then (s, stRetry)
  else if s.acc.unweld.isSome ∨ s.ownId = 0 then (s, stDone)
  else (s.startUnweld none false, stDone)

/-- The subindices `lo` to `hi` of an index are set to 0. -/
def State.clearSubs (s : State) (ix lo hi : Nat) : State :=
  s.clearKeys ((List.range (hi + 1 - lo)).map (fun i => ix * 256 + lo + i))

/-- How late work is, in ns, where an action falls at `at256`. -/
def State.lateBy (s : State) (at256 : Nat) : Int :=
  if at256 < s.now256 then (ceilDiv (s.now256 - at256) 256 : Nat) else 0

/-- A command that names an instant is judged by the late-apply policy of the session it came on, if it came on one (R191). -/
def State.workLate (s : State) (work : Option WorkRef) (at256 : Nat) : State × Option Nat :=
  match work with
  | some ref => s.lateJudge ref.peer ref.cls2 (s.lateBy at256)
  | none => (s, none)

/-- An object write of OUT_CMD (R224 to R226). -/
def State.outCommand (s : State) (n : Nat) (b : List Byte) (commander : Nat) (work : Option WorkRef) : State × Nat :=
  match s.cellRefusal n b commander none with
  | some st => (s, st)
  | none =>
    let cancel : Bool := leAt b 9 1 == 5
    let (t, late) := if cancel then (s, none) else s.workLate work (s.ballInstant n (s.commandInstant b none))
    match late with
    | some st => (t, st)
    | none => let (u, st) := t.takeCommand n b commander .object none work.isSome
              (u, st.getD stRetry)

/-- A submission that a queue took, or had no room for. -/
def takenStatus (x : State × Taken) : State × Nat := (x.1, match x.2 with | .full => stRetry | _ => stDone)

/-- The judgement of a submission's TIME: 0 names no instant (R290). -/
def State.submitLate (s : State) (work : Option WorkRef) (b : List Byte) : State × Option Nat :=
  if recTime b = 0 then (s, none) else s.workLate work (recTime b * 256)

/-- An object write of TX_SUBMIT of a CAN controller or a UART channel (R290, R317). -/
def State.canWrite (s : State) (n : Nat) (b : List Byte) (commander : Nat) (work : Option WorkRef) : State × Nat :=
  match s.canRefusal n b commander none with
  | some st => (s, st)
  | none => match s.submitLate work b with
    | (t, some st) => (t, st)
    | (t, none) => takenStatus (t.canSubmit n b commander .object none)
def State.uartWrite (s : State) (n : Nat) (b : List Byte) (commander : Nat) (work : Option WorkRef) : State × Nat :=
  match s.uartRefusal n b commander none with
  | some st => (s, st)
  | none => match s.submitLate work b with
    | (t, some st) => (t, st)
    | (t, none) => takenStatus (t.uartSubmit n b commander .object none)

/-- Commands of the dictionary, the ring and the tracker. -/
def State.commandLow (s : State) (who : Requester) (r : ObjReq) (work : Option WorkRef) (v : Nat) : State × Answer :=
  let ix := r.index
  if ix = 0x1120 then
    justStatus (match v with | 1 => s.stageValidate | 2 => s.stageDiscard | 3 => s.stageWithdraw | _ => (s, stOutOfRange))
  else if ix = 0x1130 then justStatus (if v = 1 then s.storeStart else s.storeErase)
  else if ix = 0x1200 then justStatus (s.resetCommand v who r.commander)
  else if ix = 0x1210 then justStatus (s.powerCommand v)
  else if ix = 0x1300 then justStatus (s.fwCommand v)
  else if ix = 0x2002 then justStatus (s.idAssign who v)
  else if ix = 0x2011 then s.proveCommand who r work
  else if ix = 0x2012 then s.revertCommand who r work
  else if 0x2020 ≤ ix ∧ ix < 0x2022 then justStatus (s.clearSubs ix 1 14, stDone)
  else if ix = 0x2250 then justStatus (s.lakeClearNow, stDone)
  else if ix = 0x2440 then justStatus (s.clearSubs ix 1 64, stDone)
  else if 0x2480 ≤ ix ∧ ix < 0x2490 then justStatus (s.clearSubs ix 1 23, stDone)
  else if 0x2640 ≤ ix ∧ ix < 0x2644 then justStatus (s.clearSubs ix 1 7, stDone)
  else if 0x2618 ≤ ix ∧ ix < 0x261A then justStatus (s.clearSubs ix 1 5, stDone)
  else if ix = 0x2800 then justStatus (s.clearSubs ix 2 4, stDone)
  else if ix = 0x2880 then justStatus (s.popLateError, stDone)
  else if ix = 0x28C0 then justStatus s.unweldCommand
  else if ix = 0x28D0 then justStatus (s.clearSubs ix 1 9, stDone)
  else (s, .now stInternal 0 [])

/-- Commands of the field cells, engines, CAN controllers and UART channels. -/
def State.commandMid (s : State) (r : ObjReq) (work : Option WorkRef) (v : Nat) : State × Nat :=
  let ix := r.index
  let sub := r.sub
  if ix < 0x3140 then
    let n := ix - 0x3000
    (if sub = 20 then s.outCommand n r.data r.commander work
     else if sub = 21 then (s.setCellFlag n csGovCut false, stDone)
     else (s.clearSubs ix 28 32, stDone))
  else if ix < 0x4140 then
    let n := ix - 0x4100
    (if sub = 5 then (if v = 1 then s.engForce n else (s.engLocalReset n, stDone)) else (s.engClearNow n, stDone))
  else if ix < 0x4240 then
    let n := ix - 0x4200
    ((if sub = 21 then s.fifoFlush n v else s.fifoClearNow n), stDone)
  else if ix < 0x5110 then
    let n := ix - 0x5100
    (if sub = 20 then s.canWrite n r.data r.commander work
     else if sub = 21 then (s.canAbort n v, stDone)
     else ((if v = 1 then s.canLocalReset n else s.setFlag (Obj.canFlags n) cfClash false), stDone))
  else if ix < 0x5310 then (s.canClearNow (ix - 0x5300), stDone)
  else if ix < 0x5820 then
    let n := ix - 0x5800
    (if sub = 22 then s.uartWrite n r.data r.commander work
     else if sub = 23 then (s.uartAbort n v, stDone)
     else ((if v = 1 then s.uartLocalReset n else s.setFlag (Obj.uartFlags n) ufCollision false), stDone))
  else (s.uartClearNow (ix - 0x5880), stDone)

/-- Commands of the bridge, the signal map, the check-value units, the power entry and the verdigris log. -/
def State.commandHigh (s : State) (who : Requester) (r : ObjReq) (work : Option WorkRef) (v : Nat) : State × Nat :=
  let ix := r.index
  let sub := r.sub
  if ix = 0x6001 then (s.bridgeClearNow, stDone)
  else if ix = 0x6100 then (s.gooseClearNow, stDone)
  else if ix = 0x6203 then (s.mapClearNow, stDone)
  else if 0x62C0 ≤ ix ∧ ix < 0x6300 then
    (s.eventInput { cls := 2, kind := 5, index := ix - 0x62C0, data := r.data, time := ((work.bind s.workOf).map (·.taken)).getD s.now },
      if s.flag Obj.smeOosMap 4 then stInternal else stDone)
  else if 0x7060 ≤ ix ∧ ix < 0x7078 then
    ((if sub = 9 then s.ckLocalReset (ix - 0x7060) else s.ckClearNow (ix - 0x7060)), stDone)
  else if 0x7080 ≤ ix ∧ ix < 0x7098 then s.jobCommand (ix - 0x7080) v
  else if ix = 0x7410 then
    (if sub = 2 then s.selftestCommand v
     else if sub = 4 then (if who = .farif then s.debugCommand v else (s, stReadOnly))
     else (s.smeClearNow, stDone))
  else if ix = 0x7820 then (s.peClearNow, stDone)
  else if ix = 0x7830 then s.peCommand v
  else if ix = 0xF000 then s.vgCommand v
  else (s, stInternal)

/-- A write of a WO object. -/
def State.commandWrite (s : State) (who : Requester) (r : ObjReq) (work : Option WorkRef) : State × Answer :=
  let v := leVal r.data
  if r.index < 0x3000 then s.commandLow who r work v
  else if r.index < 0x6000 then justStatus (s.commandMid r work v)
  else justStatus (s.commandHigh who r work v)

/-- A write of an RW object: its value is in effect before the response (R28), with what single objects add. -/
def State.valueWrite (s : State) (row : Row) (k : Nat) (data : List Byte) : State × Nat :=
  let v := leVal data
  if k = Obj.commitAt ∧ s.obj Obj.stageState = 2 then (s, stRetry)
  else if k = Obj.soeRead ∧ (s.obj Obj.soeWritten < v ∨ v + s.obj Obj.soeCapacity < s.obj Obj.soeWritten) then (s, stOutOfRange)
  else if 0x70A0 ≤ k / 256 ∧ k / 256 < 0x70B8 ∧ k % 256 = 2 then s.ctxValueWrite (k / 256 - 0x70A0) v
  else if 0x70A0 ≤ k / 256 ∧ k / 256 < 0x70B8 ∧ k % 256 = 3 then s.ctxAliveWrite (k / 256 - 0x70A0) v
  else
    let t := if tyIsBytes row.ty then s.putBlob k data else s.put k v
    let t := if k = Obj.gmPriority ∨ k = Obj.freeRunOk then t.selectGm else t
    ((if k = Obj.heldOrder ∧ v = 1 ∧ t.serving then t.enter stHeld 0x02 else t), stDone)

/-- Step 10 of R470 for a write: its effect by the access code. -/
def State.writeEffect (s : State) (who : Requester) (r : ObjReq) (row : Row) (work : Option WorkRef) : State × Answer :=
  let data := maskedData row r.data
  let k := r.index * 256 + r.sub
  match row.acc with
  | .wo => s.commandWrite who { r with data := data, length := data.length } work
  | .rw => justStatus (s.valueWrite row k data)
  | .rws =>
    if isLakeIndex r.index then
      (s.loutSubmit (lakeSlotNumber r.index r.sub) (leVal data) r.commander work true none, .now stStaged 0 [])
    else justStatus (s.stage k data)
  | .const => (s, .now stReadOnly 0 [])
  | .ro => (s, .now stReadOnly 0 [])

/-! ## Handling a request -/

/-- Step 10 of R470, by opcode. -/
def State.objectEffect (s : State) (who : Requester) (r : ObjReq) (row : Row) (work : Option WorkRef) : State × Answer :=
  match r.opcode with
  | 1 => let (t, d) := s.readObject row r.index r.sub (r.flags.testBit 0)
         (t, .now stDone 0 d)
  | 2 => s.writeEffect who r row work
  | 3 => s.segRead who r row
  | 4 => justStatus (s.segWrite who r row)
  | _ => justStatus (s.segAbort who r)

/-- The refusal of a request to this node by steps 3 to 9 of R470, or none. -/
def State.objectRefusal (s : State) (r : ObjReq) : Option Nat :=
  firstRefusal (s.stateRefusal r) (fun _ => match s.lookup r.index r.sub with
    | .error st => some st
    | .ok row => firstRefusal (s.claimRefusal r) (fun _ => firstRefusal (codeRefusal row.acc (isWriteOp r.opcode))
        (fun _ => formRefusal row r)))

/-- A request to this node, past steps 1 and 2. -/
def State.handleHere (s : State) (who : Requester) (r : ObjReq) (work : Option WorkRef) : State × Answer :=
  match s.objectRefusal r, s.lookup r.index r.sub with
  | none, .ok row => s.objectEffect who r row work
  | some st, _ => (s, .now st 0 [])
  | none, .error st => (s, .now st 0 [])

/-- Whether requests on a path are answered (R32): with the core powered, and in RECOVERY those of the service link alone. -/
def State.answers (s : State) (who : Requester) : Bool := s.rst.coreOn && (s.node ≠ stRecovery || who = .farif)

/-- The mailbox takes LENGTH bytes of REQUEST as the data (R470). -/
def mailboxData (who : Requester) (r : ObjReq) : ObjReq :=
  if who = .mailbox then { r with data := r.data.take (if r.opcode = 2 ∨ r.opcode = 4 then r.length else 0) } else r

/-- A request is checked in the order of R470; in the activation pause it completes with HELD (R436). -/
def State.handle (s : State) (who : Requester) (r : ObjReq) (addressOk : Bool) (work : Option WorkRef) : State × Answer :=
  if s.paused then (s, .now stHeldStatus 0 [])
  else match bodyRefusal who r addressOk with
    | some st => (s, .now st 0 [])
    | none =>
      if r.target ≠ 0 ∧ r.target ≠ s.ownId then s.passOn who r r.target work
      else s.handleHere who r work

/-- A request at the head of the dictionary queue completes (R34): its response goes out, and a CLAIM_LOST is counted (R106). The status
is none where it was passed on or is not answered. -/
def State.serve (s : State) (who : Requester) (r : ObjReq) (addressOk : Bool) (work : Option WorkRef) : State × Option Nat :=
  if !s.answers who then (s, none)
  else
    let r := mailboxData who r
    match s.handle who r addressOk work with
    | (t, .passed) => (t, none)
    | (t, .now st flags data) => ((t.countRefusal st).respond who (respTo t r st flags data) work, some st)

/-- The requests in the queue are worked off in arrival order (R34). -/
def State.drainQueue (s : State) : State :=
  forEach s.dict.queue (fun t q => (t.serve q.1 q.2.1 q.2.2 none).1) { s with dict := { s.dict with queue := [] } }

/-- A request enters the dictionary queue of 64 entries; at a full queue it completes with RETRY (R34). Requests of one clock arrive as
commands one after the other (log entry 72). -/
def State.submit (s : State) (who : Requester) (r : ObjReq) (addressOk : Bool) : State :=
  if 64 ≤ s.dict.queue.length then s.respond who (respTo s (mailboxData who r) stRetry) none
  else ({ s with dict := { s.dict with queue := s.dict.queue ++ [(who, r, addressOk)] } } : State).drainQueue

/-! ## The ring (R51) -/

/-- A frame's INDEX and SUBINDEX agree with its ADDRESS. -/
def addressAgrees (f : Frame) : Bool :=
  let r := reqOfBytes f.payload
  addrSpace f.address == 0 && addrOffset f.address == r.index * 256 + r.sub

/-- The frame of a read that waits for this request in the inbox of the MP. -/
def State.readFrame (s : State) (src : Nat) (r : ObjReq) : Option Frame :=
  s.sw.inbox.findSome? (fun e => match e.2 with
    | .ring f => if f.type = tyObjectReq ∧ f.src = src ∧ f.session = 0 ∧ f.payload = reqBytes r then some f else none
    | _ => none)

/-- A request as a command: on the ring it is the frame that waits in the inbox, if one does. -/
def State.request (s : State) (who : Requester) (r : ObjReq) : State :=
  match who with
  | .ring src _ =>
    (match s.readFrame src r with
     | some f => (s.takeFrame f).submit who r (addressAgrees f)
     | none => s.submit who r true)
  | _ => s.submit who r true

/-- A write of one object by a sender. -/
def State.senderWrite (s : State) (snd : Sender) (ix sub : Nat) (data : List Byte) : State :=
  s.request snd.who { opcode := 2, commander := snd.commander, index := ix, sub := sub, tag := snd.tag, length := data.length,
                      data := data }

/-- A plain read of one object by a sender. -/
def State.senderRead (s : State) (snd : Sender) (ix sub : Nat) : State :=
  s.request snd.who { opcode := 1, commander := snd.commander, index := ix, sub := sub, tag := snd.tag }

/-- A write of one of the node's own output slots, at its object in the lake (R31, R133). -/
def State.outputWrite (s : State) (who : Requester) (slot value commander tag : Nat) : State :=
  let index := 0xA000 + (s.ownId - 1) * 64 + slot / 64
  s.request who { opcode := 2, commander := commander, index := index, sub := 1 + slot % 64, tag := tag, length := 8,
                  data := leBytes 8 value }

/-- The 16-byte record of an output command (R224). -/
def outRecord (instant : Nat) (fraction : Byte) (action : Byte) (width : Nat) : List Byte :=
  leBytes 8 instant ++ [fraction, action, 0, 0] ++ leBytes 4 width

/-! ## Kedogil (R52) -/

/-- KEDOGIL_DATAGRAM: on a port that is not enabled nothing listens. -/
def kedogilDatagram (s : State) (port address udpPort : Nat) (b : List Byte) : State :=
  if !s.answers (.kedogil address udpPort) ∨ !(s.obj Obj.kedogilEnable).testBit port ∨ s.obj (Obj.ipv4Addr (s.addressPort port)) = 0 ∨ s.ethDeaf port then
    s
  else if b.take 4 ≠ [0x4B, 0x44, 1, 0] ∨ b.length < 20 ∨ !s.allowed address then s.bump Obj.kedogilDropped
  else
    let r := reqOfBytes (b.drop 4)
    match s.dict.kept.find? (fun k => k.address == address && k.tag == r.tag) with
    | some k => (s.bump Obj.kedogilReplayed).emit (.datagram address udpPort ([0x4B, 0x44, 1, 0] ++ respBytes k.resp))
    | none => s.submit (.kedogil address udpPort) r true

/-! ## The mailbox (R53) -/

/-- The bytes of REQUEST. -/
def State.mbRequestBytes (s : State) : List Byte := (List.range 0x410).map (fun i => sparseGet (fun _ => 0) s.dict.mbRequest i)

/-- DOORBELL. -/
def doorbell (s : State) (v : Nat) : State :=
  if v ≠ 1 then s
  else if s.dict.mbBusy then { s with dict := { s.dict with mbOverrun := true } }
  else
    let t := { s with dict := { s.dict with mbBusy := true, mbDone := false, mbOverrun := false } }
    t.submit .mailbox (reqOfBytes s.mbRequestBytes) true

/-- MAILBOX_COMPLETE. -/
def mailboxComplete (s : State) : State :=
  match s.dict.mbWaiting with
  | some r =>
    let t := { s with dict := { s.dict with mbResponse := some r, mbWaiting := none, mbBusy := false, mbDone := true } }
    t.raise intMboxDone
  | none => s

/-- A write cycle in the mailbox: REQUEST, and the doorbell. Bytes that a DOORBELL cycle leaves out are 0 (DESIGN CHOICE, log entry 134). -/
def State.mbCycleWrite (s : State) (off : Nat) (data : List Byte) : State :=
  if off < 0x410 then s.mbWrite off (data.take (0x410 - off))
  else if off ≤ 0xF00 ∧ 0xF00 < off + data.length then doorbell s (leAt data (0xF00 - off) 4)
  else s

/-! ## Host bus cycles (R326) -/

/-- A cycle at an offset that nothing decodes (R326). -/
def State.noTarget (s : State) (c : HostCycle) : State :=
  (s.setTgtStatus stOutOfRange).hostDone c (c.beats.map (fun _ => 0))

/-- HOST_TARGET_CYCLE: a cycle with HB_CS_N low, decoded by address bits [23:0]. A malformed cycle completes at once with nothing done
(R325). -/
def hostTargetCycle (s : State) (c : HostCycle) : State :=
  let base := s.obj Obj.mboxBase
  let off := cycOffset c
  if !s.answersHost then s
  else if !cycGood c then (s.setTgtStatus stOutOfRange).hostDone c (cycOnes c)
  else if base ≤ off ∧ off < base + 0x1000 then
    let first := cycFirstByte c - base
    (if c.write then (s.mbCycleWrite first (cycBytes c)).hostDone c []
     else s.hostDone c (cycPlaced c ((List.range (cycBytes c).length).map (fun i => s.mbByte (first + i)))))
  else if base + 0x1000 ≤ off ∧ off < base + 0x1040 then s.bridgeCycle c (base + 0x1000)
  else if 0x100000 ≤ off ∧ off < 0x500000 then s.windowCycle c
  else s.noTarget c

/-- WINDOW_CYCLE: a cycle in a fabric window (R329). -/
def windowCycleRow (s : State) (c : HostCycle) : State := hostTargetCycle s c

/-! ## The service link (R54, R433) -/

/-- A frame of the service link is discarded and counted (R54). -/
def State.farifDiscard (s : State) : State := { s with dict := { s.dict with farifDiscards := s.dict.farifDiscards + 1 } }

/-- FARIF_FRAME. A body of an image frame that its type does not allow is answered with OUT_OF_RANGE (R5, log entry 31). A good frame of type
0x81 or 0x18 is ignored (DESIGN CHOICE, log entry 135). A frame longer than 1,040 bytes is discarded and counted (DESIGN CHOICE, log
entry 160). -/
def farifFrame (s : State) (kind : Nat) (body : List Byte) (crc : Nat) : State :=
  let known := [0x01, 0x81, 0x10, 0x11, 0x12, 0x13, 0x14, 0x15, 0x18]
  let n := body.length
  let bad (type : Nat) : State := s.imgFrame type (fun t => (t, stOutOfRange))
  if !s.farifUp then s
  else if 1040 < n ∨ !known.contains kind ∨ crc ≠ crc32 (leBytes 1 kind ++ leBytes 2 n ++ body) then s.farifDiscard
  else match kind with
    | 0x01 => if n = 0 then s.emit (.farif (farifBytes 0x81 []))
              else if n < 16 then s.farifDiscard
              else s.submit .farif (reqOfBytes body) true
    | 0x10 => if n = 8 ∧ leAt body 1 3 = 0 then imgBegin s (leAt body 0 1) (leAt body 4 4) else bad 0x10
    | 0x11 => if 4 ≤ n then imgData s (leAt body 0 4) (body.drop 4) else bad 0x11
    | 0x12 => if n = 0 then imgEnd s else bad 0x12
    | 0x13 => if n = 0 then imgAbort s else bad 0x13
    | 0x14 => if n = 1 then recoverStart s (leAt body 0 1) else bad 0x14
    | 0x15 => if n = 0 then imgStatusFrame s else bad 0x15
    | _ => s

end Sys2Proof.Machine
end

