-- ==== Sys2Proof/Machine/Tracker.lean ====
section
/-! DEFINITION. The acceptance tracker at the destination: the acceptance check (R180 to R183, R194, R204), and the execution of accepted
work, of class-3 writes and of this node's own frames by their consumers (R177, R178, R190, R191, R195, R201). -/
namespace Sys2Proof.Machine

/-! ## Refusals at acceptance (R177, R183) -/

/-- Index and subindex of an object address. -/
def addrIndex (a : Nat) : Nat := bits a 23 8
def addrSub (a : Nat) : Nat := bits a 7 0

/-- The full instant of an EVENT taken at time `near` (R191). -/
def eventInstant (f : Frame) (near : Nat) : Nat := fullInstant near f.param

/-- What the output stage that an EVENT names refuses it with (R225, R289, R315), or the claim for EVENT_IN (R33). -/
def State.stageRefusal (s : State) (f : Frame) (instant : Nat) : Option Nat :=
  let ix := addrIndex f.address
  if ix < 0x3140 then s.cellRefusal (ix - 0x3000) f.payload f.commander (some instant)
  else if ix < 0x5110 then s.canRefusal (ix - 0x5100) f.payload f.commander (some instant)
  else if ix < 0x5820 then s.uartRefusal (ix - 0x5800) f.payload f.commander (some instant)
  else if s.node = stLoading then some stHeldStatus
  else if s.serving ∧ (f.commander = 0 ∨ f.commander ≠ s.holderNow) then some stClaimLost
  else none

/-- The status an EVENT is refused with, or none (R177). -/
def State.eventRefusal (s : State) (f : Frame) (near : Nat) : Option Nat :=
  let ix := addrIndex f.address
  let sub := addrSub f.address
  if addrSpace f.address ≠ 0 ∨ bits f.address 35 24 ≠ 0 then some stOutOfRange
  else match s.lookup ix sub with
    | .error st => some st
    | .ok row =>
      if !acceptsEvents ix sub then some stOutOfRange
      else if 0x62C0 ≤ ix then
        (if 256 < f.payload.length then some stOutOfRange else s.stageRefusal f (eventInstant f near))
      else if 0x3140 ≤ ix ∧ f.payload.length ≠ tySize row.ty then some stTypeMismatch
      else s.stageRefusal f (eventInstant f near)

/-- The status a session frame is refused with at acceptance, or none (R183): of an object write, by the checks of R470 before the rules
of the object's own chapter. -/
def State.acceptRefusal (s : State) (f : Frame) : Option Nat :=
  if f.type = tyEvent then s.eventRefusal f s.now
  else if f.type = tyWrite then
    match s.accessRefusal f.address f.payload.length true f.commander with
    | some st => some st
    | none => match fifoTarget f with
      | some n => s.fifoRefusal n f
      | none => none
  else if f.type = tyObjectReq then
    let r := reqOfBytes f.payload
    firstRefusal (bodyRefusal (.ring f.src r.commander) r (addressAgrees f)) (fun _ => s.objectRefusal r)
  else none

/-! ## The acceptance check (R180, R181, R183) -/

/-- A frame of R177: accepted work. -/
def isWork (f : Frame) : Bool :=
  f.type == tyEvent || (f.type == tyWrite && f.cls == 2) || f.type == tyLateErr ||
  (f.type == tyObjectReq && isWriteOp (leAt f.payload 0 1))

/-- A frame that R180 discards. -/
def badSessionFrame (f : Frame) : Bool :=
  if isWork f then f.session % 2 ^ 14 == 0 || f.session.testBit 15 != (f.cls == 2) || f.session.testBit 14
  else f.session ≠ 0 && f.type ≠ tyAck && f.type ≠ tyObjectResp

/-- While work is not taken: the HOLD power state, an activation pause, and an unweld (R208, R413, R436). -/
def State.takesNoWork (s : State) : Bool := s.quiet || s.acc.unweld.isSome

/-- The lowest journal ring that no incoming entry uses, while one of the 512 session entries is free. -/
def State.freeRing (s : State) : Option Nat :=
  if 512 ≤ s.outInUse + s.inInUse then none
  else (List.range 256).find? (fun r => !s.acc.sessions.any (fun e => e.role == 2 && e.ring == r))

/-- The current entry of a source and class makes way for a newer incarnation if its work is all done (R181). -/
def State.makeWay (s : State) (src : Nat) (cls2 : Bool) : State :=
  match s.inSession src cls2 with
  | some e => if e.exec = seqPrev e.next then (s.dropSession e).writeDirectory e.ring none else s
  | none => s

/-- The first frame of an incarnation opens it: an entry with its ring, the count of openings and the directory written (R181, R186).
`prev` is the highest sequence accepted of the incarnation before. -/
def State.openIncoming (s : State) (src inc : Nat) (cls2 : Bool) (prev ring : Nat) : State × Session :=
  let count := ((s.firstMram.map (·.openCount)).getD 0 + 1) % 2 ^ 32
  let e : Session := { role := 2, peer := src, cls2 := cls2, incarnation := inc, prevLast := prev, ring := ring, openSeq := count, slot := s.freeSlot }
  let t := (s.eachMram (fun m => { m with openCount := count })).writeDirectory ring
    (some { src := src, cls2 := cls2, incarnation := inc, prevLast := prev, ring := ring, openSeq := count })
  (t.setSession e, e)

/-- The record of a frame (R187). -/
def recordOf (f : Frame) (refusal : Option Nat) : JRecord :=
  { seq := f.seq, session := f.session, src := f.src, type := f.type, state := if refusal.isSome then 2 else 1, posted := f.posted,
    result := refusal.getD 0, commander := f.commander, length := f.payload.length, address := f.address,
    inst := if f.type = tyEvent then f.param else 0, payloadCrc := fcrc f.payload, tag := f.tag }

/-- A frame in order: accepted or refused, journaled, NEXT advances (R183); its ACK waits for the record to stand (R178). -/
def State.takeInOrder (s : State) (e : Session) (f : Frame) : State :=
  let refusal := s.acceptRefusal f
  let t := match refusal with
    | some st =>
      let t := s.countRefusal st
      (match fifoTarget f with
       | some n => if f.type = tyWrite ∧ st = stHeldStatus then t.bump (Obj.rxRefused n) else t
       | none => t)
    | none => s
  let r := recordOf f refusal
  let w : Work := { record := r, frame := if refusal.isSome ∧ f.type ≠ tyObjectReq then none else some f, released := refusal.isSome, taken := s.now }
  let e := { e with next := seqNext f.seq, work := e.work.filter (fun x => x.record.seq % 256 ≠ f.seq % 256) ++ [w] }
  let t := if refusal.isSome then t else t.storePending e f.seq f.payload
  (t.setSession e).queueWrite e.ring r true

/-- A frame ahead of NEXT: one RETRY for the gap, another only after the retransmission time (R183). -/
def State.gapFrame (s : State) (e : Session) : State :=
  let t := s.bump Obj.outOfWindow
  let again : Bool := match e.gapSent with
    | some (q, at') => q ≠ e.next || at' + s.retxNs e.cls2 ≤ s.now
    | none => true
  if again then
    (t.sendAck e.peer e.cls2 e.incarnation (seqPrev e.next) stRetry false).setSession { e with gapSent := some (e.next, s.now) }
  else t

/-- A frame behind NEXT whose slot awaits its payload (R194). -/
def State.recallFill (s : State) (e : Session) (w : Work) (f : Frame) : State :=
  if w.record.payloadCrc = fcrc f.payload then
    ((s.storePending e f.seq f.payload).setSession
      { e with work := e.work.map (fun x => if x.record.seq = f.seq then { x with frame := some f, taken := s.now } else x) }).release f
  else (s.bump Obj.integrity).finishWork ⟨e.peer, e.cls2, e.incarnation, f.seq⟩ stIntegrity

/-- A duplicate (R183): acknowledged again once its record stands, with the execution result if it is done (R184). -/
def State.duplicateFrame (s : State) (e : Session) (f : Frame) : State :=
  let e := { e with dupCount := (e.dupCount + 1) % 2 ^ 32 }
  let t := (s.bump Obj.duplicates).setSession e
  match e.work.find? (fun w => w.record.seq == f.seq) with
  | some w =>
    if !w.stands then t
    else
      let t := t.sendAck e.peer e.cls2 e.incarnation f.seq stDuplicate false
      let covered := seqSub e.exec f.seq < 2 ^ 31
      if w.record.state = 2 ∧ covered then
        (if nonPostedFrame f then t.sendAck e.peer e.cls2 e.incarnation f.seq w.record.result true
         else
           let r := ((e.work.find? (fun x => x.record.seq == e.exec)).map (·.record.result)).getD 0
           t.sendAck e.peer e.cls2 e.incarnation e.exec r true)
      else t
  | none => t.sendAck e.peer e.cls2 e.incarnation f.seq stDuplicate false

/-- The window check of a frame against its session (R183, R204). -/
def State.windowCheck (s : State) (e : Session) (f : Frame) : State :=
  let d := seqSub f.seq e.next
  if d = 0 then
    if s.takesNoWork then s.sendAck e.peer e.cls2 e.incarnation (seqPrev e.next) stRetry false
    else if s.mramsUp = [] then s.sendAck e.peer e.cls2 e.incarnation f.seq stInternal false
    else s.takeInOrder e f
  else if d < 2 ^ 31 then s.gapFrame e
  else match e.work.find? (fun w => w.record.seq == f.seq && w.recovered && w.record.state == 1 && w.frame.isNone) with
    | some w => s.recallFill e w f
    | none => s.duplicateFrame e f

/-- ACCEPTANCE_CHECK. -/
def acceptanceCheck (s : State) (f : Frame) : State :=
  let cls2 := f.cls == 2
  let inc := f.session % 2 ^ 14
  if badSessionFrame f then (s.takeFrame f).bump Obj.badSession
  else if !isWork f then s
  else
    let s := s.takeFrame f
    match (s.inSession f.src cls2).filter (fun e => e.incarnation == inc) with
    | some e => s.windowCheck e f
    | none =>
      if f.seq ≠ 1 then s.bump Obj.badSession
      else if s.takesNoWork then s.sendAck f.src cls2 inc 0 stRetry false
      else if s.mramsUp = [] then s.sendAck f.src cls2 inc 1 stInternal false
      else
        let prev := match s.inSession f.src cls2 with | some e => seqPrev e.next | none => 0
        let t := s.makeWay f.src cls2
        match t.freeRing with
        | none => t.sendAck f.src cls2 inc 0 stRetry false
        | some r => let (t, e) := t.openIncoming f.src inc cls2 prev r
                    t.windowCheck e f

/-- A refused object write draws its OBJECT_RESP once its record stands (R178, R179). -/
def State.answerRefused (s : State) : State :=
  let mine (w : Work) : Bool := w.stands && w.record.state == 2 && w.record.type == tyObjectReq && w.frame.isSome
  forEach (s.acc.sessions.filter (fun e => e.role == 2 && e.work.any mine)) (fun t e =>
    let t := forEach (e.work.filter mine) (fun t w => match w.frame with
      | some f =>
        let r := reqOfBytes f.payload
        t.respond (.ring f.src r.commander) (respTo t r w.record.result) (some ⟨e.peer, e.cls2, e.incarnation, w.record.seq⟩)
      | none => t) t
    t.setSession { e with work := e.work.map (fun w => if mine w then { w with frame := none } else w) }) s

/-! ## Execution (R178, R190, R191, R195) -/

/-- What an output stage no longer takes at the execution: its refusal there, the claim left to the instant; one that has come is checked
now, since the frame of a controller or channel then goes to its FIFO at once (R102, R191). -/
def State.stageStops (s : State) (f : Frame) (instant : Nat) : Option Nat :=
  let atOnce : Bool := 0x3140 ≤ addrIndex f.address && addrIndex f.address < 0x5820 && instant ≤ s.now
  (s.stageRefusal f instant).filter (fun st => st ≠ stClaimLost || atOnce)

/-- An EVENT reaches its output stage or the SME at its execution. None: its consumer cannot take it yet (R190). -/
def State.executeEvent (s : State) (ref : WorkRef) (w : Work) (f : Frame) : Option State :=
  let ix := addrIndex f.address
  let inst := eventInstant f w.taken
  match s.stageStops f inst with
  | some st => some ((s.countRefusal st).finishWork ref st)
  | none =>
    let cell := ix < 0x3140
    let n := if cell then ix - 0x3000 else 0
    let at256 := if cell then s.ballInstant n (s.commandInstant f.payload (some inst)) else inst * 256
    let cancel : Bool := cell && leAt f.payload 9 1 == 5
    let (t, late) := if cancel then (s, none) else s.lateJudge ref.peer ref.cls2 (s.lateBy at256)
    match late with
    | some st => some (t.finishWork ref st)
    | none =>
      let o := CellOrigin.work ref
      if cell then
        match t.takeCommand n f.payload f.commander o (some inst) true with
        | (u, some _) => some (if cancel then u.finishWork ref stDone else u)
        | (_, none) => none
      else if ix < 0x5820 then
        let x := if ix < 0x5110 then t.canSubmit (ix - 0x5100) f.payload f.commander o (some inst)
                 else t.uartSubmit (ix - 0x5800) f.payload f.commander o (some inst)
        match x with
        | (u, .entered) => some (u.finishWork ref stDone)
        | (u, .scheduled) => some u
        | (_, .full) => none
      else if t.obj Obj.smeState = smeRestarting ∨ t.obj Obj.smeState = smeTesting then none
      else some (t.eventInput { cls := 0, kind := 5, index := ix - 0x62C0, data := f.payload, time := inst, work := some ref })

/-- A LATE_ERR joins the late-error queue, and counts once for the engine that issued the failed command (R197, R271). -/
def State.executeLateErr (s : State) (f : Frame) : State :=
  let r := lateErrorOf f.payload
  let t := s.queueLateError r
  if r.cls = 3 then
    match s.engineOf r.node r.address with
    | some n => t.bump (Obj.txFails n)
    | none => t
  else
    match s.outSession r.node (r.cls == 2) with
    | none => t
    | some e =>
      match e.issued.find? (fun x => x.1 == r.seq) with
      | some (_, n) => (t.bump (Obj.txFails n)).setSession { e with issued := e.issued.filter (fun x => x.1 ≠ r.seq) }
      | none => t

/-- A write to an output queue, which on a session waits where that queue is full (R227, R291, R317). -/
def waitsForRoom (r : ObjReq) : Bool := r.opcode == 2 && r.index < 0x6000 && acceptsEvents r.index r.sub

/-- Accepted work reaches its consumer (R178). None: its consumer cannot take it yet. -/
def State.executeWork (s : State) (ref : WorkRef) (w : Work) (f : Frame) : Option State :=
  if f.type = tyEvent then s.executeEvent ref w f
  else if f.type = tyLateErr then
    some (if lateErrorGood f.payload then (s.executeLateErr f).finishWork ref stDone else s.finishWork ref stOutOfRange)
  else if f.type = tyObjectReq then
    let r := reqOfBytes f.payload
    let (t, st) := s.serve (.ring f.src r.commander) r (addressAgrees f) (some ref)
    match st with
    | some st =>
      if st = stRetry ∧ waitsForRoom r then none
      else some (if st = stStaged ∧ isLakeIndex r.index then t else t.finishWork ref st)
    | none => some t
  else if f.payload = [] then some s
  else match s.memWrite f (.work ref) (some ref) with
    | (t, some st) => some (t.finishWork ref st)
    | (t, none) => some t

/-- EXECUTION of the next work of a session: in session order, once its record stands, its payload is present and its frame has come
through the switch; recovered output work waits for RUNNING (R195). -/
def State.executeNext (s : State) (peer : Nat) (cls2 : Bool) : State :=
  match s.workEntry peer cls2 with
  | none => s
  | some e =>
    match e.nextToRelease with
    | none => s
    | some w =>
      match w.frame with
      | none => s
      | some f =>
        let ref : WorkRef := ⟨peer, cls2, e.incarnation, w.record.seq⟩
        if !w.stands ∨ s.quiet ∨ s.inSwitch f ∨ (f.type = tyWrite ∧ f.payload ≠ [] ∧ addrSpace f.address = 4) ∨
            (w.recovered ∧ drivesOutput f ∧ !s.serving) then s
        else (((s.markReleased ref).takeFrame f).executeWork ref w f).getD s

/-! ## Frames of this node's own, and class-3 writes (R201, R271) -/

/-- A frame of this node's own for itself is executed outside any session (R271). -/
def State.executeOwn (s : State) (f : Frame) : State :=
  let s := s.takeFrame f
  let eng := s.engineOf f.dst f.address
  let o := match eng with | some n => CellOrigin.engine n f | none => .object
  let inst := eventInstant f s.now
  if f.type = tyEvent then
    match s.eventRefusal f s.now with
    | some st => (s.countRefusal st).localFailed f st
    | none =>
      let ix := addrIndex f.address
      if ix < 0x3140 then
        (match s.takeCommand (ix - 0x3000) f.payload f.commander o (some inst) false with
         | (t, some st) => if st = stDone then t else t.localFailed f st
         | (t, none) => t.localFailed f stRetry)
      else if ix < 0x5820 then
        (match (if ix < 0x5110 then s.canSubmit (ix - 0x5100) f.payload f.commander o (some inst)
                else s.uartSubmit (ix - 0x5800) f.payload f.commander o (some inst)) with
         | (t, .full) => t.localFailed f stRetry
         | (t, _) => t)
      else s.eventInput { cls := 0, kind := 5, index := ix - 0x62C0, data := f.payload, time := inst,
                          block := eng.map Issuer.engine }
  else
    match s.accessRefusal f.address f.payload.length true f.commander with
    | some st => (s.countRefusal st).localFailed f st
    | none =>
      match eng with
      | some n =>
        (match s.memWrite f (.block (.engine n) f) none with
         | (t, some st) => if st = stDone then t else t.localFailed f st
         | (t, none) => t)
      | none => (s.memWrite f (.frame f) none).1

/-- A frame of this node's own that waits at its consumer: an EVENT, or a WRITE to a memory space; records for the SME and writes to a
receive FIFO are taken elsewhere. -/
def State.ownFrame (s : State) (cls2 : Bool) : Option Frame :=
  s.sw.inbox.findSome? (fun e => match e with
    | (p, .ring f) =>
      if f.src = s.ownId ∧ f.dst = s.ownId ∧ f.session = 0 ∧ (fifoTarget f).isNone ∧ (f.cls == 2) = cls2 ∧ f.cls ≠ 3 ∧
          (if f.type = tyEvent then !(p = portSme ∧ !acceptsEvents (addrIndex f.address) (addrSub f.address))
           else f.type == tyWrite && addrSpace f.address ≠ 0) then some f else none
    | _ => none)

/-- EXECUTION: the next accepted work from a node in a class; for this node's own ID, its next frame for itself. -/
def execution (s : State) (peer : Nat) (cls2 : Bool) : State :=
  if peer = s.ownId ∧ peer ≠ 0 then
    match s.ownFrame cls2 with
    | some f => if s.quiet then s else s.executeOwn f
    | none => s
  else s.executeNext peer cls2

/-- A class-3 WRITE is carried out once at its consumer, and a failure goes back as a late error with SEQ 0 (R201). -/
def State.class3Write (s : State) (f : Frame) : State :=
  match s.accessRefusal f.address f.payload.length true f.commander with
    | some st => (s.countRefusal st).class3Failed f st
    | none =>
      match s.memWrite f (.frame f) none with
      | (t, some st) => if st = stDone then t else t.class3Failed f st
      | (t, none) => t

/-- CLASS3_WRITE_RX: a class-3 WRITE passes ACCEPT with no journal and no acknowledgement, and goes on to its consumer through the switch
(R143, R201). One for a receive FIFO tries its reservation here, once (R275); one for no memory space fails here. -/
def class3WriteRx (s : State) (f : Frame) : State :=
  let s := s.takeFrame f
  if !f.posted then s.bump Obj.badSession
  else if f.payload = [] then s
  else match releasePort f, fifoTarget f with
    | some p, none =>
      let o : Offered := { port := portAccept, cls := 3, packet := .ring f, outs := [p] }
      { s with sw := { s.sw with entering := s.sw.entering ++ [o] } }
    | _, _ => s.class3Write f

/-- MEMORY_WRITE: a WRITE to SPACE 0x1 to 0x4 at its consumer, class 3, this node's own, or the next accepted work of its session (R23). The
words of one that has its reservation enter the receive FIFO (R275). -/
def memoryWrite (s : State) (f : Frame) : State :=
  let reserved (n : Nat) : Bool := (s.fifo n).granted.any (fun w => w.source == .ring f || s.reservedFrame w == some f)
  if (fifoTarget f).any reserved then rxWordsArrive s ((fifoTarget f).getD 0)
  else if f.cls = 3 then (if f.payload = [] then s.takeFrame f else (s.takeFrame f).class3Write f)
  else if f.src = s.ownId then (if s.quiet then s else s.executeOwn f)
  else s.executeNext f.src (f.cls == 2)

end Sys2Proof.Machine
end

