-- ==== Sys2Proof/Machine/Flags.lean ====
section
/-! DEFINITION. The flag and status words that follow their sources: FAULT_SUMMARY and the time and claim status (R57, R101, R118), and
the interrupt sources of INT_STATUS (R327). -/
namespace Sys2Proof.Machine

/-! ## Status objects -/

/-- An object follows its source. -/
def State.follow (s : State) (k v : Nat) : State := if s.obj k = v then s else s.put k v

/-- FAULT_SUMMARY as its sources give it (R57): bits 1, 2, 4 and 8 are stored. -/
def State.faultSummaryNow (s : State) : Nat :=
  (s.obj Obj.faultSummary &&& 0x116) + ofBool (s.vgOpen ≠ []) + 8 * ofBool (s.obj Obj.configValid = 0) + 32 * ofBool (!s.timeLocked) +
  64 * ofBool (s.rst.loaded && s.mramsUp.length < 2) + 128 * ofBool (s.pe.feed1.lasting || (s.pe.feed2.lasting && !s.single)) +
  512 * ofBool (s.liveCommanders = [])

/-- TIME_STATE, TIME_FLAGS, HOLDER, HOLDER_CLAIM, SOE_FLAGS and FAULT_SUMMARY follow their sources. -/
def State.refreshStatus (s : State) : State :=
  let t := (s.follow Obj.timeState s.timeStateNow).follow Obj.timeFlags s.timeFlagsNow
  let h := t.holderNow
  let t := (t.follow Obj.holder h).follow Obj.holderClaim (if h = 0 then 0 else t.obj (Obj.cmdrClaim (h - 1)))
  (t.follow Obj.soeFlags (ofBool t.soeStops)).follow Obj.faultSummary t.faultSummaryNow

/-! ## Interrupt sources (R327) -/

/-- SUB_STATE objects that differ from their default. -/
def State.subStates (s : State) : List (Nat × Nat) := s.objs.filter (fun e => 0x6110 ≤ e.1 / 256 && e.1 / 256 < 0x6190 && e.1 % 256 == 11)

/-- The sources of INT_STATUS that compare the node with what it was, and those that set again while true. -/
def State.interrupts (s before : State) : Nat :=
  let bit (i : Nat) (b : Bool) : Nat := if b then 2 ^ i else 0
  bit intLeq (s.acc.leq ≠ []) ||| bit intState (s.node ≠ before.node) ||| bit intHolder (s.obj Obj.holder ≠ before.obj Obj.holder) |||
  bit intFault (s.obj Obj.faultSummary ≠ before.obj Obj.faultSummary) ||| bit intSoe (before.obj Obj.soeWritten < s.obj Obj.soeWritten) |||
  bit intCanRx (s.can.any (fun e => e.2.rx ≠ [])) ||| bit intUartRx (s.uart.any (fun e => e.2.rx ≠ [])) |||
  bit intEngPoll (s.eng.fifos.any (fun e => e.2.closed ≠ [] && s.obj (Obj.txMode e.1) == 1)) |||
  bit intGoose (s.subStates ≠ before.subStates)

/-- Those sources are set. -/
def State.raiseAll (s before : State) : State :=
  { s with bridge := { s.bridge with intStatus := s.bridge.intStatus ||| s.interrupts before } }

end Sys2Proof.Machine
end

