-- ==== Sys2Proof/Machine/Settle.lean ====
section
/-! DEFINITION. What follows at once, inside the node, from any command's effect: completions and admissions reach their blocks, status objects
follow their sources (R57, R101, R118), the node changes state (R17), and interrupt sources are set (R327). -/
namespace Sys2Proof.Machine

/-! ## Inside the node -/

/-- A completed command reaches the block that issued it (R179, R271, R329). -/
def State.deliverOne (s : State) (c : Completion) : State :=
  match c.issuer with
  | .window tag => s.windowArrive tag c.status []
  | .object who tag =>
    if c.status = stDone then s
    else (match s.dict.outstanding.find? (fun o => !o.isRead && o.tag == tag && o.who == who) with
      | some o => s.relay o (respTo s o.req c.status)
      | none => s)
  | .engine n => if c.status = stDone then s else s.bump (Obj.txFails n)
  | .sme _ => s
  | .posted f => if c.status = stDone ∨ c.status = stStaged then s else s.localLateError f c.status
  | .tracker _ => s

/-- The instant that accepted work names (R191): of an EVENT, or of a write to the command object of an output stage. -/
def workInstant (w : Work) : Nat :=
  if w.record.type = tyEvent then fullInstant w.taken w.record.inst
  else match w.frame with
    | some f => if w.record.type = tyObjectReq ∧ waitsForRoom (reqOfBytes f.payload) then leAt (reqOfBytes f.payload).data 0 8 else 0
    | none => 0

/-- Work leaves the output stage in which it waits for its instant. -/
def State.withdrawWork (s : State) (r : WorkRef) (index : Nat) : State :=
  let other (e : CanEntry) : Bool := e.origin ≠ .work r
  if 0x3000 ≤ index ∧ index < 0x3140 then
    let n := index - 0x3000
    s.setCell n { s.cell n with placements := (s.cell n).placements.filter (fun p => p.origin ≠ .work r) }
  else if 0x5100 ≤ index ∧ index < 0x5110 then
    let n := index - 0x5100
    s.setCan n { s.canCtl n with schedule := (s.canCtl n).schedule.filter other }
  else if 0x5800 ≤ index ∧ index < 0x5820 then
    let n := index - 0x5800
    s.setChan n { s.chan n with schedule := (s.chan n).schedule.filter other }
  else s

/-- While the node drains, work whose instant lies more than UNWELD_DRAIN ms behind the start of the unweld completes with HELD (R208 step
2). -/
def State.dropFuture (s : State) : State :=
  match s.acc.unweld with
  | none => s
  | some u =>
    if u.requested then s else
    let limit := u.start + s.obj Obj.unweldDrain * ms
    let far (e : Session) : List (WorkRef × Nat) :=
      (e.work.filter (fun w => w.record.state == 1 && w.stands && limit < workInstant w)).map
        (fun w => (⟨e.peer, e.cls2, e.incarnation, w.record.seq⟩, addrIndex w.record.address))
    forEach ((s.acc.sessions.filter (·.role == 2)).flatMap far) (fun t r => (t.withdrawWork r.1 r.2).finishWork r.1 stHeldStatus) s

/-- Completions, admissions of engine messages, wake requests, reservations, and what the switch has brought to its consumers reach
their blocks; the next splice of a weld begins. -/
def State.deliver (s : State) : State :=
  let t := forEach s.acc.completions State.deliverOne { s with acc := { s.acc with completions := [] } }
  let t := forEach t.sw.admitted (fun t m => t.messageGone m.1 m.2.1 m.2.2) { t with sw := { t.sw with admitted := [] } }
  let t := forEach t.fc.wakes State.wakeByCell { t with fc := { t.fc with wakes := [] } }
  ((((t.dropFuture).gatherRequests).smeGather).resumeRevert).nextSplice

/-- A split ring has closed: the coordinator takes a census (R206). -/
def State.splitCloses (s before : State) : State :=
  if before.ringState = 4 ∧ (s.ringState = 2 ∨ s.ringState = 3 ∨ s.ringState = 5) ∧ s.isCoordinator then s.startCensus else s

/-- A commit ends when the last object that waited for its mordant point is applied (R36). -/
def State.endCommit (s : State) : State :=
  if s.obj Obj.stageState = 3 ∧ s.dict.waiting = [] then s.finishCommit else s

/-- The further faults whose covered faults have all closed are closed (R15), also where the last was a neighbour's. -/
def State.closeOver (s : State) : State := State.closeFurther s.vgOpen.length s

/-! ## The node state (R17, R56) -/

/-- The conditions of RUNNING, but for the lasting faults. A node with effective ID 0 stays in HELD (R78). -/
def State.mayServe (s : State) : Bool :=
  s.obj Obj.configValid == 1 && !s.flag Obj.faultSummary fsFormatReset && !s.flag Obj.faultSummary fsCommitFail && s.timeLocked &&
  s.liveCommanders ≠ [] && s.obj Obj.heldOrder == 0 && s.ownId ≠ 0

/-- A lasting fault is open, or one of a segment of this node: its own in link's, the out link's as the neighbour reports it, or one
repaired that waits for its revert (R96). -/
def State.impaired (s : State) : Bool :=
  s.vgOpen ≠ [] || s.obj Obj.aOutState == lkFailed || s.obj Obj.bOutState == lkFailed || s.ring.awaitsRevert

/-- HELD to RUNNING or DEGRADED, and between those two; an activation pause changes no state. -/
def State.moveState (s : State) : State :=
  if s.paused then s
  else if s.node = stHeld then
    (if !s.mayServe then s else if s.impaired then s.enter stDegraded 0x05 else s.enter stRunning 0x01)
  else if s.node = stRunning ∧ s.impaired then s.enter stDegraded 0x05
  else if s.node = stDegraded ∧ !s.impaired then s.enter stRunning 0x06
  else s

/-- What a change of the node state makes the blocks do: outputs leave service in HELD (R229, R302, R321), flow-control cells follow their
FIFOs again in RUNNING and DEGRADED (R279), UPTIME counts from the end of LOADING. -/
def State.stateHooks (s before : State) : State :=
  let t := if before.serving ∧ s.node = stHeld then ((s.shiftersStop.cellsHeld).cansHeld).uartsHeld else s
  let t := if before.serving then t else t.fcFollowAll
  let left := if t.node = stLoading then none else if before.node = stLoading then some (t.now : Int) else t.rst.leftAt
  ({ t with rst := { t.rst with leftAt := left } } : State).startReached

/-- The interval in which AGREED was clear last (R119), and the last change of FAULT_SUMMARY (R130). -/
def State.trackTimes (s before : State) : State :=
  let na := s.lake.notAgreed
  let na := if !s.agreed then (if before.agreed then (s.now, s.now) else (na.1, s.now)) else if !before.agreed then (na.1, s.now) else na
  let changed := if s.obj Obj.faultSummary = before.obj Obj.faultSummary then s.lake.statusChanged else s.now
  { s with lake := { s.lake with notAgreed := na, statusChanged := changed } }

/-! ## All of it -/

/-- What follows at once from a command's effect, given the state before it. A node without core power does nothing. -/
def settle (before s : State) : State :=
  if !s.rst.coreOn then s
  else
    let t := ((((s.ptpSilence.claimsChanged before).deliver).splitCloses before).endCommit).closeOver
    let t := ((t.refreshStatus.moveState).stateHooks before).refreshStatus
    (t.trackTimes before).raiseAll before

/-- The same for a command of a block that works with core power alone. -/
def settleOn (before s : State) : State := settle before (if before.rst.coreOn then s else before)

/-- 1.25 ns pass: the counter advances by its frequency word (R107). -/
def tick (s : State) : State :=
  if s.rst.coreOn then
    { s with time := s.time + ((5 * 2 ^ 38 : Nat) * ((10 ^ 12 : Nat) + toSigned 32 (s.obj Obj.freqAdj)) / (10 ^ 12 : Nat) : Int).toNat }
  else s

/-- APPLY_INSTANT raises its interrupt source (R327). -/
def applyInstantRow (s : State) : State := (applyInstant s).raise intApply

end Sys2Proof.Machine
end

