-- ==== Sys2Proof/Machine/BridgeCommands.lean ====
section
/-! DEFINITION. The meanings of the commands of the host bus bridge, GOOSE and the signal map, one definition for each row. -/
namespace Sys2Proof.Machine

/-- HOST_TARGET_CYCLE (R326): A host bus cycle with HB_CS_N low is decoded to the mailbox, bridge registers, a fabric window or nothing. -/
def execHostTargetCycle (cycle : HostCycle) (s : State) : Host.Outcome State Fault Refusal :=
  .next (settleOn s (hostTargetCycle s cycle))

/-- INT_STATUS_WRITE (R327): Writing 1 to an INT_STATUS bit clears it. -/
def execIntStatusWrite (value : BitVec 32) (s : State) : Host.Outcome State Fault Refusal :=
  .next (settleOn s (s.byHost (intStatusWrite · value.toNat)))

/-- CLAIM_LO_WRITE (R327): A write to CLAIM_LO holds the claim number for the next CLAIM_HI. -/
def execClaimLoWrite (value : BitVec 32) (s : State) : Host.Outcome State Fault Refusal :=
  .next (settleOn s (s.byHost (claimLoWrite · value.toNat)))

/-- CLAIM_HI_WRITE (R327): A write to CLAIM_HI sends one claim frame with the last CLAIM_LO, or is discarded. -/
def execClaimHiWrite (value : BitVec 32) (s : State) : Host.Outcome State Fault Refusal :=
  .next (settleOn s (s.byHost (claimHiWrite · value.toNat)))

/-- TGT_ABANDON (R327): Writing 0x0000_0001 to TGT_ABANDON abandons the pending fabric cycle. -/
def execTgtAbandon (value : BitVec 32) (s : State) : Host.Outcome State Fault Refusal :=
  .next (settleOn s (s.byHost (tgtAbandon · value.toNat)))

/-- WINDOW_CYCLE (R329): A fabric window cycle becomes one fabric request, completes, collects a pending result, or is retried. -/
def execWindowCycle (cycle : HostCycle) (s : State) : Host.Outcome State Fault Refusal :=
  .next (settleOn s (windowCycleRow s cycle))

/-- TGT_HOLD_EXPIRY (R329): A request not complete within TGT_HOLD clocks ends the cycle with HB_RETRY_N and stays pending. -/
def execTgtHoldExpiry (s : State) : Host.Outcome State Fault Refusal :=
  .next (settleOn s (tgtHoldExpiry s))

/-- FABRIC_CYCLE_COMPLETE (R329): The pending fabric request completes, setting READY and TGT_READY. -/
def execFabricCycleComplete (s : State) : Host.Outcome State Fault Refusal :=
  .next (settleOn s (fabricCycleComplete s))

/-- CROSSING (R330): A crossing makes the higher-ID bridge end its held cycle with BUSY_CROSS and serve the other node's request. -/
def execCrossing (node : Fin 97) (s : State) : Host.Outcome State Fault Refusal :=
  .next (settleOn s (crossing s node.val))

/-- MASTER_REQUEST (R331): A SPACE 0x2 request or SME host access asserts HB_REQ_N and waits for the grant. -/
def execMasterRequest (s : State) : Host.Outcome State Fault Refusal :=
  .next (settleOn s (masterRequest s))

/-- BUS_GRANT (R331): HB_GNT_N low with the bus idle starts the bridge's master cycles. -/
def execBusGrant (cycles : Nat) (data : List Byte) (s : State) : Host.Outcome State Fault Refusal :=
  .next (settleOn s (busGrant s cycles data))

/-- MASTER_RETRY (R331): A master cycle ended by HB_RETRY_N is repeated after two idle clocks, up to MST_RETRY_LIMIT. -/
def execMasterRetry (cycles : Nat) (data : List Byte) (s : State) : Host.Outcome State Fault Refusal :=
  .next (settleOn s (masterRetry s cycles data))

/-- MST_WAIT_TIMEOUT (R331): No beat within MST_WAIT_LIMIT clocks releases the bus and completes the request with TIMEOUT. -/
def execMstWaitTimeout (cycles : Nat) (data : List Byte) (s : State) : Host.Outcome State Fault Refusal :=
  .next (settleOn s (mstWaitTimeout s cycles data))

/-- BRIDGE_COUNTERS_CLEAR (R347): Writing 0 to 0x6001:06 clears the bridge counters. -/
def execBridgeCountersClear (snd : Sender) (s : State) : Host.Outcome State Fault Refusal :=
  .next (settleOn s (s.senderWrite snd 0x6001 6 [0]))

/-- GOOSE_RX (R333): A received GOOSE frame is matched to a subscription, checked and its members replaced. -/
def execGooseRx (port : Fin 4) (frame : EthFrame) (s : State) : Host.Outcome State Fault Refusal :=
  .next (settleOn s (gooseRx s port.val frame))

/-- GOOSE_TAL_EXPIRY (R335): No frame within the TAL makes the subscription stale. -/
def execGooseTalExpiry (subscription : Fin 128) (s : State) : Host.Outcome State Fault Refusal :=
  .next (settleOn s (gooseTalExpiry s subscription.val))

/-- GOOSE_INVALID_EXPIRY (R335): SUB_INVALID_MS after staleness makes every member INVALID. -/
def execGooseInvalidExpiry (subscription : Fin 128) (s : State) : Host.Outcome State Fault Refusal :=
  .next (settleOn s (gooseInvalidExpiry s subscription.val))

/-- GOOSE_REPEAT (R338): A publication repeats at doubling intervals from MIN_TIME to MAX_TIME. -/
def execGooseRepeat (publication : Fin 32) (s : State) : Host.Outcome State Fault Refusal :=
  .next (settleOn s (gooseRepeat s publication.val))

/-- GOOSE_CLEAR (R348): Writing 0 to 0x6100:03 clears the GOOSE counters. -/
def execGooseClear (snd : Sender) (s : State) : Host.Outcome State Fault Refusal :=
  .next (settleOn s (s.senderWrite snd 0x6100 3 [0]))

/-- ARRIVAL_RUN (R339): An input reaching the SME starts a two-pass run of its TRIG 1 entries. -/
def execArrivalRun (faults : List SmeFault) (selfCheck : Fin 3) (s : State) : Host.Outcome State Fault Refusal :=
  .next (settleOn s (arrivalRun s faults selfCheck.val))

/-- CYCLIC_RUN (R339): At each apply instant the SME runs every TRIG 2 entry, or skips it on an overrun. -/
def execCyclicRun (faults : List SmeFault) (selfCheck : Fin 3) (s : State) : Host.Outcome State Fault Refusal :=
  .next (settleOn s (cyclicRun s faults selfCheck.val))

/-- EVENT_IN_WRITE (R349): A write or EVENT to EVENT_IN starts an arrival run for that input. -/
def execEventInWrite (snd : Sender) (input : Fin 64) (data : List Byte) (s : State) : Host.Outcome State Fault Refusal :=
  .next (settleOn s (s.senderWrite snd (0x62C0 + input.val) 0 data))

/-- MAP_COUNTERS_CLEAR (R349): Writing 0 to 0x6203:07 clears the signal map counters. -/
def execMapCountersClear (snd : Sender) (s : State) : Host.Outcome State Fault Refusal :=
  .next (settleOn s (s.senderWrite snd 0x6203 7 [0]))

end Sys2Proof.Machine
end

