-- ==== Sys2Proof/Machine/CanCommands.lean ====
section
/-! DEFINITION. The meanings of the commands of the CAN controllers, one definition for each row. -/
namespace Sys2Proof.Machine

/-- CAN_TX_SUBMIT (R289): A frame record written or sent as an EVENT to TX_SUBMIT is checked and enters its FIFO or the schedule list. -/
def execCanTxSubmit (snd : Sender) (controller : Fin 16) (record : List Byte) (s : State) : Host.Outcome State Fault Refusal :=
  .next (settleOn s (s.senderWrite snd (0x5100 + controller.val) 20 record))

/-- CAN_SCHEDULE_DUE (R290): A scheduled CAN frame enters its FIFO within 1 µs of its TIME after a fresh claim check. -/
def execCanScheduleDue (controller : Fin 16) (s : State) : Host.Outcome State Fault Refusal :=
  .next (settleOn s (canScheduleDue s controller.val))

/-- CAN_START_POINT (R292): At bus idle or after intermission the controller offers the urgent or normal FIFO's head. -/
def execCanStartPoint (controller : Fin 16) (s : State) : Host.Outcome State Fault Refusal :=
  .next (settleOn s (canStartPoint s controller.val))

/-- CAN_TX_OK (R292): A frame sent without error leaves its FIFO and sets LAST_TX_TIME. -/
def execCanTxOk (controller : Fin 16) (sof : Nat) (loopDelay : Nat) (s : State) : Host.Outcome State Fault Refusal :=
  .next (settleOn s (canTxOk s controller.val sof loopDelay))

/-- CAN_TX_ERROR (R294): A frame that loses arbitration or ends in error stays at the head to be sent again. -/
def execCanTxError (controller : Fin 16) (error : CanError) (s : State) : Host.Outcome State Fault Refusal :=
  .next (settleOn s (canTxError s controller.val error))

/-- CAN_BUS_OFF (R295): TEC above 255 enters bus-off and starts recovery, classing the fault transient or lasting. -/
def execCanBusOff (controller : Fin 16) (s : State) : Host.Outcome State Fault Refusal :=
  .next (settleOn s (canBusOff s controller.val))

/-- CAN_BUS_OFF_RECOVERED (R295): After 128 occurrences of 11 recessive bits the controller is error active again. -/
def execCanBusOffRecovered (controller : Fin 16) (s : State) : Host.Outcome State Fault Refusal :=
  .next (settleOn s (canBusOffRecovered s controller.val))

/-- CAN_STUCK (R296): A frame at the head of its FIFO longer than STUCK_LIMIT sets STUCK. -/
def execCanStuck (controller : Fin 16) (urgent : Bool) (s : State) : Host.Outcome State Fault Refusal :=
  .next (settleOn s (canStuck s controller.val urgent))

/-- CAN_FRAME_RX (R299): A frame received without error is matched against the filters and sent to the receive buffer and or the SME. -/
def execCanFrameRx (controller : Fin 16) (frame : CanFrame) (s : State) : Host.Outcome State Fault Refusal :=
  .next (settleOn s (canFrameRx s controller.val frame))

/-- PROTOCOL_EXCEPTION (R298): A recessive res bit with FD_MODE makes the controller stop taking part until bus integration. -/
def execProtocolException (controller : Fin 16) (s : State) : Host.Outcome State Fault Refusal :=
  .next (settleOn s (protocolException s controller.val))

/-- CAN_RX_POLL (R301): A read of RX_POLL returns and removes the oldest receive record, or the not-valid tag. -/
def execCanRxPoll (snd : Sender) (controller : Fin 16) (s : State) : Host.Outcome State Fault Refusal :=
  .next (settleOn s (s.senderRead snd (0x5300 + controller.val) 12))

/-- CAN_TX_HOLD (R302): TX_MISSED apply instants without a live claim apply TX_HOLD to the controller's queues. -/
def execCanTxHold (controller : Fin 16) (s : State) : Host.Outcome State Fault Refusal :=
  .next (settleOn s (canTxHold s controller.val))

/-- CAN_ABORT_URGENT (R305): TX_ABORT bit 0 discards every frame in the urgent FIFO at its next start point. -/
def execCanAbortUrgent (snd : Sender) (controller : Fin 16) (s : State) : Host.Outcome State Fault Refusal :=
  .next (settleOn s (s.senderWrite snd (0x5100 + controller.val) 21 [1]))

/-- CAN_ABORT_NORMAL (R305): TX_ABORT bit 1 discards every frame in the normal FIFO. -/
def execCanAbortNormal (snd : Sender) (controller : Fin 16) (s : State) : Host.Outcome State Fault Refusal :=
  .next (settleOn s (s.senderWrite snd (0x5100 + controller.val) 21 [2]))

/-- CAN_ABORT_SCHEDULE (R305): TX_ABORT bit 2 discards every frame in the schedule list. -/
def execCanAbortSchedule (snd : Sender) (controller : Fin 16) (s : State) : Host.Outcome State Fault Refusal :=
  .next (settleOn s (s.senderWrite snd (0x5100 + controller.val) 21 [4]))

/-- CAN_LOCAL_RESET (R303): CAN_CMD 1 clears TEC and REC, empties the queues and buffer, and integrates again. -/
def execCanLocalReset (snd : Sender) (controller : Fin 16) (s : State) : Host.Outcome State Fault Refusal :=
  .next (settleOn s (s.senderWrite snd (0x5100 + controller.val) 22 [1]))

/-- CAN_CLEAR_ID_CLASH (R297): CAN_CMD 2 clears ID_CLASH. -/
def execCanClearIdClash (snd : Sender) (controller : Fin 16) (s : State) : Host.Outcome State Fault Refusal :=
  .next (settleOn s (s.senderWrite snd (0x5100 + controller.val) 22 [2]))

/-- CAN_COUNTERS_CLEAR (R306): Writing 0 to 0x5300 + n:1D clears the controller's counters. -/
def execCanCountersClear (snd : Sender) (controller : Fin 16) (s : State) : Host.Outcome State Fault Refusal :=
  .next (settleOn s (s.senderWrite snd (0x5300 + controller.val) 29 [0]))

/-- CAN_RX_ERROR (R293): An error found in a frame that another node sends is signalled with an error frame and counted, REC moves and the
error state may change. -/
def execCanRxError (controller : Fin 16) (error : CanError) (s : State) : Host.Outcome State Fault Refusal :=
  .next (settleOn s (canRxError s controller.val error))

/-- CAN_BUS_INTEGRATION (R303): An integrating controller completes bus integration, moves BUS_STATE from 1 to error active and begins
taking part. -/
def execCanBusIntegration (controller : Fin 16) (s : State) : Host.Outcome State Fault Refusal :=
  .next (settleOn s (canBusIntegration s controller.val))

end Sys2Proof.Machine
end

