-- ==== Sys2Proof/Machine/CellCommands.lean ====
section
/-! DEFINITION. The meanings of the commands of the field cells, the energy governor and the sequence-of-events log, one definition for each row. -/
namespace Sys2Proof.Machine

/-- GLITCH_EXPIRY (R221): GLITCH_NS after an edge with no opposite edge, the surviving edge is recorded. -/
def execGlitchExpiry (cell : Fin 320) (s : State) : Host.Outcome State Fault Refusal :=
  .next (settleOn s (glitchExpiry s cell.val))

/-- DEBOUNCE_STABLE (R221): A level stable for DEBOUNCE_US writes one record if it differs from the last recorded level. -/
def execDebounceStable (cell : Fin 320) (s : State) : Host.Outcome State Fault Refusal :=
  .next (settleOn s (debounceStable s cell.val))

/-- CHATTER_SECOND (R222): At each second of ring time a cell's raw edge count sets or clears CHATTER. -/
def execChatterSecond (cell : Fin 320) (s : State) : Host.Outcome State Fault Refusal :=
  .next (settleOn s (chatterSecond s cell.val))

/-- OUT_CMD_DRIVE_LOW (R224): An output command with ACTION 0x00 schedules the cell to drive low at its instant. -/
def execOutCmdDriveLow (cell : Fin 320) (snd : Sender) (instant : BitVec 64) (fraction : Byte) (s : State) : Host.Outcome State Fault Refusal :=
  .next (settleOn s (s.senderWrite snd (0x3000 + cell.val) 20 (outRecord instant.toNat fraction 0 0)))

/-- OUT_CMD_DRIVE_HIGH (R224): An output command with ACTION 0x01 schedules the cell to drive high at its instant. -/
def execOutCmdDriveHigh (cell : Fin 320) (snd : Sender) (instant : BitVec 64) (fraction : Byte) (s : State) : Host.Outcome State Fault Refusal :=
  .next (settleOn s (s.senderWrite snd (0x3000 + cell.val) 20 (outRecord instant.toNat fraction 1 0)))

/-- OUT_CMD_PULSE_HIGH (R224): An output command with ACTION 0x02 schedules a high pulse of WIDTH ns. -/
def execOutCmdPulseHigh (cell : Fin 320) (snd : Sender) (instant : BitVec 64) (fraction : Byte) (width : BitVec 32)
    (s : State) : Host.Outcome State Fault Refusal :=
  .next (settleOn s (s.senderWrite snd (0x3000 + cell.val) 20 (outRecord instant.toNat fraction 2 width.toNat)))

/-- OUT_CMD_PULSE_LOW (R224): An output command with ACTION 0x03 schedules a low pulse of WIDTH ns. -/
def execOutCmdPulseLow (cell : Fin 320) (snd : Sender) (instant : BitVec 64) (fraction : Byte) (width : BitVec 32)
    (s : State) : Host.Outcome State Fault Refusal :=
  .next (settleOn s (s.senderWrite snd (0x3000 + cell.val) 20 (outRecord instant.toNat fraction 3 width.toNat)))

/-- OUT_CMD_SAFE (R224): An output command with ACTION 0x04 schedules the cell to go to its safe value. -/
def execOutCmdSafe (cell : Fin 320) (snd : Sender) (instant : BitVec 64) (fraction : Byte) (s : State) : Host.Outcome State Fault Refusal :=
  .next (settleOn s (s.senderWrite snd (0x3000 + cell.val) 20 (outRecord instant.toNat fraction 4 0)))

/-- OUT_CMD_CANCEL (R224): An output command with ACTION 0x05 withdraws every pending placement of the cell at once. -/
def execOutCmdCancel (cell : Fin 320) (snd : Sender) (instant : BitVec 64) (fraction : Byte) (s : State) : Host.Outcome State Fault Refusal :=
  .next (settleOn s (s.senderWrite snd (0x3000 + cell.val) 20 (outRecord instant.toNat fraction 5 0)))

/-- OUTPUT_PLACEMENT (R225): At a command's ball instant the claim and governor are checked and the level changes within ±1 ns. -/
def execOutputPlacement (cell : Fin 320) (s : State) : Host.Outcome State Fault Refusal :=
  .next (settleOn s (outputPlacement s cell.val))

/-- PULSE_TRAILING_EDGE (R234): A pulse's trailing edge is placed and gives the pulse command its result. -/
def execPulseTrailingEdge (cell : Fin 320) (s : State) : Host.Outcome State Fault Refusal :=
  .next (settleOn s (pulseTrailingEdge s cell.val))

/-- OUT_MISMATCH (R228): A read-back difference lasting 1 µs sets OUT_MISMATCH and publishes the cell's slot with INVALID. -/
def execOutMismatch (cell : Fin 320) (s : State) : Host.Outcome State Fault Refusal :=
  .next (settleOn s (outMismatch s cell.val))

/-- BANK_FAULT (R219): A bank supply out of band for 10 µs puts the bank in fault, high-impedance and with captures stopped. -/
def execBankFault (bank : Fin 8) (mv : BitVec 16) (s : State) : Host.Outcome State Fault Refusal :=
  .next (settleOn s (bankFault s bank.val mv.toNat))

/-- BANK_FAULT_LASTING (R219): A bank supply not back within 1 s makes the fault lasting and moves the node to DEGRADED. -/
def execBankFaultLasting (bank : Fin 8) (s : State) : Host.Outcome State Fault Refusal :=
  .next (settleOn s (bankFaultLasting s bank.val))

/-- BANK_SUPPLY_RETURN (R219): A bank supply back in band ends a transient fault, or closes a lasting fault after 1 s, and the cells resume.
-/
def execBankSupplyReturn (bank : Fin 8) (mv : BitVec 16) (s : State) : Host.Outcome State Fault Refusal :=
  .next (settleOn s (bankSupplyReturn s bank.val mv.toNat).fcFollowAll)

/-- CELL_HOLD_POLICY (R230): MISSED apply instants without a live claim apply a fabric-owned output's HOLD_POLICY. -/
def execCellHoldPolicy (cell : Fin 320) (s : State) : Host.Outcome State Fault Refusal :=
  .next (settleOn s (cellHoldPolicy s cell.val))

/-- GOV_CHECK (R231): Every 1 µs the energy governor integrates each governed output's energy and checks its budgets. -/
def execGovCheck (s : State) : Host.Outcome State Fault Refusal :=
  .next (settleOn s (govCheck s))

/-- BUCKET_ROLL (R233): At each bucket boundary the oldest window bucket leaves WINDOW_ENERGY and GOV_WINDOW may clear. -/
def execBucketRoll (cell : Fin 320) (s : State) : Host.Outcome State Fault Refusal :=
  .next (settleOn s (bucketRoll s cell.val))

/-- GOV_RESET (R234): Writing 1 to GOV_RESET with the highest live claim clears GOV_CUT. -/
def execGovReset (cell : Fin 320) (snd : Sender) (s : State) : Host.Outcome State Fault Refusal :=
  .next (settleOn s (s.senderWrite snd (0x3000 + cell.val) 21 [1]))

/-- SOE_RECORD_WRITE (R235): The SOE writer copies a capture record into the circular log, or drops it when its queue or log is full. -/
def execSoeRecordWrite (source : Option (Fin 320)) (s : State) : Host.Outcome State Fault Refusal :=
  .next (settleOn s (soeRecordWrite s (source.map (·.val))))

/-- SOE_READ_WRITE (R236): A write to SOE_READ advances the host's consumed mark within the held records. -/
def execSoeReadWrite (snd : Sender) (value : BitVec 64) (s : State) : Host.Outcome State Fault Refusal :=
  .next (settleOn s (s.senderWrite snd 0x3210 6 (leBytes 8 value.toNat)))

/-- CELL_COUNTERS_CLEAR (R237): Writing 0 to subindex 0x21 clears a cell's counters. -/
def execCellCountersClear (cell : Fin 320) (snd : Sender) (s : State) : Host.Outcome State Fault Refusal :=
  .next (settleOn s (s.senderWrite snd (0x3000 + cell.val) 33 [0]))

end Sys2Proof.Machine
end

