-- ==== Sys2Proof/Machine/CheckCommands.lean ====
section
/-! DEFINITION. The meanings of the commands of the check-value units, one definition for each row. -/
namespace Sys2Proof.Machine

/-- JOB_START (R357): JOB_CMD 1 starts a memory check job from INIT. -/
def execJobStart (snd : Sender) (unit : Fin 24) (s : State) : Host.Outcome State Fault Refusal :=
  .next (settleOn s (s.senderWrite snd (0x7080 + unit.val) 4 [1]))

/-- JOB_CONTINUE (R357): JOB_CMD 2 continues a memory check job from the context's running value. -/
def execJobContinue (snd : Sender) (unit : Fin 24) (s : State) : Host.Outcome State Fault Refusal :=
  .next (settleOn s (s.senderWrite snd (0x7080 + unit.val) 4 [2]))

/-- JOB_ABANDON (R357): JOB_CMD 3 abandons the running job and leaves the context unchanged. -/
def execJobAbandon (snd : Sender) (unit : Fin 24) (s : State) : Host.Outcome State Fault Refusal :=
  .next (settleOn s (s.senderWrite snd (0x7080 + unit.val) 4 [3]))

/-- JOB_COMPLETE (R357): A job ends, saving the context and setting JOB_RESULT, or failing with its read status. -/
def execJobComplete (unit : Fin 24) (status : Byte) (host : List Byte) (s : State) : Host.Outcome State Fault Refusal :=
  .next (settleOn s (jobComplete s unit.val status.toNat host))

/-- CTX_VALUE_WRITE (R358): A write to CTX_VALUE sets the selected context's running value. -/
def execCtxValueWrite (snd : Sender) (unit : Fin 24) (value : BitVec 32) (s : State) : Host.Outcome State Fault Refusal :=
  .next (settleOn s (s.senderWrite snd (0x70A0 + unit.val) 2 (leBytes 4 value.toNat)))

/-- CTX_ALIVE_WRITE (R358): A write to CTX_ALIVE sets the selected context's counter and marks it synchronised. -/
def execCtxAliveWrite (snd : Sender) (unit : Fin 24) (value : Byte) (s : State) : Host.Outcome State Fault Refusal :=
  .next (settleOn s (s.senderWrite snd (0x70A0 + unit.val) 3 [value]))

/-- CK_LOCAL_RESET (R359): CK_CMD 1 resets every context of the unit and abandons its job. -/
def execCkLocalReset (snd : Sender) (unit : Fin 24) (s : State) : Host.Outcome State Fault Refusal :=
  .next (settleOn s (s.senderWrite snd (0x7060 + unit.val) 9 [1]))

/-- CK_COUNTERS_CLEAR (R361): Writing 0 to 0x7060 + u:0A clears the unit's counters. -/
def execCkCountersClear (snd : Sender) (unit : Fin 24) (s : State) : Host.Outcome State Fault Refusal :=
  .next (settleOn s (s.senderWrite snd (0x7060 + unit.val) 10 [0]))

end Sys2Proof.Machine
end

