-- ==== Sys2Proof/Machine/DictionaryCommands.lean ====
section
/-! DEFINITION. The meanings of the commands of the object dictionary, its access paths and the configuration store, one definition for each row. -/
namespace Sys2Proof.Machine

/-- OBJECT_READ (R28): An object READ request on any access path is checked in the order of R470 and answered with the object's value or a
status. -/
def execObjectRead (who : Requester) (req : ObjReq) (s : State) : Host.Outcome State Fault Refusal :=
  .next (settleOn s (s.request who { req with opcode := 1 }))

/-- OBJECT_WRITE (R470): An object WRITE to an object that has no row of its own is checked under R470 and stored as RW, staged as RWS, or
refused. -/
def execObjectWrite (who : Requester) (req : ObjReq) (s : State) : Host.Outcome State Fault Refusal :=
  .next (settleOn s (s.request who { req with opcode := 2 }))

/-- SEG_READ (R49): A segmented read of a DOMAIN returns one segment and latches or checks the DOMAIN generation for its requester. -/
def execSegRead (who : Requester) (req : ObjReq) (s : State) : Host.Outcome State Fault Refusal :=
  .next (settleOn s (s.request who { req with opcode := 3 }))

/-- SEG_WRITE (R49): A segmented write opens or continues a DOMAIN write session, and its LAST segment applies the whole DOMAIN under its
access code. -/
def execSegWrite (who : Requester) (req : ObjReq) (s : State) : Host.Outcome State Fault Refusal :=
  .next (settleOn s (s.request who { req with opcode := 4 }))

/-- SEG_ABORT (R49): A SEG_ABORT from the session's own requester discards the open write session. -/
def execSegAbort (who : Requester) (req : ObjReq) (s : State) : Host.Outcome State Fault Refusal :=
  .next (settleOn s (s.request who { req with opcode := 5 }))

/-- WRITE_SESSION_IDLE (R49): A DOMAIN write session idle for 1 s is discarded. -/
def execWriteSessionIdle (index : BitVec 16) (s : State) : Host.Outcome State Fault Refusal :=
  .next (settleOn s (writeSessionIdle s index.toNat))

/-- READ_LATCH_LAPSE (R49): A requester's latched DOMAIN generation lapses after 1 s without a segment. -/
def execReadLatchLapse (who : Requester) (index : BitVec 16) (s : State) : Host.Outcome State Fault Refusal :=
  .next (settleOn s (readLatchLapse s who index.toNat))

/-- REMOTE_TIMEOUT (R50): A forwarded request with no response within REMOTE_TIMEOUT completes with TIMEOUT. -/
def execRemoteTimeout (tag : BitVec 16) (s : State) : Host.Outcome State Fault Refusal :=
  .next (settleOn s (remoteTimeout s tag.toNat))

/-- MEMORY_READ (R472): A READ of SPACE 0x1 to 0x4 is checked under R22 and R23 and answered with a READ_RESP within the stated times. -/
def execMemoryRead (frame : Frame) (s : State) : Host.Outcome State Fault Refusal :=
  .next (settleOn s (memoryRead s frame))

/-- MEMORY_WRITE (R23): A write to SPACE 0x1 to 0x4 is checked under R22 and R23 and carried out in the addressed space. -/
def execMemoryWrite (frame : Frame) (s : State) : Host.Outcome State Fault Refusal :=
  .next (settleOn s (memoryWrite s frame))

/-- KEDOGIL_DATAGRAM (R52): A UDP datagram to port 47,210 is checked for header, length and allow list, then executed as an object request
and answered. -/
def execKedogilDatagram (port : Fin 4) (address : BitVec 32) (udpPort : BitVec 16) (payload : List Byte)
    (s : State) : Host.Outcome State Fault Refusal :=
  .next (settleOn s (kedogilDatagram s port.val address.toNat udpPort.toNat payload))

/-- DOORBELL (R53): Writing 0x0000_0001 to the mailbox DOORBELL submits REQUEST, or sets OVERRUN while BUSY. -/
def execDoorbell (value : BitVec 32) (s : State) : Host.Outcome State Fault Refusal :=
  .next (settleOn s (s.byHost (doorbell · value.toNat)))

/-- MAILBOX_COMPLETE (R53): Completion of a mailbox request writes RESPONSE, clears BUSY and sets DONE. -/
def execMailboxComplete (s : State) : Host.Outcome State Fault Refusal :=
  .next (settleOn s (mailboxComplete s))

/-- FARIF_FRAME (R54): A Farif frame on the service link is CRC-checked and its body handled as an object request, link check or image
frame. -/
def execFarifFrame (kind : Byte) (body : List Byte) (crc : BitVec 32) (s : State) : Host.Outcome State Fault Refusal :=
  .next (settleOn s (farifFrame s kind.toNat body crc.toNat))

/-- STAGE_VALIDATE (R36): STAGE_CMD 1 validates the staging area and, on success, arms the commit for the first epoch boundary at or after
COMMIT_AT. -/
def execStageValidate (snd : Sender) (s : State) : Host.Outcome State Fault Refusal :=
  .next (settleOn s (s.senderWrite snd 0x1120 1 [1]))

/-- STAGE_DISCARD (R38): STAGE_CMD 2 discards the staging area and cancels a validated commit. -/
def execStageDiscard (snd : Sender) (s : State) : Host.Outcome State Fault Refusal :=
  .next (settleOn s (s.senderWrite snd 0x1120 1 [2]))

/-- STAGE_WITHDRAW (R38): STAGE_CMD 3 withdraws a validated commit and returns STAGE_STATE to 1, keeping the staged set. -/
def execStageWithdraw (snd : Sender) (s : State) : Host.Outcome State Fault Refusal :=
  .next (settleOn s (s.senderWrite snd 0x1120 1 [3]))

/-- COMMIT_APPLY (R36): At the armed epoch boundary the staged set is validated afresh and applied together, or the commit fails. -/
def execCommitApply (s : State) : Host.Outcome State Fault Refusal :=
  .next (settleOn s (commitApply s).swapStopped)

/-- COMMIT_TIMEOUT (R37): A mordant-point object not applied within COMMIT_TIMEOUT epochs fails the commit and moves the node to HELD. -/
def execCommitTimeout (s : State) : Host.Outcome State Fault Refusal :=
  .next (settleOn s (commitTimeout s))

/-- STORE (R40): STORE_CMD 1 snapshots every class-P active value and starts writing it to the older configuration copy. -/
def execStore (snd : Sender) (s : State) : Host.Outcome State Fault Refusal :=
  .next (settleOn s (s.senderWrite snd 0x1130 1 [1]))

/-- STORE_COMPLETE (R40): A store finishes with its read-back check, setting STORE_STATE to done or failed and CONFIG_VALID. -/
def execStoreComplete (readBackGood : Bool) (s : State) : Host.Outcome State Fault Refusal :=
  .next (settleOn s (storeComplete s readBackGood))

/-- STORE_ERASE (R42): STORE_CMD 2 erases both configuration copies unless a store is busy. -/
def execStoreErase (snd : Sender) (s : State) : Host.Outcome State Fault Refusal :=
  .next (settleOn s (s.senderWrite snd 0x1130 1 [2]))

/-- HELD_ORDER_WRITE (R56): A write to HELD_ORDER orders HELD and latches it, or releases the latch with the highest live claim. -/
def execHeldOrderWrite (snd : Sender) (value : Byte) (s : State) : Host.Outcome State Fault Refusal :=
  .next (settleOn s (s.senderWrite snd 0x1107 0 [value]))

/-- OBJECT_RESP_RX (R48): An OBJECT_RESP completes the outstanding object request and is relayed to its requester. -/
def execObjectRespRx (frame : Frame) (s : State) : Host.Outcome State Fault Refusal :=
  .next (settleOn s (objectRespRx s frame))

end Sys2Proof.Machine
end

