-- ==== Sys2Proof/Machine/DiverseCommands.lean ====
section
/-! DEFINITION. The meanings of the commands of time-diverse execution, one definition for each row. -/
namespace Sys2Proof.Machine

/-- SELFTEST (R371): The SME self-test checks the compute path and map memory for up to 4 ms. -/
def execSelftest (s : State) : Host.Outcome State Fault Refusal :=
  .next (settleOn s (selftest s))

/-- SELFTEST_COMPLETE (R371): The self-test outcome takes banks or the whole SME out of service or lets it resume. -/
def execSelftestComplete (computeFails : Bool) (banks : Fin 16) (areaFails : Bool) (s : State) : Host.Outcome State Fault Refusal :=
  .next (settleOn s (selftestComplete s computeFails banks.val areaFails))

/-- SELFTEST_CMD (R377): Writing 1 to SELFTEST_CMD starts the self-test. -/
def execSelftestCmd (snd : Sender) (s : State) : Host.Outcome State Fault Refusal :=
  .next (settleOn s (s.senderWrite snd 0x7410 2 [1]))

/-- SELFTEST_INTERVAL_EXPIRY (R370): Every SELFTEST_INTERVAL hours the self-test starts. -/
def execSelftestIntervalExpiry (s : State) : Host.Outcome State Fault Refusal :=
  .next (settleOn s (selftestIntervalExpiry s))

/-- DEBUG_HALT (R374): DEBUG_CMD 1 over the service link halts the SME and sets DEBUG_BROKE. -/
def execDebugHalt (snd : Sender) (s : State) : Host.Outcome State Fault Refusal :=
  .next (settleOn s (s.senderWrite snd 0x7410 4 [1]))

/-- DEBUG_RESUME (R374): DEBUG_CMD 2 resumes the SME from its mordant point. -/
def execDebugResume (snd : Sender) (s : State) : Host.Outcome State Fault Refusal :=
  .next (settleOn s (s.senderWrite snd 0x7410 4 [2]))

/-- SME_COUNTERS_CLEAR (R377): Writing 0 to 0x7410:06 clears the listed SME counters. -/
def execSmeCountersClear (snd : Sender) (s : State) : Host.Outcome State Fault Refusal :=
  .next (settleOn s (s.senderWrite snd 0x7410 6 [0]))

end Sys2Proof.Machine
end

