-- ==== Sys2Proof/Machine/EngineCommands.lean ====
section
/-! DEFINITION. The meanings of the commands of the I/O engines, one definition for each row. -/
namespace Sys2Proof.Machine

/-- ENGINE_TRANSITION (R247): A running engine takes the first true slot of its state, processes its actions and moves to NEXT, or stalls.
-/
def execEngineTransition (engine : Fin 64) (s : State) : Host.Outcome State Fault Refusal :=
  .next (settleOn s (engineTransition s engine.val))

/-- QUEUED_ACTION_DUE (R251): A queued engine action whose time has come executes or is placed by its cell's placer. -/
def execQueuedActionDue (engine : Fin 64) (s : State) : Host.Outcome State Fault Refusal :=
  .next (settleOn s (queuedActionDue s engine.val))

/-- COMPARE_FIRE (R252): A compare fires in the first engine clock at or after its time and wakes the engine. -/
def execCompareFire (engine : Fin 64) (compare : Fin 2) (s : State) : Host.Outcome State Fault Refusal :=
  .next (settleOn s (compareFire s engine.val compare.val))

/-- ENGINE_WAKE (R257): A wake source restarts a sleeping engine's clock. -/
def execEngineWake (engine : Fin 64) (s : State) : Host.Outcome State Fault Refusal :=
  .next (settleOn s (engineWake s engine.val))

/-- STALL_END (R253): The event that ends a stall wakes the engine to sample and test afresh. -/
def execStallEnd (engine : Fin 64) (s : State) : Host.Outcome State Fault Refusal :=
  .next (settleOn s (stallEnd s engine.val))

/-- LONG_STALL (R253): A stall lasting longer than STALL_LIMIT is counted and logged as a transient engine fault. -/
def execLongStall (engine : Fin 64) (s : State) : Host.Outcome State Fault Refusal :=
  .next (settleOn s (longStall s engine.val))

/-- SHIFT_END (R254): A shift ends after n bit periods, pushing SH_IN with AUTO and leaving the shifter idle. -/
def execShiftEnd (engine : Fin 64) (sampled : BitVec 32) (s : State) : Host.Outcome State Fault Refusal :=
  .next (settleOn s (shiftEnd s engine.val sampled.toNat))

/-- SHIFTER_BOUNDARY (R255): At an AUTO word boundary the shifter pushes SH_IN and pops the next word, or stalls there. -/
def execShifterBoundary (engine : Fin 64) (sampled : BitVec 32) (s : State) : Host.Outcome State Fault Refusal :=
  .next (settleOn s (shifterBoundary s engine.val sampled.toNat))

/-- SHIFTER_RESUME (R255): A stalled shifter makes its push and pop once possible and resumes 100 ns later. -/
def execShifterResume (engine : Fin 64) (s : State) : Host.Outcome State Fault Refusal :=
  .next (settleOn s (shifterResume s engine.val))

/-- ENGINE_START (R258): An engine starts at ENTRY with reloaded counters when its running conditions become true. -/
def execEngineStart (engine : Fin 64) (s : State) : Host.Outcome State Fault Refusal :=
  .next (settleOn s (engineStart s engine.val))

/-- ENGINE_STOP (R258): An engine stops, its owned pins go to SAFE_VALUE and queued actions are cancelled and reported. -/
def execEngineStop (engine : Fin 64) (s : State) : Host.Outcome State Fault Refusal :=
  .next (settleOn s (engineStop s engine.val))

/-- MORDANT_SWAP (R260): An armed swap takes place in the first clock at a mordant point after the commit boundary. -/
def execMordantSwap (engine : Fin 64) (s : State) : Host.Outcome State Fault Refusal :=
  .next (settleOn s (mordantSwap s engine.val))

/-- FORCED_SWAP (R262): With SWAP_MODE 1 the armed swap is forced at the commit boundary, aborting the shift and queue. -/
def execForcedSwap (engine : Fin 64) (s : State) : Host.Outcome State Fault Refusal :=
  .next (settleOn s (forcedSwap s engine.val))

/-- ENG_CMD_FORCED_SWAP (R261): ENG_CMD 1 forces the armed program swap at once. -/
def execEngCmdForcedSwap (snd : Sender) (engine : Fin 64) (s : State) : Host.Outcome State Fault Refusal :=
  .next (settleOn s (s.senderWrite snd (0x4100 + engine.val) 5 [1]))

/-- ENG_CMD_LOCAL_RESET (R258): ENG_CMD 2 restarts the engine with its active program and records the abort. -/
def execEngCmdLocalReset (snd : Sender) (engine : Fin 64) (s : State) : Host.Outcome State Fault Refusal :=
  .next (settleOn s (s.senderWrite snd (0x4100 + engine.val) 5 [2]))

/-- ENGINE_COUNTERS_CLEAR (R267): Writing 0 to subindex 0x1C clears an engine's counters. -/
def execEngineCountersClear (snd : Sender) (engine : Fin 64) (s : State) : Host.Outcome State Fault Refusal :=
  .next (settleOn s (s.senderWrite snd (0x4100 + engine.val) 28 [0]))

end Sys2Proof.Machine
end

