-- ==== Sys2Proof/Machine/FifoCommands.lean ====
section
/-! DEFINITION. The meanings of the commands of the engine FIFOs, one definition for each row. -/
namespace Sys2Proof.Machine

/-- ENGINE_FRAME_OFFER (R271): A closed transmit message is offered to the switch as one frame and its words leave on admission. -/
def execEngineFrameOffer (engine : Fin 64) (selfCheck : Fin 3) (s : State) : Host.Outcome State Fault Refusal :=
  .next (settleOn s (engineFrameOffer s engine.val selfCheck.val))

/-- TX_POLL (R273): A read of TX_POLL returns and removes one word of the oldest closed message, or the not-valid tag. -/
def execTxPoll (snd : Sender) (engine : Fin 64) (s : State) : Host.Outcome State Fault Refusal :=
  .next (settleOn s (s.senderRead snd (0x4200 + engine.val) 20))

/-- RESERVATION_GRANT (R275): A waiting write is granted its receive FIFO reservation in request order. -/
def execReservationGrant (engine : Fin 64) (s : State) : Host.Outcome State Fault Refusal :=
  .next (settleOn s (reservationGrant s engine.val))

/-- RX_WORDS_ARRIVE (R274): A reserved write's words enter the receive FIFO whole. -/
def execRxWordsArrive (engine : Fin 64) (s : State) : Host.Outcome State Fault Refusal :=
  .next (settleOn s (rxWordsArrive s engine.val))

/-- FIFO_FLUSH_RX (R280): FIFO_CMD 1 discards the receive FIFO's present words. -/
def execFifoFlushRx (snd : Sender) (engine : Fin 64) (s : State) : Host.Outcome State Fault Refusal :=
  .next (settleOn s (s.senderWrite snd (0x4200 + engine.val) 21 [1]))

/-- FIFO_FLUSH_TX (R280): FIFO_CMD 2 discards every held transmit word. -/
def execFifoFlushTx (snd : Sender) (engine : Fin 64) (s : State) : Host.Outcome State Fault Refusal :=
  .next (settleOn s (s.senderWrite snd (0x4200 + engine.val) 21 [2]))

/-- FIFO_FLUSH_BOTH (R280): FIFO_CMD 3 flushes both FIFOs. -/
def execFifoFlushBoth (snd : Sender) (engine : Fin 64) (s : State) : Host.Outcome State Fault Refusal :=
  .next (settleOn s (s.senderWrite snd (0x4200 + engine.val) 21 [3]))

/-- FIFO_COUNTERS_CLEAR (R281): Writing 0 to subindex 0x1A clears an engine's FIFO counters. -/
def execFifoCountersClear (snd : Sender) (engine : Fin 64) (s : State) : Host.Outcome State Fault Refusal :=
  .next (settleOn s (s.senderWrite snd (0x4200 + engine.val) 26 [0]))

end Sys2Proof.Machine
end

