-- ==== Sys2Proof/Machine/FirmwareCommands.lean ====
section
/-! DEFINITION. The meanings of the commands of firmware slots, the service link and recovery, one definition for each row. -/
namespace Sys2Proof.Machine

/-- IMG_BEGIN (R434): IMG_BEGIN aborts any open download and starts erasing the named slot. -/
def execImgBegin (slot : Byte) (total : BitVec 32) (s : State) : Host.Outcome State Fault Refusal :=
  .next (settleOn s (imgBegin s slot.toNat total.toNat))

/-- ERASE_COMPLETE (R434): The slot erase completes and data frames are taken. -/
def execEraseComplete (s : State) : Host.Outcome State Fault Refusal :=
  .next (settleOn s (eraseComplete s))

/-- IMG_DATA (R434): IMG_DATA at NEXT_OFFSET is programmed, repeated, or aborts the download. -/
def execImgData (offset : BitVec 32) (data : List Byte) (s : State) : Host.Outcome State Fault Refusal :=
  .next (settleOn s (imgData s offset.toNat data))

/-- IMG_END (R434): IMG_END checks the complete image under R432 and sets the slot valid or failed. -/
def execImgEnd (s : State) : Host.Outcome State Fault Refusal :=
  .next (settleOn s (imgEnd s))

/-- IMG_ABORT (R434): IMG_ABORT ends the download and leaves the slot failed. -/
def execImgAbort (s : State) : Host.Outcome State Fault Refusal :=
  .next (settleOn s (imgAbort s))

/-- IMG_STATUS (R433): IMG_STATUS is answered with an IMG_RESP and no other effect. -/
def execImgStatus (s : State) : Host.Outcome State Fault Refusal :=
  .next (settleOn s (imgStatusFrame s))

/-- DOWNLOAD_TIMEOUT (R434): 10 s with no image frame ends the download. -/
def execDownloadTimeout (s : State) : Host.Outcome State Fault Refusal :=
  .next (settleOn s (downloadTimeout s))

/-- RECOVER_START (R445): In RECOVERY, RECOVER_START sets a valid slot active, clears FAILED_STARTS and restarts as a WARM reset. -/
def execRecoverStart (slot : Byte) (s : State) : Host.Outcome State Fault Refusal :=
  .next (settleOn s (recoverStart s slot.toNat))

/-- FW_CMD_ACTIVATE (R435): FW_CMD 1 rechecks the inactive slot and schedules the activation pause. -/
def execFwCmdActivate (snd : Sender) (s : State) : Host.Outcome State Fault Refusal :=
  .next (settleOn s (s.senderWrite snd 0x1300 5 [1]))

/-- ACTIVATION_PAUSE (R437): 1 ms after the response the pause switches to the new image while the ring runs on. -/
def execActivationPause (finish : Option PauseEnd) (s : State) : Host.Outcome State Fault Refusal :=
  .next (settleOn s (activationPause s finish))

/-- FW_CMD_CONFIRM (R441): FW_CMD 2 confirms a trial image. -/
def execFwCmdConfirm (snd : Sender) (s : State) : Host.Outcome State Fault Refusal :=
  .next (settleOn s (s.senderWrite snd 0x1300 5 [2]))

/-- FW_CMD_ERASE_EXPORT (R440): FW_CMD 3 erases the export copy. -/
def execFwCmdEraseExport (snd : Sender) (s : State) : Host.Outcome State Fault Refusal :=
  .next (settleOn s (s.senderWrite snd 0x1300 5 [3]))

/-- TRIAL_EXPIRY (R441): TRIAL_TIME in HELD, RUNNING or DEGRADED without a reset confirms the trial image. -/
def execTrialExpiry (s : State) : Host.Outcome State Fault Refusal :=
  .next (settleOn s (trialExpiry s))

end Sys2Proof.Machine
end

