-- ==== Sys2Proof/Machine/PinCommands.lean ====
section
/-! DEFINITION. The meanings of the commands of the pins, one definition for each row. -/
namespace Sys2Proof.Machine

/-- RAIL_TIMEOUT (R453): Waited-for rails not within limits 100 ms after PGOOD rises write a verdigris head entry. -/
def execRailTimeout (rails : Fin 64) (s : State) : Host.Outcome State Fault Refusal :=
  .next (settle s (railTimeout s rails.val))

/-- SERVICE_LINK_LOCK (R461): The service link receiver locks to the first rate at which it receives three commas in a row, and sends at
that rate. -/
def execServiceLinkLock (rate : Fin 4) (s : State) : Host.Outcome State Fault Refusal :=
  .next (settleOn s (serviceLinkLock s rate.val))

/-- SERVICE_LINK_LOCK_LOST (R461): Four invalid code groups within 16 make the service link lose lock and search the rates again. -/
def execServiceLinkLockLost (s : State) : Host.Outcome State Fault Refusal :=
  .next (settleOn s (serviceLinkLockLost s))

end Sys2Proof.Machine
end

