-- ==== Sys2Proof/Machine/PowerEntryCommands.lean ====
section
/-! DEFINITION. The meanings of the commands of the power entry, one definition for each row. -/
namespace Sys2Proof.Machine

/-- POWER_ENTRY_TICK (R384): Every 1 µs the power entry classifies feeds and runs overvoltage, timer, ramp, path, PGOOD and warning steps in
order. -/
def execPowerEntryTick (sample : PeSample) (s : State) : Host.Outcome State Fault Refusal :=
  .next (settle s (powerEntryTick s sample))

/-- REMOVAL (R383): Every feed below 2 V for 10 ms clears the latch, retry timer and count and takes the state to OFF. -/
def execRemoval (s : State) : Host.Outcome State Fault Refusal :=
  .next (settle s (removal s))

/-- HK_DOMAIN_RESET (R380): VHK below 2.5 V resets the housekeeping domain. -/
def execHkDomainReset (s : State) : Host.Outcome State Fault Refusal :=
  .next (settle s (hkDomainReset s))

/-- INSERT_DELAY_EXPIRY (R386): A feed good for INSERT_DELAY starts the ramp on the start path. -/
def execInsertDelayExpiry (s : State) : Host.Outcome State Fault Refusal :=
  .next (settle s (insertDelayExpiry s))

/-- RAMP_COMPLETE (R387): The bus within 300 mV of VCOM drives the gate fully on and moves to SETTLE at full enhancement. -/
def execRampComplete (s : State) : Host.Outcome State Fault Refusal :=
  .next (settle s (rampComplete s))

/-- RAMP_TIMEOUT (R387): Full enhancement not reached within RAMP_LIMIT trips with cause RAMP_TIMEOUT. -/
def execRampTimeout (s : State) : Host.Outcome State Fault Refusal :=
  .next (settle s (rampTimeout s))

/-- SETTLE_EXPIRY (R389): SETTLE_TIME with the fault timer at 0 raises PGOOD. -/
def execSettleExpiry (s : State) : Host.Outcome State Fault Refusal :=
  .next (settle s (settleExpiry s))

/-- FAULT_TIME_EXPIRY (R390): The fault timer reaching FAULT_TIME trips with cause OVERCURRENT. -/
def execFaultTimeExpiry (s : State) : Host.Outcome State Fault Refusal :=
  .next (settle s (faultTimeExpiry s))

/-- SHORT_TRIP (R390): A sense voltage of twice ILIM trips at once with cause SHORT. -/
def execShortTrip (s : State) : Host.Outcome State Fault Refusal :=
  .next (settle s (shortTrip s))

/-- RETRY_TIME_EXPIRY (R391): The retry timer expiring starts a ramp as soon as a feed is good. -/
def execRetryTimeExpiry (s : State) : Host.Outcome State Fault Refusal :=
  .next (settle s (retryTimeExpiry s))

/-- RETRY_COUNT_RESET (R391): PGOOD high for 10 s returns the retry count to 0. -/
def execRetryCountReset (s : State) : Host.Outcome State Fault Refusal :=
  .next (settle s (retryCountReset s))

/-- PE_EN_LOW (R392): PE_EN low turns every gate off and enters DISABLED. -/
def execPeEnLow (s : State) : Host.Outcome State Fault Refusal :=
  .next (settle s (peEnLow s))

/-- PE_EN_HIGH (R392): PE_EN high with the latch clear goes to INSERT, clearing LATCHED after a low of 10 µs. -/
def execPeEnHigh (lowNs : Nat) (s : State) : Host.Outcome State Fault Refusal :=
  .next (settle s (peEnHigh s lowNs))

/-- REVERSE_TURNOFF (R395): A diode path whose feed falls 10 mV below VCOM has its gate pulled off within 0.5 µs. -/
def execReverseTurnoff (path : Fin 2) (s : State) : Host.Outcome State Fault Refusal :=
  .next (settle s (reverseTurnoff s (path.val + 1)))

/-- BBM_TRANSFER (R396): A break-before-make transfer turns the outgoing gate off, waits BBM_US and turns the incoming gate on. -/
def execBbmTransfer (s : State) : Host.Outcome State Fault Refusal :=
  .next (settle s (bbmTransfer s))

/-- PRIO_RETURN_EXPIRY (R397): PRIO_FEED good for PRIO_RETURN returns the load to it. -/
def execPrioReturnExpiry (s : State) : Host.Outcome State Fault Refusal :=
  .next (settle s (prioReturnExpiry s))

/-- PE_CMD_TEST_FEED1 (R398): PE_CMD 1 makes feed 1 carry alone for TEST_TIME. -/
def execPeCmdTestFeed1 (snd : Sender) (s : State) : Host.Outcome State Fault Refusal :=
  .next (settleOn s (s.senderWrite snd 0x7830 0 [1]))

/-- PE_CMD_TEST_FEED2 (R398): PE_CMD 2 makes feed 2 carry alone for TEST_TIME. -/
def execPeCmdTestFeed2 (snd : Sender) (s : State) : Host.Outcome State Fault Refusal :=
  .next (settleOn s (s.senderWrite snd 0x7830 0 [2]))

/-- PE_CMD_RETURN (R397): PE_CMD 3 returns the load to PRIO_FEED at once. -/
def execPeCmdReturn (snd : Sender) (s : State) : Host.Outcome State Fault Refusal :=
  .next (settleOn s (s.senderWrite snd 0x7830 0 [3]))

/-- TEST_TIME_EXPIRY (R398): The end of a feed test restores the paths and reports TEST_RESULT. -/
def execTestTimeExpiry (s : State) : Host.Outcome State Fault Refusal :=
  .next (settle s (testTimeExpiry s))

/-- FEED_RETEST (R398): A feed that fell below WARN_MV in a test is tested again 1 s later. -/
def execFeedRetest (s : State) : Host.Outcome State Fault Refusal :=
  .next (settle s (feedRetest s))

/-- FEED_FAULT_LASTING (R398): A feed not back within 1 s sets FEED_SINGLE and moves the node to DEGRADED. -/
def execFeedFaultLasting (feed : Fin 2) (s : State) : Host.Outcome State Fault Refusal :=
  .next (settle s (feedFaultLasting s (feed.val + 1)))

/-- FEED_FAULT_CLOSE (R398): A feed good for 1 s closes its lasting fault. -/
def execFeedFaultClose (feed : Fin 2) (s : State) : Host.Outcome State Fault Refusal :=
  .next (settle s (feedFaultClose s (feed.val + 1)))

/-- PE_MEASURE_CLEAR (R406): Writing 0 to 0x7820:0C restarts the peak and extreme measurements. -/
def execPeMeasureClear (snd : Sender) (s : State) : Host.Outcome State Fault Refusal :=
  .next (settleOn s (s.senderWrite snd 0x7820 12 [0]))

/-- HK_DOMAIN_CLEAN_START (R380): A feed rising to 5 V while the housekeeping domain is unpowered brings the domain up clean, with default
settings and state OFF. -/
def execHkDomainCleanStart (rtcPeriods : Nat) (s : State) : Host.Outcome State Fault Refusal :=
  .next (settle s (hkDomainCleanStart s rtcPeriods))

end Sys2Proof.Machine
end

