-- ==== Sys2Proof/Machine/ResetCommands.lean ====
section
/-! DEFINITION. The meanings of the commands of resets and power states, one definition for each row. -/
namespace Sys2Proof.Machine

/-- POR (R407): PGOOD rising or VDD_CORE below threshold resets every block except housekeeping and backup island. -/
def execPor (s : State) : Host.Outcome State Fault Refusal :=
  .next (settle s (por s))

/-- PIN_RESET (R408): RST_N low for 1 µs or more holds the node in reset until RST_N has been high 10 µs. -/
def execPinReset (lowNs : Nat) (taken : Bool) (s : State) : Host.Outcome State Fault Refusal :=
  .next (settle s (pinReset s lowNs taken))

/-- WDG_EXPIRY (R410): A watchdog not serviced within WDG_PERIOD raises a WDG reset. -/
def execWdgExpiry (s : State) : Host.Outcome State Fault Refusal :=
  .next (settle s (wdgExpiry s))

/-- RESET_CMD_WARM (R409): RESET_CMD 1 resets the node unless the ring is wrapped. -/
def execResetCmdWarm (snd : Sender) (s : State) : Host.Outcome State Fault Refusal :=
  .next (settleOn s (s.senderWrite snd 0x1200 1 [1]))

/-- RESET_CMD_FORCED (R409): RESET_CMD 2 resets the node even while the ring is wrapped. -/
def execResetCmdForced (snd : Sender) (s : State) : Host.Outcome State Fault Refusal :=
  .next (settleOn s (s.senderWrite snd 0x1200 1 [2]))

/-- RESET_BEGIN (R409): 1 ms after the RESET_CMD response the RING or WARM reset begins. -/
def execResetBegin (s : State) : Host.Outcome State Fault Refusal :=
  .next (settle s (resetBegin s))

/-- START_SEQUENCE (R418): After a reset or wake the node runs the start steps through LOADING to HELD. -/
def execStartSequence (found : StartFound) (s : State) : Host.Outcome State Fault Refusal :=
  .next (settle s (startSequence s found))

/-- POWER_CMD_RUN (R412): POWER_CMD 0 returns the node to RUN. -/
def execPowerCmdRun (snd : Sender) (s : State) : Host.Outcome State Fault Refusal :=
  .next (settleOn s (s.senderWrite snd 0x1210 1 [0]))

/-- POWER_CMD_DOZE (R412): POWER_CMD 1 puts the node in DOZE. -/
def execPowerCmdDoze (snd : Sender) (s : State) : Host.Outcome State Fault Refusal :=
  .next (settleOn s (s.senderWrite snd 0x1210 1 [1]))

/-- POWER_CMD_HOLD (R412): POWER_CMD 2 puts the node in HOLD. -/
def execPowerCmdHold (snd : Sender) (s : State) : Host.Outcome State Fault Refusal :=
  .next (settleOn s (s.senderWrite snd 0x1210 1 [2]))

/-- POWER_CMD_STANDBY (R414): POWER_CMD 3 starts STANDBY entry through an unweld in mode 1. -/
def execPowerCmdStandby (snd : Sender) (s : State) : Host.Outcome State Fault Refusal :=
  .next (settleOn s (s.senderWrite snd 0x1210 1 [3]))

/-- STANDBY_ENTRY (R414): At the membership boundary the wake settings go to housekeeping and PGOOD falls with the gate left on. -/
def execStandbyEntry (s : State) : Host.Outcome State Fault Refusal :=
  .next (settle s (standbyEntry s))

/-- WAKE_N (R415): WAKE_N low for 10 µs with WAKE_PIN_EN wakes the node from STANDBY. -/
def execWakeN (s : State) : Host.Outcome State Fault Refusal :=
  .next (settle s (wakeN s))

/-- WAKE_AT_REACHED (R415): The time counter reaching WAKE_AT wakes the node from STANDBY. -/
def execWakeAtReached (s : State) : Host.Outcome State Fault Refusal :=
  .next (settle s (wakeAtReached s))

/-- BACKUP_ENTRY (R412): VHK below 2.7 V moves the backup island onto VBAT. -/
def execBackupEntry (s : State) : Host.Outcome State Fault Refusal :=
  .next (settle s (backupEntry s))

/-- VG_CMD (R422): Writing 1 to VG_CMD empties the main log and the head. -/
def execVgCmd (snd : Sender) (s : State) : Host.Outcome State Fault Refusal :=
  .next (settleOn s (s.senderWrite snd 0xF000 6 [1]))

/-- VBAT_LOW (R419): VBAT falling below 1.6 V while it supplies the backup island sets the low-VBAT flag, which fails the next retention
check. -/
def execVbatLow (mv : Nat) (s : State) : Host.Outcome State Fault Refusal :=
  .next (settle s (vbatLow s mv))

end Sys2Proof.Machine
end

