-- ==== Sys2Proof/Machine/RingCommands.lean ====
section
/-! DEFINITION. The meanings of the commands of the ring: links, wraps, reverts, proving and claims, one definition for each row. -/
namespace Sys2Proof.Machine

/-- ID_ASSIGN (R77): A write to ID_ASSIGN in HELD changes NODE_ID and makes the node unweld and weld again under the new ID. -/
def execIdAssign (snd : Sender) (value : Byte) (s : State) : Host.Outcome State Fault Refusal :=
  .next (settleOn s (s.senderWrite snd 0x2002 1 [value]))

/-- HELLO_RX (R75): A HELLO row reports the reverse link state, stepping and identity of the neighbour during bring-up. -/
def execHelloRx (link : Path) (hello : Hello) (s : State) : Host.Outcome State Fault Refusal :=
  .next (settleOn s (helloRx s link hello))

/-- LOS_ASSERTED (R83): LOS_A or LOS_B high for 0.5 µs on a link in ALIGN, CHECK or UP counts as link loss. -/
def execLosAsserted (link : Path) (s : State) : Host.Outcome State Fault Refusal :=
  .next (settleOn s (losAsserted s link))

/-- SYNC_HEADER_LOSS (R83): 16 or more invalid sync headers among the last 64 on a lane counts as link loss. -/
def execSyncHeaderLoss (link : Path) (_lane : Fin 4) (s : State) : Host.Outcome State Fault Refusal :=
  .next (settleOn s (lockLoss s link 0))

/-- ROW_TIMEOUT (R83): No IDLE, TRAILER or HELLO row for 1.0 µs counts as link loss; the rows that a fault of the node's own A-out transmitter
stops are its neighbour's to miss. -/
def execRowTimeout (link : RowStop) (s : State) : Host.Outcome State Fault Refusal :=
  .next (settleOn s (rowTimeout s link))

/-- ERR_BURST (R83): ERR_BURST_LIMIT errored frames within 1 ms count as link loss. -/
def execErrBurst (link : Path) (received : List WireRow) (s : State) : Host.Outcome State Fault Refusal :=
  .next (settleOn s (errBurst s link received))

/-- LANES_LOCKED (R74): All four lanes locked moves a link from TRAIN to ALIGN. -/
def execLanesLocked (link : Path) (s : State) : Host.Outcome State Fault Refusal :=
  .next (settleOn s (lanesLocked s link))

/-- SAVED_LOCK_TIMEOUT (R74): A lock from saved state not complete within 34 µs falls back once to full training. -/
def execSavedLockTimeout (link : Path) (s : State) : Host.Outcome State Fault Refusal :=
  .next (settleOn s (savedLockTimeout s link))

/-- TRAINING_TIMEOUT (R74): Full training not complete within 50 ms moves the link to FAILED. -/
def execTrainingTimeout (link : Path) (s : State) : Host.Outcome State Fault Refusal :=
  .next (settleOn s (trainingTimeout s link))

/-- ALIGN_COMPLETE (R74): Block lock and lane deskew done moves the link from ALIGN to CHECK. -/
def execAlignComplete (link : Alignment) (s : State) : Host.Outcome State Fault Refusal :=
  .next (settleOn s (alignComplete s link))

/-- ALIGN_TIMEOUT (R74): ALIGN not complete within 8 µs returns the link to TRAIN. -/
def execAlignTimeout (link : Path) (s : State) : Host.Outcome State Fault Refusal :=
  .next (settleOn s (alignTimeout s link))

/-- LINK_UP (R74): The CHECK conditions met move the link to UP. -/
def execLinkUp (link : Path) (s : State) : Host.Outcome State Fault Refusal :=
  .next (settleOn s (linkUp s link))

/-- LINK_RETRY (R74): LINK_RETRY_INTERVAL passing on a FAILED link starts its training again, except after STEP_MISMATCH. -/
def execLinkRetry (link : Path) (s : State) : Host.Outcome State Fault Refusal :=
  .next (settleOn s (linkRetry s link))

/-- BREAK_RX (R84): A new BREAK notice is forwarded on both paths, heats the B links and sets WRAP_ACTIVE. -/
def execBreakRx (_link : Path) (notice : Notice) (s : State) : Host.Outcome State Fault Refusal :=
  .next (settleOn s (breakRx s notice))

/-- WRAP_D (R85): The downstream neighbour wraps B-in onto A-out once its B-in link is UP. -/
def execWrapD (s : State) : Host.Outcome State Fault Refusal :=
  .next (settleOn s (wrapD s))

/-- WRAP_U (R85): The upstream neighbour wraps A-in and its own traffic onto B-out once its B-out link is UP. -/
def execWrapU (s : State) : Host.Outcome State Fault Refusal :=
  .next (settleOn s (wrapU s))

/-- B_IN_TIMEOUT (R86): A B-in link not UP within 50 ms of heating makes the node wrap as U for that segment and send a BREAK notice. -/
def execBInTimeout (s : State) : Host.Outcome State Fault Refusal :=
  .next (settleOn s (bInTimeout s))

/-- REVERT_HOLDOFF_EXPIRY (R91): Both links of the broken segment UP without error for REVERT_HOLDOFF starts the revert at U. -/
def execRevertHoldoffExpiry (s : State) : Host.Outcome State Fault Refusal :=
  .next (settleOn s (revertHoldoffExpiry s))

/-- REVERT_CMD (R91): A write of 1 to REVERT_CMD starts the revert at U at once, or is passed to U from another node. -/
def execRevertCmd (snd : Sender) (value : Byte) (s : State) : Host.Outcome State Fault Refusal :=
  .next (settleOn s (s.senderWrite snd 0x2012 0 [value]))

/-- REVERT_START_RX (R92): D takes REVERT_START and stores A-in traffic from the repaired segment until the MARKER arrives. -/
def execRevertStartRx (link : Path) (notice : Notice) (s : State) : Host.Outcome State Fault Refusal :=
  .next (settleOn s (revertStartRx s link notice))

/-- MARKER_RX (R92): The MARKER at D ends the wrap, releases the stored A-in traffic in order and sends REVERT_DONE. -/
def execMarkerRx (link : Path) (notice : Notice) (s : State) : Host.Outcome State Fault Refusal :=
  .next (settleOn s (markerRx s link notice))

/-- MARKER_TIMEOUT (R92): No MARKER within 200 µs of REVERT_START makes D switch anyway, counting losses under REVERT_DROPS. -/
def execMarkerTimeout (lost : Nat) (s : State) : Host.Outcome State Fault Refusal :=
  .next (settleOn s (markerTimeout s lost))

/-- REVERT_DONE_RX (R92): REVERT_DONE clears WRAP_ACTIVE, cools the B links and sets RING_STATE to 2. -/
def execRevertDoneRx (_link : Path) (notice : Notice) (s : State) : Host.Outcome State Fault Refusal :=
  .next (settleOn s (revertDoneRx s notice))

/-- RESERVED_NOTICE_RX (R63): A NOTICE of a reserved kind, or a REVERT_START or MARKER not meant for a wrap in progress, is forwarded or
taken and counted under NOTICE_IGNORED. -/
def execReservedNoticeRx (link : Path) (notice : Notice) (s : State) : Host.Outcome State Fault Refusal :=
  .next (settleOn s (reservedNoticeRx s link notice))

/-- PROVE_INTERVAL_EXPIRY (R93): PROVE_INTERVAL hours after the last passed run, or 60 s after a membership change, the coordinator starts a
proving run. -/
def execProveIntervalExpiry (s : State) : Host.Outcome State Fault Refusal :=
  .next (settleOn s (proveIntervalExpiry s))

/-- PROVE_CMD (R93): A write of 1 to PROVE_CMD starts a proving run at the coordinator or is passed to it. -/
def execProveCmd (snd : Sender) (value : Byte) (s : State) : Host.Outcome State Fault Refusal :=
  .next (settleOn s (s.senderWrite snd 0x2011 0 [value]))

/-- PROVE_START_RX (R94): PROVE_START schedules every node to heat its B links at the announced epoch boundary. -/
def execProveStartRx (_link : Path) (notice : Notice) (s : State) : Host.Outcome State Fault Refusal :=
  .next (settleOn s (proveStartRx s notice))

/-- PROVE_HEAT (R94): At the proving instant each node heats its B links from saved state and records lock times. -/
def execProveHeat (s : State) : Host.Outcome State Fault Refusal :=
  .next (settleOn s (proveHeat s))

/-- PROVE_DWELL_EXPIRY (R94): PROVE_DWELL ends the PRBS31 error count and takes the B links to ALIGN, CHECK and UP. -/
def execProveDwellExpiry (bitErrors : LaneCounts) (s : State) : Host.Outcome State Fault Refusal :=
  .next (settleOn s (proveDwellExpiry s bitErrors))

/-- LOOP_FRAME_TIMEOUT (R94): The coordinator's loop frame on path B must return within 1 ms, or the run fails. -/
def execLoopFrameTimeout (s : State) : Host.Outcome State Fault Refusal :=
  .next (settleOn s (loopFrameTimeout s))

/-- PROVE_END_RX (R94): PROVE_END delivers the run's result and sets LAST_PROVE_RESULT and B_SAVED_VALID. -/
def execProveEndRx (_link : Path) (notice : Notice) (result : Fin 5) (s : State) : Host.Outcome State Fault Refusal :=
  .next (settleOn s (proveEndRx s notice result.val))

/-- C0_LOAD_INTERVAL (R97): At the end of each 10 µs interval a link whose class-0 bytes exceeded 6,060 is counted under C0_LOAD_EXCEED. -/
def execC0LoadInterval (s : State) : Host.Outcome State Fault Refusal :=
  .next (settleOn s (c0LoadInterval s))

/-- RING_FRAME_RX (R71): A frame header arriving on a ring link is checked, its HOPS incremented, and the frame taken, copied or forwarded.
-/
def execRingFrameRx (link : Path) (wire : RingWire) (s : State) : Host.Outcome State Fault Refusal :=
  .next (settleOn s (ringFrameRx s link wire))

/-- READ_RESP_RX (R70): A READ_RESP completes the outstanding read with the same TAG, or is discarded as an orphan. -/
def execReadRespRx (frame : Frame) (s : State) : Host.Outcome State Fault Refusal :=
  .next (settleOn s (readRespRx s frame))

/-- CLAIM_RX (R98): A CLAIM frame renews or releases the commander's claim entry and HOLDER is recomputed. -/
def execClaimRx (frame : Frame) (s : State) : Host.Outcome State Fault Refusal :=
  .next (settleOn s (claimRx (s.takeFrame frame) frame))

/-- CLAIM_LEASE_EXPIRY (R98): A claim not renewed for CLAIM_LEASE apply instants lapses and HOLDER is recomputed. -/
def execClaimLeaseExpiry (commander : Fin 9) (s : State) : Host.Outcome State Fault Refusal :=
  .next (settleOn s (claimLeaseExpiry s commander.val))

/-- CLAIM_DATAGRAM (R100): A UDP datagram to port 47,211 is checked and produces one claim frame or is discarded under CLAIM_DISCARDS. -/
def execClaimDatagram (port : Fin 4) (address : BitVec 32) (payload : List Byte) (s : State) : Host.Outcome State Fault Refusal :=
  .next (settleOn s (claimDatagram s port.val address.toNat payload))

/-- LINK_COUNTERS_CLEAR (R105): Writing 0 to subindex 0x0F clears the link counter record. -/
def execLinkCountersClear (link : Path) (snd : Sender) (s : State) : Host.Outcome State Fault Refusal :=
  .next (settleOn s (s.senderWrite snd (0x2020 + linkIdx link) 15 [0]))

end Sys2Proof.Machine
end

