-- ==== Sys2Proof/Machine/SwitchCommands.lean ====
section
/-! DEFINITION. The meanings of the commands of the switch core and the Ethernet ports, one definition for each row. -/
namespace Sys2Proof.Machine

/-- SWITCH_ADMIT (R150): A frame entering the switch is classed and admitted against its input and output limits, or discarded or held. -/
def execSwitchAdmit (s : State) : Host.Outcome State Fault Refusal :=
  .next (settleOn s (switchAdmit s).smeOverflow)

/-- BACKPRESSURE_OFFER (R151): A frame held in a back-pressure block is offered to the switch again. -/
def execBackpressureOffer (port : Fin 16) (s : State) : Host.Outcome State Fault Refusal :=
  .next (settleOn s (backpressureOffer s port.val))

/-- OUTPUT_START (R146): A free output chooses the class and port of its next frame and starts sending it. -/
def execOutputStart (port : Fin 16) (parity : Option Bool) (s : State) : Host.Outcome State Fault Refusal :=
  .next (settleOn s (outputStart s port.val parity))

/-- ETHERNET_RX (R162): A frame received on an Ethernet port is checked, deduplicated, delivered built-in or forwarded by the flow table. -/
def execEthernetRx (port : Fin 4) (frame : EthFrame) (s : State) : Host.Outcome State Fault Refusal :=
  .next (settleOn s (ethernetRx s port.val frame))

/-- FORGET_TIME_EXPIRY (R169): A duplicate table entry is removed FORGET_TIME ms after it was made. -/
def execForgetTimeExpiry (pair : Fin 2) (s : State) : Host.Outcome State Fault Refusal :=
  .next (settleOn s (forgetTimeExpiry s pair.val))

/-- SUPERVISION_SEND (R167): A PRP or HSR pair sends a supervision frame every LIFE_CHECK ms. -/
def execSupervisionSend (pair : Fin 2) (s : State) : Host.Outcome State Fault Refusal :=
  .next (settleOn s (supervisionSend s pair.val))

/-- SAMPLE_FREEZE_WRITE (R165): A write to SAMPLE_FREEZE freezes or resumes the sample buffer. -/
def execSampleFreezeWrite (snd : Sender) (value : Byte) (s : State) : Host.Outcome State Fault Refusal :=
  .next (settleOn s (s.senderWrite snd 0x2468 4 [value]))

/-- FLOW_COUNTERS_CLEAR (R172): Writing 0 to 0x2440:41 clears the flow counters. -/
def execFlowCountersClear (snd : Sender) (s : State) : Host.Outcome State Fault Refusal :=
  .next (settleOn s (s.senderWrite snd 0x2440 65 [0]))

/-- PORT_COUNTERS_CLEAR (R174): Writing 0 to subindex 0x18 clears a switch port's counter record. -/
def execPortCountersClear (port : Fin 16) (snd : Sender) (s : State) : Host.Outcome State Fault Refusal :=
  .next (settleOn s (s.senderWrite snd (0x2480 + port.val) 24 [0]))

/-- ETH_COUNTERS_CLEAR (R175): Writing 0 to 0x2640 + e:08 clears an Ethernet port's counters. -/
def execEthCountersClear (port : Fin 4) (snd : Sender) (s : State) : Host.Outcome State Fault Refusal :=
  .next (settleOn s (s.senderWrite snd (0x2640 + port.val) 8 [0]))

/-- RED_COUNTERS_CLEAR (R176): Writing 0 to 0x2618 + q:06 clears a port pair's redundancy counters. -/
def execRedCountersClear (pair : Fin 2) (snd : Sender) (s : State) : Host.Outcome State Fault Refusal :=
  .next (settleOn s (s.senderWrite snd (0x2618 + pair.val) 6 [0]))

/-- ETH_LINK_STATE_CHANGE (R175): An Ethernet port's link goes down or comes up, setting LINK_STATE and SPEED, and frames then enqueued to a
down port are discarded (R154). -/
def execEthLinkStateChange (port : Fin 4) (up : Bool) (speed : Nat) (s : State) : Host.Outcome State Fault Refusal :=
  .next (settleOn s (ethLinkStateChange s port.val up speed))

end Sys2Proof.Machine
end

