-- ==== Sys2Proof/Machine/TimeCommands.lean ====
section
/-! DEFINITION. The meanings of the commands of the time base, capture and the lake, one definition for each row. -/
namespace Sys2Proof.Machine

/-- SYNC_SEND (R114): The grandmaster sends a SYNC row every 8,192 ns on A-out and on B-out while it is UP. -/
def execSyncSend (s : State) : Host.Outcome State Fault Refusal :=
  .next (settleOn s (syncSend s))

/-- SYNC_RX (R115): A SYNC row updates CORRECTION and is forwarded, and the node corrects its counter from the offset. -/
def execSyncRx (link : Path) (row : TimingRow) (residence : Nat) (s : State) : Host.Outcome State Fault Refusal :=
  .next (settleOn s (syncRx s link row residence))

/-- SYNC_TIMEOUT (R118): 100 ms without a SYNC row unlocks a follower and lets a partition reselect a grandmaster. -/
def execSyncTimeout (s : State) : Host.Outcome State Fault Refusal :=
  .next (settleOn s (syncTimeout s))

/-- DELAY_REQ_SEND (R114): A DELAY_REQ is sent once per ms, or every 10 µs in a fast measurement, on each out link whose reverse link is UP.
-/
def execDelayReqSend (link : Path) (s : State) : Host.Outcome State Fault Refusal :=
  .next (settleOn s (delayReqSend s link))

/-- DELAY_REQ_RX (R116): A DELAY_REQ is answered by a DELAY_RESP on the reverse link and its rank taken into grandmaster selection. -/
def execDelayReqRx (link : Path) (row : TimingRow) (s : State) : Host.Outcome State Fault Refusal :=
  .next (settleOn s (delayReqRx s link row))

/-- DELAY_RESP_RX (R116): A DELAY_RESP completes a two-way exchange towards the hop delay average. -/
def execDelayRespRx (link : Path) (row : TimingRow) (s : State) : Host.Outcome State Fault Refusal :=
  .next (settleOn s (delayRespRx s link row))

/-- FAST_MEASUREMENT_DONE (R119): A completed fast measurement proves a B-in delay in a wrap and sets AGREED again. -/
def execFastMeasurementDone (s : State) : Host.Outcome State Fault Refusal :=
  .next (settleOn s (fastMeasurementDone s))

/-- PARAMS_RX (R127): A PARAMS row makes the node work to the ring's epoch parameters and sets EPOCH_MISMATCH if its own differ. -/
def execParamsRx (link : Path) (row : TimingRow) (s : State) : Host.Outcome State Fault Refusal :=
  .next (settleOn s (paramsRx s link row))

/-- PARAMS_NEXT_RX (R127): A PARAMS_NEXT row announces new ring epoch parameters and their CHANGE_AT. -/
def execParamsNextRx (link : Path) (row : TimingRow) (s : State) : Host.Outcome State Fault Refusal :=
  .next (settleOn s (paramsNextRx s link row))

/-- PARAMS_CHANGE (R127): At CHANGE_AT the ring's new epoch parameters take effect and overlapping old applies are skipped. -/
def execParamsChange (s : State) : Host.Outcome State Fault Refusal :=
  .next (settleOn s (paramsChange s))

/-- STEP_RX (R113): A STEP row announces a time step at STEP_AT. -/
def execStepRx (link : Path) (row : TimingRow) (s : State) : Host.Outcome State Fault Refusal :=
  .next (settleOn s (stepRx s link row))

/-- TIME_STEP (R113): At STEP_AT every node steps its counter by whole epochs and logs the step. -/
def execTimeStep (s : State) : Host.Outcome State Fault Refusal :=
  .next (settleOn s (timeStep s))

/-- TIMING_IGNORED (R114): A TIMING row of an unknown kind is ignored and counted under TIMING_IGNORED. -/
def execTimingIgnored (row : TimingRow) (s : State) : Host.Outcome State Fault Refusal :=
  .next (settleOn s (timingIgnored s row))

/-- PTP_SYNC_RX (R111): A PTP Sync on the grandmaster's PTP_PORT disciplines its time and counts towards source validity. -/
def execPtpSyncRx (port : Fin 4) (msg : PtpSync) (s : State) : Host.Outcome State Fault Refusal :=
  .next (settleOn s (ptpSyncRx s port.val msg))

/-- PPS_IN_EDGE (R112): A rising PPS_IN edge is stamped and matched with its IRIG-B frame. -/
def execPpsInEdge (time : Nat) (s : State) : Host.Outcome State Fault Refusal :=
  .next (settleOn s (ppsInEdge s time))

/-- IRIG_FRAME (R112): An IRIG-B frame labels its second, or breaks agreement on a parity or format error. -/
def execIrigFrame (frame : IrigFrame) (s : State) : Host.Outcome State Fault Refusal :=
  .next (settleOn s (irigFrame s frame))

/-- HOLDOVER_EXPIRY (R110): HOLDOVER_LIMIT after a source loss ends holdover and sets TIME_UNLOCKED at the grandmaster. -/
def execHoldoverExpiry (s : State) : Host.Outcome State Fault Refusal :=
  .next (settleOn s (holdoverExpiry s))

/-- PPS_OUT_SECOND (R121): PPS_OUT rises at each whole second for PPS_WIDTH µs as PPS_MODE allows. -/
def execPpsOutSecond (s : State) : Host.Outcome State Fault Refusal :=
  .next (settleOn s (ppsOutSecond s))

/-- RTC_WRITE (R108): While TRACEABLE is set the node writes its time to the real-time clock once per second. -/
def execRtcWrite (s : State) : Host.Outcome State Fault Refusal :=
  .next (settleOn s (rtcWrite s))

/-- FIELD_CELL_EDGE (R122): An edge at a field cell is stamped by its TDC, filtered and written as a capture record that may wake an engine.
-/
def execFieldCellEdge (cell : Fin 320) (level : Bool) (time : Nat) (s : State) : Host.Outcome State Fault Refusal :=
  .next (settleOn s (fieldCellEdge (s.waitUntil256 time).shiftersNow cell.val level time))

/-- SAMPLE_INSTANT (R125): At each sample instant inputs are sampled, lake output slots latched and the epoch's publication sent. -/
def execSampleInstant (s : State) : Host.Outcome State Fault Refusal :=
  .next (settleOn s (sampleInstant s))

/-- APPLY_INSTANT (R135): At A(k) each subscriber applies epoch k slot by slot and counts the instant for leases and hold policies. -/
def execApplyInstant (s : State) : Host.Outcome State Fault Refusal :=
  .next (settleOn s (applyInstantRow s))

/-- LAKE_RX (R135): A LAKE frame is stored as pending slots for its epoch, or discarded as late or out of epoch. -/
def execLakeRx (frame : Frame) (s : State) : Host.Outcome State Fault Refusal :=
  .next (settleOn s (lakeRx s frame))

/-- LAKE_OUTPUT_WRITE (R133): An output command to a lake output slot goes to its pending register and completes STAGED. -/
def execLakeOutputWrite (who : Requester) (slot : Fin 4096) (value : BitVec 64) (commander : Fin 9) (tag : BitVec 16)
    (s : State) : Host.Outcome State Fault Refusal :=
  .next (settleOn s (s.outputWrite who slot.val value.toNat commander.val tag.toNat))

/-- LOUT_HOLD (R141): LOUT_MISSED apply instants without a live claim apply the lake output slots' hold policy. -/
def execLoutHold (s : State) : Host.Outcome State Fault Refusal :=
  .next (settleOn s (loutHold s))

/-- LAKE_COUNTERS_CLEAR (R142): Writing 0 to 0x2250:08 clears the lake counters. -/
def execLakeCountersClear (snd : Sender) (s : State) : Host.Outcome State Fault Refusal :=
  .next (settleOn s (s.senderWrite snd 0x2250 8 [0]))

/-- PARAMS_SEND (R114): The grandmaster sends a PARAMS row with the ring epoch parameters, UTC offset and LOOP_FIBRE once per ms. -/
def execParamsSend (s : State) : Host.Outcome State Fault Refusal :=
  .next (settleOn s (paramsSend s))

/-- PTP_MASTER_PORT_SEND (R111): A station Ethernet port acting as a boundary-clock master sends its PTP messages and advertises its
clockClass. -/
def execPtpMasterPortSend (port : Fin 4) (s : State) : Host.Outcome State Fault Refusal :=
  .next (settleOn s (ptpMasterPortSend s port.val))

end Sys2Proof.Machine
end

