-- ==== Sys2Proof/Machine/UartCommands.lean ====
section
/-! DEFINITION. The meanings of the commands of the UART channels, one definition for each row. -/
namespace Sys2Proof.Machine

/-- UART_CHARACTER_RX (R311): A received character is added to the open message, which closes when it reaches RX_MAX. -/
def execUartCharacterRx (channel : Fin 32) (char : UartChar) (s : State) : Host.Outcome State Fault Refusal :=
  .next (settleOn s (uartCharacterRx s channel.val char))

/-- UART_GAP_CLOSE (R311): The line idle for the gap closes the open message with CLOSE 0. -/
def execUartGapClose (channel : Fin 32) (s : State) : Host.Outcome State Fault Refusal :=
  .next (settleOn s (uartGapClose s channel.val))

/-- UART_BREAK (R312): A break closes the open message and produces a break record. -/
def execUartBreak (channel : Fin 32) (start : Nat) (s : State) : Host.Outcome State Fault Refusal :=
  .next (settleOn s (uartBreak s channel.val start))

/-- LINE_STUCK (R312): The line low longer than LINE_LIMIT sets LINE_STUCK and moves the node to DEGRADED. -/
def execLineStuck (channel : Fin 32) (s : State) : Host.Outcome State Fault Refusal :=
  .next (settleOn s (lineStuck s channel.val))

/-- UART_RX_POLL (R314): A read of RX_POLL returns and removes the oldest message record, or the not-valid tag. -/
def execUartRxPoll (snd : Sender) (channel : Fin 32) (s : State) : Host.Outcome State Fault Refusal :=
  .next (settleOn s (s.senderRead snd (0x5880 + channel.val) 8))

/-- UART_TX_SUBMIT (R315): A transmit record written or sent as an EVENT is checked and enters the queue or schedule list. -/
def execUartTxSubmit (snd : Sender) (channel : Fin 32) (record : List Byte) (s : State) : Host.Outcome State Fault Refusal :=
  .next (settleOn s (s.senderWrite snd (0x5800 + channel.val) 22 record))

/-- UART_SCHEDULE_DUE (R317): A scheduled message enters the transmit queue at its TIME. -/
def execUartScheduleDue (channel : Fin 32) (s : State) : Host.Outcome State Fault Refusal :=
  .next (settleOn s (uartScheduleDue s channel.val))

/-- UART_MESSAGE_START (R317): The head message starts within 1 µs of becoming ready, asserting UA_DE DE_LEAD ns before. -/
def execUartMessageStart (channel : Fin 32) (s : State) : Host.Outcome State Fault Refusal :=
  .next (settleOn s (uartMessageStart s channel.val))

/-- UART_MESSAGE_END (R320): The last stop bit of a message sets LAST_TX_RESULT and LAST_TX_TIME. -/
def execUartMessageEnd (channel : Fin 32) (s : State) : Host.Outcome State Fault Refusal :=
  .next (settleOn s (uartMessageEnd s channel.val))

/-- DE_LAG_END (R318): DE_LAG ns after the last stop bit UA_DE is released. -/
def execDeLagEnd (channel : Fin 32) (s : State) : Host.Outcome State Fault Refusal :=
  .next (settleOn s (deLagEnd s channel.val))

/-- UART_TX_HOLD (R320): TX_MISSED apply instants without a live claim apply TX_HOLD to the channel's queues. -/
def execUartTxHold (channel : Fin 32) (s : State) : Host.Outcome State Fault Refusal :=
  .next (settleOn s (uartTxHold s channel.val))

/-- UART_ABORT_QUEUE (R320): TX_ABORT bit 0 discards the transmit queue at once. -/
def execUartAbortQueue (snd : Sender) (channel : Fin 32) (s : State) : Host.Outcome State Fault Refusal :=
  .next (settleOn s (s.senderWrite snd (0x5800 + channel.val) 23 [1]))

/-- UART_ABORT_SCHEDULE (R320): TX_ABORT bit 1 discards the schedule list. -/
def execUartAbortSchedule (snd : Sender) (channel : Fin 32) (s : State) : Host.Outcome State Fault Refusal :=
  .next (settleOn s (s.senderWrite snd (0x5800 + channel.val) 23 [2]))

/-- UART_LOCAL_RESET (R321): UART_CMD 1 empties every queue and buffer within 10 µs. -/
def execUartLocalReset (snd : Sender) (channel : Fin 32) (s : State) : Host.Outcome State Fault Refusal :=
  .next (settleOn s (s.senderWrite snd (0x5800 + channel.val) 24 [1]))

/-- UART_CLEAR_COLLISION (R322): UART_CMD 2 clears COLLISION. -/
def execUartClearCollision (snd : Sender) (channel : Fin 32) (s : State) : Host.Outcome State Fault Refusal :=
  .next (settleOn s (s.senderWrite snd (0x5800 + channel.val) 24 [2]))

/-- UART_COUNTERS_CLEAR (R323): Writing 0 to 0x5880 + n:15 clears the channel's counters. -/
def execUartCountersClear (snd : Sender) (channel : Fin 32) (s : State) : Host.Outcome State Fault Refusal :=
  .next (settleOn s (s.senderWrite snd (0x5880 + channel.val) 21 [0]))

/-- UART_BREAK_END (R312): The receive line returns high after a break within LINE_LIMIT, the break is counted under BREAKS, and the
receiver looks for a start bit again. -/
def execUartBreakEnd (channel : Fin 32) (s : State) : Host.Outcome State Fault Refusal :=
  .next (settleOn s (uartBreakEnd s channel.val))

end Sys2Proof.Machine
end

