-- ==== Sys2Proof/Machine/WorkCommands.lean ====
section
/-! DEFINITION. The meanings of the commands of accepted work, welding and the journal, one definition for each row. -/
namespace Sys2Proof.Machine

/-- SESSION_SEND (R182): A source sends the next command of a session once both window conditions allow and keeps its copy. -/
def execSessionSend (peer : Fin 97) (class2 : Bool) (s : State) : Host.Outcome State Fault Refusal :=
  .next (settleOn s (sessionSend s peer.val class2))

/-- ACCEPTANCE_CHECK (R183): A session frame at its destination is judged in order, ahead, behind or a recall fill, and journaled,
acknowledged or discarded. -/
def execAcceptanceCheck (frame : Frame) (s : State) : Host.Outcome State Fault Refusal :=
  .next (settleOn s (acceptanceCheck s frame))

/-- JOURNAL_WRITE (R188): A record write standing on the devices in service accepts the frame, sends its ACK and releases it to its
consumer. -/
def execJournalWrite (ns : Nat) (s : State) : Host.Outcome State Fault Refusal :=
  .next (settleOn s (journalWrite s ns).answerRefused)

/-- JOURNAL_WRITE_FAIL (R189): A failed MRAM record write is repeated and classed transient or lasting, possibly taking a device out of
service. -/
def execJournalWriteFail (first0 : Bool) (first1 : Bool) (again0 : Bool) (again1 : Bool) (s : State) : Host.Outcome State Fault Refusal :=
  .next (settleOn s (journalWriteFail s first0 first1 again0 again1).answerRefused)

/-- ACK_RX (R184): An ACK moves the source's ACKED or EXEC mark, triggers a resend, or completes commands at their requesters. -/
def execAckRx (frame : Frame) (s : State) : Host.Outcome State Fault Refusal :=
  .next (settleOn s (ackRx s frame))

/-- EXECUTION (R178): A consumer finishes with an accepted frame, which is its single execution, and the record is marked done. -/
def execExecution (peer : Fin 97) (class2 : Bool) (s : State) : Host.Outcome State Fault Refusal :=
  .next (settleOn s (execution s peer.val class2))

/-- RETX_TIMEOUT (R185): RETX_C0 or RETX_C2 expiring on the oldest unacknowledged frame resends the session's unacknowledged frames. -/
def execRetxTimeout (peer : Fin 97) (class2 : Bool) (s : State) : Host.Outcome State Fault Refusal :=
  .next (settleOn s (retxTimeout s peer.val class2))

/-- EXEC_TIMEOUT (R185): A non-posted command without its execution ACK after EXEC_TIMEOUT is sent again. -/
def execExecTimeout (peer : Fin 97) (seq : BitVec 32) (s : State) : Host.Outcome State Fault Refusal :=
  .next (settleOn s (execTimeout s peer.val seq.toNat))

/-- RECALL (R194): Once welded and named by the census, the node sends an ACK RETRY for each session in RECALLING. -/
def execRecallSession (s : State) : Host.Outcome State Fault Refusal :=
  .next (settleOn s (recallSession s))

/-- RECALL_TIMEOUT (R194): RECALL_TIMEOUT passing with slots unfilled repeats the RETRY. -/
def execRecallTimeout (peer : Fin 97) (class2 : Bool) (s : State) : Host.Outcome State Fault Refusal :=
  .next (settleOn s (recallTimeout s peer.val class2))

/-- PENDING_LIMIT_EXPIRY (R195): Recovered output work still waiting PENDING_LIMIT ms after its payload arrived completes with HELD. -/
def execPendingLimitExpiry (peer : Fin 97) (class2 : Bool) (s : State) : Host.Outcome State Fault Refusal :=
  .next (settleOn s (pendingLimitExpiry s peer.val class2))

/-- LEQ_POP (R199): Writing 1 to LEQ_POP removes the oldest late-error record. -/
def execLeqPop (snd : Sender) (s : State) : Host.Outcome State Fault Refusal :=
  .next (settleOn s (s.senderWrite snd 0x2880 3 [1]))

/-- FENCE_COMPLETE (R200): A fence's execution ACK is sent once every earlier sequence is done and its LATE_ERR frames acknowledged. -/
def execFenceComplete (peer : Fin 97) (s : State) : Host.Outcome State Fault Refusal :=
  .next (settleOn s (fenceComplete s peer.val))

/-- CLASS3_WRITE_RX (R201): A class-3 WRITE is carried out without journal or acknowledgement, returning a late-error record on failure. -/
def execClass3WriteRx (frame : Frame) (s : State) : Host.Outcome State Fault Refusal :=
  .next (settleOn s (class3WriteRx s frame))

/-- LOSS_TIMEOUT (R202): A member wrapped around for LOSS_TIMEOUT is dropped by the coordinator with a census. -/
def execLossTimeout (node : Fin 97) (s : State) : Host.Outcome State Fault Refusal :=
  .next (settleOn s (lossTimeout s node.val))

/-- CENSUS_RX (R206): A CENSUS notice is answered within 20 µs by a PRESENT notice. -/
def execCensusRx (notice : Notice) (s : State) : Host.Outcome State Fault Refusal :=
  .next (settleOn s (censusRx s notice))

/-- PRESENT_RX (R206): A PRESENT notice is counted towards the new membership by its ring identity. -/
def execPresentRx (notice : Notice) (s : State) : Host.Outcome State Fault Refusal :=
  .next (settleOn s (presentRx s notice))

/-- MEMBERSHIP_BOUNDARY (R206): At the first sample instant 500 µs after the census TIME the new membership takes effect. -/
def execMembershipBoundary (s : State) : Host.Outcome State Fault Refusal :=
  .next (settleOn s (membershipBoundary s))

/-- WELD_REQ_SEND (R207): A joining node with its links UP sends a WELD_REQ notice. -/
def execWeldReqSend (s : State) : Host.Outcome State Fault Refusal :=
  .next (settleOn s (weldReqSend s))

/-- WELD_REQ_RX (R207): A WELD_REQ makes the coordinator take a census. -/
def execWeldReqRx (notice : Notice) (s : State) : Host.Outcome State Fault Refusal :=
  .next (settleOn s (weldReqRx s notice))

/-- UNWELD_CMD (R208): A write of 1 to UNWELD_CMD starts draining the node before it leaves the ring. -/
def execUnweldCmd (snd : Sender) (s : State) : Host.Outcome State Fault Refusal :=
  .next (settleOn s (s.senderWrite snd 0x28C0 1 [1]))

/-- UNWELD_DRAIN_END (R208): When the drain completes or UNWELD_DRAIN passes, the node sends UNWELD_REQ. -/
def execUnweldDrainEnd (s : State) : Host.Outcome State Fault Refusal :=
  .next (settleOn s (unweldDrainEnd s))

/-- UNWELD_REQ_RX (R208): An UNWELD_REQ makes the coordinator take a census without the node. -/
def execUnweldReqRx (notice : Notice) (s : State) : Host.Outcome State Fault Refusal :=
  .next (settleOn s (unweldReqRx s notice))

/-- JOURNAL_CLEAR (R211): Writing 0 to 0x2800:08 clears journal subindices 2 to 4. -/
def execJournalClear (snd : Sender) (s : State) : Host.Outcome State Fault Refusal :=
  .next (settleOn s (s.senderWrite snd 0x2800 8 [0]))

/-- ACCEPT_COUNTERS_CLEAR (R217): Writing 0 to 0x28D0:0A clears the acceptance counters. -/
def execAcceptCountersClear (snd : Sender) (s : State) : Host.Outcome State Fault Refusal :=
  .next (settleOn s (s.senderWrite snd 0x28D0 10 [0]))

/-- ALONE_TIMEOUT (R206): 1 s after bring-up with neither segment having both links UP, the node is alone with RING_STATE 0 and RING_NODES 1
and reaches HELD. -/
def execAloneTimeout (s : State) : Host.Outcome State Fault Refusal :=
  .next (settleOn s (aloneTimeout s))

end Sys2Proof.Machine
end

