-- ==== Sys2Proof/Machine/Dispatch.lean ====
section
/-! DEFINITION. The dispatch: one arm for each constructor of `Instr`, a direct call of its meaning. -/
namespace Sys2Proof.Machine

/-- The effect of one command on everything but the queue. -/
def exec (i : Instr) (s : State) : Host.Outcome State Fault Refusal :=
  match i with
  | .objectRead who req => Sys2Proof.Machine.execObjectRead who req s
  | .objectWrite who req => Sys2Proof.Machine.execObjectWrite who req s
  | .segRead who req => Sys2Proof.Machine.execSegRead who req s
  | .segWrite who req => Sys2Proof.Machine.execSegWrite who req s
  | .segAbort who req => Sys2Proof.Machine.execSegAbort who req s
  | .writeSessionIdle index => Sys2Proof.Machine.execWriteSessionIdle index s
  | .readLatchLapse who index => Sys2Proof.Machine.execReadLatchLapse who index s
  | .remoteTimeout tag => Sys2Proof.Machine.execRemoteTimeout tag s
  | .memoryRead frame => Sys2Proof.Machine.execMemoryRead frame s
  | .memoryWrite frame => Sys2Proof.Machine.execMemoryWrite frame s
  | .kedogilDatagram port address udpPort payload => Sys2Proof.Machine.execKedogilDatagram port address udpPort payload s
  | .doorbell value => Sys2Proof.Machine.execDoorbell value s
  | .mailboxComplete => Sys2Proof.Machine.execMailboxComplete s
  | .farifFrame kind body crc => Sys2Proof.Machine.execFarifFrame kind body crc s
  | .stageValidate snd => Sys2Proof.Machine.execStageValidate snd s
  | .stageDiscard snd => Sys2Proof.Machine.execStageDiscard snd s
  | .stageWithdraw snd => Sys2Proof.Machine.execStageWithdraw snd s
  | .commitApply => Sys2Proof.Machine.execCommitApply s
  | .commitTimeout => Sys2Proof.Machine.execCommitTimeout s
  | .store snd => Sys2Proof.Machine.execStore snd s
  | .storeComplete readBackGood => Sys2Proof.Machine.execStoreComplete readBackGood s
  | .storeErase snd => Sys2Proof.Machine.execStoreErase snd s
  | .heldOrderWrite snd value => Sys2Proof.Machine.execHeldOrderWrite snd value s
  | .idAssign snd value => Sys2Proof.Machine.execIdAssign snd value s
  | .helloRx link hello => Sys2Proof.Machine.execHelloRx link hello s
  | .losAsserted link => Sys2Proof.Machine.execLosAsserted link s
  | .syncHeaderLoss link lane => Sys2Proof.Machine.execSyncHeaderLoss link lane s
  | .rowTimeout link => Sys2Proof.Machine.execRowTimeout link s
  | .errBurst link received => Sys2Proof.Machine.execErrBurst link received s
  | .lanesLocked link => Sys2Proof.Machine.execLanesLocked link s
  | .savedLockTimeout link => Sys2Proof.Machine.execSavedLockTimeout link s
  | .trainingTimeout link => Sys2Proof.Machine.execTrainingTimeout link s
  | .alignComplete link => Sys2Proof.Machine.execAlignComplete link s
  | .alignTimeout link => Sys2Proof.Machine.execAlignTimeout link s
  | .linkUp link => Sys2Proof.Machine.execLinkUp link s
  | .linkRetry link => Sys2Proof.Machine.execLinkRetry link s
  | .breakRx link notice => Sys2Proof.Machine.execBreakRx link notice s
  | .wrapD => Sys2Proof.Machine.execWrapD s
  | .wrapU => Sys2Proof.Machine.execWrapU s
  | .bInTimeout => Sys2Proof.Machine.execBInTimeout s
  | .revertHoldoffExpiry => Sys2Proof.Machine.execRevertHoldoffExpiry s
  | .revertCmd snd value => Sys2Proof.Machine.execRevertCmd snd value s
  | .revertStartRx link notice => Sys2Proof.Machine.execRevertStartRx link notice s
  | .markerRx link notice => Sys2Proof.Machine.execMarkerRx link notice s
  | .markerTimeout lost => Sys2Proof.Machine.execMarkerTimeout lost s
  | .revertDoneRx link notice => Sys2Proof.Machine.execRevertDoneRx link notice s
  | .reservedNoticeRx link notice => Sys2Proof.Machine.execReservedNoticeRx link notice s
  | .proveIntervalExpiry => Sys2Proof.Machine.execProveIntervalExpiry s
  | .proveCmd snd value => Sys2Proof.Machine.execProveCmd snd value s
  | .proveStartRx link notice => Sys2Proof.Machine.execProveStartRx link notice s
  | .proveHeat => Sys2Proof.Machine.execProveHeat s
  | .proveDwellExpiry bitErrors => Sys2Proof.Machine.execProveDwellExpiry bitErrors s
  | .loopFrameTimeout => Sys2Proof.Machine.execLoopFrameTimeout s
  | .proveEndRx link notice result => Sys2Proof.Machine.execProveEndRx link notice result s
  | .c0LoadInterval => Sys2Proof.Machine.execC0LoadInterval s
  | .ringFrameRx link wire => Sys2Proof.Machine.execRingFrameRx link wire s
  | .readRespRx frame => Sys2Proof.Machine.execReadRespRx frame s
  | .objectRespRx frame => Sys2Proof.Machine.execObjectRespRx frame s
  | .claimRx frame => Sys2Proof.Machine.execClaimRx frame s
  | .claimLeaseExpiry commander => Sys2Proof.Machine.execClaimLeaseExpiry commander s
  | .claimDatagram port address payload => Sys2Proof.Machine.execClaimDatagram port address payload s
  | .linkCountersClear link snd => Sys2Proof.Machine.execLinkCountersClear link snd s
  | .syncSend => Sys2Proof.Machine.execSyncSend s
  | .syncRx link row residence => Sys2Proof.Machine.execSyncRx link row residence s
  | .syncTimeout => Sys2Proof.Machine.execSyncTimeout s
  | .delayReqSend link => Sys2Proof.Machine.execDelayReqSend link s
  | .delayReqRx link row => Sys2Proof.Machine.execDelayReqRx link row s
  | .delayRespRx link row => Sys2Proof.Machine.execDelayRespRx link row s
  | .fastMeasurementDone => Sys2Proof.Machine.execFastMeasurementDone s
  | .paramsRx link row => Sys2Proof.Machine.execParamsRx link row s
  | .paramsNextRx link row => Sys2Proof.Machine.execParamsNextRx link row s
  | .paramsChange => Sys2Proof.Machine.execParamsChange s
  | .stepRx link row => Sys2Proof.Machine.execStepRx link row s
  | .timeStep => Sys2Proof.Machine.execTimeStep s
  | .timingIgnored row => Sys2Proof.Machine.execTimingIgnored row s
  | .ptpSyncRx port msg => Sys2Proof.Machine.execPtpSyncRx port msg s
  | .ppsInEdge time => Sys2Proof.Machine.execPpsInEdge time s
  | .irigFrame frame => Sys2Proof.Machine.execIrigFrame frame s
  | .holdoverExpiry => Sys2Proof.Machine.execHoldoverExpiry s
  | .ppsOutSecond => Sys2Proof.Machine.execPpsOutSecond s
  | .rtcWrite => Sys2Proof.Machine.execRtcWrite s
  | .fieldCellEdge cell level time => Sys2Proof.Machine.execFieldCellEdge cell level time s
  | .sampleInstant => Sys2Proof.Machine.execSampleInstant s
  | .applyInstant => Sys2Proof.Machine.execApplyInstant s
  | .lakeRx frame => Sys2Proof.Machine.execLakeRx frame s
  | .lakeOutputWrite who slot value commander tag => Sys2Proof.Machine.execLakeOutputWrite who slot value commander tag s
  | .loutHold => Sys2Proof.Machine.execLoutHold s
  | .lakeCountersClear snd => Sys2Proof.Machine.execLakeCountersClear snd s
  | .switchAdmit => Sys2Proof.Machine.execSwitchAdmit s
  | .backpressureOffer port => Sys2Proof.Machine.execBackpressureOffer port s
  | .outputStart port parity => Sys2Proof.Machine.execOutputStart port parity s
  | .ethernetRx port frame => Sys2Proof.Machine.execEthernetRx port frame s
  | .forgetTimeExpiry pair => Sys2Proof.Machine.execForgetTimeExpiry pair s
  | .supervisionSend pair => Sys2Proof.Machine.execSupervisionSend pair s
  | .sampleFreezeWrite snd value => Sys2Proof.Machine.execSampleFreezeWrite snd value s
  | .flowCountersClear snd => Sys2Proof.Machine.execFlowCountersClear snd s
  | .portCountersClear port snd => Sys2Proof.Machine.execPortCountersClear port snd s
  | .ethCountersClear port snd => Sys2Proof.Machine.execEthCountersClear port snd s
  | .redCountersClear pair snd => Sys2Proof.Machine.execRedCountersClear pair snd s
  | .sessionSend peer class2 => Sys2Proof.Machine.execSessionSend peer class2 s
  | .acceptanceCheck frame => Sys2Proof.Machine.execAcceptanceCheck frame s
  | .journalWrite ns => Sys2Proof.Machine.execJournalWrite ns s
  | .journalWriteFail first0 first1 again0 again1 => Sys2Proof.Machine.execJournalWriteFail first0 first1 again0 again1 s
  | .ackRx frame => Sys2Proof.Machine.execAckRx frame s
  | .execution peer class2 => Sys2Proof.Machine.execExecution peer class2 s
  | .retxTimeout peer class2 => Sys2Proof.Machine.execRetxTimeout peer class2 s
  | .execTimeout peer seq => Sys2Proof.Machine.execExecTimeout peer seq s
  | .recallSession => Sys2Proof.Machine.execRecallSession s
  | .recallTimeout peer class2 => Sys2Proof.Machine.execRecallTimeout peer class2 s
  | .pendingLimitExpiry peer class2 => Sys2Proof.Machine.execPendingLimitExpiry peer class2 s
  | .leqPop snd => Sys2Proof.Machine.execLeqPop snd s
  | .fenceComplete peer => Sys2Proof.Machine.execFenceComplete peer s
  | .class3WriteRx frame => Sys2Proof.Machine.execClass3WriteRx frame s
  | .lossTimeout node => Sys2Proof.Machine.execLossTimeout node s
  | .censusRx notice => Sys2Proof.Machine.execCensusRx notice s
  | .presentRx notice => Sys2Proof.Machine.execPresentRx notice s
  | .membershipBoundary => Sys2Proof.Machine.execMembershipBoundary s
  | .weldReqSend => Sys2Proof.Machine.execWeldReqSend s
  | .weldReqRx notice => Sys2Proof.Machine.execWeldReqRx notice s
  | .unweldCmd snd => Sys2Proof.Machine.execUnweldCmd snd s
  | .unweldDrainEnd => Sys2Proof.Machine.execUnweldDrainEnd s
  | .unweldReqRx notice => Sys2Proof.Machine.execUnweldReqRx notice s
  | .journalClear snd => Sys2Proof.Machine.execJournalClear snd s
  | .acceptCountersClear snd => Sys2Proof.Machine.execAcceptCountersClear snd s
  | .glitchExpiry cell => Sys2Proof.Machine.execGlitchExpiry cell s
  | .debounceStable cell => Sys2Proof.Machine.execDebounceStable cell s
  | .chatterSecond cell => Sys2Proof.Machine.execChatterSecond cell s
  | .outCmdDriveLow cell snd instant fraction => Sys2Proof.Machine.execOutCmdDriveLow cell snd instant fraction s
  | .outCmdDriveHigh cell snd instant fraction => Sys2Proof.Machine.execOutCmdDriveHigh cell snd instant fraction s
  | .outCmdPulseHigh cell snd instant fraction width => Sys2Proof.Machine.execOutCmdPulseHigh cell snd instant fraction width s
  | .outCmdPulseLow cell snd instant fraction width => Sys2Proof.Machine.execOutCmdPulseLow cell snd instant fraction width s
  | .outCmdSafe cell snd instant fraction => Sys2Proof.Machine.execOutCmdSafe cell snd instant fraction s
  | .outCmdCancel cell snd instant fraction => Sys2Proof.Machine.execOutCmdCancel cell snd instant fraction s
  | .outputPlacement cell => Sys2Proof.Machine.execOutputPlacement cell s
  | .pulseTrailingEdge cell => Sys2Proof.Machine.execPulseTrailingEdge cell s
  | .outMismatch cell => Sys2Proof.Machine.execOutMismatch cell s
  | .bankFault bank mv => Sys2Proof.Machine.execBankFault bank mv s
  | .bankFaultLasting bank => Sys2Proof.Machine.execBankFaultLasting bank s
  | .bankSupplyReturn bank mv => Sys2Proof.Machine.execBankSupplyReturn bank mv s
  | .cellHoldPolicy cell => Sys2Proof.Machine.execCellHoldPolicy cell s
  | .govCheck => Sys2Proof.Machine.execGovCheck s
  | .bucketRoll cell => Sys2Proof.Machine.execBucketRoll cell s
  | .govReset cell snd => Sys2Proof.Machine.execGovReset cell snd s
  | .soeRecordWrite source => Sys2Proof.Machine.execSoeRecordWrite source s
  | .soeReadWrite snd value => Sys2Proof.Machine.execSoeReadWrite snd value s
  | .cellCountersClear cell snd => Sys2Proof.Machine.execCellCountersClear cell snd s
  | .engineTransition engine => Sys2Proof.Machine.execEngineTransition engine s
  | .queuedActionDue engine => Sys2Proof.Machine.execQueuedActionDue engine s
  | .compareFire engine compare => Sys2Proof.Machine.execCompareFire engine compare s
  | .engineWake engine => Sys2Proof.Machine.execEngineWake engine s
  | .stallEnd engine => Sys2Proof.Machine.execStallEnd engine s
  | .longStall engine => Sys2Proof.Machine.execLongStall engine s
  | .shiftEnd engine sampled => Sys2Proof.Machine.execShiftEnd engine sampled s
  | .shifterBoundary engine sampled => Sys2Proof.Machine.execShifterBoundary engine sampled s
  | .shifterResume engine => Sys2Proof.Machine.execShifterResume engine s
  | .engineStart engine => Sys2Proof.Machine.execEngineStart engine s
  | .engineStop engine => Sys2Proof.Machine.execEngineStop engine s
  | .mordantSwap engine => Sys2Proof.Machine.execMordantSwap engine s
  | .forcedSwap engine => Sys2Proof.Machine.execForcedSwap engine s
  | .engCmdForcedSwap snd engine => Sys2Proof.Machine.execEngCmdForcedSwap snd engine s
  | .engCmdLocalReset snd engine => Sys2Proof.Machine.execEngCmdLocalReset snd engine s
  | .engineCountersClear snd engine => Sys2Proof.Machine.execEngineCountersClear snd engine s
  | .engineFrameOffer engine selfCheck => Sys2Proof.Machine.execEngineFrameOffer engine selfCheck s
  | .txPoll snd engine => Sys2Proof.Machine.execTxPoll snd engine s
  | .reservationGrant engine => Sys2Proof.Machine.execReservationGrant engine s
  | .rxWordsArrive engine => Sys2Proof.Machine.execRxWordsArrive engine s
  | .fifoFlushRx snd engine => Sys2Proof.Machine.execFifoFlushRx snd engine s
  | .fifoFlushTx snd engine => Sys2Proof.Machine.execFifoFlushTx snd engine s
  | .fifoFlushBoth snd engine => Sys2Proof.Machine.execFifoFlushBoth snd engine s
  | .fifoCountersClear snd engine => Sys2Proof.Machine.execFifoCountersClear snd engine s
  | .canTxSubmit snd controller record => Sys2Proof.Machine.execCanTxSubmit snd controller record s
  | .canScheduleDue controller => Sys2Proof.Machine.execCanScheduleDue controller s
  | .canStartPoint controller => Sys2Proof.Machine.execCanStartPoint controller s
  | .canTxOk controller sof loopDelay => Sys2Proof.Machine.execCanTxOk controller sof loopDelay s
  | .canTxError controller error => Sys2Proof.Machine.execCanTxError controller error s
  | .canBusOff controller => Sys2Proof.Machine.execCanBusOff controller s
  | .canBusOffRecovered controller => Sys2Proof.Machine.execCanBusOffRecovered controller s
  | .canStuck controller urgent => Sys2Proof.Machine.execCanStuck controller urgent s
  | .canFrameRx controller frame => Sys2Proof.Machine.execCanFrameRx controller frame s
  | .protocolException controller => Sys2Proof.Machine.execProtocolException controller s
  | .canRxPoll snd controller => Sys2Proof.Machine.execCanRxPoll snd controller s
  | .canTxHold controller => Sys2Proof.Machine.execCanTxHold controller s
  | .canAbortUrgent snd controller => Sys2Proof.Machine.execCanAbortUrgent snd controller s
  | .canAbortNormal snd controller => Sys2Proof.Machine.execCanAbortNormal snd controller s
  | .canAbortSchedule snd controller => Sys2Proof.Machine.execCanAbortSchedule snd controller s
  | .canLocalReset snd controller => Sys2Proof.Machine.execCanLocalReset snd controller s
  | .canClearIdClash snd controller => Sys2Proof.Machine.execCanClearIdClash snd controller s
  | .canCountersClear snd controller => Sys2Proof.Machine.execCanCountersClear snd controller s
  | .uartCharacterRx channel char => Sys2Proof.Machine.execUartCharacterRx channel char s
  | .uartGapClose channel => Sys2Proof.Machine.execUartGapClose channel s
  | .uartBreak channel start => Sys2Proof.Machine.execUartBreak channel start s
  | .lineStuck channel => Sys2Proof.Machine.execLineStuck channel s
  | .uartRxPoll snd channel => Sys2Proof.Machine.execUartRxPoll snd channel s
  | .uartTxSubmit snd channel record => Sys2Proof.Machine.execUartTxSubmit snd channel record s
  | .uartScheduleDue channel => Sys2Proof.Machine.execUartScheduleDue channel s
  | .uartMessageStart channel => Sys2Proof.Machine.execUartMessageStart channel s
  | .uartMessageEnd channel => Sys2Proof.Machine.execUartMessageEnd channel s
  | .deLagEnd channel => Sys2Proof.Machine.execDeLagEnd channel s
  | .uartTxHold channel => Sys2Proof.Machine.execUartTxHold channel s
  | .uartAbortQueue snd channel => Sys2Proof.Machine.execUartAbortQueue snd channel s
  | .uartAbortSchedule snd channel => Sys2Proof.Machine.execUartAbortSchedule snd channel s
  | .uartLocalReset snd channel => Sys2Proof.Machine.execUartLocalReset snd channel s
  | .uartClearCollision snd channel => Sys2Proof.Machine.execUartClearCollision snd channel s
  | .uartCountersClear snd channel => Sys2Proof.Machine.execUartCountersClear snd channel s
  | .hostTargetCycle cycle => Sys2Proof.Machine.execHostTargetCycle cycle s
  | .intStatusWrite value => Sys2Proof.Machine.execIntStatusWrite value s
  | .claimLoWrite value => Sys2Proof.Machine.execClaimLoWrite value s
  | .claimHiWrite value => Sys2Proof.Machine.execClaimHiWrite value s
  | .tgtAbandon value => Sys2Proof.Machine.execTgtAbandon value s
  | .windowCycle cycle => Sys2Proof.Machine.execWindowCycle cycle s
  | .tgtHoldExpiry => Sys2Proof.Machine.execTgtHoldExpiry s
  | .fabricCycleComplete => Sys2Proof.Machine.execFabricCycleComplete s
  | .crossing node => Sys2Proof.Machine.execCrossing node s
  | .masterRequest => Sys2Proof.Machine.execMasterRequest s
  | .busGrant cycles data => Sys2Proof.Machine.execBusGrant cycles data s
  | .masterRetry cycles data => Sys2Proof.Machine.execMasterRetry cycles data s
  | .mstWaitTimeout cycles data => Sys2Proof.Machine.execMstWaitTimeout cycles data s
  | .bridgeCountersClear snd => Sys2Proof.Machine.execBridgeCountersClear snd s
  | .gooseRx port frame => Sys2Proof.Machine.execGooseRx port frame s
  | .gooseTalExpiry subscription => Sys2Proof.Machine.execGooseTalExpiry subscription s
  | .gooseInvalidExpiry subscription => Sys2Proof.Machine.execGooseInvalidExpiry subscription s
  | .gooseRepeat publication => Sys2Proof.Machine.execGooseRepeat publication s
  | .gooseClear snd => Sys2Proof.Machine.execGooseClear snd s
  | .arrivalRun faults selfCheck => Sys2Proof.Machine.execArrivalRun faults selfCheck s
  | .cyclicRun faults selfCheck => Sys2Proof.Machine.execCyclicRun faults selfCheck s
  | .eventInWrite snd input data => Sys2Proof.Machine.execEventInWrite snd input data s
  | .mapCountersClear snd => Sys2Proof.Machine.execMapCountersClear snd s
  | .jobStart snd unit => Sys2Proof.Machine.execJobStart snd unit s
  | .jobContinue snd unit => Sys2Proof.Machine.execJobContinue snd unit s
  | .jobAbandon snd unit => Sys2Proof.Machine.execJobAbandon snd unit s
  | .jobComplete unit status host => Sys2Proof.Machine.execJobComplete unit status host s
  | .ctxValueWrite snd unit value => Sys2Proof.Machine.execCtxValueWrite snd unit value s
  | .ctxAliveWrite snd unit value => Sys2Proof.Machine.execCtxAliveWrite snd unit value s
  | .ckLocalReset snd unit => Sys2Proof.Machine.execCkLocalReset snd unit s
  | .ckCountersClear snd unit => Sys2Proof.Machine.execCkCountersClear snd unit s
  | .selftest => Sys2Proof.Machine.execSelftest s
  | .selftestComplete computeFails banks areaFails => Sys2Proof.Machine.execSelftestComplete computeFails banks areaFails s
  | .selftestCmd snd => Sys2Proof.Machine.execSelftestCmd snd s
  | .selftestIntervalExpiry => Sys2Proof.Machine.execSelftestIntervalExpiry s
  | .debugHalt snd => Sys2Proof.Machine.execDebugHalt snd s
  | .debugResume snd => Sys2Proof.Machine.execDebugResume snd s
  | .smeCountersClear snd => Sys2Proof.Machine.execSmeCountersClear snd s
  | .powerEntryTick sample => Sys2Proof.Machine.execPowerEntryTick sample s
  | .removal => Sys2Proof.Machine.execRemoval s
  | .hkDomainReset => Sys2Proof.Machine.execHkDomainReset s
  | .insertDelayExpiry => Sys2Proof.Machine.execInsertDelayExpiry s
  | .rampComplete => Sys2Proof.Machine.execRampComplete s
  | .rampTimeout => Sys2Proof.Machine.execRampTimeout s
  | .settleExpiry => Sys2Proof.Machine.execSettleExpiry s
  | .faultTimeExpiry => Sys2Proof.Machine.execFaultTimeExpiry s
  | .shortTrip => Sys2Proof.Machine.execShortTrip s
  | .retryTimeExpiry => Sys2Proof.Machine.execRetryTimeExpiry s
  | .retryCountReset => Sys2Proof.Machine.execRetryCountReset s
  | .peEnLow => Sys2Proof.Machine.execPeEnLow s
  | .peEnHigh lowNs => Sys2Proof.Machine.execPeEnHigh lowNs s
  | .reverseTurnoff path => Sys2Proof.Machine.execReverseTurnoff path s
  | .bbmTransfer => Sys2Proof.Machine.execBbmTransfer s
  | .prioReturnExpiry => Sys2Proof.Machine.execPrioReturnExpiry s
  | .peCmdTestFeed1 snd => Sys2Proof.Machine.execPeCmdTestFeed1 snd s
  | .peCmdTestFeed2 snd => Sys2Proof.Machine.execPeCmdTestFeed2 snd s
  | .peCmdReturn snd => Sys2Proof.Machine.execPeCmdReturn snd s
  | .testTimeExpiry => Sys2Proof.Machine.execTestTimeExpiry s
  | .feedRetest => Sys2Proof.Machine.execFeedRetest s
  | .feedFaultLasting feed => Sys2Proof.Machine.execFeedFaultLasting feed s
  | .feedFaultClose feed => Sys2Proof.Machine.execFeedFaultClose feed s
  | .peMeasureClear snd => Sys2Proof.Machine.execPeMeasureClear snd s
  | .por => Sys2Proof.Machine.execPor s
  | .pinReset lowNs taken => Sys2Proof.Machine.execPinReset lowNs taken s
  | .wdgExpiry => Sys2Proof.Machine.execWdgExpiry s
  | .resetCmdWarm snd => Sys2Proof.Machine.execResetCmdWarm snd s
  | .resetCmdForced snd => Sys2Proof.Machine.execResetCmdForced snd s
  | .resetBegin => Sys2Proof.Machine.execResetBegin s
  | .startSequence found => Sys2Proof.Machine.execStartSequence found s
  | .railTimeout rails => Sys2Proof.Machine.execRailTimeout rails s
  | .powerCmdRun snd => Sys2Proof.Machine.execPowerCmdRun snd s
  | .powerCmdDoze snd => Sys2Proof.Machine.execPowerCmdDoze snd s
  | .powerCmdHold snd => Sys2Proof.Machine.execPowerCmdHold snd s
  | .powerCmdStandby snd => Sys2Proof.Machine.execPowerCmdStandby snd s
  | .standbyEntry => Sys2Proof.Machine.execStandbyEntry s
  | .wakeN => Sys2Proof.Machine.execWakeN s
  | .wakeAtReached => Sys2Proof.Machine.execWakeAtReached s
  | .backupEntry => Sys2Proof.Machine.execBackupEntry s
  | .vgCmd snd => Sys2Proof.Machine.execVgCmd snd s
  | .imgBegin slot total => Sys2Proof.Machine.execImgBegin slot total s
  | .eraseComplete => Sys2Proof.Machine.execEraseComplete s
  | .imgData offset data => Sys2Proof.Machine.execImgData offset data s
  | .imgEnd => Sys2Proof.Machine.execImgEnd s
  | .imgAbort => Sys2Proof.Machine.execImgAbort s
  | .imgStatus => Sys2Proof.Machine.execImgStatus s
  | .downloadTimeout => Sys2Proof.Machine.execDownloadTimeout s
  | .recoverStart slot => Sys2Proof.Machine.execRecoverStart slot s
  | .fwCmdActivate snd => Sys2Proof.Machine.execFwCmdActivate snd s
  | .activationPause finish => Sys2Proof.Machine.execActivationPause finish s
  | .fwCmdConfirm snd => Sys2Proof.Machine.execFwCmdConfirm snd s
  | .fwCmdEraseExport snd => Sys2Proof.Machine.execFwCmdEraseExport snd s
  | .trialExpiry => Sys2Proof.Machine.execTrialExpiry s
  | .paramsSend => Sys2Proof.Machine.execParamsSend s
  | .ptpMasterPortSend port => Sys2Proof.Machine.execPtpMasterPortSend port s
  | .ethLinkStateChange port up speed => Sys2Proof.Machine.execEthLinkStateChange port up speed s
  | .aloneTimeout => Sys2Proof.Machine.execAloneTimeout s
  | .canRxError controller error => Sys2Proof.Machine.execCanRxError controller error s
  | .canBusIntegration controller => Sys2Proof.Machine.execCanBusIntegration controller s
  | .uartBreakEnd channel => Sys2Proof.Machine.execUartBreakEnd channel s
  | .serviceLinkLock rate => Sys2Proof.Machine.execServiceLinkLock rate s
  | .serviceLinkLockLost => Sys2Proof.Machine.execServiceLinkLockLost s
  | .vbatLow mv => Sys2Proof.Machine.execVbatLow mv s
  | .hkDomainCleanStart rtcPeriods => Sys2Proof.Machine.execHkDomainCleanStart rtcPeriods s

end Sys2Proof.Machine
end

