-- ==== Sys2Proof/Safety.lean ====
section
/-! DEFINITION. What a run keeps, and the words that statements about commands are made of: what a command does and what it leaves
alone. -/
namespace Sys2Proof.Machine

/-! ## What a run keeps -/

/-- The stores of the state are in their canonical form: the dictionary's values and DRAM. -/
def State.storesWf (s : State) : Prop :=
  sparseWf scalarDefault s.objs = true ∧ sparseWf bytesDefault s.blobs = true ∧ Memory.wf s.dram = true

/-- With core power, the status objects tell what their sources hold: the flags of time (R118), the holder and its claim
(R101), the fault summary (R57). -/
def State.tellsStatus (s : State) : Prop :=
  s.rst.coreOn = true →
    s.obj Obj.timeFlags = s.timeFlagsNow ∧ s.obj Obj.holder = s.holderNow ∧
    s.obj Obj.holderClaim = (if s.holderNow = 0 then 0 else s.obj (Obj.cmdrClaim (s.holderNow - 1))) ∧
    s.obj Obj.faultSummary = s.faultSummaryNow

/-- A safe run ends in a state, not in a fault or a refusal. -/
def Runs (n : Nat) (s : State) : Prop :=
  match n with
  | 0 => True
  | n + 1 => ∃ t, step s = .next t ∧ Runs n t

/-! ## What a command does -/

/-- The parts of the state beside the numbers of the dictionary. -/
inductive Part where
  | blobs | time | free | dict | ring | tb | lake | sw | acc | fc | eng | ck | can | uart | bridge | sme | pe | rst | fw | dram | board
  | vgHead | vgMain | vgOpen | out | pending
  deriving DecidableEq, Repr

/-- A part is the same in two states. -/
def Part.same (s u : State) : Part → Prop
  | .blobs => u.blobs = s.blobs
  | .time => u.time = s.time
  | .free => u.freeCount = s.freeCount
  | .dict => u.dict = s.dict
  | .ring => u.ring = s.ring
  | .tb => u.tb = s.tb
  | .lake => u.lake = s.lake
  | .sw => u.sw = s.sw
  | .acc => u.acc = s.acc
  | .fc => u.fc = s.fc
  | .eng => u.eng = s.eng
  | .ck => u.ck = s.ck
  | .can => u.can = s.can
  | .uart => u.uart = s.uart
  | .bridge => u.bridge = s.bridge
  | .sme => u.sme = s.sme
  | .pe => u.pe = s.pe
  | .rst => u.rst = s.rst
  | .fw => u.fw = s.fw
  | .dram => u.dram = s.dram
  | .board => u.boardDram = s.boardDram
  | .vgHead => u.vgHead = s.vgHead
  | .vgMain => u.vgMain = s.vgMain
  | .vgOpen => u.vgOpen = s.vgOpen
  | .out => u.out = s.out
  | .pending => u.pending = s.pending

/-- The parts that an entry in the verdigris log touches, beside `vgNextSeq`. -/
def logParts : List Part := [.vgHead, .vgMain, .vgOpen]

/-- From `s` to `u` only the objects of `keys` and the parts of `parts` change. -/
def OnlyChanges (keys : List Nat) (parts : List Part) (s u : State) : Prop :=
  (∀ k, k ∉ keys → u.obj k = s.obj k) ∧ ∀ p, p ∉ parts → p.same s u

/-- The command completes: its own effect leads to a state with `post` that differs from `s` in `keys` and `parts` alone, and what
follows at once inside the node (`settle`) leads on from there. -/
def Does (i : Instr) (s : State) (keys : List Nat) (parts : List Part) (post : State → Prop) : Prop :=
  ∃ u, exec i s = .next (settle s u) ∧ post u ∧ OnlyChanges keys parts s u

/-- The command completes with an effect that reaches much of the state (a reset, a loss of power): it leads to a state with `post`, and
what follows inside the node leads on from there. -/
def Leads (i : Instr) (s : State) (post : State → Prop) : Prop := ∃ u, exec i s = .next (settle s u) ∧ post u

/-- What a reset of a kind leaves in the numbers of the dictionary, beside `keys`: what it keeps, and defaults elsewhere (R416). -/
def resetObjs (kind : Nat) (keys : List Nat) (s u : State) : Prop :=
  ∀ k, k ∉ keys → u.obj k = if keepObj kind k then s.obj k else scalarDefault k

/-- The objects that follow the boot record and the slots (R446, R447). -/
def bootKeys : List Nat :=
  [Obj.activeSlot, Obj.fwTrial, Obj.lastActResult, Obj.lastActPauseUs, Obj.failedStarts, Obj.lastFailCause] ++
  [0, 1].flatMap (fun n => [Obj.slotState n, Obj.imgVersion n, Obj.imgDictRev n, Obj.imgConfigFormat n, Obj.imgLength n, Obj.imgKeyId n,
    Obj.imgWritten n])

/-- The last output is the IMG_RESP to a frame type with a status (R433). -/
def State.answersImage (u : State) (type status : Nat) : Prop :=
  match u.out.getLast? with
  | some (.farif b) => slice b 0 2 = [0xA5, 0x18] ∧ slice b 4 2 = leBytes 1 type ++ leBytes 1 status
  | _ => False

/-- The commands of the power entry, the resets, the starts and the backup island, which work without core power. -/
def worksWithoutCore : Instr → Bool
  | .backupEntry => true
  | .bbmTransfer => true
  | .faultTimeExpiry => true
  | .feedFaultClose _ => true
  | .feedFaultLasting _ => true
  | .feedRetest => true
  | .hkDomainCleanStart _ => true
  | .hkDomainReset => true
  | .insertDelayExpiry => true
  | .peEnHigh _ => true
  | .peEnLow => true
  | .pinReset _ _ => true
  | .por => true
  | .powerEntryTick _ => true
  | .prioReturnExpiry => true
  | .railTimeout _ => true
  | .rampComplete => true
  | .rampTimeout => true
  | .removal => true
  | .resetBegin => true
  | .retryCountReset => true
  | .retryTimeExpiry => true
  | .reverseTurnoff _ => true
  | .settleExpiry => true
  | .shortTrip => true
  | .standbyEntry => true
  | .startSequence _ => true
  | .testTimeExpiry => true
  | .vbatLow _ => true
  | .wakeAtReached => true
  | .wakeN => true
  | .wdgExpiry => true
  | _ => false

/-- The request that a write by a sender is. -/
def writeReq (snd : Sender) (ix sub : Nat) (data : List Byte) : ObjReq :=
  { opcode := 2, commander := snd.commander, index := ix, sub := sub, tag := snd.tag, length := data.length, data := data }

/-- The request that a read by a sender is. -/
def readReq (snd : Sender) (ix sub : Nat) : ObjReq :=
  { opcode := 1, commander := snd.commander, index := ix, sub := sub, tag := snd.tag }

/-- No frame of the ring waits that carries this request. -/
def State.noFrameFor (s : State) (who : Requester) (r : ObjReq) : Prop :=
  match who with
  | .ring src _ => s.readFrame src r = none
  | _ => True

/-- The request is for this node and passes the checks of R470 up to the claim: its path is answered, the dictionary queue is free, its
body has the form of R47, and the node state and the claim allow it. -/
def State.admits (s : State) (who : Requester) (r : ObjReq) : Prop :=
  s.answers who = true ∧ s.paused = false ∧ s.dict.queue = [] ∧ s.noFrameFor who r ∧ bodyRefusal who r true = none ∧ r.target = 0 ∧
  s.stateRefusal r = none ∧ s.claimRefusal r = none

/-- The command completes as a request: its own effect leads to `u`, the response with `st`, `flags` and `data` goes out from there, and
what follows inside the node leads on. -/
def AnswersWith (i : Instr) (s : State) (who : Requester) (r : ObjReq) (st flags : Nat) (data : List Byte) (keys : List Nat)
    (parts : List Part) (post : State → Prop) : Prop :=
  ∃ u, exec i s = .next (settle s (u.respond who (respTo u r st flags data) none)) ∧ post u ∧ OnlyChanges keys parts s u

/-- The same with no flag set. -/
def Answers (i : Instr) (s : State) (who : Requester) (r : ObjReq) (st : Nat) (data : List Byte) (keys : List Nat) (parts : List Part)
    (post : State → Prop) : Prop := AnswersWith i s who r st 0 data keys parts post

end Sys2Proof.Machine
end

