-- ==== Sys2Proof/WellFormed.lean ====
section
/-! DEFINITION. Well-formed commands: each operand record within the widths that the spec gives its fields. The meanings are total and
do not ask for it; it says which commands a sender can form. -/
namespace Sys2Proof

/-- Below `2 ^ n`. -/
def fitsIn (n v : Nat) : Bool := v < 2 ^ n

/-- A requester on the ring is one of the nodes N01 to N96 (R68), with the commander ID of its frames. -/
def Requester.wf : Requester → Bool
  | .ring src c => 1 ≤ src && src ≤ 96 && fitsIn 4 c
  | .mailbox => true
  | .kedogil address port => fitsIn 32 address && fitsIn 16 port
  | .farif => true

/-- A request body fits its fields (R47). -/
def ObjReq.wf (r : ObjReq) : Bool :=
  fitsIn 8 r.opcode && fitsIn 8 r.flags && fitsIn 8 r.target && fitsIn 8 r.commander && fitsIn 16 r.index && fitsIn 8 r.sub &&
  fitsIn 8 r.reserved && fitsIn 16 r.tag && fitsIn 16 r.length && fitsIn 32 r.segOffset

/-- A sender has a COMMANDER byte and a TAG (R47). -/
def Sender.wf (x : Sender) : Bool := x.who.wf && fitsIn 8 x.commander && fitsIn 16 x.tag

/-- A frame fits the header of R68 and has a payload of at most 2,048 bytes. -/
def Frame.wf (f : Frame) : Bool :=
  fitsIn 8 f.hops && f.cls < 4 && fitsIn 4 f.type && 1 ≤ f.src && f.src ≤ 96 && (f.dst == 255 || (1 ≤ f.dst && f.dst ≤ 96)) &&
  fitsIn 8 f.status && f.commander ≤ 8 && fitsIn 16 f.tag && fitsIn 16 f.session && fitsIn 32 f.seq && fitsIn 48 f.address &&
  fitsIn 48 f.param && f.payload.length ≤ 2048

/-- A frame on the wire has a header row of 32 bytes and an FCRC of 32 bits (R62, R64). -/
def RingWire.wf (w : RingWire) : Bool := w.header.length == 32 && fitsIn 32 w.fcrc && fitsIn 64 w.linkWord

/-- A row has four sync headers and 32 bytes (R60). -/
def WireRow.wf (w : WireRow) : Bool := w.sync.length == 4 && w.bytes.length == 32

/-- The fields of a NOTICE row (R62). -/
def Notice.wf (n : Notice) : Bool :=
  fitsIn 8 n.kind && fitsIn 8 n.origin && fitsIn 8 n.u && fitsIn 8 n.d && fitsIn 64 n.time && fitsIn 32 n.seq

/-- The fields of a HELLO row (R62). -/
def Hello.wf (h : Hello) : Bool :=
  fitsIn 8 h.reverse && fitsIn 8 h.stepping && fitsIn 8 h.effectiveId && fitsIn 8 h.configuredId && fitsIn 64 h.identity

/-- A TIMING row has 24 content bytes (R114). -/
def TimingRow.wf (r : TimingRow) : Bool := r.content.length == 24

/-- An IRIG-B frame has one of the twelve formats of R112 and a time of day. -/
def IrigFrame.wf (f : IrigFrame) : Bool :=
  (f.form < 8 || (124 ≤ f.form && f.form ≤ 127)) && 1 ≤ f.day && f.day ≤ 366 && f.hour < 24 && f.minute < 60 && f.second < 61

/-- An Ethernet frame fits its fields. -/
def EthFrame.wf (f : EthFrame) : Bool :=
  fitsIn 48 f.dst && fitsIn 48 f.src && fitsIn 16 f.etherType &&
  (match f.vlan with | some (p, v) => p < 8 && fitsIn 12 v | none => true) &&
  (match f.red with | some (n, l) => fitsIn 16 n && fitsIn 4 l | none => true)

/-- A CAN frame has an identifier of 11 or 29 bits, a DLC of four bits and at most 64 data bytes. -/
def CanFrame.wf (f : CanFrame) : Bool := fitsIn (if f.extended then 29 else 11) f.id && fitsIn 4 f.dlc && f.data.length ≤ 64

/-- A character has a start bit, at most nine data bits, a parity bit and a stop bit that the receiver checks (R308). -/
def UartChar.wf (c : UartChar) : Bool := c.bits.length ≤ 12

/-- A host bus cycle has at least one beat, and beats of 32 bits with four byte enables (R325). -/
def HostCycle.wf (c : HostCycle) : Bool :=
  fitsIn 24 c.address && c.beats ≠ [] && c.beats.all (fun b => fitsIn 4 b.1 && fitsIn 32 b.2)

/-- An upset of the signal-mapping engine has one of the causes of R366. -/
def SmeFault.wf (f : SmeFault) : Bool := fitsIn 8 f.cause && f.bit < 40 && fitsIn 16 f.entry

/-- What a start finds fits the node: two bits of straps and 24 check-value units. -/
def StartFound.wf (o : StartFound) : Bool := fitsIn 2 o.bootSel && fitsIn 24 o.ckTransient && fitsIn 24 o.ckFail && fitsIn 6 o.mramBad

/-- A command is well formed when its operands are. -/
def Instr.wf : Instr → Bool
  | .objectRead who req => who.wf && req.wf
  | .objectWrite who req => who.wf && req.wf
  | .segRead who req => who.wf && req.wf
  | .segWrite who req => who.wf && req.wf
  | .segAbort who req => who.wf && req.wf
  | .writeSessionIdle _ => true
  | .readLatchLapse who _ => who.wf
  | .remoteTimeout _ => true
  | .memoryRead frame => frame.wf
  | .memoryWrite frame => frame.wf
  | .kedogilDatagram _ _ _ _ => true
  | .doorbell _ => true
  | .mailboxComplete => true
  | .farifFrame _ body _ => fitsIn 16 body.length
  | .stageValidate snd => snd.wf
  | .stageDiscard snd => snd.wf
  | .stageWithdraw snd => snd.wf
  | .commitApply => true
  | .commitTimeout => true
  | .store snd => snd.wf
  | .storeComplete _ => true
  | .storeErase snd => snd.wf
  | .heldOrderWrite snd _ => snd.wf
  | .idAssign snd _ => snd.wf
  | .helloRx _ hello => hello.wf
  | .losAsserted _ => true
  | .syncHeaderLoss _ _ => true
  | .rowTimeout _ => true
  | .errBurst _ received => received.all WireRow.wf
  | .lanesLocked _ => true
  | .savedLockTimeout _ => true
  | .trainingTimeout _ => true
  | .alignComplete l => -200000000 ≤ l.rate && l.rate ≤ 200000000
  | .alignTimeout _ => true
  | .linkUp _ => true
  | .linkRetry _ => true
  | .breakRx _ notice => notice.wf
  | .wrapD => true
  | .wrapU => true
  | .bInTimeout => true
  | .revertHoldoffExpiry => true
  | .revertCmd snd _ => snd.wf
  | .revertStartRx _ notice => notice.wf
  | .markerRx _ notice => notice.wf
  | .markerTimeout _ => true
  | .revertDoneRx _ notice => notice.wf
  | .reservedNoticeRx _ notice => notice.wf
  | .proveIntervalExpiry => true
  | .proveCmd snd _ => snd.wf
  | .proveStartRx _ notice => notice.wf
  | .proveHeat => true
  | .proveDwellExpiry _ => true
  | .loopFrameTimeout => true
  | .proveEndRx _ notice _ => notice.wf
  | .c0LoadInterval => true
  | .ringFrameRx _ wire => wire.wf
  | .readRespRx frame => frame.wf
  | .objectRespRx frame => frame.wf
  | .claimRx frame => frame.wf
  | .claimLeaseExpiry _ => true
  | .claimDatagram _ _ _ => true
  | .linkCountersClear _ snd => snd.wf
  | .syncSend => true
  | .syncRx _ row _ => row.wf
  | .syncTimeout => true
  | .delayReqSend _ => true
  | .delayReqRx _ row => row.wf
  | .delayRespRx _ row => row.wf
  | .fastMeasurementDone => true
  | .paramsRx _ row => row.wf
  | .paramsNextRx _ row => row.wf
  | .paramsChange => true
  | .stepRx _ row => row.wf
  | .timeStep => true
  | .timingIgnored row => row.wf
  | .ptpSyncRx _ m => m.domain < 256 && m.priority1 < 256 && m.priority2 < 256
  | .ppsInEdge _ => true
  | .irigFrame frame => frame.wf
  | .holdoverExpiry => true
  | .ppsOutSecond => true
  | .rtcWrite => true
  | .fieldCellEdge _ _ _ => true
  | .sampleInstant => true
  | .applyInstant => true
  | .lakeRx frame => frame.wf
  | .lakeOutputWrite who _ _ _ _ => who.wf
  | .loutHold => true
  | .lakeCountersClear snd => snd.wf
  | .switchAdmit => true
  | .backpressureOffer _ => true
  | .outputStart _ _ => true
  | .ethernetRx _ frame => frame.wf
  | .forgetTimeExpiry _ => true
  | .supervisionSend _ => true
  | .sampleFreezeWrite snd _ => snd.wf
  | .flowCountersClear snd => snd.wf
  | .portCountersClear _ snd => snd.wf
  | .ethCountersClear _ snd => snd.wf
  | .redCountersClear _ snd => snd.wf
  | .sessionSend _ _ => true
  | .acceptanceCheck frame => frame.wf
  | .journalWrite _ => true
  | .journalWriteFail _ _ _ _ => true
  | .ackRx frame => frame.wf
  | .execution _ _ => true
  | .retxTimeout _ _ => true
  | .execTimeout _ _ => true
  | .recallSession => true
  | .recallTimeout _ _ => true
  | .pendingLimitExpiry _ _ => true
  | .leqPop snd => snd.wf
  | .fenceComplete _ => true
  | .class3WriteRx frame => frame.wf
  | .lossTimeout _ => true
  | .censusRx notice => notice.wf
  | .presentRx notice => notice.wf
  | .membershipBoundary => true
  | .weldReqSend => true
  | .weldReqRx notice => notice.wf
  | .unweldCmd snd => snd.wf
  | .unweldDrainEnd => true
  | .unweldReqRx notice => notice.wf
  | .journalClear snd => snd.wf
  | .acceptCountersClear snd => snd.wf
  | .glitchExpiry _ => true
  | .debounceStable _ => true
  | .chatterSecond _ => true
  | .outCmdDriveLow _ snd _ _ => snd.wf
  | .outCmdDriveHigh _ snd _ _ => snd.wf
  | .outCmdPulseHigh _ snd _ _ _ => snd.wf
  | .outCmdPulseLow _ snd _ _ _ => snd.wf
  | .outCmdSafe _ snd _ _ => snd.wf
  | .outCmdCancel _ snd _ _ => snd.wf
  | .outputPlacement _ => true
  | .pulseTrailingEdge _ => true
  | .outMismatch _ => true
  | .bankFault _ _ => true
  | .bankFaultLasting _ => true
  | .bankSupplyReturn _ _ => true
  | .cellHoldPolicy _ => true
  | .govCheck => true
  | .bucketRoll _ => true
  | .govReset _ snd => snd.wf
  | .soeRecordWrite _ => true
  | .soeReadWrite snd _ => snd.wf
  | .cellCountersClear _ snd => snd.wf
  | .engineTransition _ => true
  | .queuedActionDue _ => true
  | .compareFire _ _ => true
  | .engineWake _ => true
  | .stallEnd _ => true
  | .longStall _ => true
  | .shiftEnd _ _ => true
  | .shifterBoundary _ _ => true
  | .shifterResume _ => true
  | .engineStart _ => true
  | .engineStop _ => true
  | .mordantSwap _ => true
  | .forcedSwap _ => true
  | .engCmdForcedSwap snd _ => snd.wf
  | .engCmdLocalReset snd _ => snd.wf
  | .engineCountersClear snd _ => snd.wf
  | .engineFrameOffer _ _ => true
  | .txPoll snd _ => snd.wf
  | .reservationGrant _ => true
  | .rxWordsArrive _ => true
  | .fifoFlushRx snd _ => snd.wf
  | .fifoFlushTx snd _ => snd.wf
  | .fifoFlushBoth snd _ => snd.wf
  | .fifoCountersClear snd _ => snd.wf
  | .canTxSubmit snd _ record => snd.wf && record.length ≤ 1024
  | .canScheduleDue _ => true
  | .canStartPoint _ => true
  | .canTxOk _ _ _ => true
  | .canTxError _ _ => true
  | .canBusOff _ => true
  | .canBusOffRecovered _ => true
  | .canStuck _ _ => true
  | .canFrameRx _ frame => frame.wf
  | .protocolException _ => true
  | .canRxPoll snd _ => snd.wf
  | .canTxHold _ => true
  | .canAbortUrgent snd _ => snd.wf
  | .canAbortNormal snd _ => snd.wf
  | .canAbortSchedule snd _ => snd.wf
  | .canLocalReset snd _ => snd.wf
  | .canClearIdClash snd _ => snd.wf
  | .canCountersClear snd _ => snd.wf
  | .uartCharacterRx _ char => char.wf
  | .uartGapClose _ => true
  | .uartBreak _ _ => true
  | .lineStuck _ => true
  | .uartRxPoll snd _ => snd.wf
  | .uartTxSubmit snd _ record => snd.wf && record.length ≤ 1024
  | .uartScheduleDue _ => true
  | .uartMessageStart _ => true
  | .uartMessageEnd _ => true
  | .deLagEnd _ => true
  | .uartTxHold _ => true
  | .uartAbortQueue snd _ => snd.wf
  | .uartAbortSchedule snd _ => snd.wf
  | .uartLocalReset snd _ => snd.wf
  | .uartClearCollision snd _ => snd.wf
  | .uartCountersClear snd _ => snd.wf
  | .hostTargetCycle cycle => cycle.wf
  | .intStatusWrite _ => true
  | .claimLoWrite _ => true
  | .claimHiWrite _ => true
  | .tgtAbandon _ => true
  | .windowCycle cycle => cycle.wf
  | .tgtHoldExpiry => true
  | .fabricCycleComplete => true
  | .crossing _ => true
  | .masterRequest => true
  | .busGrant _ _ => true
  | .masterRetry _ _ => true
  | .mstWaitTimeout _ _ => true
  | .bridgeCountersClear snd => snd.wf
  | .gooseRx _ frame => frame.wf
  | .gooseTalExpiry _ => true
  | .gooseInvalidExpiry _ => true
  | .gooseRepeat _ => true
  | .gooseClear snd => snd.wf
  | .arrivalRun faults _ => faults.all SmeFault.wf
  | .cyclicRun faults _ => faults.all SmeFault.wf
  | .eventInWrite snd _ data => snd.wf && data.length ≤ 1024
  | .mapCountersClear snd => snd.wf
  | .jobStart snd _ => snd.wf
  | .jobContinue snd _ => snd.wf
  | .jobAbandon snd _ => snd.wf
  | .jobComplete _ _ _ => true
  | .ctxValueWrite snd _ _ => snd.wf
  | .ctxAliveWrite snd _ _ => snd.wf
  | .ckLocalReset snd _ => snd.wf
  | .ckCountersClear snd _ => snd.wf
  | .selftest => true
  | .selftestComplete _ _ _ => true
  | .selftestCmd snd => snd.wf
  | .selftestIntervalExpiry => true
  | .debugHalt snd => snd.wf
  | .debugResume snd => snd.wf
  | .smeCountersClear snd => snd.wf
  | .powerEntryTick _ => true
  | .removal => true
  | .hkDomainReset => true
  | .insertDelayExpiry => true
  | .rampComplete => true
  | .rampTimeout => true
  | .settleExpiry => true
  | .faultTimeExpiry => true
  | .shortTrip => true
  | .retryTimeExpiry => true
  | .retryCountReset => true
  | .peEnLow => true
  | .peEnHigh _ => true
  | .reverseTurnoff _ => true
  | .bbmTransfer => true
  | .prioReturnExpiry => true
  | .peCmdTestFeed1 snd => snd.wf
  | .peCmdTestFeed2 snd => snd.wf
  | .peCmdReturn snd => snd.wf
  | .testTimeExpiry => true
  | .feedRetest => true
  | .feedFaultLasting _ => true
  | .feedFaultClose _ => true
  | .peMeasureClear snd => snd.wf
  | .por => true
  | .pinReset _ _ => true
  | .wdgExpiry => true
  | .resetCmdWarm snd => snd.wf
  | .resetCmdForced snd => snd.wf
  | .resetBegin => true
  | .startSequence found => found.wf
  | .railTimeout _ => true
  | .powerCmdRun snd => snd.wf
  | .powerCmdDoze snd => snd.wf
  | .powerCmdHold snd => snd.wf
  | .powerCmdStandby snd => snd.wf
  | .standbyEntry => true
  | .wakeN => true
  | .wakeAtReached => true
  | .backupEntry => true
  | .vgCmd snd => snd.wf
  | .imgBegin _ _ => true
  | .eraseComplete => true
  | .imgData _ data => 1 ≤ data.length && data.length ≤ 1024
  | .imgEnd => true
  | .imgAbort => true
  | .imgStatus => true
  | .downloadTimeout => true
  | .recoverStart _ => true
  | .fwCmdActivate snd => snd.wf
  | .activationPause _ => true
  | .fwCmdConfirm snd => snd.wf
  | .fwCmdEraseExport snd => snd.wf
  | .trialExpiry => true
  | .paramsSend => true
  | .ptpMasterPortSend _ => true
  | .ethLinkStateChange _ _ _ => true
  | .aloneTimeout => true
  | .canRxError _ _ => true
  | .canBusIntegration _ => true
  | .uartBreakEnd _ => true
  | .serviceLinkLock _ => true
  | .serviceLinkLockLost => true
  | .vbatLow mv => decide (mv < 1600)
  | .hkDomainCleanStart _ => true

end Sys2Proof
end

