-- ==== Sys2Proof/Certificates/Slice0/Obligations.lean ====
section
/-! DEFINITION. The statements about the UV960 for the provers. A statement about commands says for each of its rows where the command
completes, what it does and what it leaves alone: `Does` for an effect with its frame, `Answers` for a request, `Leads` for an effect
that reaches much of the state. -/
set_option linter.unusedVariables false
section Statements
open Sys2Proof Sys2Proof.Machine

/-- A step with a command at the front of the queue is that command on the state with the rest of the queue; every command completes with a
next state, in every state; on an empty queue time passes (the choice of log entry 13), and no word spells a command (log entry 12). -/
def Obligations.StepTakesFront : Prop :=
  (∀ (s : State) (c : Instr) (rest : List Instr), s.pending = c :: rest → step s = exec c { s with pending := rest }) ∧
  (∀ (i : Instr) (s : State), ∃ t, exec i s = .next t) ∧
  (∀ s : State, s.pending = [] → step s = .next (tick s)) ∧
  (∀ (s : State) (nbits w : Nat), decodeTableWord nbits w = none ∧ s.withFetchWord nbits w = s)

/-- After reset the node is in LOADING after a POR, no command waits, FAULT_SUMMARY has its reset value, DRAM is empty, the stores have
their canonical form and the status objects tell what their sources hold (R17, R57, R407). -/
def Obligations.ResetHolds : Prop :=
  State.reset.storesWf ∧ State.reset.tellsStatus ∧ State.reset.obj Obj.nodeState = stLoading ∧ State.reset.obj Obj.lastReset = 1 ∧
    State.reset.obj Obj.faultSummary = 0x228 ∧ State.reset.obj Obj.holder = 0 ∧ State.reset.dram = [] ∧ State.reset.pending = [] ∧
    State.reset.vgOpen = []

/-- Whatever command a step runs, where the core has power afterwards TIME_FLAGS, HOLDER, HOLDER_CLAIM and FAULT_SUMMARY tell what their
sources hold (R57, R101, R118); the passing of time keeps that. -/
def Obligations.StatusTold : Prop :=
  (∀ s t : State, s.pending ≠ [] → step s = .next t → t.tellsStatus) ∧
  (∀ s t : State, s.pending = [] → s.tellsStatus → step s = .next t → t.tellsStatus)

/-- The holder has a live entry with the greatest claim number, and of equal numbers the lowest commander ID; after every command HOLDER
names it, and NO_CLAIM is set just when HOLDER is 0. -/
def Obligations.HighestClaim : Prop :=
  (∀ s : State, (s.holderNow = 0 → ∀ c, 1 ≤ c → c ≤ 8 → s.obj (Obj.cmdrLive (c - 1)) ≠ 1) ∧ (s.holderNow ≠ 0 → 1 ≤ s.holderNow ∧
    s.holderNow ≤ 8 ∧ s.obj (Obj.cmdrLive (s.holderNow - 1)) = 1 ∧ ∀ c, 1 ≤ c → c ≤ 8 → s.obj (Obj.cmdrLive (c - 1)) = 1 →
    s.obj (Obj.cmdrClaim (c - 1)) < s.obj (Obj.cmdrClaim (s.holderNow - 1)) ∨ s.obj (Obj.cmdrClaim (c - 1)) = s.obj (Obj.cmdrClaim (s.holderNow - 1)) ∧
    s.holderNow ≤ c)) ∧
  (∀ s t : State, s.pending ≠ [] → step s = .next t → t.rst.coreOn = true → t.obj Obj.holder = t.holderNow ∧
    ((t.obj Obj.faultSummary).testBit 9 = true ↔ t.obj Obj.holder = 0))

/-- In RUNNING and DEGRADED a write that passes the checks before it and does not carry the ID of the highest live claim is answered
CLAIM_LOST, counted under CLAIM_REFUSALS, and changes nothing else (R33, R106, R470), but for the verdigris log and for output commands,
which have conditions of their own. -/
def Obligations.ClaimNeeded : Prop :=
  ∀ (s : State) (who : Requester) (req : ObjReq) (row : Row),
    s.answers who = true → s.paused = false → s.dict.queue = [] → s.noFrameFor who { req with opcode := 2 } →
    bodyRefusal who { req with opcode := 2 } true = none → req.target = 0 → s.stateRefusal { req with opcode := 2 } = none →
    req.data.length = req.length → (s.lookup req.index req.sub).toOption = some row → s.serving = true →
    ¬ (0xF000 ≤ req.index ∧ req.index ≤ 0xF0FF) → s.isOutputCommand req.index req.sub = false →
    (req.commander = 0 ∨ req.commander ≠ s.holderNow) →
    Answers (.objectWrite who req) s who { req with opcode := 2 } stClaimLost [] [Obj.claimRefusals] []
      (fun u => u.obj Obj.claimRefusals = (s.obj Obj.claimRefusals + 1) % 2 ^ 32)

/-- A command of a block that works with core power alone leaves a node without core power as it is; the power entry, the resets, the starts
and the backup island work on (R17, R379, R380). -/
def Obligations.NoCoreNoEffect : Prop :=
  ∀ (i : Instr) (s : State), s.rst.coreOn = false → worksWithoutCore i = false → exec i s = .next s

/-- The header bytes of every well-formed frame are 32, pass the checks of R69, give LENGTH back, and spell the frame; HOPS, PATH and
WRAPPED can change on the way with both checks as they are (R68, R69). -/
def Obligations.HeaderRoundTrip : Prop :=
  (∀ f : Frame, f.wf = true → frameOfHeader (headerBytes f) f.payload = f ∧ (headerBytes f).length = 32 ∧
    headerLength (headerBytes f) = f.payload.length ∧ headerGood (headerBytes f) = true) ∧
  (∀ (f : Frame) (hops : Nat) (path : Path) (wrapped : Bool), f.wf = true → hops < 256 →
    headerGood (headerBytes { f with hops := hops, path := path, wrapped := wrapped }) = true ∧
      frameCrc { f with hops := hops, path := path, wrapped := wrapped } = frameCrc f)

/-- The bytes of every well-formed request body spell the request, and the bytes of every response body whose fields fit spell the response
(R47, R48). -/
def Obligations.BodiesRoundTrip : Prop :=
  (∀ q : ObjReq, q.wf = true → reqOfBytes (reqBytes q) = q) ∧
  (∀ p : ObjResp, p.opcode < 2 ^ 8 → p.status < 2 ^ 8 → p.source < 2 ^ 8 → p.commander < 2 ^ 8 → p.index < 2 ^ 16 → p.sub < 2 ^ 8 →
    p.flags < 2 ^ 8 → p.tag < 2 ^ 16 → p.segOffset < 2 ^ 32 → p.data.length < 2 ^ 16 → respOfBytes (respBytes p) = p)

/-- A byte enters the register bit by bit as the sketch of R351 says, reflected with REFIN, and the result is reflected with REFOUT and
XORed; bytes fed in one run or in several give the same running value; a job starts from INIT, and a context that nothing has set stands at
INIT. -/
def Obligations.RunningValue : Prop :=
  (∀ (c : CkParams) (reg : Nat) (b : Byte) (l m : List Byte), c.good = true → reg < 2 ^ c.width →
    c.feed reg [] = reg ∧ c.feed reg (l ++ m) = c.feed (c.feed reg l) m ∧ c.feed reg l < 2 ^ c.width ∧
    c.feed reg [b] = (List.range 8).foldl (fun (x i : Nat) => let y := (x * 2) % 2 ^ c.width
      if xor (x.testBit (c.width - 1)) (b.toNat.testBit (if c.refin then i else 7 - i)) then y ^^^ c.poly else y) reg) ∧
  (∀ (c : CkParams) (reg : Nat), c.good = true → reg < 2 ^ c.width →
    c.result reg < 2 ^ c.width ∧ ∀ i, i < c.width →
      (c.result reg).testBit i = xor (reg.testBit (if c.refout then c.width - 1 - i else i)) (c.xorout.testBit i)) ∧
  (∀ (s : State) (n c : Nat), (s.ckCtx n c).value = none → s.ctxValueNow n c = s.obj (Obj.ckInit n)) ∧
  (∀ (s t : State) (n : Nat), s.jobCommand n 1 = (t, stDone) → s.obj (Obj.jobLen n) ≠ 0 →
    (t.ckJob n).map (·.reg) = some (s.obj (Obj.ckInit n)))

/-- The code of every 32-bit pattern is below 2^40 and decodes to the pattern, so distinct patterns have distinct codes; wide codes decode
to their signed values (R364). -/
def Obligations.CodesDecode : Prop :=
  (∀ b u v : Nat, b < 2 ^ 16 → u < 2 ^ 32 → v < 2 ^ 32 → code40 b u < 2 ^ 40 ∧ decode40 b (code40 b u) = u ∧ (code40 b u = code40 b v →
    u = v)) ∧
  (∀ (b : Nat) (x : Int), b < 2 ^ 16 → -(2 ^ 79 : Int) ≤ x → x < (2 ^ 79 : Int) → code80 b x < 2 ^ 80 ∧ decode80 b (code80 b x) = x)

/-- For every entry of the signal map and every field value of up to 33 bits, what pass T computes on codes and in the dual form is the code
of what pass P computes on the plain value, with the same word on the limits (R343, R364, R365). -/
def Obligations.PassesAgree : Prop :=
  ∀ (w : Nat) (x : Int), -(2 ^ 32 : Int) ≤ x → x < (2 ^ 32 : Int) →
    scaleT w x = (code40 (meTconst w) (ofSigned 32 (scaleP w x).1), (scaleP w x).2) ∧ scaleBy true w x = scaleBy false w x

/-- A frame whose header is good and that breaks no rule of R71 enters the switch with one hop more, for the outputs its route gives; a
READ_RESP for the pending window cycle brings its result, and a response that nothing waits for is counted under ORPHAN_RESPONSES (R70); an
object response reaches the requester of the forwarded request (R50). -/
def Obligations.FrameArrivals : Prop :=
  (∀ (s : State) (p : Path) (w : RingWire) (f : Frame) (t : State),
    s.rst.coreOn = true →
    s.linkState p = lkUp →
    headerGood w.header = true →
    f = { frameOfHeader w.header w.payload with hops := ((frameOfHeader w.header w.payload).hops + 1) % 256 } →
    typeAllows f.type f.cls (headerLength w.header) = true →
    f.type ≠ tyObjectReq →
    f.type ≠ tyObjectResp →
    f.hops ≤ s.hopLimit →
    w.stomp = false →
    w.rows = ceilDiv (headerLength w.header) 32 →
    w.payload.length = headerLength w.header →
    w.fcrc = frameCrc f →
    (p = .a ∨ s.ring.wraps.all (fun w => w.gapSeen) = true) →
    s.ring.prove = none →
    s.ring.revert = none →
    t.ringRoute p f ≠ [] →
    s.flowMatch 2 (ringKey (linkIdx p) f) = none →
    (s.obj Obj.mirrorIn).testBit (linkIdx p) = false →
    (s.obj Obj.samplePorts).testBit (linkIdx p) = false →
    t = s.setLink p { s.link p with linkWord := w.linkWord } →
    Does (.ringFrameRx p w) s [] [.sw, .ring] (fun u =>
      u = { t with sw := { s.sw with entering := s.sw.entering ++ [{ port := linkIdx p, cls := f.cls, packet := .ring f, outs := t.ringRoute p f, entered := s.now }] } })) ∧
  (∀ (s : State) (f : Frame) (q : PendingCycle),
    s.rst.coreOn = true →
    s.bridge.pending = some q →
    q.tag = f.tag →
    q.node = f.src →
    q.cycle.write = false →
    q.arrived = none →
    Does (.readRespRx f) s [] [.sw, .bridge] (fun u =>
      u.bridge.pending = some { q with arrived := some (f.status, f.payload) })) ∧
  (∀ (s : State) (f : Frame),
    s.rst.coreOn = true →
    s.bridge.pending.any (fun p => p.tag == f.tag && p.node == f.src && !p.cycle.write && p.arrived.isNone) = false →
    Does (.readRespRx f) s [Obj.orphanResponses] [.sw] (fun u =>
      u.obj Obj.orphanResponses = (s.obj Obj.orphanResponses + 1) % 2 ^ 32)) ∧
  (∀ (s : State) (f : Frame) (o : Outstanding),
    s.rst.coreOn = true →
    s.dict.outstanding.find? (fun o => o.tag == f.tag && o.req.target == f.src) = some o →
    o.who = .mailbox →
    o.work = none →
    Does (.objectRespRx f) s [] [.dict, .sw, .out] (fun u =>
      u.dict.outstanding = s.dict.outstanding.erase o ∧ u.dict.mbWaiting = some (respOfBytes f.payload))) ∧
  (∀ (s : State) (f : Frame),
    s.rst.coreOn = true →
    s.dict.outstanding.find? (fun o => o.tag == f.tag && o.req.target == f.src) = none →
    Does (.objectRespRx f) s [Obj.orphanResponses] [.sw] (fun u =>
      u.obj Obj.orphanResponses = (s.obj Obj.orphanResponses + 1) % 2 ^ 32)) ∧
  (∀ (s : State) (tag : BitVec 16) (o : Outstanding),
    s.rst.coreOn = true →
    s.dict.outstanding.find? (fun o => o.tag == tag.toNat) = some o →
    o.who = .mailbox →
    o.work = none →
    Does (.remoteTimeout tag) s [] [.dict, .out, .time] (fun u =>
      u.dict.outstanding = s.dict.outstanding.erase o ∧ u.dict.mbWaiting = some (respTo s o.req stTimeout) ∧ o.deadline ≤ u.now))

/-- For objects that are not byte strings: a READ that the checks pass answers DONE with the value of the object and changes nothing, the
three polls that take an entry (R273, R301, R314) apart (R28); a WRITE of an RW object that has no rule of its own puts its value in effect
before the response (R28); a WRITE of an RWS object outside the lake is staged and answers STAGED (R35); a request on the wrong access code
is refused with READ_ONLY or WRITE_ONLY (R28, R470). -/
def Obligations.ObjectRequests : Prop :=
  (∀ (s : State) (who : Requester) (req : ObjReq) (row : Row),
    s.admits who ({ req with opcode := 1 }) →
    (s.lookup req.index req.sub).toOption = some row →
    row.acc ≠ .wo →
    tyIsBytes row.ty = false →
    req.flags.testBit 0 = false →
    ¬ (0x4200 ≤ req.index ∧ req.index < 0x4240) →
    ¬ (0x5300 ≤ req.index ∧ req.index < 0x5310) →
    ¬ (0x5880 ≤ req.index ∧ req.index < 0x58A0) →
    Answers (.objectRead who req) s who ({ req with opcode := 1 }) stDone (s.valueNow row req.index req.sub) [] [] (fun u =>
      u = s)) ∧
  (∀ (s : State) (who : Requester) (req : ObjReq) (row : Row) (k : Nat),
    s.admits who ({ req with opcode := 2 }) →
    req.data.length = req.length →
    (s.lookup req.index req.sub).toOption = some row →
    row.acc = .rw →
    tyIsBytes row.ty = false →
    k = req.index * 256 + req.sub →
    k ∉ [Obj.commitAt, Obj.soeRead, Obj.gmPriority, Obj.freeRunOk, Obj.heldOrder] →
    ¬ (0x70A0 ≤ req.index ∧ req.index < 0x70B8) →
    lengthRefusal row req.data.length = none →
    valueGood row req.index req.sub (maskedData row req.data) = true →
    Answers (.objectWrite who req) s who ({ req with opcode := 2 }) stDone [] [k] [] (fun u =>
      u.obj k = leVal (maskedData row req.data))) ∧
  (∀ (s : State) (who : Requester) (req : ObjReq) (row : Row) (k : Nat),
    s.admits who ({ req with opcode := 2 }) →
    req.data.length = req.length →
    (s.lookup req.index req.sub).toOption = some row →
    row.acc = .rws →
    isLakeIndex req.index = false →
    mordantEngine k = none →
    tyIsBytes row.ty = false →
    k = req.index * 256 + req.sub →
    s.obj Obj.stageState ≠ 2 →
    s.obj Obj.stageState ≠ 3 →
    s.stageCountNow < 2048 →
    lengthRefusal row req.data.length = none →
    valueGood row req.index req.sub (maskedData row req.data) = true →
    Answers (.objectWrite who req) s who ({ req with opcode := 2 }) stStaged [] [Obj.stageState] [.dict] (fun u =>
      u.obj Obj.stageState = 1 ∧ u.dict.staged = stageInto s.dict.staged k (maskedData row req.data) ∧ u.dict.held = s.dict.held)) ∧
  (∀ (s : State) (who : Requester) (req : ObjReq) (row : Row),
    s.admits who ({ req with opcode := 2 }) →
    req.data.length = req.length →
    (s.lookup req.index req.sub).toOption = some row →
    (row.acc = .ro ∨ row.acc = .const) →
    Answers (.objectWrite who req) s who ({ req with opcode := 2 }) stReadOnly [] [] [] (fun u =>
      u = s)) ∧
  (∀ (s : State) (who : Requester) (req : ObjReq) (row : Row),
    s.admits who ({ req with opcode := 1 }) →
    (s.lookup req.index req.sub).toOption = some row →
    row.acc = .wo →
    Answers (.objectRead who req) s who ({ req with opcode := 1 }) stWriteOnly [] [] [] (fun u =>
      u = s))

/-- A segment of a write at offset 0 opens a session for its requester, one at the offset reached continues it, and the last one stages the
whole DOMAIN (R49); SEG_ABORT from that requester, or 1 s without a segment, discards what was received, and with no session SEG_ABORT
changes nothing; a segment or an abort from another requester meets RETRY; a segmented read answers the bytes from its offset, with the flag
of the last segment where it reaches the end, and latches the generation; a later segment without a live latch of that generation answers
RETRY, and the latch lapses after 1 s. -/
def Obligations.DomainTransfers : Prop :=
  (∀ (s : State) (who : Requester) (req : ObjReq) (row : Row) (max : Nat) (empty : Bool) (code : Nat) (k : Nat) (content : List Byte),
    s.admits who ({ req with opcode := 3 }) →
    (s.lookup req.index req.sub).toOption = some row →
    row.ty = .domain max empty code →
    row.acc ≠ .wo →
    k = req.index * 256 + req.sub →
    content = (if req.flags.testBit 0 = true ∧ row.acc = .rws then (s.stagedOf k).getD (s.bytesNow k) else s.bytesNow k) →
    (req.segOffset = 0 ∨ s.dict.latches.any (fun l => l.index == req.index && l.who == who && s.now < l.last + sec && l.generation == s.generationOf req.index req.sub) = true) →
    req.segOffset ≤ content.length →
    AnswersWith (.segRead who req) s who ({ req with opcode := 3 }) stDone (ofBool (content.length ≤ req.segOffset + ((content.drop req.segOffset).take (if req.length = 0 then 1024 else req.length)).length)) ((content.drop req.segOffset).take (if req.length = 0 then 1024 else req.length)) [] [.dict] (fun u =>
      u.dict.latches.any (fun l => l.index == req.index && l.who == who && l.last == s.now && l.generation == s.generationOf req.index req.sub) = true ∧
        (∀ l ∈ s.dict.latches, ¬ (l.index = req.index ∧ l.who = who) → l ∈ u.dict.latches) ∧
        { u.dict with latches := s.dict.latches } = s.dict)) ∧
  (∀ (s : State) (who : Requester) (req : ObjReq) (row : Row) (max : Nat) (empty : Bool) (code : Nat) (k : Nat) (content : List Byte),
    s.admits who ({ req with opcode := 3 }) →
    (s.lookup req.index req.sub).toOption = some row →
    row.ty = .domain max empty code →
    row.acc ≠ .wo →
    k = req.index * 256 + req.sub →
    content = (if req.flags.testBit 0 = true ∧ row.acc = .rws then (s.stagedOf k).getD (s.bytesNow k) else s.bytesNow k) →
    req.segOffset ≠ 0 →
    s.dict.latches.any (fun l => l.index == req.index && l.who == who && s.now < l.last + sec && l.generation == s.generationOf req.index req.sub) = false →
    Answers (.segRead who req) s who ({ req with opcode := 3 }) stRetry [] [] [.dict] (fun u =>
      u.dict.latches.any (fun l => l.index == req.index && l.who == who) = false ∧ (∀ l ∈ s.dict.latches, ¬ (l.index = req.index ∧
        l.who = who) → l ∈ u.dict.latches) ∧ { u.dict with latches := s.dict.latches } = s.dict)) ∧
  (∀ (s : State) (who : Requester) (req : ObjReq) (row : Row) (max : Nat) (empty : Bool) (code : Nat) (before : List Byte),
    s.admits who ({ req with opcode := 4 }) →
    (s.lookup req.index req.sub).toOption = some row →
    row.ty = .domain max empty code →
    req.data.length = req.length →
    row.acc = .rws →
    before.length + req.data.length ≤ max →
    req.segOffset = 0 →
    (s.writeSession req.index).all (fun w => w.who == who) = true →
    before = [] →
    ¬ (0x4400 ≤ req.index ∧ req.index < 0x4440) →
    req.flags.testBit 1 = false →
    Answers (.segWrite who req) s who ({ req with opcode := 4 }) stDone [] [] [.dict] (fun u =>
      u.writeSession req.index = some { index := req.index, who := who, data := before ++ req.data, last := s.now } ∧ (∀ ix, ix ≠ req.index →
        u.writeSession ix = s.writeSession ix) ∧ { u.dict with sessions := s.dict.sessions } = s.dict)) ∧
  (∀ (s : State) (who : Requester) (req : ObjReq) (row : Row) (max : Nat) (empty : Bool) (code : Nat) (before : List Byte),
    s.admits who ({ req with opcode := 4 }) →
    (s.lookup req.index req.sub).toOption = some row →
    row.ty = .domain max empty code →
    req.data.length = req.length →
    row.acc = .rws →
    before.length + req.data.length ≤ max →
    req.segOffset = 0 →
    (s.writeSession req.index).all (fun w => w.who == who) = true →
    before = [] →
    ¬ (0x4400 ≤ req.index ∧ req.index < 0x4440) →
    req.flags.testBit 1 = true →
    (before ++ req.data ≠ [] ∨ empty = true) →
    mordantEngine (req.index * 256 + req.sub) = none →
    s.obj Obj.stageState ≠ 2 →
    s.obj Obj.stageState ≠ 3 →
    s.stageCountNow < 2048 →
    Answers (.segWrite who req) s who ({ req with opcode := 4 }) stStaged [] [Obj.stageState] [.dict] (fun u =>
      u.writeSession req.index = none ∧ u.dict.staged = stageInto s.dict.staged (req.index * 256 + req.sub) (before ++ req.data) ∧
        u.obj Obj.stageState = 1 ∧ (∀ ix, ix ≠ req.index → u.writeSession ix = s.writeSession ix) ∧
        { u.dict with sessions := s.dict.sessions, staged := s.dict.staged } = s.dict)) ∧
  (∀ (s : State) (who : Requester) (req : ObjReq) (row : Row) (max : Nat) (empty : Bool) (code : Nat) (before : List Byte),
    s.admits who ({ req with opcode := 4 }) →
    (s.lookup req.index req.sub).toOption = some row →
    row.ty = .domain max empty code →
    req.data.length = req.length →
    row.acc = .rws →
    before.length + req.data.length ≤ max →
    req.segOffset = before.length →
    before ≠ [] →
    (s.writeSession req.index).any (fun w => w.who == who && w.data == before) = true →
    req.flags.testBit 1 = false →
    Answers (.segWrite who req) s who ({ req with opcode := 4 }) stDone [] [] [.dict] (fun u =>
      u.writeSession req.index = some { index := req.index, who := who, data := before ++ req.data, last := s.now } ∧ (∀ ix, ix ≠ req.index →
        u.writeSession ix = s.writeSession ix) ∧ { u.dict with sessions := s.dict.sessions } = s.dict)) ∧
  (∀ (s : State) (who : Requester) (req : ObjReq) (row : Row) (max : Nat) (empty : Bool) (code : Nat) (before : List Byte),
    s.admits who ({ req with opcode := 4 }) →
    (s.lookup req.index req.sub).toOption = some row →
    row.ty = .domain max empty code →
    req.data.length = req.length →
    row.acc = .rws →
    before.length + req.data.length ≤ max →
    req.segOffset = before.length →
    before ≠ [] →
    (s.writeSession req.index).any (fun w => w.who == who && w.data == before) = true →
    req.flags.testBit 1 = true →
    (before ++ req.data ≠ [] ∨ empty = true) →
    mordantEngine (req.index * 256 + req.sub) = none →
    s.obj Obj.stageState ≠ 2 →
    s.obj Obj.stageState ≠ 3 →
    s.stageCountNow < 2048 →
    Answers (.segWrite who req) s who ({ req with opcode := 4 }) stStaged [] [Obj.stageState] [.dict] (fun u =>
      u.writeSession req.index = none ∧ u.dict.staged = stageInto s.dict.staged (req.index * 256 + req.sub) (before ++ req.data) ∧
        u.obj Obj.stageState = 1 ∧ (∀ ix, ix ≠ req.index → u.writeSession ix = s.writeSession ix) ∧
        { u.dict with sessions := s.dict.sessions, staged := s.dict.staged } = s.dict)) ∧
  (∀ (s : State) (who : Requester) (req : ObjReq) (row : Row) (max : Nat) (empty : Bool) (code : Nat) (w : WriteSession),
    s.admits who ({ req with opcode := 4 }) →
    (s.lookup req.index req.sub).toOption = some row →
    row.ty = .domain max empty code →
    row.acc = .rws →
    s.writeSession req.index = some w →
    w.who ≠ who →
    Answers (.segWrite who req) s who ({ req with opcode := 4 }) stRetry [] [] [] (fun u =>
      u = s)) ∧
  (∀ (s : State) (who : Requester) (req : ObjReq) (row : Row) (max : Nat) (empty : Bool) (code : Nat),
    s.admits who ({ req with opcode := 5 }) →
    (s.lookup req.index req.sub).toOption = some row →
    row.ty = .domain max empty code →
    row.acc = .rws →
    (s.writeSession req.index).any (fun w => w.who == who) = true →
    Answers (.segAbort who req) s who ({ req with opcode := 5 }) stDone [] [] [.dict] (fun u =>
      u.writeSession req.index = none ∧ (∀ ix, ix ≠ req.index → u.writeSession ix = s.writeSession ix) ∧
        { u.dict with sessions := s.dict.sessions } = s.dict)) ∧
  (∀ (s : State) (who : Requester) (req : ObjReq) (row : Row) (max : Nat) (empty : Bool) (code : Nat),
    s.admits who ({ req with opcode := 5 }) →
    (s.lookup req.index req.sub).toOption = some row →
    row.ty = .domain max empty code →
    row.acc = .rws →
    s.writeSession req.index = none →
    Answers (.segAbort who req) s who ({ req with opcode := 5 }) stDone [] [] [] (fun u =>
      u = s)) ∧
  (∀ (s : State) (who : Requester) (req : ObjReq) (row : Row) (max : Nat) (empty : Bool) (code : Nat),
    s.admits who ({ req with opcode := 5 }) →
    (s.lookup req.index req.sub).toOption = some row →
    row.ty = .domain max empty code →
    row.acc = .rws →
    (s.writeSession req.index).any (fun w => w.who != who) = true →
    Answers (.segAbort who req) s who ({ req with opcode := 5 }) stRetry [] [] [] (fun u =>
      u = s)) ∧
  (∀ (s : State) (ix : BitVec 16) (w : WriteSession),
    s.rst.coreOn = true →
    s.dict.sessions.find? (fun x => x.index == ix.toNat) = some w →
    Does (.writeSessionIdle ix) s [] [.dict, .time] (fun u =>
      u.writeSession ix.toNat = none ∧ u.dict = { s.dict with sessions := s.dict.sessions.filter (fun x => x.index ≠ ix.toNat) } ∧
        w.last + sec ≤ u.now ∧ s.time ≤ u.time)) ∧
  (∀ (s : State) (who : Requester) (ix : BitVec 16) (l : ReadLatch),
    s.rst.coreOn = true →
    s.dict.latches.find? (fun x => x.index == ix.toNat && x.who == who) = some l →
    Does (.readLatchLapse who ix) s [] [.dict, .time] (fun u =>
      u.dict = { s.dict with latches := s.dict.latches.filter (fun x => !(x.index == ix.toNat && x.who == who)) } ∧ l.last + sec ≤ u.now ∧
        s.time ≤ u.time))

/-- A READ of DRAM that the checks of R22 pass is answered with a READ_RESP and the bytes that stand there, one that they refuse with their
status (R23, R472); a class-3 WRITE passes the switch a second time, to its consumer (R143), and at DRAM one that they pass puts its bytes
there and changes no other byte (R23, R201); an access that is not in a session and not posted is counted as BAD_SESSION. -/
def Obligations.MemoryAccess : Prop :=
  (∀ (s : State) (f : Frame) (n : Nat),
    s.rst.coreOn = true →
    s.node ≠ stRecovery →
    n = bits f.param 11 0 →
    n ≤ 2048 →
    s.memRefusal f.address n false = none →
    addrSpace f.address = 3 →
    Does (.memoryRead f) s [] [.sw] (fun u =>
      (∃ t : List Offered, u.sw.entering = s.sw.entering ++ t ∧
        t.map (·.packet) = [Packet.ring { cls := f.cls, type := tyReadResp, src := s.ownId, dst := f.src, status := stDone, commander := f.commander, tag := f.tag, payload := s.dramRead (addrOffset f.address) n }]))) ∧
  (∀ (s : State) (f : Frame) (st : Nat),
    s.rst.coreOn = true →
    s.node ≠ stRecovery →
    bits f.param 11 0 ≤ 2048 →
    s.memRefusal f.address (bits f.param 11 0) false = some st →
    Does (.memoryRead f) s [] [.sw] (fun u =>
      (∃ t : List Offered, u.sw.entering = s.sw.entering ++ t ∧
        t.map (·.packet) = [Packet.ring { cls := f.cls, type := tyReadResp, src := s.ownId, dst := f.src, status := st, commander := f.commander, tag := f.tag }]))) ∧
  (∀ (s : State) (f : Frame),
    s.rst.coreOn = true →
    f.cls = 3 →
    f.posted = true →
    s.accessRefusal f.address f.payload.length true f.commander = none →
    addrSpace f.address = 3 →
    f.payload ≠ [] →
    Does (.memoryWrite f) s [] [.sw, .dram] (fun u =>
      (∀ a, u.dramByte a = (if addrOffset f.address ≤ a ∧
        a < addrOffset f.address + f.payload.length then f.payload.getD (a - addrOffset f.address) 0 else s.dramByte a)))) ∧
  (∀ (s : State) (f : Frame) (q : Nat),
    s.rst.coreOn = true →
    f.posted = true →
    f.type = tyWrite →
    f.payload ≠ [] →
    releasePort f = some q →
    fifoTarget f = none →
    Does (.class3WriteRx f) s [] [.sw] (fun u =>
      u.sw = { (s.takeFrame f).sw with entering := (s.takeFrame f).sw.entering ++ [{ port := portAccept, cls := 3, packet := .ring f, outs := [q] }] })) ∧
  (∀ (s : State) (f : Frame),
    s.rst.coreOn = true →
    f.posted = false →
    Does (.class3WriteRx f) s [Obj.badSession] [.sw] (fun u =>
      u.obj Obj.badSession = (s.obj Obj.badSession + 1) % 2 ^ 32))

/-- On Kedogil a datagram with a bad header, a short body or an address off the allow list is dropped and counted, one that repeats a kept
request is answered from what was kept, and another is handled as an object request (R52); the DOORBELL submits the request that stands in
the mailbox or sets OVERRUN while it is busy, and the completed request clears BUSY, sets DONE and raises its interrupt source (R53); a
Farif frame with a bad check value or a reserved type is discarded and counted, and an empty object request is a link check that is answered
(R54). -/
def Obligations.AccessPaths : Prop :=
  (∀ (s : State) (port : Fin 4) (address : BitVec 32) (udpPort : BitVec 16) (b : List Byte),
    s.rst.coreOn = true →
    s.node ≠ stRecovery →
    (s.obj Obj.kedogilEnable).testBit port.val = true →
    s.obj (Obj.ipv4Addr (s.addressPort port.val)) ≠ 0 →
    s.ethDeaf port.val = false →
    (b.take 4 ≠ [0x4B, 0x44, 1, 0] ∨ b.length < 20 ∨ s.allowed address.toNat = false) →
    Does (.kedogilDatagram port address udpPort b) s [Obj.kedogilDropped] [] (fun u =>
      u.obj Obj.kedogilDropped = (s.obj Obj.kedogilDropped + 1) % 2 ^ 32)) ∧
  (∀ (s : State) (port : Fin 4) (address : BitVec 32) (udpPort : BitVec 16) (b : List Byte) (r : ObjReq) (row : Row),
    s.admits (.kedogil address.toNat udpPort.toNat) (r) →
    r = reqOfBytes (b.drop 4) →
    (s.obj Obj.kedogilEnable).testBit port.val = true →
    s.obj (Obj.ipv4Addr (s.addressPort port.val)) ≠ 0 →
    s.ethDeaf port.val = false →
    b.take 4 = [0x4B, 0x44, 1, 0] →
    20 ≤ b.length →
    s.allowed address.toNat = true →
    s.dict.kept.find? (fun k => k.address == address.toNat && k.tag == r.tag) = none →
    (s.lookup r.index r.sub).toOption = some row →
    r.opcode = 1 →
    row.acc ≠ .wo →
    tyIsBytes row.ty = false →
    r.flags.testBit 0 = false →
    ¬ (0x4200 ≤ r.index ∧ r.index < 0x4240) →
    ¬ (0x5300 ≤ r.index ∧ r.index < 0x5310) →
    ¬ (0x5880 ≤ r.index ∧ r.index < 0x58A0) →
    Answers (.kedogilDatagram port address udpPort b) s (.kedogil address.toNat udpPort.toNat) (r) stDone (s.valueNow row r.index r.sub) [] [] (fun u =>
      u = s)) ∧
  (∀ (s : State) (port : Fin 4) (address : BitVec 32) (udpPort : BitVec 16) (b : List Byte) (k : KeptResponse),
    s.rst.coreOn = true →
    s.node ≠ stRecovery →
    (s.obj Obj.kedogilEnable).testBit port.val = true →
    s.obj (Obj.ipv4Addr (s.addressPort port.val)) ≠ 0 →
    s.ethDeaf port.val = false →
    b.take 4 = [0x4B, 0x44, 1, 0] →
    20 ≤ b.length →
    s.allowed address.toNat = true →
    s.dict.kept.find? (fun k => k.address == address.toNat && k.tag == (reqOfBytes (b.drop 4)).tag) = some k →
    Does (.kedogilDatagram port address udpPort b) s [Obj.kedogilReplayed] [.out] (fun u =>
      u.out = s.out ++ [.datagram address.toNat udpPort.toNat ([0x4B, 0x44, 1, 0] ++ respBytes k.resp)] ∧
        u.obj Obj.kedogilReplayed = (s.obj Obj.kedogilReplayed + 1) % 2 ^ 32)) ∧
  (∀ (s : State) (v : BitVec 32),
    s.rst.coreOn = true →
    s.answersHost = true →
    v = 1 →
    s.dict.mbBusy = true →
    Does (.doorbell v) s [] [.dict] (fun u =>
      u.dict = { s.dict with mbOverrun := true })) ∧
  (∀ (s : State) (r : ObjReq) (row : Row),
    s.admits .mailbox (r) →
    s.answersHost = true →
    r = reqOfBytes s.mbRequestBytes →
    s.dict.mbBusy = false →
    (s.lookup r.index r.sub).toOption = some row →
    r.opcode = 1 →
    row.acc ≠ .wo →
    tyIsBytes row.ty = false →
    r.flags.testBit 0 = false →
    ¬ (0x4200 ≤ r.index ∧ r.index < 0x4240) →
    ¬ (0x5300 ≤ r.index ∧ r.index < 0x5310) →
    ¬ (0x5880 ≤ r.index ∧ r.index < 0x58A0) →
    Answers (.doorbell 1) s .mailbox (r) stDone (s.valueNow row r.index r.sub) [] [.dict] (fun u =>
      u.dict = { s.dict with mbBusy := true, mbDone := false, mbOverrun := false })) ∧
  (∀ (s : State) (r : ObjResp),
    s.rst.coreOn = true →
    s.dict.mbWaiting = some r →
    Does .mailboxComplete s [] [.dict, .bridge] (fun u =>
      u.dict = { s.dict with mbResponse := some r, mbWaiting := none, mbBusy := false, mbDone := true } ∧
        u.bridge.intStatus.testBit intMboxDone = true)) ∧
  (∀ (s : State) (kind : Byte) (body : List Byte) (crc : BitVec 32),
    s.rst.coreOn = true →
    s.fw.linkRate.isSome = true →
    crc.toNat ≠ crc32 (leBytes 1 kind.toNat ++ leBytes 2 body.length ++ body) →
    Does (.farifFrame kind body crc) s [] [.dict] (fun u =>
      u.dict = { s.dict with farifDiscards := s.dict.farifDiscards + 1 })) ∧
  (∀ (s : State) (crc : BitVec 32),
    s.rst.coreOn = true →
    s.fw.linkRate.isSome = true →
    crc.toNat = crc32 [1, 0, 0] →
    Does (.farifFrame 1 [] crc) s [] [.out] (fun u =>
      u.out = s.out ++ [.farif (farifBytes 0x81 [])])) ∧
  (∀ (s : State) (b : List Byte) (crc : BitVec 32) (r : ObjReq) (row : Row),
    s.admits .farif (r) →
    r = reqOfBytes b →
    s.fw.linkRate.isSome = true →
    16 ≤ b.length →
    b.length ≤ 1040 →
    crc.toNat = crc32 (leBytes 1 1 ++ leBytes 2 b.length ++ b) →
    (s.lookup r.index r.sub).toOption = some row →
    r.opcode = 1 →
    row.acc ≠ .wo →
    tyIsBytes row.ty = false →
    r.flags.testBit 0 = false →
    ¬ (0x4200 ≤ r.index ∧ r.index < 0x4240) →
    ¬ (0x5300 ≤ r.index ∧ r.index < 0x5310) →
    ¬ (0x5880 ≤ r.index ∧ r.index < 0x58A0) →
    Answers (.farifFrame 1 b crc) s .farif (r) stDone (s.valueNow row r.index r.sub) [] [] (fun u =>
      u = s))

/-- Validation of a set that no block refuses arms the commit for the first epoch boundary from COMMIT_AT on (R36); of one that a block
refuses it reports the object and the status and answers OUT_OF_RANGE; discarding empties the area, withdrawing gives an armed set back to
it (R38); at the boundary a set of plain objects takes effect and the area is empty; objects that wait past COMMIT_TIMEOUT fail the commit
and move a serving node to HELD (R37). -/
def Obligations.Staging : Prop :=
  (∀ (s : State) (snd : Sender),
    s.admits snd.who (writeReq snd 0x1120 1 [1]) →
    s.obj Obj.stageState ≠ 2 →
    s.obj Obj.stageState ≠ 3 →
    s.dict.staged ≠ [] →
    s.firstFailing s.dict.staged = none →
    Answers (.stageValidate snd) s snd.who (writeReq snd 0x1120 1 [1]) stDone [] [Obj.stageState, Obj.stageFailObject, Obj.stageFailStatus] [.dict] (fun u =>
      u.obj Obj.stageState = 2 ∧ u.dict = { s.dict with commitAt := max (s.obj Obj.commitAt) (s.now + 1) } ∧
        u.obj Obj.stageFailObject = 0)) ∧
  (∀ (s : State) (snd : Sender) (f : Nat × Nat),
    s.admits snd.who (writeReq snd 0x1120 1 [1]) →
    s.obj Obj.stageState ≠ 2 →
    s.obj Obj.stageState ≠ 3 →
    s.dict.staged ≠ [] →
    s.firstFailing s.dict.staged = some f →
    Answers (.stageValidate snd) s snd.who (writeReq snd 0x1120 1 [1]) stOutOfRange [] [Obj.stageFailObject, Obj.stageFailStatus] [] (fun u =>
      u.obj Obj.stageFailObject = f.1 ∧ u.obj Obj.stageFailStatus = f.2)) ∧
  (∀ (s : State) (snd : Sender),
    s.admits snd.who (writeReq snd 0x1120 1 [2]) →
    s.obj Obj.stageState ≠ 3 →
    (s.dict.staged ++ s.dict.held).all (fun e => (mordantEngine e.1).isNone) = true →
    Answers (.stageDiscard snd) s snd.who (writeReq snd 0x1120 1 [2]) stDone [] [Obj.stageState] [.dict] (fun u =>
      u.obj Obj.stageState = (if s.obj Obj.stageState = 4 then 4 else 0) ∧
        u.dict = { s.dict with staged := [], held := [], commitAt := 0 })) ∧
  (∀ (s : State) (snd : Sender),
    s.admits snd.who (writeReq snd 0x1120 1 [3]) →
    s.obj Obj.stageState = 2 →
    s.dict.held = [] →
    Answers (.stageWithdraw snd) s snd.who (writeReq snd 0x1120 1 [3]) stDone [] [Obj.stageState] [.dict] (fun u =>
      u.obj Obj.stageState = 1 ∧ u.dict = { s.dict with commitAt := 0 })) ∧
  (∀ (s : State) (k : Nat) (b : List Byte) (row : Row),
    s.rst.coreOn = true →
    s.obj Obj.stageState = 2 →
    s.dict.staged = [(k, b)] →
    s.dict.held = [] →
    (s.waitUntil (s.sampleFrom s.dict.commitAt)).firstFailing s.dict.staged = none →
    mordantEngine k = none →
    rowOf k = some row →
    tyIsBytes row.ty = false →
    k / 256 = 0x2210 →
    (∀ n ∈ List.range 64, 320 ≤ s.obj (Obj.txFcCell n) ∧ 320 ≤ s.obj (Obj.rxFcCell n)) →
    Does .commitApply s [k, Obj.stageState, Obj.faultSummary] [.dict, .time] (fun u =>
      u.obj k = leVal b ∧ u.obj Obj.stageState = 0 ∧ u.dict.staged = [] ∧ s.sampleFrom s.dict.commitAt ≤ u.now ∧
        u.obj Obj.faultSummary = s.obj Obj.faultSummary &&& (2 ^ 64 - 1 - 2 ^ fsCommitFail))) ∧
  (∀ (s : State) (k : Nat) (b : List Byte) (e : Nat),
    s.rst.coreOn = true →
    s.obj Obj.stageState = 3 →
    s.dict.waiting = [(k, b)] →
    mordantEngine k = some e →
    s.dict.held = [] →
    s.serving = true →
    Does .commitTimeout s [Obj.stageState, Obj.swapState e, Obj.faultSummary, Obj.nodeState, Obj.stateReason, Obj.stateEntered] [.dict, .time] (fun u =>
      u.obj Obj.stageState = 4 ∧ u.flag Obj.faultSummary fsCommitFail = true ∧ u.node = stHeld ∧ u.obj Obj.stateReason = 0x03 ∧
        u.obj (Obj.swapState e) = 0 ∧ u.dict.waiting = []))

/-- STORE_CMD 1 takes a snapshot of every class-P object and starts writing it, and a good read-back makes that copy the newer one and
CONFIG_VALID 1 (R40); a bad read-back fails the store; STORE_CMD 2 erases both copies (R42); while a store is busy both answer RETRY. -/
def Obligations.Store : Prop :=
  (∀ (s : State) (snd : Sender),
    s.admits snd.who (writeReq snd 0x1130 1 [1]) →
    s.obj Obj.storeState ≠ 1 →
    Answers (.store snd) s snd.who (writeReq snd 0x1130 1 [1]) stDone [] [Obj.storeState] [.dict] (fun u =>
      u.obj Obj.storeState = 1 ∧ u.dict = { s.dict with storing := some s.configCopy })) ∧
  (∀ (s : State) (snd : Sender),
    s.admits snd.who (writeReq snd 0x1130 1 [1]) →
    s.obj Obj.storeState = 1 →
    Answers (.store snd) s snd.who (writeReq snd 0x1130 1 [1]) stRetry [] [] [] (fun u =>
      u = s)) ∧
  (∀ (s : State) (snd : Sender),
    s.admits snd.who (writeReq snd 0x1130 1 [2]) →
    s.obj Obj.storeState ≠ 1 →
    Answers (.storeErase snd) s snd.who (writeReq snd 0x1130 1 [2]) stDone [] [Obj.storedFormat] [.dict] (fun u =>
      u.dict = { s.dict with copy0 := none, copy1 := none } ∧ u.obj Obj.storedFormat = 0)) ∧
  (∀ (s : State) (c : StoreCopy),
    s.rst.coreOn = true →
    s.dict.storing = some c →
    Does (.storeComplete true) s [Obj.storeState, Obj.storeCount, Obj.storeTime, Obj.storedFormat, Obj.configValid, Obj.faultSummary] [.dict] (fun u =>
      u.obj Obj.storeState = 2 ∧ u.obj Obj.storeCount = (s.obj Obj.storeCount + 1) % 2 ^ 32 ∧ u.obj Obj.storeTime = c.time ∧
        u.obj Obj.configValid = 1 ∧ u.dict.newer = 1 - s.dict.newer ∧ u.dict.storing = none ∧
        (if s.dict.newer = 0 then u.dict.copy1 else u.dict.copy0) = some c)) ∧
  (∀ (s : State) (c : StoreCopy),
    s.rst.coreOn = true →
    s.dict.storing = some c →
    Does (.storeComplete false) s [Obj.storeState] [.dict] (fun u =>
      u.obj Obj.storeState = 3 ∧ u.dict.storing = none ∧ u.dict.newer = s.dict.newer)) ∧
  (∀ (s : State) (snd : Sender) (value : Byte),
    s.admits snd.who (writeReq snd 0x1107 0 [value]) →
    value = 1 →
    s.serving = true →
    Answers (.heldOrderWrite snd value) s snd.who (writeReq snd 0x1107 0 [value]) stDone [] [Obj.heldOrder, Obj.nodeState, Obj.stateReason, Obj.stateEntered] [] (fun u =>
      u.obj Obj.heldOrder = 1 ∧ u.node = stHeld ∧ u.obj Obj.stateReason = 0x02)) ∧
  (∀ (s : State) (snd : Sender) (value : Byte),
    s.admits snd.who (writeReq snd 0x1107 0 [value]) →
    value = 0 →
    Answers (.heldOrderWrite snd value) s snd.who (writeReq snd 0x1107 0 [value]) stDone [] [Obj.heldOrder] [] (fun u =>
      u.obj Obj.heldOrder = 0))

/-- Training of an in link (R73, R74): lock moves it from TRAIN to ALIGN and records the lock time, in the dwell of a proving run it is
noted alone; a lock from the saved state that is late falls back to full training, and while the ring is wrapped it is a late wrap; full
training that does not complete makes the link FAILED with a lasting fault; ALIGN leads to CHECK, where a node without a reference takes the
recovered rate, or back to training after 8 µs, which is then full training (log entry 121); a FAILED link is trained again after
LINK_RETRY_INTERVAL. -/
def Obligations.LinkTraining : Prop :=
  (∀ (s : State) (p : Path),
    s.rst.coreOn = true →
    s.linkState p = lkTrain →
    (p = .a ∨ s.ring.prove.any (fun r => r.phase == .dwell) = false) →
    Does (.lanesLocked p) s [linkKey p, Obj.freqAdj] [.ring, .tb, .out] (fun u =>
      u.linkState p = lkAlign ∧ (u.link p).locked = true ∧ (u.link p).lockTime = s.now - (s.link p).heatedAt ∧ (s.clockLocked = true →
        u.obj Obj.freqAdj = s.obj Obj.freqAdj))) ∧
  (∀ (s : State),
    s.rst.coreOn = true →
    s.linkState .b = lkTrain →
    s.ring.prove.any (fun r => r.phase == .dwell) = true →
    Does (.lanesLocked .b) s [] [.ring] (fun u =>
      u.link .b = { s.link .b with locked := true, lockTime := s.now - (s.link .b).heatedAt })) ∧
  (∀ (s : State) (p : Path),
    s.rst.coreOn = true →
    s.linkState p = lkTrain →
    (s.link p).full = false →
    (s.link p).locked = false →
    s.wrapped = false →
    Does (.savedLockTimeout p) s [] [.ring, .time] (fun u =>
      u.linkState p = lkTrain ∧ (u.link p).full = true ∧ (u.link p).since = u.now ∧ (s.link p).since + 34 * us ≤ u.now ∧
        u.ring.prove = s.ring.prove.map (fun r => { r with lateLock := true }))) ∧
  (∀ (s : State) (p : Path),
    s.rst.coreOn = true →
    s.linkState p = lkTrain →
    (s.link p).full = false →
    (s.link p).locked = false →
    s.wrapped = true →
    Does (.savedLockTimeout p) s [Obj.lateWraps (linkIdx p), Obj.vgNextSeq] (.ring :: .time :: logParts) (fun u =>
      (u.link p).full = true ∧ u.obj (Obj.lateWraps (linkIdx p)) = (s.obj (Obj.lateWraps (linkIdx p)) + 1) % 2 ^ 32 ∧
        u.ring.prove = s.ring.prove.map (fun r => { r with lateLock := true }))) ∧
  (∀ (s : State) (p : Path),
    s.rst.coreOn = true →
    s.linkState p = lkTrain →
    (s.link p).full = true →
    (s.link p).locked = false →
    Does (.trainingTimeout p) s [linkKey p, Obj.freqAdj, Obj.lastingFaults (linkIdx p), Obj.vgNextSeq] (.ring :: .tb :: .out :: .time :: logParts) (fun u =>
      u.linkState p = lkFailed ∧ (s.link p).since + 50 * ms ≤ u.now ∧
        u.obj (Obj.lastingFaults (linkIdx p)) = (s.obj (Obj.lastingFaults (linkIdx p)) + 1) % 2 ^ 32 ∧
        u.faultOpen (0x2020 + linkIdx p) 8 (linkIdx p) = true ∧ (s.clockLocked = true → u.obj Obj.freqAdj = s.obj Obj.freqAdj))) ∧
  (∀ (s : State) (p : Path) (rate : Int),
    s.rst.coreOn = true →
    s.linkState p = lkAlign →
    (s.clockLocked = true ∨ (p = .b ∧ s.linkState .a = lkUp)) →
    Does (.alignComplete { link := p, rate := rate }) s [linkKey p, Obj.freqAdj] [.ring, .tb, .out] (fun u =>
      u.linkState p = lkCheck ∧ (u.link p).cleanSince = s.now ∧ (s.clockLocked = true → u.obj Obj.freqAdj = s.obj Obj.freqAdj))) ∧
  (∀ (s : State) (p : Path) (rate : Int),
    s.rst.coreOn = true →
    s.linkState p = lkAlign →
    s.clockLocked = false →
    ((p = .a ∧ s.linkState .b ≠ lkCheck ∧ s.linkState .b ≠ lkUp) ∨ (p = .b ∧ s.linkState .a ≠ lkUp)) →
    Does (.alignComplete { link := p, rate := rate }) s [linkKey p, Obj.freqAdj] [.ring, .tb, .out] (fun u =>
      u.linkState p = lkCheck ∧ u.obj Obj.freqAdj = ofSigned 32 rate)) ∧
  (∀ (s : State) (p : Path),
    s.rst.coreOn = true →
    s.linkState p = lkAlign →
    Does (.alignTimeout p) s [linkKey p, Obj.freqAdj] [.ring, .tb, .out, .time] (fun u =>
      u.linkState p = lkTrain ∧ (u.link p).full = true ∧ (u.link p).locked = false ∧ (u.link p).heatedAt = (s.link p).heatedAt ∧
        (s.link p).since + 8 * us ≤ u.now ∧ (s.clockLocked = true → u.obj Obj.freqAdj = s.obj Obj.freqAdj))) ∧
  (∀ (s : State) (p : Path),
    s.rst.coreOn = true →
    s.linkState p = lkFailed →
    (s.link p).stepMismatch = false →
    Does (.linkRetry p) s [linkKey p, Obj.freqAdj] [.ring, .tb, .out, .time] (fun u =>
      u.linkState p = lkTrain ∧ (u.link p).full = true ∧ (s.link p).since + s.obj Obj.linkRetryInterval * sec ≤ u.now ∧ (p = .a →
        u.ring.sendB = true) ∧ (s.clockLocked = true → u.obj Obj.freqAdj = s.obj Obj.freqAdj)))

/-- A link in CHECK that has been free of errors for 1 ms and has heard the neighbour that the census tells is UP (R74), a B link of a wrap
without that wait; where it was being retried that is one transient fault (R96), and at a node that is neither U nor D of a break it counts
the completed wrap and ends the freeze (R89, log entry 120). A HELLO row tells who the neighbour is and the state of the reverse link (R62,
R75); a stepping mismatch makes the link FAILED, and the end of the mismatch trains it again (R76). -/
def Obligations.LinkComesUp : Prop :=
  (∀ (s : State) (p : Path),
    s.rst.coreOn = true →
    s.linkState p = lkCheck →
    (s.link p).stepMismatch = false →
    s.vgOpen = [] →
    s.ring.prove = none →
    (p = .a ∨ s.wrapped = false) →
    (p = .a ∨ s.ring.freezeUntil = none) →
    (s.link p).heard = true →
    s.neighbourGood p = true →
    (s.outUp .a = false ∨ s.hotB = true ∨ s.ringState ≠ 2 ∨ s.wrapped = true) →
    (s.link p).retrying = false →
    Does (.linkUp p) s [linkKey p, Obj.freqAdj] [.ring, .tb, .out, .time] (fun u =>
      u.linkState p = lkUp ∧ (u.link p).cleanSince = u.now ∧ (s.link p).cleanSince + ms ≤ u.now ∧ (s.clockLocked = true →
        u.obj Obj.freqAdj = s.obj Obj.freqAdj))) ∧
  (∀ (s : State) (p : Path),
    s.rst.coreOn = true →
    s.linkState p = lkCheck →
    (s.link p).stepMismatch = false →
    s.vgOpen = [] →
    s.ring.prove = none →
    (p = .a ∨ s.wrapped = false) →
    (p = .a ∨ s.ring.freezeUntil = none) →
    (s.link p).heard = true →
    s.neighbourGood p = true →
    (s.outUp .a = false ∨ s.hotB = true ∨ s.ringState ≠ 2 ∨ s.wrapped = true) →
    (s.link p).retrying = true →
    Does (.linkUp p) s [linkKey p, Obj.freqAdj, Obj.transientFaults (linkIdx p), Obj.vgNextSeq] [.ring, .tb, .out, .time, .vgHead, .vgMain] (fun u =>
      u.linkState p = lkUp ∧ (u.link p).retrying = false ∧
        u.obj (Obj.transientFaults (linkIdx p)) = (s.obj (Obj.transientFaults (linkIdx p)) + 1) % 2 ^ 32 ∧ (s.clockLocked = true →
        u.obj Obj.freqAdj = s.obj Obj.freqAdj))) ∧
  (∀ (s : State),
    s.rst.coreOn = true →
    s.linkState .b = lkCheck →
    (s.link .b).stepMismatch = false →
    s.vgOpen = [] →
    s.ring.prove = none →
    s.wrapped = true →
    (s.link .b).retrying = false →
    s.ring.freezeUntil = none →
    Does (.linkUp .b) s [linkKey .b, Obj.freqAdj] [.ring, .tb, .out] (fun u =>
      u.linkState .b = lkUp ∧ (u.link .b).cleanSince = s.now ∧ (s.clockLocked = true → u.obj Obj.freqAdj = s.obj Obj.freqAdj))) ∧
  (∀ (s : State),
    s.rst.coreOn = true →
    s.linkState .b = lkCheck →
    (s.link .b).stepMismatch = false →
    s.vgOpen = [] →
    s.ring.prove = none →
    s.wrapped = true →
    (s.link .b).retrying = false →
    s.ring.freezeUntil.isSome = true →
    s.ring.wraps.all (fun w => !w.isU && !w.isD) = true →
    Does (.linkUp .b) s [linkKey .b, Obj.freqAdj, Obj.wraps 1] [.ring, .tb, .out] (fun u =>
      u.linkState .b = lkUp ∧ u.obj (Obj.wraps 1) = (s.obj (Obj.wraps 1) + 1) % 2 ^ 32 ∧ u.ring.freezeUntil = none ∧ (s.clockLocked = true →
        u.obj Obj.freqAdj = s.obj Obj.freqAdj))) ∧
  (∀ (s : State) (p : Path) (h : Hello),
    s.rst.coreOn = true →
    (s.hotB = true ∨ s.ringState ≠ 2 ∨ s.wrapped = true ∨ s.ring.prove.isSome = true) →
    h.stepping = s.obj Obj.stepping →
    (s.linkState p ≠ lkFailed ∨ (s.link p).stepMismatch = false) →
    Does (.helloRx p h) s [outKey (otherPath p)] [.ring] (fun u =>
      u.obj (outKey (otherPath p)) = h.reverse ∧ (u.link p).heard = true ∧ (u.link p).neighbour = h.effectiveId ∧
        (u.link p).identity = h.identity)) ∧
  (∀ (s : State) (p : Path) (h : Hello),
    s.rst.coreOn = true →
    (s.hotB = true ∨ s.ringState ≠ 2 ∨ s.wrapped = true ∨ s.ring.prove.isSome = true) →
    h.stepping ≠ s.obj Obj.stepping →
    (s.linkState p = lkCheck ∨ s.linkState p = lkUp) →
    Does (.helloRx p h) s [outKey (otherPath p), linkKey p, Obj.freqAdj, Obj.lastingFaults (linkIdx p), Obj.vgNextSeq] (.ring :: .tb :: .out :: logParts) (fun u =>
      u.linkState p = lkFailed ∧ (u.link p).stepMismatch = true ∧
        u.obj (Obj.lastingFaults (linkIdx p)) = (s.obj (Obj.lastingFaults (linkIdx p)) + 1) % 2 ^ 32 ∧ (u.link p).neighbour = h.effectiveId ∧
        (u.link p).identity = h.identity ∧ (s.clockLocked = true → u.obj Obj.freqAdj = s.obj Obj.freqAdj))) ∧
  (∀ (s : State) (p : Path) (h : Hello),
    s.rst.coreOn = true →
    (s.hotB = true ∨ s.ringState ≠ 2 ∨ s.wrapped = true ∨ s.ring.prove.isSome = true) →
    h.stepping = s.obj Obj.stepping →
    s.linkState p = lkFailed →
    (s.link p).stepMismatch = true →
    Does (.helloRx p h) s [outKey (otherPath p), linkKey p, Obj.freqAdj] [.ring, .tb, .out] (fun u =>
      u.linkState p = lkTrain ∧ (u.link p).stepMismatch = false ∧ (u.link p).full = true ∧ (u.link p).neighbour = h.effectiveId ∧
        (u.link p).identity = h.identity ∧ (s.clockLocked = true → u.obj Obj.freqAdj = s.obj Obj.freqAdj)))

/-- A loss that a link in ALIGN, CHECK or UP shows (R83) sends it back to training with the immediate retry of R96 and is counted: loss of
signal under LOS_EVENTS, of sync headers and of rows under LOCK_LOSSES, the rows with errors under ROW_CODE_ERRORS, which lose the link when
ERR_BURST_LIMIT of them fall within 1 ms and leave it up otherwise. A fault that the node finds on its own A-out releases the transmitter.
Where the lost link is A-in of a whole ring that was UP, the node is D of a break: WRAP_ACTIVE is set, RING_STATE is 3, and the wrap names
the segment (R84). -/
def Obligations.LinkLoss : Prop :=
  (∀ (s : State) (p : Path),
    s.rst.coreOn = true →
    (s.linkState p = lkAlign ∨ s.linkState p = lkCheck ∨ s.linkState p = lkUp) →
    ¬ (p = .a ∧ s.linkState p = lkUp ∧ s.ringFormed = true) →
    Does (.losAsserted p) s [Obj.losEvents (linkIdx p), linkKey p, Obj.freqAdj] [.ring, .tb, .out] (fun u =>
      u.linkState p = lkTrain ∧ (u.link p).retrying = true ∧
        u.obj (Obj.losEvents (linkIdx p)) = (s.obj (Obj.losEvents (linkIdx p)) + 1) % 2 ^ 32 ∧ (s.clockLocked = true →
        u.obj Obj.freqAdj = s.obj Obj.freqAdj))) ∧
  (∀ (s : State) (p : Path) (lane : Fin 4),
    s.rst.coreOn = true →
    (s.linkState p = lkAlign ∨ s.linkState p = lkCheck ∨ s.linkState p = lkUp) →
    ¬ (p = .a ∧ s.linkState p = lkUp ∧ s.ringFormed = true) →
    Does (.syncHeaderLoss p lane) s [Obj.lockLosses (linkIdx p), linkKey p, Obj.freqAdj] [.ring, .tb, .out] (fun u =>
      u.linkState p = lkTrain ∧ (u.link p).retrying = true ∧
        u.obj (Obj.lockLosses (linkIdx p)) = (s.obj (Obj.lockLosses (linkIdx p)) + 1) % 2 ^ 32 ∧ (s.clockLocked = true →
        u.obj Obj.freqAdj = s.obj Obj.freqAdj))) ∧
  (∀ (s : State) (p : Path),
    s.rst.coreOn = true →
    (s.linkState p = lkAlign ∨ s.linkState p = lkCheck ∨ s.linkState p = lkUp) →
    ¬ (p = .a ∧ s.linkState p = lkUp ∧ s.ringFormed = true) →
    Does (.rowTimeout (.input p)) s [Obj.lockLosses (linkIdx p), linkKey p, Obj.freqAdj] [.ring, .tb, .out] (fun u =>
      u.linkState p = lkTrain ∧ (u.link p).retrying = true ∧
        u.obj (Obj.lockLosses (linkIdx p)) = (s.obj (Obj.lockLosses (linkIdx p)) + 1) % 2 ^ 32 ∧ (s.clockLocked = true →
        u.obj Obj.freqAdj = s.obj Obj.freqAdj))) ∧
  (∀ (s : State),
    s.rst.coreOn = true →
    Does (.rowTimeout .ownOutput) s [] [.ring] (fun u =>
      u.ring = { s.ring with outFault := true, sendA := false })) ∧
  (∀ (s : State) (p : Path) (rows : List WireRow) (n : Nat),
    s.rst.coreOn = true →
    (s.linkState p = lkAlign ∨ s.linkState p = lkCheck ∨ s.linkState p = lkUp) →
    ¬ (p = .a ∧ s.linkState p = lkUp ∧ s.ringFormed = true) →
    n = (rows.filter WireRow.isError).length →
    0 < n →
    s.obj Obj.errBurstLimit ≤ ((s.link p).errors.filter (fun t => s.now < t + ms)).length + min n 4096 →
    Does (.errBurst p rows) s [Obj.rowCodeErrors (linkIdx p), linkKey p, Obj.freqAdj] [.ring, .tb, .out] (fun u =>
      u.linkState p = lkTrain ∧ (u.link p).retrying = true ∧
        u.obj (Obj.rowCodeErrors (linkIdx p)) = (s.obj (Obj.rowCodeErrors (linkIdx p)) + n) % 2 ^ 32 ∧ (s.clockLocked = true →
        u.obj Obj.freqAdj = s.obj Obj.freqAdj))) ∧
  (∀ (s : State) (p : Path) (rows : List WireRow) (n : Nat),
    s.rst.coreOn = true →
    (s.linkState p = lkAlign ∨ s.linkState p = lkCheck ∨ s.linkState p = lkUp) →
    n = (rows.filter WireRow.isError).length →
    0 < n →
    ((s.link p).errors.filter (fun t => s.now < t + ms)).length + min n 4096 < s.obj Obj.errBurstLimit →
    Does (.errBurst p rows) s [Obj.rowCodeErrors (linkIdx p)] [.ring] (fun u =>
      u.linkState p = s.linkState p ∧ (u.link p).cleanSince = s.now ∧
        u.obj (Obj.rowCodeErrors (linkIdx p)) = (s.obj (Obj.rowCodeErrors (linkIdx p)) + n) % 2 ^ 32)) ∧
  (∀ (s : State),
    s.rst.coreOn = true →
    s.linkState .a = lkUp →
    s.ringState = 2 →
    s.ring.wraps = [] →
    s.ring.prove = none →
    s.ring.revert = none →
    Does (.losAsserted .a) s [Obj.losEvents 0, Obj.freqAdj, Obj.inboundPath, linkKey .a, linkKey .b, Obj.faultSummary, Obj.ringState, Obj.wrapSegment, Obj.coordinator] [.ring, .tb, .acc, .sw, .out] (fun u =>
      u.ringState = 3 ∧ u.wrapActive = true ∧ u.obj Obj.wrapSegment = s.upId * 256 + s.ownId ∧
        u.ring.wraps = [{ u := s.upId, d := s.ownId, detection := s.now, isU := s.isUOf s.upId s.ownId, isD := true, start := s.now }] ∧
        u.ring.freezeUntil = some (s.now + 100 * us) ∧ u.obj Obj.inboundPath = 1 ∧ (s.ring.outFault = false →
        Out.notice .a { kind := 0x01, origin := s.ownId, u := s.upId, d := s.ownId, time := s.now, seq := s.nextNotice } ∈ u.out) ∧
        (s.clockLocked = true → u.obj Obj.freqAdj = s.obj Obj.freqAdj)))

/-- A new BREAK notice is noted, passed on by A-out, sets WRAP_ACTIVE and starts the freeze (R84, R89), and the wrap it starts is held
beside those that are there already (R86); D wraps once its B-in is UP and U once its B-out is UP, each counted, and the freeze ends there
(R85, R88); B-in that is heated and not UP within 50 ms makes the node wrap as U for its own segment (R86). -/
def Obligations.BreakAndWrap : Prop :=
  (∀ (s : State) (p : Path) (n : Notice),
    s.rst.coreOn = true →
    s.hasSeen n = false →
    s.ring.prove = none →
    s.ring.revert = none →
    s.linkState .b ≠ lkUp →
    Does (.breakRx p n) s [linkKey .b, Obj.freqAdj, Obj.faultSummary, Obj.ringState, Obj.wrapSegment, Obj.coordinator, Obj.inboundPath] [.ring, .tb, .acc, .sw, .out] (fun u =>
      u.ring.wraps = s.withBreak n.u n.d n.time ∧ u.ringState = (if u.ring.wraps.length = 1 then 3 else 4) ∧ u.wrapActive = true ∧
        u.hasSeen n = true ∧ u.ring.freezeUntil = some (n.time + 100 * us) ∧ (s.ring.outFault = false → Out.notice .a n ∈ u.out) ∧
        (s.clockLocked = true → u.obj Obj.freqAdj = s.obj Obj.freqAdj))) ∧
  (∀ (s : State) (p : Path) (n : Notice),
    s.rst.coreOn = true →
    s.hasSeen n = true →
    Does (.breakRx p n) s [] [] (fun u =>
      u = s)) ∧
  (∀ (s : State) (w : WrapState),
    s.rst.coreOn = true →
    s.wrapAsD = some w →
    s.linkState .b = lkUp →
    Does .wrapD s [Obj.wraps 1] [.ring] (fun u =>
      (u.ring.wraps = s.ring.wraps.map (fun x => if x.u = w.u ∧ x.d = w.d then { x with turned := true, start := s.now } else x)) ∧
        u.obj (Obj.wraps 1) = (s.obj (Obj.wraps 1) + 1) % 2 ^ 32 ∧ u.ring.freezeUntil = none)) ∧
  (∀ (s : State) (w : WrapState),
    s.rst.coreOn = true →
    s.wrapAsU = some w →
    s.outUp .b = true →
    s.ring.dark = false →
    Does .wrapU s [Obj.wraps 0] [.ring, .sw] (fun u =>
      (u.ring.wraps = s.ring.wraps.map (fun x => if x.u = w.u ∧ x.d = w.d then { x with turned := true, start := s.now } else x)) ∧
        u.obj (Obj.wraps 0) = (s.obj (Obj.wraps 0) + 1) % 2 ^ 32 ∧ u.sw = s.moveToB.sw ∧ u.ring.freezeUntil = none)) ∧
  (∀ (s : State),
    s.rst.coreOn = true →
    s.wrapped = true →
    s.ring.prove = none →
    s.ring.revert = none →
    s.linkState .b = lkTrain →
    s.ring.wraps.any (fun w => w.isU && w.d == s.downId) = false →
    Does .bInTimeout s [linkKey .b, Obj.freqAdj, Obj.faultSummary, Obj.ringState, Obj.wrapSegment, Obj.coordinator, Obj.inboundPath] [.ring, .tb, .acc, .sw, .out, .time] (fun u =>
      u.wrapActive = true ∧ u.obj Obj.wrapSegment = s.ownId * 256 + s.downId ∧ (s.link .b).heatedAt + 50 * ms ≤ u.now ∧
        (s.clockLocked = true → u.obj Obj.freqAdj = s.obj Obj.freqAdj)))

/-- The hold-off run with both links UP makes U start the revert (R91, R92); REVERT_START at D puts it into RING_STATE 5 with the revert
noted, and at a node that is not D it is passed on; the MARKER, or its absence for 200 µs, which counts the frames lost, makes D, where
nothing is stored, end the wrap and send REVERT_DONE; REVERT_DONE ends the wrap at the other nodes; with the last wrap RING_STATE is 2 and
WRAP_ACTIVE clear, and with one left RING_STATE is 3 (R92); a notice of a reserved kind is passed on by A-out, noted so that it goes on
once, and counted (R63). -/
def Obligations.Revert : Prop :=
  (∀ (s : State) (w : WrapState),
    s.rst.coreOn = true →
    s.madeAsU = some w →
    s.segmentUp = true →
    s.ring.revert = none →
    s.outWaits 1 = false →
    Does .revertHoldoffExpiry s [Obj.ringState] [.ring, .time, .out] (fun u =>
      u.ringState = 5 ∧ (u.ring.wraps = s.ring.wraps.map (fun x => if x.u = w.u ∧ x.d = w.d then { x with turned := false } else x)) ∧
        u.ring.revert = some { asD := false, u := w.u, d := w.d, start := u.now } ∧
        max (s.link .b).cleanSince s.ring.outSince + s.obj Obj.revertHoldoff * sec ≤ u.now)) ∧
  (∀ (s : State) (p : Path) (n : Notice),
    s.rst.coreOn = true →
    s.isRevertD n = true →
    Does (.revertStartRx p n) s [Obj.ringState] [.ring] (fun u =>
      u.ringState = 5 ∧ u.ring.revert = some { asD := true, u := n.u, d := n.d, start := s.now })) ∧
  (∀ (s : State) (p : Path) (n : Notice),
    s.rst.coreOn = true →
    s.isRevertD n = false →
    n.d ≠ s.ownId →
    (s.outPath p = .b ∨ s.ring.outFault = false) →
    Does (.revertStartRx p n) s [] [.out] (fun u =>
      u.out = s.out ++ [.notice (s.outPath p) n])) ∧
  (∀ (s : State) (p : Path) (n : Notice) (w : WrapState) (r : RevertState),
    s.rst.coreOn = true →
    s.ring.wraps = [w] →
    s.ring.revert = some r →
    s.isRevertD n = true →
    r.asD = true →
    s.acc.joining = false →
    r.dark = false →
    (w.u = r.u ∨ w.d = r.d) →
    r.stored = [] →
    s.acc.splice = none →
    Does (.markerRx p n) s [Obj.faultSummary, Obj.ringState, Obj.wrapSegment, linkKey .b, Obj.freqAdj, Obj.bSavedTime, Obj.coordinator] [.ring, .tb, .acc, .out] (fun u =>
      u.ringState = 2 ∧ u.wrapActive = false ∧ u.ring.wraps = [] ∧ u.ring.revert = none ∧ u.obj Obj.wrapSegment = 0 ∧
        (s.ring.outFault = false →
        Out.notice .a { kind := 0x04, origin := s.ownId, u := r.u, d := r.d, time := u.now, seq := s.nextNotice } ∈ u.out) ∧
        (s.clockLocked = true → u.obj Obj.freqAdj = s.obj Obj.freqAdj))) ∧
  (∀ (s : State) (lost : Nat) (w : WrapState) (r : RevertState),
    s.rst.coreOn = true →
    s.ring.wraps = [w] →
    s.ring.revert = some r →
    r.asD = true →
    s.acc.joining = false →
    r.dark = false →
    (w.u = r.u ∨ w.d = r.d) →
    r.stored = [] →
    s.acc.splice = none →
    Does (.markerTimeout lost) s (Obj.revertDrops 0 :: [Obj.faultSummary, Obj.ringState, Obj.wrapSegment, linkKey .b, Obj.freqAdj, Obj.bSavedTime, Obj.coordinator]) [.ring, .tb, .acc, .out, .time] (fun u =>
      u.ringState = 2 ∧ u.wrapActive = false ∧ u.ring.wraps = [] ∧ r.start + 200 * us ≤ u.now ∧
        u.obj (Obj.revertDrops 0) = (s.obj (Obj.revertDrops 0) + lost) % 2 ^ 32 ∧ (s.ring.outFault = false →
        Out.notice .a { kind := 0x04, origin := s.ownId, u := r.u, d := r.d, time := u.now, seq := s.nextNotice } ∈ u.out) ∧
        (s.clockLocked = true → u.obj Obj.freqAdj = s.obj Obj.freqAdj))) ∧
  (∀ (s : State) (p : Path) (n : Notice),
    s.rst.coreOn = true →
    s.hasSeen n = false →
    s.acc.joining = false →
    s.acc.splice = none →
    s.ring.wraps.all (fun w => w.u == n.u || w.d == n.d) = true →
    Does (.revertDoneRx p n) s [Obj.faultSummary, Obj.ringState, Obj.wrapSegment, linkKey .b, Obj.freqAdj, Obj.bSavedTime, Obj.coordinator] [.ring, .tb, .acc, .out] (fun u =>
      u.ringState = 2 ∧ u.wrapActive = false ∧ u.ring.wraps = [] ∧ u.obj Obj.wrapSegment = 0 ∧ (s.clockLocked = true →
        u.obj Obj.freqAdj = s.obj Obj.freqAdj))) ∧
  (∀ (s : State) (p : Path) (n : Notice) (w : WrapState),
    s.rst.coreOn = true →
    s.hasSeen n = false →
    s.acc.joining = false →
    s.acc.splice = none →
    s.ring.wraps.filter (fun w => !(w.u == n.u || w.d == n.d)) = [w] →
    Does (.revertDoneRx p n) s [Obj.ringState, Obj.wrapSegment, Obj.coordinator] [.ring, .acc, .out] (fun u =>
      u.ringState = 3 ∧ u.ring.wraps = [w] ∧ u.obj Obj.wrapSegment = w.u * 256 + w.d)) ∧
  (∀ (s : State) (p : Path) (n : Notice),
    s.rst.coreOn = true →
    n.kind ≠ 0x03 →
    n.kind ≠ 0x08 →
    s.hasSeen n = false →
    Does (.reservedNoticeRx p n) s [Obj.noticeIgnored] [.ring, .out] (fun u =>
      u.hasSeen n = true ∧ u.obj Obj.noticeIgnored = (s.obj Obj.noticeIgnored + 1) % 2 ^ 32 ∧ (s.ring.outFault = false →
        Out.notice .a n ∈ u.out)))

/-- A run that is due makes the coordinator of a whole ring send PROVE_START and schedule the run for the second epoch boundary (R93, R94
step 1); PROVE_START schedules it at this node; at its instant B-in trains, from its saved state where there is one (step 2); after
PROVE_DWELL the bit errors of the lanes are taken (step 3), a link that has locked goes on to ALIGN (step 4), and where B-in is UP the
coordinator sends its loop frame (step 5); a loop frame that has not returned after 1 ms makes the coordinator start a second run, or after
the second one send PROVE_END with result 3 (R95); PROVE_END sets LAST_PROVE_RESULT and ends the run: with a result of 1 a link that passed
is saved and goes COLD (step 6), with a result of 3 a link that did not is FAILED (R95), and so is one with bit errors in the second attempt
of its own. -/
def Obligations.Proving : Prop :=
  (∀ (s : State),
    s.rst.coreOn = true →
    s.isCoordinator = true →
    s.ringWhole = true →
    s.ring.prove = none →
    (s.obj Obj.proveInterval ≠ 0 ∨ s.obj Obj.bSavedValid = 0 ∨ s.tb.loopProve = true) →
    Does .proveIntervalExpiry s [] [.ring, .out, .time, .tb] (fun u =>
      u.ring.prove.map (fun r => (r.attempt, r.coordinator, r.phase == .scheduled, r.start)) = some (1, true, true, u.sampleAfter (u.sampleAfter u.now)) ∧
        (s.ring.wholeSince ≤ s.proveDue → s.proveDue ≤ u.now) ∧ (s.proveDue < s.ring.wholeSince → s.ring.wholeSince + 60 * sec ≤ u.now) ∧
        (s.ring.outFault = false →
        Out.notice .a { kind := 0x05, origin := s.ownId, time := u.sampleAfter (u.sampleAfter u.now), seq := s.nextNotice } ∈ u.out))) ∧
  (∀ (s : State) (p : Path) (n : Notice),
    s.rst.coreOn = true →
    s.hasSeen n = false →
    Does (.proveStartRx p n) s [] [.ring, .out] (fun u =>
      (u.ring.prove = some { start := n.time, attempt := if s.ring.prove.isSome then 2 else 1, failedFirst := s.ring.prove.any (fun r => r.lateLock || !s.linkSound r) }) ∧
        u.out = (s.sendBoth n).out ∧ u.hasSeen n = true)) ∧
  (∀ (s : State) (r : ProveRun),
    s.rst.coreOn = true →
    s.ring.prove = some r →
    r.phase = .scheduled →
    (s.linkState .b = lkCold ∨ s.linkState .b = lkOff) →
    Does .proveHeat s [Obj.lastProveTime, linkKey .b, Obj.freqAdj] [.ring, .tb, .out, .time] (fun u =>
      u.linkState .b = lkTrain ∧ (u.link .b).full = decide (s.linkState .b = lkOff) ∧ u.ring.prove = some { r with phase := .dwell } ∧
        u.obj Obj.lastProveTime = r.start ∧ r.start ≤ u.now ∧ u.ring.sendB = true ∧ (s.clockLocked = true →
        u.obj Obj.freqAdj = s.obj Obj.freqAdj))) ∧
  (∀ (s : State) (r : ProveRun),
    s.rst.coreOn = true →
    s.ring.prove = some r →
    r.phase = .scheduled →
    s.linkState .b = lkUp →
    Does .proveHeat s [Obj.lastProveTime, linkKey .b, Obj.freqAdj] [.ring, .tb, .out, .time] (fun u =>
      u.linkState .b = lkTrain ∧ (u.link .b).full = !s.ring.bSaved ∧ u.ring.prove = some { r with phase := .dwell } ∧
        u.obj Obj.lastProveTime = r.start ∧ r.start ≤ u.now ∧ u.ring.sendB = true ∧ (s.clockLocked = true →
        u.obj Obj.freqAdj = s.obj Obj.freqAdj))) ∧
  (∀ (s : State) (e : LaneCounts) (r : ProveRun),
    s.rst.coreOn = true →
    s.ring.prove = some r →
    r.phase = .dwell →
    r.ownOnly = false →
    s.linkState .b = lkTrain →
    (s.link .b).locked = true →
    Does (.proveDwellExpiry e) s [linkKey .b, Obj.freqAdj] [.ring, .tb, .out, .time] (fun u =>
      u.linkState .b = lkAlign ∧ u.ring.prove = some { r with phase := .rising, bitErrors := [e.lane0, e.lane1, e.lane2, e.lane3] } ∧
        r.start + s.obj Obj.proveDwell * ms ≤ u.now ∧ (s.clockLocked = true → u.obj Obj.freqAdj = s.obj Obj.freqAdj))) ∧
  (∀ (s : State) (e : LaneCounts) (r : ProveRun),
    s.rst.coreOn = true →
    s.ring.prove = some r →
    r.phase = .dwell →
    r.ownOnly = false →
    s.linkState .b = lkTrain →
    (s.link .b).locked = false →
    Does (.proveDwellExpiry e) s [] [.ring, .time] (fun u =>
      u.linkState .b = lkTrain ∧ u.ring.prove = some { r with phase := .rising, bitErrors := [e.lane0, e.lane1, e.lane2, e.lane3] } ∧
        r.start + s.obj Obj.proveDwell * ms ≤ u.now)) ∧
  (∀ (s : State) (e : LaneCounts) (r : ProveRun),
    s.rst.coreOn = true →
    s.ring.prove = some r →
    r.phase = .dwell →
    r.ownOnly = false →
    s.linkState .b = lkUp →
    r.coordinator = true →
    Does (.proveDwellExpiry e) s [] [.ring, .time, .out] (fun u =>
      u.ring.prove = some { r with phase := .loop, bitErrors := [e.lane0, e.lane1, e.lane2, e.lane3], loopSent := u.now } ∧
        u.out = s.out ++ [.loopFrame] ∧ r.start + s.obj Obj.proveDwell * ms ≤ u.now)) ∧
  (∀ (s : State) (e : LaneCounts) (r : ProveRun),
    s.rst.coreOn = true →
    s.ring.prove = some r →
    r.phase = .dwell →
    r.ownOnly = true →
    (e.lane0 ≠ 0 ∨ e.lane1 ≠ 0 ∨ e.lane2 ≠ 0 ∨ e.lane3 ≠ 0) →
    Does (.proveDwellExpiry e) s [Obj.lastProveResult, linkKey .b, Obj.freqAdj, Obj.lastingFaults 1, Obj.vgNextSeq] (.ring :: .out :: .tb :: .time :: logParts) (fun u =>
      u.ring.prove = none ∧ u.linkState .b = lkFailed ∧ u.obj Obj.lastProveResult = 3 ∧ r.start + s.obj Obj.proveDwell * ms ≤ u.now ∧
        (s.clockLocked = true → u.obj Obj.freqAdj = s.obj Obj.freqAdj))) ∧
  (∀ (s : State) (r : ProveRun),
    s.rst.coreOn = true →
    s.ring.prove = some r →
    r.coordinator = true →
    r.phase = .loop →
    r.attempt = 2 →
    s.linkState .b ≠ lkUp →
    Does .loopFrameTimeout s [Obj.lastProveResult, linkKey .b, Obj.freqAdj, Obj.lastingFaults 1, Obj.vgNextSeq] (.ring :: .out :: .tb :: .time :: logParts) (fun u =>
      r.loopSent + ms ≤ u.now ∧ u.ring.prove = none ∧ u.obj Obj.lastProveResult = 3 ∧ u.linkState .b = lkFailed ∧ (s.ring.outFault = false →
        Out.notice .a { kind := 0x06, origin := s.ownId, u := 3, time := u.now, seq := s.nextNotice } ∈ u.out) ∧ (s.clockLocked = true →
        u.obj Obj.freqAdj = s.obj Obj.freqAdj))) ∧
  (∀ (s : State) (r : ProveRun),
    s.rst.coreOn = true →
    s.ring.prove = some r →
    r.coordinator = true →
    r.phase = .loop →
    r.attempt = 1 →
    Does .loopFrameTimeout s [linkKey .b, Obj.freqAdj] [.ring, .out, .time, .tb] (fun u =>
      r.loopSent + ms ≤ u.now ∧
        u.ring.prove.map (fun q => (q.attempt, q.coordinator, q.start)) = some (2, true, u.sampleAfter (u.sampleAfter u.now)) ∧
        (s.ring.outFault = false →
        Out.notice .a { kind := 0x05, origin := s.ownId, time := u.sampleAfter (u.sampleAfter u.now), seq := s.nextNotice } ∈ u.out) ∧
        (s.clockLocked = true → u.obj Obj.freqAdj = s.obj Obj.freqAdj))) ∧
  (∀ (s : State) (p : Path) (n : Notice) (result : Fin 5),
    s.rst.coreOn = true →
    s.hasSeen n = false →
    s.ring.prove = none →
    Does (.proveEndRx p n result) s [Obj.lastProveResult] [.ring, .out] (fun u =>
      u.obj Obj.lastProveResult = result.val ∧ u.hasSeen n = true)) ∧
  (∀ (s : State) (p : Path) (n : Notice) (r : ProveRun),
    s.rst.coreOn = true →
    s.hasSeen n = false →
    s.ring.prove = some r →
    s.linkState .b ≠ lkUp →
    Does (.proveEndRx p n 3) s [Obj.lastProveResult, linkKey .b, Obj.freqAdj, Obj.lastingFaults 1, Obj.vgNextSeq] (.ring :: .out :: .tb :: logParts) (fun u =>
      u.obj Obj.lastProveResult = 3 ∧ u.ring.prove = none ∧ u.linkState .b = lkFailed ∧
        (u.obj (Obj.lastingFaults 1) = s.obj (Obj.lastingFaults 1) ∨ u.obj (Obj.lastingFaults 1) = (s.obj (Obj.lastingFaults 1) + 1) % 2 ^ 32) ∧
        (s.clockLocked = true → u.obj Obj.freqAdj = s.obj Obj.freqAdj))) ∧
  (∀ (s : State) (p : Path) (n : Notice) (r : ProveRun),
    s.rst.coreOn = true →
    s.hasSeen n = false →
    s.ring.prove = some r →
    s.ownLinkPassed r = true →
    r.lateLock = false →
    s.vgOpen = [] →
    s.hotB = false →
    Does (.proveEndRx p n 1) s [Obj.lastProveResult, linkKey .b, Obj.freqAdj, Obj.bSavedValid, Obj.bSavedTime] [.ring, .out, .tb] (fun u =>
      u.obj Obj.lastProveResult = 1 ∧ u.ring.prove = none ∧ u.ring.lastPass = s.now ∧ u.linkState .b = lkCold ∧ u.ring.bSaved = true ∧
        u.obj Obj.bSavedValid = 1 ∧ u.obj Obj.bSavedTime = s.now % 2 ^ 64 ∧ (s.clockLocked = true → u.obj Obj.freqAdj = s.obj Obj.freqAdj)))

/-- A CLAIM frame from a node that may hold the claim is taken: its number, whether it is live, and the time of the renewal (R98, R99), and
any other is counted under CLAIM_DISCARDS; a lease that runs out ends the claim and is counted (R98); a claim datagram of the layout of R100
from an allowed address sends one claim frame, which for the broadcast also acts here (R100), and at a node without an ID acts on it alone
(R471); an interval of 10 µs with more than 6,060 bytes of class 0 is counted (R97). -/
def Obligations.Claims : Prop :=
  (∀ (s : State) (f : Frame),
    s.rst.coreOn = true →
    1 ≤ f.commander →
    f.commander ≤ 8 →
    s.ring.leaseAt ≠ some s.now →
    (s.obj (Obj.cmdrNode (f.commander - 1)) = 0 ∨ s.obj (Obj.cmdrNode (f.commander - 1)) = f.src) →
    f.seq ≠ 0 →
    Does (.claimRx f) s [Obj.cmdrClaim (f.commander - 1), Obj.cmdrLive (f.commander - 1), Obj.lastRenew (f.commander - 1)] [.ring, .sw] (fun u =>
      u.obj (Obj.cmdrClaim (f.commander - 1)) = f.seq ∧ u.obj (Obj.cmdrLive (f.commander - 1)) = 1 ∧
        u.obj (Obj.lastRenew (f.commander - 1)) = s.now ∧ sparseGet (fun _ => 0) u.ring.claimAge f.commander = 0)) ∧
  (∀ (s : State) (f : Frame),
    s.rst.coreOn = true →
    (f.commander = 0 ∨ 8 < f.commander ∨ (s.obj (Obj.cmdrNode (f.commander - 1)) ≠ 0 ∧ s.obj (Obj.cmdrNode (f.commander - 1)) ≠ f.src)) →
    Does (.claimRx f) s [Obj.claimDiscards] [.sw] (fun u =>
      u.obj Obj.claimDiscards = (s.obj Obj.claimDiscards + 1) % 2 ^ 32)) ∧
  (∀ (s : State) (c : Fin 9),
    s.rst.coreOn = true →
    1 ≤ c.val →
    s.obj (Obj.cmdrLive (c.val - 1)) = 1 →
    s.frozen = false →
    s.obj Obj.claimLease ≤ sparseGet (fun _ => 0) s.ring.claimAge c.val →
    Does (.claimLeaseExpiry c) s [Obj.cmdrLive (c.val - 1), Obj.lapses (c.val - 1)] [.ring] (fun u =>
      u.obj (Obj.cmdrLive (c.val - 1)) = 0 ∧ u.obj (Obj.lapses (c.val - 1)) = (s.obj (Obj.lapses (c.val - 1)) + 1) % 2 ^ 32)) ∧
  (∀ (s : State) (port : Fin 4) (address : BitVec 32) (b : List Byte) (c : Nat) (number : Nat) (dst : Nat),
    s.rst.coreOn = true →
    (s.obj Obj.claimUdpEnable).testBit port.val = true →
    s.obj (Obj.ipv4Addr (s.addressPort port.val)) ≠ 0 →
    s.ethDeaf port.val = false →
    s.allowed address.toNat = true →
    b.length = 12 →
    leAt b 0 2 = 0x434B →
    leAt b 2 1 = 0x01 →
    leAt b 9 3 = 0 →
    leAt b 3 1 = c →
    1 ≤ c →
    c ≤ 8 →
    leAt b 4 4 = number →
    s.ownId ≠ 0 →
    leAt b 8 1 = dst →
    dst ≤ 0x60 →
    Does (.claimDatagram port address b) s [] [.sw] (fun u =>
      (u = s.offerRing portMp { cls := 0, type := tyClaim, src := s.ownId, dst := if dst = 0 then s.ownId else dst, commander := c, seq := number }))) ∧
  (∀ (s : State) (port : Fin 4) (address : BitVec 32) (b : List Byte) (c : Nat) (number : Nat),
    s.rst.coreOn = true →
    (s.obj Obj.claimUdpEnable).testBit port.val = true →
    s.obj (Obj.ipv4Addr (s.addressPort port.val)) ≠ 0 →
    s.ethDeaf port.val = false →
    s.allowed address.toNat = true →
    b.length = 12 →
    leAt b 0 2 = 0x434B →
    leAt b 2 1 = 0x01 →
    leAt b 9 3 = 0 →
    leAt b 3 1 = c →
    1 ≤ c →
    c ≤ 8 →
    leAt b 4 4 = number →
    s.ownId ≠ 0 →
    leAt b 8 1 = 0xFF →
    number ≠ 0 →
    s.ring.leaseAt ≠ some s.now →
    s.obj (Obj.cmdrNode (c - 1)) = 0 →
    Does (.claimDatagram port address b) s [Obj.cmdrClaim (c - 1), Obj.cmdrLive (c - 1), Obj.lastRenew (c - 1)] [.ring, .sw] (fun u =>
      u.sw = (s.offerRing portMp { cls := 0, type := tyClaim, src := s.ownId, dst := 0xFF, commander := c, seq := number }).sw ∧
        u.obj (Obj.cmdrClaim (c - 1)) = number ∧ u.obj (Obj.cmdrLive (c - 1)) = 1 ∧ u.obj (Obj.lastRenew (c - 1)) = s.now % 2 ^ 64)) ∧
  (∀ (s : State) (port : Fin 4) (address : BitVec 32) (b : List Byte) (c : Nat) (number : Nat),
    s.rst.coreOn = true →
    (s.obj Obj.claimUdpEnable).testBit port.val = true →
    s.obj (Obj.ipv4Addr (s.addressPort port.val)) ≠ 0 →
    s.ethDeaf port.val = false →
    s.allowed address.toNat = true →
    b.length = 12 →
    leAt b 0 2 = 0x434B →
    leAt b 2 1 = 0x01 →
    leAt b 9 3 = 0 →
    leAt b 3 1 = c →
    1 ≤ c →
    c ≤ 8 →
    leAt b 4 4 = number →
    s.ownId = 0 →
    leAt b 8 1 = 0 →
    number ≠ 0 →
    s.ring.leaseAt ≠ some s.now →
    Does (.claimDatagram port address b) s [Obj.cmdrClaim (c - 1), Obj.cmdrLive (c - 1), Obj.lastRenew (c - 1)] [.ring] (fun u =>
      u.obj (Obj.cmdrClaim (c - 1)) = number ∧ u.obj (Obj.cmdrLive (c - 1)) = 1 ∧ u.obj (Obj.lastRenew (c - 1)) = s.now % 2 ^ 64)) ∧
  (∀ (s : State),
    s.rst.coreOn = true →
    6060 < s.ring.c0BytesA →
    s.ring.c0BytesB ≤ 6060 →
    Does .c0LoadInterval s [Obj.c0LoadExceed 0] [.ring, .time] (fun u =>
      u.obj (Obj.c0LoadExceed 0) = (s.obj (Obj.c0LoadExceed 0) + 1) % 2 ^ 32 ∧
        u.ring = { s.ring with c0BytesA := 0, c0BytesB := 0, c0Interval := u.now / (10 * us) } ∧
        (s.ring.c0Interval + 1) * (10 * us) ≤ u.now)) ∧
  (∀ (s : State),
    s.rst.coreOn = true →
    s.ring.c0BytesA ≤ 6060 →
    s.ring.c0BytesB ≤ 6060 →
    Does .c0LoadInterval s [] [.ring, .time] (fun u =>
      u.ring = { s.ring with c0BytesA := 0, c0BytesB := 0, c0Interval := u.now / (10 * us) }))

/-- A frame on a link that is UP with a bad header check is counted under HCRC_ERRORS and towards the burst (R71, R83), the link word of its
rows is taken, and nothing else changes while the burst stays below its limit. -/
def Obligations.RingFrames : Prop :=
  ∀ (s : State) (p : Path) (w : RingWire),
    s.rst.coreOn = true →
    s.linkState p = lkUp →
    headerGood w.header = false →
    ((s.link p).errors.filter (fun t => s.now < t + ms)).length + 1 < s.obj Obj.errBurstLimit →
    Does (.ringFrameRx p w) s [Obj.hcrcErrors (linkIdx p)] [.ring] (fun u =>
      u.obj (Obj.hcrcErrors (linkIdx p)) = (s.obj (Obj.hcrcErrors (linkIdx p)) + 1) % 2 ^ 32 ∧ (u.link p).errors.getLast? = some s.now ∧
        (u.link p).linkWord = w.linkWord ∧ u.linkState p = lkUp)

/-- PROVE_CMD starts a run at the coordinator of a whole ring (R93), and REVERT_CMD the revert at U with both links of the segment UP (R91);
ID_ASSIGN, from the host bus or the service link in HELD, gives a node that is on no ring and has no neighbours its new ID at once and makes
it alone on its own ring, and makes one on a ring start its unweld (R77, R78); CLEAR sets the counters of a link to 0 (R105). -/
def Obligations.RingCommands : Prop :=
  (∀ (s : State) (snd : Sender) (value : Byte),
    s.admits snd.who (writeReq snd 0x2011 0 [value]) →
    value = 1 →
    s.ringWhole = true →
    s.isCoordinator = true →
    Answers (.proveCmd snd value) s snd.who (writeReq snd 0x2011 0 [value]) stDone [] [] [.ring, .out, .tb] (fun u =>
      (∃ r, u.ring.prove = some r ∧ r.attempt = 1 ∧ r.coordinator = true))) ∧
  (∀ (s : State) (snd : Sender) (value : Byte) (w : WrapState),
    s.admits snd.who (writeReq snd 0x2012 0 [value]) →
    value = 1 →
    s.ownId ≠ 0 →
    s.obj Obj.wrapSegment ≠ 0 →
    s.madeAsU = some w →
    s.segmentUp = true →
    s.ring.revert = none →
    s.outWaits 1 = false →
    Answers (.revertCmd snd value) s snd.who (writeReq snd 0x2012 0 [value]) stDone [] [Obj.ringState] [.ring, .out] (fun u =>
      u.ringState = 5 ∧ u.ring.revert = some { asD := false, u := w.u, d := w.d, start := s.now } ∧
        (u.ring.wraps = s.ring.wraps.map (fun x => if x.u = w.u ∧ x.d = w.d then { x with turned := false } else x)))) ∧
  (∀ (s : State) (snd : Sender) (value : Byte),
    s.admits snd.who (writeReq snd 0x2002 1 [value]) →
    (snd.who = .mailbox ∨ snd.who = .farif) →
    s.node = stHeld →
    1 ≤ value.toNat →
    value.toNat ≤ 96 →
    s.ringState = 0 →
    s.upSegment = false →
    s.downSegment = false →
    Answers (.idAssign snd value) s snd.who (writeReq snd 0x2002 1 [value]) stDone [] [Obj.nodeId, Obj.effectiveId, Obj.idState, Obj.coordinator, Obj.gmId, Obj.portState (s.obj Obj.ptpPort), Obj.vgNextSeq] [.acc, .tb, .vgHead, .vgMain] (fun u =>
      u.ownId = value.toNat ∧ u.obj Obj.nodeId = value.toNat ∧ u.obj Obj.idState = idInUse ∧ u.obj Obj.coordinator = value.toNat ∧
        u.acc.members = [{ id := value.toNat, identity := s.identity }])) ∧
  (∀ (s : State) (snd : Sender) (value : Byte),
    s.admits snd.who (writeReq snd 0x2002 1 [value]) →
    (snd.who = .mailbox ∨ snd.who = .farif) →
    s.node = stHeld →
    value.toNat ≤ 96 →
    s.ringState ≠ 0 →
    s.ownId ≠ 0 →
    Answers (.idAssign snd value) s snd.who (writeReq snd 0x2002 1 [value]) stDone [] [Obj.nodeId, Obj.weldState] [.acc] (fun u =>
      u.obj Obj.nodeId = value.toNat ∧ u.obj Obj.weldState = 3 ∧
        u.acc = { s.acc with unweld := some { start := s.now, newId := some value.toNat, standby := false } })) ∧
  (∀ (s : State) (snd : Sender) (p : Path),
    s.admits snd.who (writeReq snd (0x2020 + linkIdx p) 15 [0]) →
    Answers (.linkCountersClear p snd) s snd.who (writeReq snd (0x2020 + linkIdx p) 15 [0]) stDone [] ((List.range 14).map (fun i => (0x2020 + linkIdx p) * 256 + 1 + i)) [] (fun u =>
      ((List.range 14).map (fun i => (0x2020 + linkIdx p) * 256 + 1 + i)).all (fun k => u.obj k == 0) = true))

/-- The grandmaster of a ring of more than one node sends SYNC with the next SYNC_SEQ, its ID and the loop scale, and PARAMS with the ring
parameters in use (R114); a DELAY_REQ goes out with the next REQ_SEQ and its departure is kept (R114); a DELAY_REQ that comes in is answered
on the reverse link, and its sender becomes a candidate with its rank (R109, R116). -/
def Obligations.TimingRowsSent : Prop :=
  (∀ (s : State),
    s.rst.coreOn = true →
    s.isGm = true →
    1 < s.obj Obj.ringNodes →
    Does .syncSend s [] [.tb, .out] (fun u =>
      u.tb = { s.tb with syncSeq := (s.tb.syncSeq + 1) % 256 } ∧ (∃ c, u.out.take (s.out.length + 1) = s.out ++ [.timing .a c] ∧
        c.length = 24 ∧ leAt c 0 1 = 1 ∧ leAt c 1 1 = s.ownId % 256 ∧ leAt c 3 1 = (s.tb.syncSeq + 1) % 256))) ∧
  (∀ (s : State),
    s.rst.coreOn = true →
    s.isGm = true →
    Does .paramsSend s [] [.out] (fun u =>
      (∃ c, u.out.take (s.out.length + 1) = s.out ++ [.timing .a c] ∧ leAt c 0 1 = 4 ∧ leAt c 2 2 = s.obj Obj.ringEpoch % 2 ^ 16 ∧
        leAt c 4 2 = s.obj Obj.ringApply % 2 ^ 16))) ∧
  (∀ (s : State) (p : Path),
    s.rst.coreOn = true →
    s.linkState (otherPath p) = lkUp →
    s.outUp p = true →
    Does (.delayReqSend p) s [] [.tb, .out] (fun u =>
      u.hop (otherPath p) = { s.hop (otherPath p) with reqSeq := ((s.hop (otherPath p)).reqSeq + 1) % 256, t1 := some s.now256 } ∧
        u.hop p = s.hop p)) ∧
  (∀ (s : State) (p : Path) (row : TimingRow),
    s.rst.coreOn = true →
    Does (.delayReqRx p row) s [Obj.gmId, Obj.portState (s.obj Obj.ptpPort), Obj.vgNextSeq] [.tb, .out, .vgHead, .vgMain] (fun u =>
      (∃ c, u.out = s.out ++ [.timing (otherPath p) c] ∧ leAt c 0 1 = 3 ∧ leAt c 2 1 = leAt row.content 2 1) ∧
        sparseGet (fun _ => noCandidate) u.tb.candidates (leAt row.content 1 1) = { priority := leAt row.content 12 1, source := leAt row.content 13 1, told := true }))

/-- A follower takes its offset from a SYNC row and forwards the row, and the grandmaster named becomes its own (R115); the sixteenth
exchange gives the hop delay (R116); PARAMS, PARAMS_NEXT and STEP are taken and go on round the ring, and take effect at the next sample
instant, at CHANGE_AT, and at STEP_AT, which is logged (R113, R127); a row of another kind is counted (R114). -/
def Obligations.TimingRowsReceived : Prop :=
  (∀ (s : State) (p : Path) (row : TimingRow) (residence : Nat),
    s.rst.coreOn = true →
    leAt row.content 1 1 ≠ s.ownId →
    s.tb.lastSync ≠ 0 →
    (s.rankSync row.content).obj Obj.gmId = leAt row.content 1 1 →
    Does (.syncRx p row residence) s [Obj.timeOffset, Obj.loopScale, Obj.inboundPath, Obj.freqAdj, Obj.gmId, Obj.portState (s.obj Obj.ptpPort), Obj.vgNextSeq] [.tb, .free, .out, .vgHead, .vgMain] (fun u =>
      u.obj Obj.gmId = leAt row.content 1 1 ∧ u.obj Obj.loopScale = leAt row.content 19 4 ∧ u.obj Obj.inboundPath = linkIdx p ∧
        u.tb.lastSync = max 1 s.now ∧ u.tb.gmFlags = leAt row.content 2 1 ∧
        u.obj Obj.timeOffset = ofSigned 32 (saturate 32 ((row.arrival : Int) - (timeAt row.content 4 + toSigned 48 (leAt row.content 13 6) + s.hopDelay p))) ∧
        u.out.length = s.out.length + 1)) ∧
  (∀ (s : State) (p : Path) (row : TimingRow) (residence : Nat),
    s.rst.coreOn = true →
    leAt row.content 1 1 ≠ s.ownId →
    (s.rankSync row.content).obj Obj.gmId ≠ leAt row.content 1 1 →
    Does (.syncRx p row residence) s [Obj.gmId, Obj.portState (s.obj Obj.ptpPort), Obj.vgNextSeq] [.tb, .out, .vgHead, .vgMain] (fun u =>
      u.out.length = s.out.length + 1 ∧ u.tb.locked = (s.rankSync row.content).tb.locked)) ∧
  (∀ (s : State),
    s.rst.coreOn = true →
    s.isGm = false →
    Does .syncTimeout s [Obj.gmId, Obj.portState (s.obj Obj.ptpPort), Obj.vgNextSeq] [.tb, .time, .vgHead, .vgMain] (fun u =>
      u.tb.locked = false ∧ s.tb.lastSync + 100 * ms ≤ u.now)) ∧
  (∀ (s : State) (p : Path) (row : TimingRow) (t1 : Nat),
    s.rst.coreOn = true →
    (s.hop p).t1 = some t1 →
    s.linkState p = lkUp →
    s.outUp (otherPath p) = true →
    leAt row.content 2 1 = (s.hop p).reqSeq →
    (s.hop p).count < 15 →
    Does (.delayRespRx p row) s [] [.tb] (fun u =>
      (u.hop p).t1 = none ∧ (u.hop p).count = (s.hop p).count + 1 ∧ (u.hop p).delay = (s.hop p).delay)) ∧
  (∀ (s : State) (p : Path) (row : TimingRow) (t1 : Nat),
    s.rst.coreOn = true →
    (s.hop p).t1 = some t1 →
    s.linkState p = lkUp →
    s.outUp (otherPath p) = true →
    leAt row.content 2 1 = (s.hop p).reqSeq →
    (s.hop p).count = 15 →
    Does (.delayRespRx p row) s [Obj.hopDelayA, Obj.hopDelayB] [.tb] (fun u =>
      (u.hop p).count = 0 ∧ (u.hop p).taken = max 1 s.now ∧
        (u.hop p).delay = ((s.hop p).sum + ((((row.arrival : Int) - t1) - ((timeAt row.content 12 : Int) - timeAt row.content 3)) / 2 + Config.hopAsymmetry (s.laneItems p))) / 16)) ∧
  (∀ (s : State),
    s.rst.coreOn = true →
    s.tb.hopB.fast = true →
    s.tb.hopB.measured = true →
    Does .fastMeasurementDone s [] [.tb] (fun u =>
      u.tb = { s.tb with hopB := { s.tb.hopB with fast := false, measured := false, proven := true } })) ∧
  (∀ (s : State) (p : Path) (row : TimingRow),
    s.rst.coreOn = true →
    leAt row.content 1 1 ≠ s.ownId →
    Does (.paramsRx p row) s [Obj.utcOffset] [.tb, .out] (fun u =>
      u.tb = { s.tb with paramsSeen := true, paramsWaiting := some (paramsOf row.content), loopFibre := leAt row.content 12 4 } ∧
        u.obj Obj.utcOffset = leAt row.content 10 2 ∧ u.out = s.out ++ [.timing (s.outPath p) row.content])) ∧
  (∀ (s : State) (p : Path) (row : TimingRow),
    s.rst.coreOn = true →
    leAt row.content 1 1 ≠ s.ownId →
    Does (.paramsNextRx p row) s [] [.tb, .out] (fun u =>
      u.tb = { s.tb with paramsNext := some (paramsOf row.content, leAt row.content 10 8) } ∧
        u.out = s.out ++ [.timing (s.outPath p) row.content])) ∧
  (∀ (s : State) (q : EpochParams) (changeAt : Nat),
    s.rst.coreOn = true →
    s.tb.paramsNext = some (q, changeAt) →
    s.lake.inFlight = [] →
    Does .paramsChange s [Obj.ringEpoch, Obj.ringApply, Obj.skippedApplies] [.tb, .lake, .time] (fun u =>
      u.obj Obj.ringEpoch = q.epoch ∧ u.obj Obj.ringApply = q.apply ∧ u.tb.phase = q.phase ∧ u.tb.paramsNext = none ∧ changeAt ≤ u.now ∧
        u.obj Obj.skippedApplies = s.obj Obj.skippedApplies % 2 ^ 32)) ∧
  (∀ (s : State) (p : Path) (row : TimingRow),
    s.rst.coreOn = true →
    leAt row.content 1 1 ≠ s.ownId →
    Does (.stepRx p row) s [] [.tb, .out] (fun u =>
      u.tb = { s.tb with step := some (leAt row.content 2 8, toSigned 64 (leAt row.content 10 8)) } ∧
        u.out = s.out ++ [.timing (s.outPath p) row.content])) ∧
  (∀ (s : State) (at' : Nat) (d : Int),
    s.rst.coreOn = true →
    s.tb.step = some (at', d) →
    0 ≤ d →
    s.time ≤ at' * 2 ^ 40 →
    Does .timeStep s [Obj.vgNextSeq] [.tb, .lake, .fc, .time, .rst, .vgHead, .vgMain] (fun u =>
      u.tb.step = none ∧ u.now = at' + d.toNat)) ∧
  (∀ (s : State) (row : TimingRow),
    s.rst.coreOn = true →
    (leAt row.content 0 1 = 0 ∨ 6 < leAt row.content 0 1) →
    Does (.timingIgnored row) s [Obj.timingIgnored] [] (fun u =>
      u.obj Obj.timingIgnored = (s.obj Obj.timingIgnored + 1) % 2 ^ 32))

/-- A PTP Sync within 100 ns at the port and role that count is one good Sync more, and the sixteenth makes the source valid (R110); a PPS
edge and an IRIG-B frame wait for each other, at the edge less the input delay and with the second the frame labels (R112); holdover ends
after HOLDOVER_LIMIT (R110); PPS_OUT rises at a whole second (R121); while traceable the time is written to the clock (R108); a master port
sends its message with the clockClass of R111. -/
def Obligations.TimeSources : Prop :=
  (∀ (s : State) (port : Fin 4) (m : PtpSync) (offset : Int),
    s.rst.coreOn = true →
    s.obj (Obj.ptpRole port.val) = 1 →
    s.obj Obj.timeSource = 1 →
    s.obj Obj.ptpPort = port.val →
    m.domain = s.obj (Obj.ptpDomain port.val) →
    s.ethDeaf port.val = false →
    s.isGm = true →
    s.otherMaster m = false →
    s.betterMaster port.val m = true →
    m.utcOffset = none →
    offset = (m.arrival : Int) - roundHalfAway (s.corrected (0x420 + port.val) 0) 1000 - m.origin - m.peerDelay →
    offset.natAbs ≤ 100 →
    s.tb.ptpGood < 15 →
    Does (.ptpSyncRx port m) s [Obj.peerDelay port.val, Obj.portState port.val, Obj.masterOffset port.val, Obj.freqAdj] [.tb, .free] (fun u =>
      u.tb = { s.tb with ptpGood := s.tb.ptpGood + 1, ptpMaster := PtpSync.dataSet m, ptpAt := s.now } ∧
        u.obj (Obj.peerDelay port.val) = m.peerDelay % 2 ^ 32 ∧ u.obj (Obj.portState port.val) = 9 ∧
        u.obj (Obj.masterOffset port.val) = ofSigned 32 offset)) ∧
  (∀ (s : State) (port : Fin 4) (m : PtpSync) (offset : Int),
    s.rst.coreOn = true →
    s.obj (Obj.ptpRole port.val) = 1 →
    s.obj Obj.timeSource = 1 →
    s.obj Obj.ptpPort = port.val →
    m.domain = s.obj (Obj.ptpDomain port.val) →
    s.ethDeaf port.val = false →
    s.isGm = true →
    s.otherMaster m = false →
    s.betterMaster port.val m = true →
    m.utcOffset = none →
    offset = (m.arrival : Int) - roundHalfAway (s.corrected (0x420 + port.val) 0) 1000 - m.origin - m.peerDelay →
    offset.natAbs ≤ 100 →
    15 ≤ s.tb.ptpGood →
    (({ s with tb := { s.tb with source := 2 } } : State).rankedGm = s.obj Obj.gmId) →
    Does (.ptpSyncRx port m) s [Obj.peerDelay port.val, Obj.portState port.val, Obj.masterOffset port.val, Obj.freqAdj] [.tb, .free] (fun u =>
      u.tb.source = 2 ∧ u.tb.ptpGood = 16 ∧ u.obj (Obj.masterOffset port.val) = ofSigned 32 offset ∧ u.obj (Obj.portState port.val) = 9)) ∧
  (∀ (s : State) (port : Fin 4) (m : PtpSync),
    s.rst.coreOn = true →
    (s.obj (Obj.ptpRole port.val) = 0 ∨ m.domain ≠ s.obj (Obj.ptpDomain port.val) ∨ s.ethDeaf port.val = true) →
    Does (.ptpSyncRx port m) s [] [] (fun u =>
      u = s)) ∧
  (∀ (s : State) (time : Nat) (e : Nat),
    s.rst.coreOn = true →
    s.obj Obj.timeSource = 2 →
    s.tb.ppsEdge = none →
    s.tb.irigMark = none →
    e = ((time : Int) - (s.waitUntil256 time).delay256 0x430).toNat / 64 * 64 →
    Does (.ppsInEdge time) s [] [.tb, .time] (fun u =>
      u.tb = { s.tb with ppsEdge := some ((time : Int) / 256 - s.corrected 0x430 0 / 1000).toNat, ppsRecord := leBytes 16 (e / 256 + e % 256 * 2 ^ 64 + 2 ^ 72 + ofBool (!u.agreed) * 2 ^ 74 + ofBool (!u.traceable) * 2 ^ 75 + 0x1FF * 2 ^ 80 + (s.tb.ppsSeq + 1) % 2 ^ 16 * 2 ^ 96), ppsSeq := (s.tb.ppsSeq + 1) % 2 ^ 16 } ∧
        time * 2 ^ 32 ≤ u.time)) ∧
  (∀ (s : State) (f : IrigFrame),
    s.rst.coreOn = true →
    s.obj Obj.timeSource = 2 →
    s.tb.ppsEdge = none →
    s.tb.irigMark = none →
    f.good = true →
    s.obj Obj.irigExt = 0 →
    4 ≤ f.form →
    Does (.irigFrame f) s [Obj.utcOffset] [.tb, .time] (fun u =>
      u.tb = { s.tb with irigMark := some (f.mark, ((((daysToYear (2000 + f.year % 100) + f.day - 1) * 86400 + f.hour * 3600 + f.minute * 60 + f.second : Nat) + toSigned 16 (s.obj Obj.utcOffsetCfg)) * sec : Int).toNat) } ∧
        u.obj Obj.utcOffset = s.obj Obj.utcOffsetCfg ∧ f.mark ≤ u.now)) ∧
  (∀ (s : State),
    s.rst.coreOn = true →
    s.tb.source = 1 →
    Does .holdoverExpiry s [Obj.gmId, Obj.portState (s.obj Obj.ptpPort), Obj.vgNextSeq] [.tb, .time, .vgHead, .vgMain] (fun u =>
      u.tb.source = 0 ∧ s.tb.holdoverFrom + s.obj Obj.holdoverLimit * sec ≤ u.now)) ∧
  (∀ (s : State),
    s.rst.coreOn = true →
    s.obj Obj.ppsMode = 1 →
    s.time ≤ ceilDiv s.now sec * sec * 2 ^ 40 →
    Does .ppsOutSecond s [] [.tb, .out, .time] (fun u =>
      u.now = ceilDiv s.now sec * sec ∧ u.tb = { s.tb with ppsOutUntil := u.now + s.obj Obj.ppsWidth * us } ∧
        u.out = s.out ++ [.ppsOut ((((u.now * 1000 : Nat) : Int) - roundHalfAway (s.corrected 0x431 0) 250 * 250) / 250).toNat])) ∧
  (∀ (s : State),
    s.rst.coreOn = true →
    s.traceable = true →
    Does .rtcWrite s [] [.tb] (fun u =>
      u.tb = { s.tb with rtcTime := s.now, rtcValid := true, rtcMark := s.now } ∧ u.tb.rtcValid = true)) ∧
  (∀ (s : State) (port : Fin 4),
    s.rst.coreOn = true →
    s.obj (Obj.ptpRole port.val) ≠ 0 →
    s.ethDark port.val = false →
    (s.isGm = false ∨ s.takesFrom port.val = false ∨ s.obj (Obj.portState port.val) ≠ 9) →
    s.traceable = true →
    s.takesFrom port.val = false →
    Does (.ptpMasterPortSend port) s [Obj.portState port.val] [.out] (fun u =>
      u.obj (Obj.portState port.val) = 6 ∧
        u.out = s.out ++ [.ptp port.val 11 (s.obj (Obj.ptpDomain port.val)) (s.obj (Obj.priority1 port.val)) 6 (s.obj (Obj.priority2 port.val)) s.tb.leapWarning ((s.now : Int) + roundHalfAway (s.corrected (0x420 + port.val) 0) 1000).toNat, .ptp port.val 0 (s.obj (Obj.ptpDomain port.val)) (s.obj (Obj.priority1 port.val)) 6 (s.obj (Obj.priority2 port.val)) s.tb.leapWarning ((s.now : Int) + roundHalfAway (s.corrected (0x420 + port.val) 0) 1000).toNat, .ptp port.val 2 (s.obj (Obj.ptpDomain port.val)) (s.obj (Obj.priority1 port.val)) 6 (s.obj (Obj.priority2 port.val)) s.tb.leapWarning ((s.now : Int) + roundHalfAway (s.corrected (0x420 + port.val) 0) 1000).toNat])) ∧
  (∀ (s : State) (port : Fin 4),
    s.rst.coreOn = true →
    (s.obj (Obj.ptpRole port.val) = 0 ∨ s.ethDark port.val = true) →
    Does (.ptpMasterPortSend port) s [] [] (fun u =>
      u = s))

/-- An edge at the ball of a capturing cell without a filter is counted and makes one record with the next EDGE_SEQ (R122, R221); the sample
instant numbers the epoch and puts its apply instant on the list (R125, R126); a LAKE frame of a known epoch is kept for its publisher
(R135); the apply instant applies the slots received, here one, and raises its source (R135, R327); a write to an output slot is pending
until the sample instant latches it (R133); the hold policy marks latched slots (R141); CLEAR sets the counters to 0. -/
def Obligations.Lake : Prop :=
  (∀ (s : State) (n : Fin 320) (level : Bool) (time : Nat),
    s.rst.coreOn = true →
    (s.cell n.val).ball ≠ level →
    s.captures n.val = true →
    s.obj (Obj.chatterLimit n.val) = 0 →
    s.obj (Obj.cellFilter n.val) = 0 →
    s.soeReads n.val = true →
    s.engineReads n.val = false →
    (s.cell n.val).lastCross = none →
    (s.cell n.val).queue = [] →
    s.cellFlag n.val csChatter = false →
    Does (.fieldCellEdge n level time) s [Obj.edges n.val] [.fc, .time] (fun u =>
      u.obj (Obj.edges n.val) = (s.obj (Obj.edges n.val) + 1) % 2 ^ 32 ∧ (u.cell n.val).ball = level ∧
        (u.cell n.val).lastLevel = s.inverted n.val level ∧
        (u.cell n.val).queue.map (fun r => (r.level, r.lost, r.soe, r.engine, r.edgeSeq)) = [(s.inverted n.val level, false, true, false, ((s.cell n.val).edgeSeq + 1) % 2 ^ 16)])) ∧
  (∀ (s : State) (t : State) (k : Nat),
    s.rst.coreOn = true →
    t = s.waitUntil (s.sampleOf s.nextEpoch) →
    s.tb.paramsWaiting = none →
    t.sampleFrom t.now = t.now →
    k = t.nextEpoch →
    s.obj Obj.pubCount = 0 →
    s.lake.loutPending = [] →
    s.fc.cells = [] →
    s.acc.splice = none →
    s.isGm = false →
    Does .sampleInstant s [Obj.lakeVolume, Obj.applyMin, Obj.ceilingExceed, Obj.lakeFlags, Obj.inserted2, Obj.inserted3, Obj.quotaLimited, Obj.windowCount] [.lake, .time, .sw, .sme, .out] (fun u =>
      u.lake.inFlight = s.lake.inFlight ++ [(k, t.sampleOf k + t.applyNs)] ∧ u.lake.nextSample = k + 1 ∧ u.now = t.now ∧
        u.obj Obj.lakeVolume = s.lake.volume % 2 ^ 32 ∧ u.lake.volume = 0)) ∧
  (∀ (s : State) (f : Frame) (k : Nat),
    s.rst.coreOn = true →
    k = s.fullEpoch f.param →
    s.lake.nextSample = k →
    s.lake.received = [] →
    bits f.address 14 3 = 0 →
    f.payload.length = 8 →
    Does (.lakeRx f) s [Obj.lakeFramesRx] [.lake, .sw] (fun u =>
      u.lake.received = [{ publisher := f.src, epoch := k, count := f.seq, slots := [(0, leAt f.payload 0 8)] }] ∧
        u.lake.volume = s.lake.volume + 8 ∧ u.obj Obj.lakeFramesRx = (s.obj Obj.lakeFramesRx + 1) % 2 ^ 32)) ∧
  (∀ (s : State) (f : Frame) (k : Nat),
    s.rst.coreOn = true →
    k = s.fullEpoch f.param →
    s.lake.nextSample ≠ k →
    s.lake.inFlight = [] →
    s.sampleOf k + s.applyNs ≤ s.now →
    Does (.lakeRx f) s [Obj.lakeFramesRx, Obj.lateFrames] [.lake, .sw] (fun u =>
      u.obj Obj.lateFrames = (s.obj Obj.lateFrames + 1) % 2 ^ 32 ∧ u.lake = { s.lake with volume := s.lake.volume + f.payload.length })) ∧
  (∀ (s : State) (k : Nat) (at' : Nat) (key : Nat) (v : Nat) (q : PendingSlots),
    s.rst.coreOn = true →
    s.lake.inFlight = [(k, at')] →
    s.holding = false →
    s.storedSlots = [key] →
    s.lake.received = [q] →
    q.publisher = key / 4096 →
    q.epoch = k →
    q.slots = [(key % 4096, v)] →
    s.node = stHeld →
    s.ring.freezeUntil = none →
    s.liveCommanders = [] →
    s.mapTableNow = [] →
    s.obj Obj.smeState = smeOut →
    Does .applyInstant s [Obj.windowCount] [.lake, .time, .ring, .bridge, .sme] (fun u =>
      u.lake.inFlight = [] ∧ u.lakeSlot key = v ∧ u.lake.received = [] ∧ at' ≤ u.now ∧ u.bridge.intStatus.testBit intApply = true ∧
        u.ring.sinceNoClaim = s.ring.sinceNoClaim + 1)) ∧
  (∀ (s : State) (who : Requester) (slot : Fin 4096) (value : BitVec 64) (commander : Fin 9) (tag : BitVec 16) (r : ObjReq),
    s.admits who (r) →
    r = { opcode := 2, commander := commander.val, index := 0xA000 + (s.ownId - 1) * 64 + slot.val / 64, sub := 1 + slot.val % 64, tag := tag.toNat, length := 8, data := leBytes 8 value.toNat } →
    1 ≤ s.ownId →
    s.ownId ≤ 96 →
    s.isLoutSlot slot.val = true →
    Answers (.lakeOutputWrite who slot value commander tag) s who (r) stStaged [] [] [.lake] (fun u =>
      u.lake = { s.lake with loutPending := s.lake.loutPending ++ [{ slot := slot.val, value := value.toNat, commander := commander.val, accepted := s.now, work := none }] })) ∧
  (∀ (s : State) (i : Nat) (l : LoutSlot),
    s.rst.coreOn = true →
    s.serving = true →
    s.holding = false →
    s.liveCommanders = [] →
    s.frozen = false →
    s.obj Obj.loutMissed ≤ s.ring.sinceNoClaim →
    s.lake.loutHeld = false →
    s.lout i = l →
    l.latched = true →
    s.obj Obj.loutHold = 0 →
    Does .loutHold s [] [.lake] (fun u =>
      (u.lout i).quality = l.quality ||| qHeld ∧ (u.lout i).value = l.value ∧ u.lake.loutHeld = true)) ∧
  (∀ (s : State) (snd : Sender),
    s.admits snd.who (writeReq snd 0x2250 8 [0]) →
    Answers (.lakeCountersClear snd) s snd.who (writeReq snd 0x2250 8 [0]) stDone [] [Obj.lakeFramesRx, Obj.lateFrames, Obj.epochDiscards, Obj.staleSlots, Obj.skippedApplies, Obj.ceilingExceed] [] (fun u =>
      ([Obj.lakeFramesRx, Obj.lateFrames, Obj.epochDiscards, Obj.staleSlots, Obj.skippedApplies, Obj.ceilingExceed]).all (fun k => u.obj k == 0) = true))

/-- A frame that a block has handed over is stored with its cells and counted where its input and output limits leave room (R149, R150); one
of a class that its port may not send is dropped and counted (R143, R150); a frame of a port with back-pressure that finds its input full is
held in its block (R151), and its offer counts the time it was held and stores it, and with none held changes nothing; a frame received on
an Ethernet port is counted, one whose FCS is bad, or that is too short or too long, is counted and dropped (R162), one without a flow entry
is counted, and one of a redundant pair that its duplicate table holds is discarded (R169). -/
def Obligations.SwitchAdmission : Prop :=
  (∀ (s : State) (o : Offered) (r : List Offered) (p : Nat) (f : EthFrame),
    s.rst.coreOn = true →
    s.sw.entering = o :: r →
    portInputs o.port o.cls = true →
    s.obj (Obj.inLimit o.port o.cls) ≠ 0 →
    o.outs = [p] →
    o.packet = .eth f →
    s.obj Obj.tapDest = 0 →
    s.obj Obj.sampleRatio = 0 →
    5 < p →
    p < 15 →
    s.cutsThrough o [p] = false →
    s.sw.held.all (fun h => h.offered.port != o.port || h.offered.cls != o.cls) = true →
    s.inUsedNow o.port o.cls + packetCells o.packet ≤ s.obj (Obj.inLimit o.port o.cls) →
    packetCells o.packet ≤ s.cellsFreeNow →
    s.outUsedNow p o.cls + packetCells o.packet ≤ s.obj (Obj.outLimit p o.cls) →
    o.engine = none →
    Does .switchAdmit s [Obj.framesIn o.port o.cls, Obj.bytesIn o.port] [.sw] (fun u =>
      u.sw.entering = r ∧ u.sw.stored = s.sw.stored ++ [{ no := s.sw.storedCount, offered := (if 6 ≤ o.port then { o with entered := s.now } else o), outs := [p], cells := packetCells o.packet, stored := s.now, startedAt := s.now }] ∧
        u.sw.storedCount = s.sw.storedCount + 1 ∧ u.obj (Obj.framesIn o.port o.cls) = (s.obj (Obj.framesIn o.port o.cls) + 1) % 2 ^ 32 ∧
        u.obj (Obj.bytesIn o.port) = (s.obj (Obj.bytesIn o.port) + packetBytes o.packet) % 2 ^ 64)) ∧
  (∀ (s : State) (o : Offered) (r : List Offered),
    s.rst.coreOn = true →
    s.sw.entering = o :: r →
    portInputs o.port o.cls = false →
    o.engine = none →
    (o.port < 6 ∨ (s.obj Obj.tapDest = 0 ∧ s.obj Obj.sampleRatio = 0)) →
    Does .switchAdmit s [Obj.inDrops o.port o.cls] [.sw] (fun u =>
      u.sw = { s.sw with entering := r } ∧ u.obj (Obj.inDrops o.port o.cls) = (s.obj (Obj.inDrops o.port o.cls) + 1) % 2 ^ 32)) ∧
  (∀ (s : State) (o : Offered) (r : List Offered) (p : Nat) (f : EthFrame),
    s.rst.coreOn = true →
    s.sw.entering = o :: r →
    portInputs o.port o.cls = true →
    s.obj (Obj.inLimit o.port o.cls) ≠ 0 →
    o.outs = [p] →
    o.packet = .eth f →
    s.obj Obj.tapDest = 0 →
    s.obj Obj.sampleRatio = 0 →
    5 < p →
    p < 15 →
    s.obj (Obj.outLimit p o.cls) ≠ 0 →
    backPressure o.port = true →
    s.cutsThrough o [p] = false →
    s.obj (Obj.inLimit o.port o.cls) < s.inUsedNow o.port o.cls + packetCells o.packet →
    Does .switchAdmit s [] [.sw] (fun u =>
      u.sw = { s.sw with entering := r, held := s.sw.held ++ [{ offered := o, since := s.now }] })) ∧
  (∀ (s : State) (port : Fin 16) (h : HeldFrame) (p : Nat) (f : EthFrame),
    s.rst.coreOn = true →
    s.heldHeads port.val = [h] →
    h ∈ s.sw.held →
    h.offered.port = port.val →
    5 < port.val →
    h.offered.cls < 4 →
    portInputs port.val h.offered.cls = true →
    s.obj (Obj.inLimit port.val h.offered.cls) ≠ 0 →
    h.offered.outs = [p] →
    h.offered.packet = .eth f →
    5 < p →
    p < 15 →
    s.obj Obj.tapDest = 0 →
    s.obj Obj.sampleRatio = 0 →
    s.cutsThrough h.offered [p] = false →
    h.offered.engine = none →
    s.inUsedNow port.val h.offered.cls + packetCells h.offered.packet ≤ s.obj (Obj.inLimit port.val h.offered.cls) →
    packetCells h.offered.packet ≤ s.cellsFreeNow →
    s.outUsedNow p h.offered.cls + packetCells h.offered.packet ≤ s.obj (Obj.outLimit p h.offered.cls) →
    Does (.backpressureOffer port) s [Obj.backpressureUs port.val, Obj.framesIn port.val h.offered.cls, Obj.bytesIn port.val] [.sw] (fun u =>
      u.sw.held = s.sw.held.erase h ∧
        u.sw.stored = s.sw.stored ++ [{ no := s.sw.storedCount, offered := { h.offered with entered := s.now }, outs := [p], cells := packetCells h.offered.packet, stored := s.now, startedAt := s.now }] ∧
        u.obj (Obj.backpressureUs port.val) = (s.obj (Obj.backpressureUs port.val) + (s.now - h.since) / us) % 2 ^ 32)) ∧
  (∀ (s : State) (port : Fin 16),
    s.rst.coreOn = true →
    s.heldHeads port.val = [] →
    Does (.backpressureOffer port) s [] [] (fun _ =>
      True)) ∧
  (∀ (s : State) (port : Fin 4) (frame : EthFrame),
    s.rst.coreOn = true →
    s.obj (Obj.ethMode port.val) ≠ 0 →
    s.obj Obj.tapDest ≠ port.val + 1 →
    frame.fcsGood = false →
    Does (.ethernetRx port frame) s [Obj.rxFrames port.val, Obj.fcsErrors port.val] [] (fun u =>
      u.obj (Obj.rxFrames port.val) = (s.obj (Obj.rxFrames port.val) + 1) % 2 ^ 32 ∧
        u.obj (Obj.fcsErrors port.val) = (s.obj (Obj.fcsErrors port.val) + 1) % 2 ^ 32)) ∧
  (∀ (s : State) (port : Fin 4) (frame : EthFrame),
    s.rst.coreOn = true →
    s.obj (Obj.ethMode port.val) ≠ 0 →
    s.obj Obj.tapDest ≠ port.val + 1 →
    frame.fcsGood = true →
    frame.length < 64 →
    Does (.ethernetRx port frame) s [Obj.rxFrames port.val, Obj.runts port.val] [] (fun u =>
      u.obj (Obj.rxFrames port.val) = (s.obj (Obj.rxFrames port.val) + 1) % 2 ^ 32 ∧
        u.obj (Obj.runts port.val) = (s.obj (Obj.runts port.val) + 1) % 2 ^ 32)) ∧
  (∀ (s : State) (port : Fin 4) (frame : EthFrame),
    s.rst.coreOn = true →
    s.obj (Obj.ethMode port.val) ≠ 0 →
    s.obj Obj.tapDest ≠ port.val + 1 →
    frame.fcsGood = true →
    1536 < frame.length →
    Does (.ethernetRx port frame) s [Obj.rxFrames port.val, Obj.oversize port.val] [] (fun u =>
      u.obj (Obj.rxFrames port.val) = (s.obj (Obj.rxFrames port.val) + 1) % 2 ^ 32 ∧
        u.obj (Obj.oversize port.val) = (s.obj (Obj.oversize port.val) + 1) % 2 ^ 32)) ∧
  (∀ (s : State) (port : Fin 4) (frame : EthFrame),
    s.rst.coreOn = true →
    s.obj (Obj.ethMode port.val) ≠ 0 →
    s.obj Obj.tapDest ≠ port.val + 1 →
    frame.fcsGood = true →
    64 ≤ frame.length →
    frame.length ≤ 1536 →
    s.obj (Obj.redMode (port.val / 2)) = 0 →
    s.builtIn port.val frame = none →
    s.flowMatch 1 (ethKey (port.val + 2) frame) = none →
    Does (.ethernetRx port frame) s [Obj.rxFrames port.val, Obj.noFlow port.val] [] (fun u =>
      u.obj (Obj.noFlow port.val) = (s.obj (Obj.noFlow port.val) + 1) % 2 ^ 32)) ∧
  (∀ (s : State) (port : Fin 4) (frame : EthFrame) (seq : Nat),
    s.rst.coreOn = true →
    s.obj (Obj.ethMode port.val) ≠ 0 →
    s.obj Obj.tapDest ≠ port.val + 1 →
    frame.fcsGood = true →
    64 ≤ frame.length →
    frame.length ≤ 1536 →
    s.obj (Obj.redMode (port.val / 2)) = 1 →
    (frame.red = some (seq, if port.val % 2 = 0 then 10 else 11)) →
    s.isDup (port.val / 2) frame.src seq = true →
    Does (.ethernetRx port frame) s [Obj.rxFrames port.val, Obj.dupDiscards (port.val / 2)] [] (fun u =>
      u.obj (Obj.dupDiscards (port.val / 2)) = (s.obj (Obj.dupDiscards (port.val / 2)) + 1) % 2 ^ 32))

/-- A free output whose class 0 waits sends the frame, which leaves with its counters and to its block (R146, R149), and the output of a
block sends whichever frame the arbitration picks (R157); an entry of a duplicate table goes FORGET_TIME ms after it was made, and a
redundant pair sends its supervision frame on both ports (R167, R169); a change of an Ethernet link sets LINK_STATE and SPEED, and a port
whose PTP is disabled says so, and one whose link is down measures no delay (R175, R111); SAMPLE_FREEZE takes its value (R165); CLEAR sets
the flow counters, and the counters of a port, of an Ethernet port and of a pair, to 0 (R172, R174, R175, R176). -/
def Obligations.SwitchOutputs : Prop :=
  (∀ (s : State) (port : Fin 16) (q : Stored) (f : Frame),
    s.rst.coreOn = true →
    s.sw.sending = [] →
    s.sw.suspended = [] →
    s.sw.stored = [q] →
    q.offered.packet = .ring f →
    q.outs = [port.val] →
    q.busy = [] →
    6 ≤ port.val →
    port.val ≤ 14 →
    q.offered.cls = 0 →
    q.offered.port = 0 →
    s.sw.rounds = [] →
    s.sw.deficit = [] →
    s.sw.firstGroup = [] →
    s.obj Obj.maxResidence = 0 →
    s.obj Obj.mirrorOut = 0 →
    s.ring.marker = none →
    f.payload.length ≤ 2048 →
    Does (.outputStart port none) s [Obj.framesOut port.val 0, Obj.bytesOut port.val] [.sw] (fun u =>
      u.sw.stored = [{ q with outs := [], busy := [port.val] }] ∧ u.sw.inbox = s.sw.inbox ++ [(port.val, .ring f)] ∧
        u.sw.sending = [(port.val, q.no)] ∧ u.obj (Obj.framesOut port.val 0) = (s.obj (Obj.framesOut port.val 0) + 1) % 2 ^ 32 ∧
        u.obj (Obj.bytesOut port.val) = (s.obj (Obj.bytesOut port.val) + 32 + f.payload.length) % 2 ^ 64)) ∧
  (∀ (s : State) (port : Fin 16) (t : State) (q : Stored),
    s.rst.coreOn = true →
    s.suspendedOn port.val = none →
    6 ≤ port.val →
    port.val ≤ 14 →
    (s.finish port.val).pickNext port.val = (t, some q) →
    (s.obj Obj.maxResidence = 0 ∨ s.now ≤ q.stored + s.obj Obj.maxResidence * ms) →
    s.obj Obj.mirrorOut = 0 →
    s.ring.marker = none →
    Does (.outputStart port none) s [Obj.framesOut port.val q.offered.cls, Obj.bytesOut port.val] [.sw] (fun u =>
      u.sw.inbox = t.sw.inbox ++ [(port.val, q.offered.packet)] ∧ u.sw.sending = t.sw.sending ++ [(port.val, q.no)] ∧
        u.sw.stored = (t.mapStored q.no (fun q => { q with outs := q.outs.filter (· ≠ port.val), busy := q.busy ++ [port.val] })).sw.stored ∧
        u.obj (Obj.framesOut port.val q.offered.cls) = (s.obj (Obj.framesOut port.val q.offered.cls) + 1) % 2 ^ 32)) ∧
  (∀ (s : State) (pair : Fin 2) (e : DupEntry) (r : List DupEntry),
    s.rst.coreOn = true →
    s.dups pair.val = e :: r →
    Does (.forgetTimeExpiry pair) s [] [.sw, .time] (fun u =>
      u.dups pair.val = r ∧ u.dups (1 - pair.val) = s.dups (1 - pair.val) ∧ e.made + s.obj (Obj.forgetTime pair.val) * ms ≤ u.now)) ∧
  (∀ (s : State) (pair : Fin 2),
    s.rst.coreOn = true →
    s.obj (Obj.redMode pair.val) ≠ 0 →
    Does (.supervisionSend pair) s [] [.sw, .time] (fun u =>
      sparseGet (fun _ => 0) s.sw.supAt pair.val + s.obj (Obj.lifeCheck pair.val) * ms ≤ u.now ∧
        (∃ f, u.sw = { s.sw with supAt := sparsePut (fun _ => 0) s.sw.supAt pair.val u.now, entering := s.sw.entering ++ [{ port := portMp, cls := 2, packet := .eth f, outs := [2 + 2 * pair.val, 3 + 2 * pair.val] }] } ∧
        f.dst = 0x01154E000100 + s.obj (Obj.supAddrLsb pair.val) ∧ f.etherType = 0x88FB ∧ f.src = s.mac (Obj.macAddr (pair.val * 2))))) ∧
  (∀ (s : State) (port : Fin 4) (up : Bool) (speed : Nat),
    s.rst.coreOn = true →
    Does (.ethLinkStateChange port up speed) s [Obj.linkState port.val, Obj.speed port.val, Obj.portState port.val, Obj.peerDelay port.val] [.tb] (fun u =>
      u.obj (Obj.linkState port.val) = ofBool up ∧ (u.obj (Obj.speed port.val) = if up then speed else 0) ∧
        (s.obj (Obj.ptpRole port.val) ≠ 0 ∨ u.obj (Obj.portState port.val) = ptpDisabled) ∧
        (up = true ∨ u.obj (Obj.peerDelay port.val) = 0))) ∧
  (∀ (s : State) (snd : Sender) (value : Byte),
    s.admits snd.who (writeReq snd 0x2468 4 [value]) →
    value.toNat ≤ 1 →
    Answers (.sampleFreezeWrite snd value) s snd.who (writeReq snd 0x2468 4 [value]) stDone [] [Obj.sampleFreeze] [] (fun u =>
      u.obj Obj.sampleFreeze = value.toNat)) ∧
  (∀ (s : State) (snd : Sender),
    s.admits snd.who (writeReq snd 0x2440 65 [0]) →
    Answers (.flowCountersClear snd) s snd.who (writeReq snd 0x2440 65 [0]) stDone [] ((List.range 64).map Obj.flowCounter) [] (fun u =>
      ((List.range 64).map Obj.flowCounter).all (fun k => u.obj k == 0) = true)) ∧
  (∀ (s : State) (snd : Sender) (port : Fin 16),
    s.admits snd.who (writeReq snd (0x2480 + port.val) 24 [0]) →
    Answers (.portCountersClear port snd) s snd.who (writeReq snd (0x2480 + port.val) 24 [0]) stDone [] ((List.range 23).map (fun i => (0x2480 + port.val) * 256 + 1 + i)) [] (fun u =>
      ((List.range 23).map (fun i => (0x2480 + port.val) * 256 + 1 + i)).all (fun k => u.obj k == 0) = true)) ∧
  (∀ (s : State) (snd : Sender) (port : Fin 4),
    s.admits snd.who (writeReq snd (0x2640 + port.val) 8 [0]) →
    Answers (.ethCountersClear port snd) s snd.who (writeReq snd (0x2640 + port.val) 8 [0]) stDone [] ((List.range 7).map (fun i => (0x2640 + port.val) * 256 + 1 + i)) [] (fun u =>
      ((List.range 7).map (fun i => (0x2640 + port.val) * 256 + 1 + i)).all (fun k => u.obj k == 0) = true)) ∧
  (∀ (s : State) (snd : Sender) (pair : Fin 2),
    s.admits snd.who (writeReq snd (0x2618 + pair.val) 6 [0]) →
    Answers (.redCountersClear pair snd) s snd.who (writeReq snd (0x2618 + pair.val) 6 [0]) stDone [] ((List.range 5).map (fun i => (0x2618 + pair.val) * 256 + 1 + i)) [] (fun u =>
      ((List.range 5).map (fun i => (0x2618 + pair.val) * 256 + 1 + i)).all (fun k => u.obj k == 0) = true))

/-- The next command of an open session is sent with the session and the next SEQ, once both window conditions allow, and its copy is kept
(R182); the retransmission time sends the unacknowledged copies again with RETX and counts them, as EXEC_TIMEOUT does for a command without
its execution ACK (R185); an ACK with DONE moves ACKED and completes an EVENT at its issuer (R179, R184). -/
def Obligations.SessionSource : Prop :=
  (∀ (s : State) (peer : Fin 97) (class2 : Bool) (e : Session) (no : Nat) (f : Frame) (i : Issuer) (r : List (Nat × Frame × Issuer)),
    s.rst.coreOn = true →
    s.outSession peer.val class2 = some e →
    e.waiting = (no, f, i) :: r →
    s.issuedBefore no f i = false →
    e.state ≠ 0 →
    f.type ≠ tyWrite →
    seqSub e.next e.acked ≤ s.window class2 →
    seqSub e.next e.exec ≤ 256 →
    s.copyRoom f = true →
    Does (.sessionSend peer class2) s [] [.acc, .sw, .dram] (fun u =>
      u.sw.entering.take s.sw.entering.length = s.sw.entering ∧
        (u.sw.entering.drop s.sw.entering.length).map (·.packet) = [Packet.ring { f with src := s.ownId, session := sessionField class2 e.incarnation, seq := e.next, posted := false }] ∧
        (∃ x ∈ u.acc.sessions, x.same e = true ∧ x.next = seqNext e.next ∧ x.waiting = r ∧ x.copies.length = e.copies.length + 1))) ∧
  (∀ (s : State) (peer : Fin 97) (class2 : Bool) (e : Session) (c : SentCopy) (l : List SentCopy),
    s.rst.coreOn = true →
    s.outSession peer.val class2 = some e →
    e.copies.find? (fun c => e.sentPast e.acked c.seq) = some c →
    l = e.copies.filter (fun c => e.sentPast e.acked c.seq) →
    Does (.retxTimeout peer class2) s [Obj.retransmitted] [.acc, .sw, .time] (fun u =>
      (u.sw.entering.drop s.sw.entering.length).map (·.packet) = l.map (fun c => Packet.ring { c.frame with retx := true }) ∧
        u.obj Obj.retransmitted = (s.obj Obj.retransmitted + l.length) % 2 ^ 32 ∧ c.sentAt + s.retxNs class2 ≤ u.now ∧
        (∃ x ∈ u.acc.sessions, x.same e = true ∧ x.retxCount = (e.retxCount + l.length) % 2 ^ 32 ∧ x.copies.length = e.copies.length))) ∧
  (∀ (s : State) (peer : Fin 97) (seq : BitVec 32) (e : Session) (c : SentCopy) (l : List SentCopy),
    s.rst.coreOn = true →
    s.outSession peer.val true = some e →
    e.copies.find? (fun c => c.seq == seq.toNat && c.nonPosted && !c.execAcked && !e.sentPast e.acked c.seq) = some c →
    l = e.copies.filter (fun c => c.seq == seq.toNat) →
    Does (.execTimeout peer seq) s [Obj.retransmitted] [.acc, .sw, .time] (fun u =>
      (u.sw.entering.drop s.sw.entering.length).map (·.packet) = l.map (fun c => Packet.ring { c.frame with retx := true }) ∧
        u.obj Obj.retransmitted = (s.obj Obj.retransmitted + l.length) % 2 ^ 32 ∧ c.sentAt + s.obj Obj.execTimeout * ms ≤ u.now)) ∧
  (∀ (s : State) (frame : Frame) (e : Session) (c : SentCopy),
    s.rst.coreOn = true →
    s.sw.inbox = [] →
    frame.session.testBit 14 = false →
    s.outSession frame.src (frame.session.testBit 15) = some e →
    e.state ≠ 0 →
    e.incarnation = frame.session % 2 ^ 14 →
    frame.status = stDone →
    e.sentPast e.acked frame.seq = true →
    e.copies = [c] →
    c.seq = frame.seq →
    c.nonPosted = false →
    c.completed = false →
    c.frame.type = tyEvent →
    Does (.ackRx frame) s [] [.acc] (fun u =>
      u.acc.completions = s.acc.completions ++ [{ issuer := c.issuer, seq := c.seq, status := stDone }] ∧
        (∃ x ∈ u.acc.sessions, x.same e = true ∧ x.acked = frame.seq ∧ x.copies = [{ c with completed := true }])))

/-- A frame in order is journaled and NEXT advances (R183); one that breaks the session fields is counted (R180); once its record stands on
every device in service its ACK goes out (R178, R188); a failed write that its repeat mends is a transient fault, one whose repeat fails
takes the device out of service with its mark in the other (R189); accepted work is executed once, its record done and its execution
reported (R178, R184); a session whose payload is missing is recalled with an ACK of RETRY, and again after RECALL_TIMEOUT (R194);
PENDING_LIMIT ends the oldest accepted work with HELD (R195), and a fence completes it with DONE (R200); LEQ_CMD pops the oldest late error,
and CLEAR sets the counters to 0. -/
def Obligations.SessionDestination : Prop :=
  (∀ (s : State) (frame : Frame) (e : Session),
    s.rst.coreOn = true →
    s.sw.inbox = [] →
    badSessionFrame frame = false →
    isWork frame = true →
    s.inSession frame.src (frame.cls == 2) = some e →
    e.incarnation = frame.session % 2 ^ 14 →
    frame.seq = e.next →
    s.takesNoWork = false →
    s.mramsUp ≠ [] →
    s.acceptRefusal frame = none →
    Does (.acceptanceCheck frame) s [] [.acc, .dram] (fun u =>
      (∃ w ∈ u.acc.writes, w.ring = e.ring ∧ w.record = recordOf frame none ∧ w.acceptance = true) ∧
        u.acc.writes.length = s.acc.writes.length + 1 ∧ (∃ x ∈ u.acc.sessions, x.same e = true ∧ x.next = seqNext frame.seq ∧
        { record := recordOf frame none, frame := some frame, taken := s.now : Work } ∈ x.work))) ∧
  (∀ (s : State) (frame : Frame),
    s.rst.coreOn = true →
    badSessionFrame frame = true →
    Does (.acceptanceCheck frame) s [Obj.badSession] [.sw] (fun u =>
      u.obj Obj.badSession = (s.obj Obj.badSession + 1) % 2 ^ 32)) ∧
  (∀ (s : State) (ns : Nat) (t : State) (w : JWrite) (e : Session) (x : Work) (f : Frame),
    s.rst.coreOn = true →
    s.writeEnds ns = some (t, w) →
    w.acceptance = true →
    w.record.state = 1 →
    s.mramsUp ≠ [] →
    s.entryOf w = some e →
    e.work.find? (fun x => x.record.seq == w.record.seq) = some x →
    x.frame = some f →
    releasePort f = none →
    Does (.journalWrite ns) s [Obj.accepted, Obj.recordWrites, Obj.writeMax] [.acc, .sw, .time] (fun u =>
      u.acc.writes = t.acc.writes.erase w ∧
        ((u.sw.entering.drop s.sw.entering.length).map (·.packet) = [Packet.ring { cls := if e.cls2 then 2 else 0, type := tyAck, src := s.ownId, dst := e.peer, status := w.record.result, session := sessionField e.cls2 e.incarnation, seq := w.record.seq }]) ∧
        u.obj Obj.accepted = (s.obj Obj.accepted + 1) % 2 ^ 64 ∧ u.obj Obj.recordWrites = (s.obj Obj.recordWrites + 1) % 2 ^ 64 ∧
        u.obj Obj.writeMax = max (s.obj Obj.writeMax) (ns % 2 ^ 32) ∧
        (∀ d ∈ s.mramsUp, (u.mram d).slot (recordOffset w.ring w.record.seq) = recordBits w.record))) ∧
  (∀ (s : State) (first0 : Bool) (first1 : Bool) (again0 : Bool) (again1 : Bool) (w : JWrite),
    s.rst.coreOn = true →
    s.acc.writes = [w] →
    w.acceptance = false →
    s.mramsUp = [0, 1] →
    first0 = false →
    again0 = true →
    first1 = true →
    s.vgOpen = [] →
    Does (.journalWriteFail first0 first1 again0 again1) s [Obj.journalTransient, Obj.recordWrites, Obj.vgNextSeq] [.acc, .time, .free, .vgHead, .vgMain] (fun u =>
      u.acc.writes = [] ∧ u.mramsUp = [0, 1] ∧ u.obj Obj.journalTransient = (s.obj Obj.journalTransient + 1) % 2 ^ 32 ∧
        u.obj Obj.recordWrites = (s.obj Obj.recordWrites + 1) % 2 ^ 64)) ∧
  (∀ (s : State) (first0 : Bool) (first1 : Bool) (again0 : Bool) (again1 : Bool) (w : JWrite),
    s.rst.coreOn = true →
    s.acc.writes = [w] →
    w.acceptance = false →
    s.mramsUp = [0, 1] →
    first0 = false →
    again0 = false →
    first1 = true →
    Does (.journalWriteFail first0 first1 again0 again1) s [Obj.lasting, Obj.lastFaultDev, Obj.journalState, Obj.recordWrites, Obj.vgNextSeq] [.acc, .time, .free, .vgHead, .vgMain, .vgOpen] (fun u =>
      u.acc.writes = [] ∧ u.mramsUp = [1] ∧ u.acc.mram1.mark = true ∧ u.obj Obj.lastFaultDev = 0 ∧
        u.obj Obj.lasting = (s.obj Obj.lasting + 1) % 2 ^ 32 ∧ u.obj Obj.journalState = 2 ∧ u.faultOpen 0x2800 5 0 = true)) ∧
  (∀ (s : State) (peer : Fin 97) (class2 : Bool) (e : Session) (w : Work) (f : Frame),
    s.rst.coreOn = true →
    s.acc.sessions = [e] →
    e.work = [w] →
    e.role = 2 →
    e.peer = peer.val →
    e.state ≠ 4 →
    e.exec ≠ seqPrev e.next →
    w.record.seq = seqNext e.exec →
    w.record.seq ≠ e.next →
    w.record.state = 1 →
    w.stands = true →
    e.cls2 = class2 →
    w.released = false →
    w.recovered = false →
    w.frame = some f →
    f.type = tyLateErr →
    lateErrorGood f.payload = true →
    w.record.type = tyLateErr →
    peer.val ≠ s.ownId →
    s.quiet = false →
    s.sw.inbox = [] →
    s.inSwitch f = false →
    s.acc.leq.length < 256 →
    (lateErrorOf f.payload).cls ≠ 3 →
    Does (.execution peer class2) s [] [.acc, .sw] (fun u =>
      u.acc.leq = s.acc.leq ++ [lateErrorOf f.payload] ∧ u.acc.sessions.map (·.exec) = [w.record.seq] ∧
        u.acc.sessions.map (fun x => x.work.map (fun y => (y.record.state, y.record.result))) = [[(2, stDone)]] ∧
        ((u.sw.entering.drop s.sw.entering.length).map (·.packet) = [Packet.ring { cls := if e.cls2 then 2 else 0, type := tyAck, src := s.ownId, dst := e.peer, status := stDone, session := sessionField e.cls2 e.incarnation + 2 ^ 14, seq := w.record.seq }]))) ∧
  (∀ (s : State) (l : List Session),
    s.rst.coreOn = true →
    s.onRing = true →
    s.ownId ≠ 0 →
    l = s.acc.sessions.filter (fun e => e.role == 2 && e.state ≠ 4 && e.awaiting) →
    Does .recallSession s [] [.acc, .sw] (fun u =>
      ((u.sw.entering.drop s.sw.entering.length).map (·.packet) = l.map (fun e => Packet.ring { cls := if e.cls2 then 2 else 0, type := tyAck, src := s.ownId, dst := e.peer, status := stRetry, session := sessionField e.cls2 e.incarnation, seq := e.exec })) ∧
        (∀ e ∈ l, ∃ x ∈ u.acc.sessions, x.same e = true ∧ x.recallAt = u.now))) ∧
  (∀ (s : State) (peer : Fin 97) (class2 : Bool) (l : List Session) (e : Session) (r : List Session),
    s.rst.coreOn = true →
    l = s.acc.sessions.filter (fun e => e.role == 2 && e.peer == peer.val && e.cls2 == class2 && e.state ≠ 4 && e.awaiting) →
    l = e :: r →
    Does (.recallTimeout peer class2) s [] [.acc, .sw, .time] (fun u =>
      e.recallAt + s.obj Obj.recallTimeout * ms ≤ u.now ∧
        ((u.sw.entering.drop s.sw.entering.length).map (·.packet) = l.map (fun e => Packet.ring { cls := if e.cls2 then 2 else 0, type := tyAck, src := s.ownId, dst := e.peer, status := stRetry, session := sessionField e.cls2 e.incarnation, seq := e.exec })) ∧
        (∀ e ∈ l, ∃ x ∈ u.acc.sessions, x.same e = true ∧ x.recallAt = u.now))) ∧
  (∀ (s : State) (peer : Fin 97) (class2 : Bool) (e : Session) (w : Work) (f : Frame),
    s.rst.coreOn = true →
    s.acc.sessions = [e] →
    e.work = [w] →
    e.role = 2 →
    e.peer = peer.val →
    e.state ≠ 4 →
    e.exec ≠ seqPrev e.next →
    w.record.seq = seqNext e.exec →
    w.record.seq ≠ e.next →
    w.record.state = 1 →
    w.stands = true →
    e.cls2 = class2 →
    w.released = false →
    w.recovered = true →
    w.frame = some f →
    drivesOutput f = true →
    s.serving = false →
    w.record.type = tyObjectReq →
    Does (.pendingLimitExpiry peer class2) s [] [.acc, .sw, .time] (fun u =>
      w.taken + s.obj Obj.pendingLimit * ms ≤ u.now ∧ u.acc.sessions.map (·.exec) = [w.record.seq] ∧
        u.acc.sessions.map (fun x => x.work.map (fun y => (y.record.state, y.record.result))) = [[(2, stHeldStatus)]] ∧
        ((u.sw.entering.drop s.sw.entering.length).map (·.packet) = [Packet.ring { cls := if e.cls2 then 2 else 0, type := tyAck, src := s.ownId, dst := e.peer, status := stHeldStatus, session := sessionField e.cls2 e.incarnation + 2 ^ 14, seq := w.record.seq }]))) ∧
  (∀ (s : State) (peer : Fin 97) (e : Session) (w : Work),
    s.rst.coreOn = true →
    s.acc.sessions = [e] →
    e.work = [w] →
    e.role = 2 →
    e.peer = peer.val →
    e.state ≠ 4 →
    e.exec ≠ seqPrev e.next →
    w.record.seq = seqNext e.exec →
    w.record.seq ≠ e.next →
    w.record.state = 1 →
    w.stands = true →
    e.cls2 = true →
    w.released = true →
    w.record.type = tyWrite →
    w.record.length = 0 →
    Does (.fenceComplete peer) s [] [.acc, .sw] (fun u =>
      u.acc.sessions.map (·.exec) = [w.record.seq] ∧
        u.acc.sessions.map (fun x => x.work.map (fun y => (y.record.state, y.record.result))) = [[(2, stDone)]] ∧
        ((u.sw.entering.drop s.sw.entering.length).map (·.packet) = [Packet.ring { cls := if e.cls2 then 2 else 0, type := tyAck, src := s.ownId, dst := e.peer, status := stDone, session := sessionField e.cls2 e.incarnation + 2 ^ 14, seq := w.record.seq }]))) ∧
  (∀ (s : State) (snd : Sender) (l : LateError) (q : List LateError),
    s.admits snd.who (writeReq snd 0x2880 3 [1]) →
    s.acc.leq = l :: q →
    q ≠ [] →
    Answers (.leqPop snd) s snd.who (writeReq snd 0x2880 3 [1]) stDone [] [] [.acc] (fun u =>
      u.acc.leq = q)) ∧
  (∀ (s : State) (snd : Sender),
    s.admits snd.who (writeReq snd 0x2800 8 [0]) →
    Answers (.journalClear snd) s snd.who (writeReq snd 0x2800 8 [0]) stDone [] ((List.range 3).map (fun i => 0x2800 * 256 + 2 + i)) [] (fun u =>
      ((List.range 3).map (fun i => 0x2800 * 256 + 2 + i)).all (fun k => u.obj k == 0) = true)) ∧
  (∀ (s : State) (snd : Sender),
    s.admits snd.who (writeReq snd 0x28D0 10 [0]) →
    Answers (.acceptCountersClear snd) s snd.who (writeReq snd 0x28D0 10 [0]) stDone [] ((List.range 9).map (fun i => 0x28D0 * 256 + 1 + i)) [] (fun u =>
      ((List.range 9).map (fun i => 0x28D0 * 256 + 1 + i)).all (fun k => u.obj k == 0) = true))

/-- LOSS_TIMEOUT, a WELD_REQ and an UNWELD_REQ make the coordinator take a census (R202, R207, R208); a CENSUS is answered with PRESENT, and
an answer of an identity that has not answered yet is counted (R206); at the boundary, the first sample instant 500 µs after the TIME,
answers that are the members so far keep the membership and count MEMBERSHIP_GEN (R206); a joining node asks to weld (R207); UNWELD_CMD
starts the drain and its end sends UNWELD_REQ (R208); a node that comes up without neighbours is alone and HELD (R206). -/
def Obligations.Membership : Prop :=
  (∀ (s : State) (node : Fin 97) (since : Nat),
    s.rst.coreOn = true →
    s.acc.absent = [(node.val, since)] →
    s.isCoordinator = true →
    s.acc.census = none →
    Does (.lossTimeout node) s [] [.acc, .ring, .out, .time] (fun u =>
      since + s.obj Obj.lossTimeout * sec ≤ u.now ∧ (∃ c, u.acc.census = some c ∧ c.origin = s.answerId ∧ c.time = u.now + ms))) ∧
  (∀ (s : State) (notice : Notice),
    s.rst.coreOn = true →
    s.ring.outFault = false →
    s.hasSeen notice = false →
    s.acc.census = none →
    s.onRing = true →
    s.acc.joining = false →
    s.acc.unweld = none →
    Does (.censusRx notice) s [] [.acc, .ring, .out] (fun u =>
      u.hasSeen notice = true ∧
        u.acc.census = some { origin := notice.origin, seq := notice.seq, time := notice.time, answers := [{ id := s.ownId, identity := s.identity, u := s.upId, d := s.downId }] } ∧
        Out.notice .a notice ∈ u.out ∧
        Out.notice .a { kind := 0x0B, origin := s.ownId, u := s.upId, d := s.downId, time := s.identity, seq := notice.seq } ∈ u.out)) ∧
  (∀ (s : State) (notice : Notice) (c : Census),
    s.rst.coreOn = true →
    s.ring.outFault = false →
    s.acc.census = some c →
    c.seq = notice.seq →
    c.answers.any (fun a => a.identity == notice.time) = false →
    Does (.presentRx notice) s [] [.acc, .ring, .out] (fun u =>
      u.acc.census = some { c with answers := c.answers ++ [{ id := notice.origin, identity := notice.time, u := notice.u, d := notice.d }] } ∧
        Out.notice .a notice ∈ u.out)) ∧
  (∀ (s : State) (c : Census),
    s.rst.coreOn = true →
    s.acc.census = some c →
    s.acc.joining = false →
    s.acc.unweld = none →
    s.acc.leaving = none →
    s.acc.absent = [] →
    s.wrapped = false →
    s.ringState = 2 →
    newMembers s.acc.members c.answers = s.acc.members →
    Does .membershipBoundary s [Obj.effectiveId, Obj.idState, Obj.membershipGen, Obj.ringNodes, Obj.censusTime, Obj.coordinator, Obj.gmId, Obj.portState (s.obj Obj.ptpPort), Obj.vgNextSeq] [.acc, .time, .tb, .vgHead, .vgMain] (fun u =>
      u.acc.members = s.acc.members ∧ u.acc.census = none ∧ u.obj Obj.membershipGen = (s.obj Obj.membershipGen + 1) % 2 ^ 32 ∧
        u.obj Obj.ringNodes = s.acc.members.length ∧ u.obj Obj.censusTime = s.sampleFrom (c.time + 500 * us) ∧
        s.sampleFrom (c.time + 500 * us) ≤ u.now)) ∧
  (∀ (s : State),
    s.rst.coreOn = true →
    s.ring.outFault = false →
    ((s.node = stLoading ∧ s.rst.loaded = true) ∨ (s.node ≠ stLoading ∧ s.ownId = 0)) →
    s.upSegment = true →
    s.downSegment = true →
    Does .weldReqSend s [Obj.weldState, Obj.ringState] [.acc, .ring, .out] (fun u =>
      u.obj Obj.weldState = 1 ∧ u.acc.joining = true ∧ (s.outUp .a = true →
        Out.notice .a { kind := 0x02, origin := s.obj Obj.nodeId, u := s.upId, d := s.downId, time := u.now, seq := (s.ring.noticeSeq + 1) % 2 ^ 32 } ∈ u.out) ∧
        (s.outUp .b = true → Out.notice .b { kind := 0x02, origin := s.obj Obj.nodeId, u := s.upId, d := s.downId, time := u.now, seq := (s.ring.noticeSeq + 1) % 2 ^ 32 } ∈ u.out) ∧
        u.now = s.now)) ∧
  (∀ (s : State),
    s.rst.coreOn = true →
    s.ring.outFault = false →
    ((s.node = stLoading ∧ s.rst.loaded = true) ∨ (s.node ≠ stLoading ∧ s.ownId = 0)) →
    s.upSegment ≠ s.downSegment →
    Does .weldReqSend s [Obj.weldState, Obj.ringState] [.acc, .ring, .out, .time] (fun u =>
      u.obj Obj.weldState = 1 ∧ u.acc.joining = true ∧ (s.outUp .a = true →
        Out.notice .a { kind := 0x02, origin := s.obj Obj.nodeId, u := s.upId, d := s.downId, time := u.now, seq := (s.ring.noticeSeq + 1) % 2 ^ 32 } ∈ u.out) ∧
        (s.outUp .b = true → Out.notice .b { kind := 0x02, origin := s.obj Obj.nodeId, u := s.upId, d := s.downId, time := u.now, seq := (s.ring.noticeSeq + 1) % 2 ^ 32 } ∈ u.out) ∧
        s.rst.broughtUp + sec ≤ u.now)) ∧
  (∀ (s : State) (notice : Notice),
    s.rst.coreOn = true →
    s.hasSeen notice = false →
    s.isCoordinator = true →
    s.acc.census = none →
    Does (.weldReqRx notice) s [] [.acc, .ring, .out] (fun u =>
      u.hasSeen notice = true ∧ (∃ c, u.acc.census = some c ∧ c.origin = s.answerId ∧ c.time = u.now + ms))) ∧
  (∀ (s : State) (snd : Sender),
    s.admits snd.who (writeReq snd 0x28C0 1 [1]) →
    s.wrapActive = false →
    s.ringState ≠ 3 →
    s.ringState ≠ 4 →
    s.acc.unweld = none →
    s.ownId ≠ 0 →
    (∀ e ∈ s.acc.sessions, e.role ≠ 2) →
    Answers (.unweldCmd snd) s snd.who (writeReq snd 0x28C0 1 [1]) stDone [] [Obj.weldState] [.acc] (fun u =>
      u.obj Obj.weldState = 3 ∧ u.acc = { s.acc with unweld := some { start := s.now } })) ∧
  (∀ (s : State) (w : Unweld),
    s.rst.coreOn = true →
    s.ring.outFault = false →
    s.acc.unweld = some w →
    w.requested = false →
    s.isCoordinator = false →
    s.ownId ≠ 0 →
    Does .unweldDrainEnd s [Obj.weldState] [.acc, .ring, .out, .time] (fun u =>
      u.obj Obj.weldState = 4 ∧ u.acc = { s.acc with unweld := some { w with requested := true }, leaving := some s.ownId } ∧
        (s.drained = true ∨ w.start + s.obj Obj.unweldDrain * ms ≤ u.now) ∧ (∃ n, Out.notice .a n ∈ u.out ∧ n.kind = 9 ∧
        n.origin = s.ownId))) ∧
  (∀ (s : State) (notice : Notice),
    s.rst.coreOn = true →
    s.ring.outFault = false →
    s.hasSeen notice = false →
    s.isCoordinator = false →
    Does (.unweldReqRx notice) s [] [.acc, .ring, .out] (fun u =>
      u.hasSeen notice = true ∧ u.acc = { s.acc with leaving := some notice.origin } ∧ Out.notice .a notice ∈ u.out)) ∧
  (∀ (s : State) (notice : Notice),
    s.rst.coreOn = true →
    s.hasSeen notice = false →
    s.isCoordinator = true →
    s.acc.census = none →
    Does (.unweldReqRx notice) s [] [.acc, .ring, .out] (fun u =>
      u.acc.leaving = some notice.origin ∧ (∃ c, u.acc.census = some c ∧ c.origin = s.answerId ∧ c.time = u.now + ms))) ∧
  (∀ (s : State),
    s.rst.coreOn = true →
    s.node = stLoading →
    s.rst.loaded = true →
    s.upSegment = false →
    s.downSegment = false →
    Does .aloneTimeout s [Obj.ringState, Obj.ringNodes, Obj.effectiveId, Obj.idState, Obj.coordinator, Obj.nodeState, Obj.stateReason, Obj.stateEntered, Obj.gmId, Obj.portState (s.obj Obj.ptpPort), Obj.vgNextSeq] [.acc, .tb, .time, .vgHead, .vgMain] (fun u =>
      s.rst.broughtUp + sec ≤ u.now ∧ u.obj Obj.ringState = 0 ∧ u.obj Obj.ringNodes = 1 ∧ u.ownId = s.obj Obj.nodeId ∧
        u.obj Obj.coordinator = s.obj Obj.nodeId ∧ u.node = stHeld ∧ u.acc.joining = false ∧
        u.acc.members = [{ id := s.obj Obj.nodeId, identity := s.identity }]))

/-- The edge that a glitch filter held is recorded GLITCH_NS after it, and a level stable for DEBOUNCE_US once if it differs from the last
recorded one (R221); a second that stayed below the limit ends CHATTER (R222); the SOE writer takes a record from its cell, and writes the
oldest record of its queue to the next place of the log, no other byte of DRAM changing (R235); SOE_READ moves within the records held
(R236); CLEAR sets the counters of a cell to 0 (R237). -/
def Obligations.CaptureFilters : Prop :=
  (∀ (s : State) (cell : Fin 320) (t0 : Nat) (l : Bool),
    s.rst.coreOn = true →
    (s.cell cell.val).waiting = some (t0, l) →
    (s.cell cell.val).lastCross = none →
    (s.cell cell.val).queue = [] →
    s.soeReads cell.val = true →
    s.engineReads cell.val = false →
    Does (.glitchExpiry cell) s [] [.fc, .time] (fun u =>
      (u.cell cell.val).waiting = none ∧ ceilDiv t0 256 + s.obj (Obj.glitchNs cell.val) ≤ u.now ∧ (u.cell cell.val).lastLevel = l ∧
        (u.cell cell.val).queue.map (fun r => (r.level, r.lost, r.soe, r.engine, r.edgeSeq)) = [(l, false, true, false, ((s.cell cell.val).edgeSeq + 1) % 2 ^ 16)])) ∧
  (∀ (s : State) (cell : Fin 320) (first : Nat) (last : Nat) (l : Bool),
    s.rst.coreOn = true →
    (s.cell cell.val).burst = some (first, last, l) →
    l ≠ (s.cell cell.val).lastLevel.getD (s.cell cell.val).burstFrom →
    (s.cell cell.val).lastCross = none →
    (s.cell cell.val).queue = [] →
    s.soeReads cell.val = true →
    s.engineReads cell.val = false →
    Does (.debounceStable cell) s [] [.fc, .time] (fun u =>
      (u.cell cell.val).burst = none ∧ ceilDiv last 256 + s.obj (Obj.debounceUs cell.val) * us ≤ u.now ∧ (u.cell cell.val).lastLevel = l ∧
        (u.cell cell.val).queue.map (fun r => (r.level, r.lost, r.soe, r.engine, r.edgeSeq)) = [(l, false, true, false, ((s.cell cell.val).edgeSeq + 1) % 2 ^ 16)])) ∧
  (∀ (s : State) (cell : Fin 320) (first : Nat) (last : Nat) (l : Bool),
    s.rst.coreOn = true →
    (s.cell cell.val).burst = some (first, last, l) →
    l = (s.cell cell.val).lastLevel.getD (s.cell cell.val).burstFrom →
    Does (.debounceStable cell) s [] [.fc, .time] (fun u =>
      (u.cell cell.val).burst = none ∧ (u.cell cell.val).queue = (s.cell cell.val).queue)) ∧
  (∀ (s : State) (cell : Fin 320),
    s.rst.coreOn = true →
    s.cellFlag cell.val csChatter = true →
    (s.cell cell.val).rawEdges < s.obj (Obj.chatterLimit cell.val) →
    Does (.chatterSecond cell) s [Obj.cellState cell.val] [.fc, .time] (fun u =>
      u.cellFlag cell.val csChatter = false ∧ (u.cell cell.val).rawEdges = 0 ∧ (u.cell cell.val).second = (s.cell cell.val).second + 1 ∧
        ((s.cell cell.val).second + 1) * sec ≤ u.now)) ∧
  (∀ (s : State) (cell : Fin 320) (r : Capture),
    s.rst.coreOn = true →
    (s.cell cell.val).queue = [r] →
    r.soe = true →
    r.engine = false →
    s.fc.soe.queue.length < 4096 →
    Does (.soeRecordWrite (some cell)) s [] [.fc] (fun u =>
      (u.cell cell.val).queue = [] ∧
        u.fc.soe.queue = s.fc.soe.queue ++ [(cell.val, captureBits cell.val { r with lost := r.lost || (s.cell cell.val).soeLost })])) ∧
  (∀ (s : State) (cell : Nat) (v : Nat) (rest : List (Nat × Nat)) (a : Nat),
    s.rst.coreOn = true →
    s.fc.soe.queue = (cell, v) :: rest →
    s.obj Obj.soeCapacity ≠ 0 →
    s.obj Obj.soeFullMode = 0 →
    s.fc.soe.wasFull = false →
    a = s.obj Obj.soeBase + 16 * (s.obj Obj.soeWritten % s.obj Obj.soeCapacity) →
    Does (.soeRecordWrite none) s [Obj.soeWritten, Obj.soeFlags] [.fc, .dram] (fun u =>
      u.fc.soe.queue = rest ∧ u.obj Obj.soeWritten = (s.obj Obj.soeWritten + 1) % 2 ^ 64 ∧ (∀ x, u.dramByte x = (if a ≤ x ∧
        x < a + 16 then (leBytes 16 v).getD (x - a) 0 else s.dramByte x)))) ∧
  (∀ (s : State) (snd : Sender) (value : BitVec 64),
    s.admits snd.who (writeReq snd 0x3210 6 (leBytes 8 value.toNat)) →
    value.toNat ≤ s.obj Obj.soeWritten →
    s.obj Obj.soeWritten ≤ value.toNat + s.obj Obj.soeCapacity →
    Answers (.soeReadWrite snd value) s snd.who (writeReq snd 0x3210 6 (leBytes 8 value.toNat)) stDone [] [Obj.soeRead] [] (fun u =>
      u.obj Obj.soeRead = value.toNat)) ∧
  (∀ (s : State) (snd : Sender) (cell : Fin 320),
    s.admits snd.who (writeReq snd (0x3000 + cell.val) 33 [0]) →
    Answers (.cellCountersClear cell snd) s snd.who (writeReq snd (0x3000 + cell.val) 33 [0]) stDone [] ((List.range 5).map (fun i => (0x3000 + cell.val) * 256 + 28 + i)) [] (fun u =>
      ((List.range 5).map (fun i => (0x3000 + cell.val) * 256 + 28 + i)).all (fun k => u.obj k == 0) = true))

/-- An output command that passes its checks (R225) and finds room is queued with its ball instant and its action (R224, R226); a cancel
withdraws every placement of the cell at once with HELD (R224); at the ball instant the level is placed and gives the command its result
(R225), and at the trailing edge that of a pulse (R234). -/
def Obligations.OutputCommands : Prop :=
  (∀ (s : State) (snd : Sender) (cell : Fin 320) (instant : BitVec 64) (fraction : Byte),
    s.admits snd.who (writeReq snd (0x3000 + cell.val) 20 (outRecord instant.toNat fraction 0 0)) →
    s.cellRefusal cell.val (outRecord instant.toNat fraction 0 0) snd.commander none = none →
    (s.cell cell.val).placements.length < 4 →
    s.now256 ≤ s.ballInstant cell.val (s.commandInstant (outRecord instant.toNat fraction 0 0) none) →
    Answers (.outCmdDriveLow cell snd instant fraction) s snd.who (writeReq snd (0x3000 + cell.val) 20 (outRecord instant.toNat fraction 0 0)) stDone [] [] [.fc] (fun u =>
      u.cell cell.val = { s.cell cell.val with placements := (s.cell cell.val).placements ++ [{ action := 0, ball := s.ballInstant cell.val (s.commandInstant (outRecord instant.toNat fraction 0 0) none), width := 0 * 256, commander := snd.commander, origin := .object }] })) ∧
  (∀ (s : State) (snd : Sender) (cell : Fin 320) (instant : BitVec 64) (fraction : Byte),
    s.admits snd.who (writeReq snd (0x3000 + cell.val) 20 (outRecord instant.toNat fraction 1 0)) →
    s.cellRefusal cell.val (outRecord instant.toNat fraction 1 0) snd.commander none = none →
    (s.cell cell.val).placements.length < 4 →
    s.now256 ≤ s.ballInstant cell.val (s.commandInstant (outRecord instant.toNat fraction 1 0) none) →
    Answers (.outCmdDriveHigh cell snd instant fraction) s snd.who (writeReq snd (0x3000 + cell.val) 20 (outRecord instant.toNat fraction 1 0)) stDone [] [] [.fc] (fun u =>
      u.cell cell.val = { s.cell cell.val with placements := (s.cell cell.val).placements ++ [{ action := 1, ball := s.ballInstant cell.val (s.commandInstant (outRecord instant.toNat fraction 1 0) none), width := 0 * 256, commander := snd.commander, origin := .object }] })) ∧
  (∀ (s : State) (snd : Sender) (cell : Fin 320) (instant : BitVec 64) (fraction : Byte) (width : BitVec 32),
    s.admits snd.who (writeReq snd (0x3000 + cell.val) 20 (outRecord instant.toNat fraction 2 width.toNat)) →
    s.cellRefusal cell.val (outRecord instant.toNat fraction 2 width.toNat) snd.commander none = none →
    (s.cell cell.val).placements.length < 4 →
    s.now256 ≤ s.ballInstant cell.val (s.commandInstant (outRecord instant.toNat fraction 2 width.toNat) none) →
    Answers (.outCmdPulseHigh cell snd instant fraction width) s snd.who (writeReq snd (0x3000 + cell.val) 20 (outRecord instant.toNat fraction 2 width.toNat)) stDone [] [] [.fc] (fun u =>
      u.cell cell.val = { s.cell cell.val with placements := (s.cell cell.val).placements ++ [{ action := 2, ball := s.ballInstant cell.val (s.commandInstant (outRecord instant.toNat fraction 2 width.toNat) none), width := width.toNat * 256, commander := snd.commander, origin := .object }] })) ∧
  (∀ (s : State) (snd : Sender) (cell : Fin 320) (instant : BitVec 64) (fraction : Byte) (width : BitVec 32),
    s.admits snd.who (writeReq snd (0x3000 + cell.val) 20 (outRecord instant.toNat fraction 3 width.toNat)) →
    s.cellRefusal cell.val (outRecord instant.toNat fraction 3 width.toNat) snd.commander none = none →
    (s.cell cell.val).placements.length < 4 →
    s.now256 ≤ s.ballInstant cell.val (s.commandInstant (outRecord instant.toNat fraction 3 width.toNat) none) →
    Answers (.outCmdPulseLow cell snd instant fraction width) s snd.who (writeReq snd (0x3000 + cell.val) 20 (outRecord instant.toNat fraction 3 width.toNat)) stDone [] [] [.fc] (fun u =>
      u.cell cell.val = { s.cell cell.val with placements := (s.cell cell.val).placements ++ [{ action := 3, ball := s.ballInstant cell.val (s.commandInstant (outRecord instant.toNat fraction 3 width.toNat) none), width := width.toNat * 256, commander := snd.commander, origin := .object }] })) ∧
  (∀ (s : State) (snd : Sender) (cell : Fin 320) (instant : BitVec 64) (fraction : Byte),
    s.admits snd.who (writeReq snd (0x3000 + cell.val) 20 (outRecord instant.toNat fraction 4 0)) →
    s.cellRefusal cell.val (outRecord instant.toNat fraction 4 0) snd.commander none = none →
    (s.cell cell.val).placements.length < 4 →
    s.now256 ≤ s.ballInstant cell.val (s.commandInstant (outRecord instant.toNat fraction 4 0) none) →
    Answers (.outCmdSafe cell snd instant fraction) s snd.who (writeReq snd (0x3000 + cell.val) 20 (outRecord instant.toNat fraction 4 0)) stDone [] [] [.fc] (fun u =>
      u.cell cell.val = { s.cell cell.val with placements := (s.cell cell.val).placements ++ [{ action := 4, ball := s.ballInstant cell.val (s.commandInstant (outRecord instant.toNat fraction 4 0) none), width := 0 * 256, commander := snd.commander, origin := .object }] })) ∧
  (∀ (s : State) (snd : Sender) (cell : Fin 320) (instant : BitVec 64) (fraction : Byte) (p : Placement),
    s.admits snd.who (writeReq snd (0x3000 + cell.val) 20 (outRecord instant.toNat fraction 5 0)) →
    s.cellRefusal cell.val (outRecord instant.toNat fraction 5 0) snd.commander none = none →
    (s.cell cell.val).placements = [p] →
    p.origin = .object →
    Answers (.outCmdCancel cell snd instant fraction) s snd.who (writeReq snd (0x3000 + cell.val) 20 (outRecord instant.toNat fraction 5 0)) stDone [] [Obj.lastResult cell.val] [.fc] (fun u =>
      u.cell cell.val = { s.cell cell.val with placements := [] } ∧ u.obj (Obj.lastResult cell.val) = stHeldStatus)) ∧
  (∀ (s : State) (cell : Fin 320) (p : Placement),
    s.rst.coreOn = true →
    (s.cell cell.val).placements = [p] →
    p.trailing = none →
    p.action < 2 →
    p.origin = .object →
    p.commander = s.holderNow →
    s.holderNow ≠ 0 →
    s.governed cell.val = false →
    s.cellFlag cell.val csBankFault = false →
    Does (.outputPlacement cell) s [Obj.cellState cell.val, Obj.edges cell.val, Obj.placeShifted cell.val, Obj.lastResult cell.val] [.fc, .time] (fun u =>
      (u.cell cell.val).driven = some (p.action == 1) ∧ (u.cell cell.val).placements = [] ∧ (u.cell cell.val).parked = false ∧
        u.cellFlag cell.val csSafe = false ∧ u.cellFlag cell.val csHold = false ∧ u.obj (Obj.lastResult cell.val) = stDone ∧
        p.ball ≤ u.now256)) ∧
  (∀ (s : State) (cell : Fin 320) (p : Placement) (t : Nat),
    s.rst.coreOn = true →
    (s.cell cell.val).placements = [p] →
    p.trailing = some t →
    p.origin = .object →
    p.cut = false →
    s.governed cell.val = false →
    s.cellFlag cell.val csBankFault = false →
    Does (.pulseTrailingEdge cell) s [Obj.cellState cell.val, Obj.edges cell.val, Obj.placeShifted cell.val, Obj.lastResult cell.val] [.fc, .time] (fun u =>
      (u.cell cell.val).driven = some (p.action == 3) ∧ (u.cell cell.val).placements = [] ∧ u.obj (Obj.lastResult cell.val) = stDone ∧
        t ≤ u.now256))

/-- A read-back that differs for 1 µs sets OUT_MISMATCH and is counted, once until it is cleared (R228); a bank out of its band is in fault,
its cells high-impedance (R219), the fault is lasting after 1 s, and one whose supply is back in its band within that second ends and is
counted (R219); the hold policy holds an output whose holder is gone (R230); a governed output beyond its event budget is cut to the
inactive level, counted and logged (R232, R234); a bucket boundary makes GOV_WINDOW follow the window (R233); GOV_RESET clears GOV_CUT
(R234). -/
def Obligations.OutputsAndBanks : Prop :=
  (∀ (s : State) (cell : Fin 320) (l : Bool),
    s.rst.coreOn = true →
    (s.cell cell.val).driven = some l →
    s.obj (Obj.cellMode cell.val) = 2 →
    s.cellFlag cell.val csMismatch = false →
    s.levelNow cell.val = !l →
    Does (.outMismatch cell) s [Obj.cellState cell.val, Obj.cellMismatches cell.val] [.time] (fun u =>
      u.cellFlag cell.val csMismatch = true ∧ u.obj (Obj.cellMismatches cell.val) = (s.obj (Obj.cellMismatches cell.val) + 1) % 2 ^ 32 ∧
        u.levelNow cell.val = !l ∧ (s.cell cell.val).ballAt + us * 256 ≤ u.now256 ∧ (∀ t, (s.cell cell.val).lastTransition = some t →
        t + 25600 + us * 256 ≤ u.now256))) ∧
  (∀ (s : State) (cell : Fin 320) (l : Bool),
    s.rst.coreOn = true →
    (s.cell cell.val).driven = some l →
    s.obj (Obj.cellMode cell.val) = 2 →
    s.cellFlag cell.val csMismatch = false →
    s.levelNow cell.val = l →
    s.captures cell.val = false →
    Does (.outMismatch cell) s [Obj.cellState cell.val, Obj.cellMismatches cell.val] [.fc, .time] (fun u =>
      u.cellFlag cell.val csMismatch = true ∧ u.obj (Obj.cellMismatches cell.val) = (s.obj (Obj.cellMismatches cell.val) + 1) % 2 ^ 32 ∧
        u.levelNow cell.val = !l ∧ s.now256 + us * 256 ≤ u.now256)) ∧
  (∀ (s : State) (cell : Fin 320) (l : Bool),
    s.rst.coreOn = true →
    (s.cell cell.val).driven = some l →
    s.obj (Obj.cellMode cell.val) = 2 →
    s.cellFlag cell.val csMismatch = true →
    Does (.outMismatch cell) s [] [] (fun u =>
      u = s)) ∧
  (∀ (s : State) (bank : Fin 8) (mv : BitVec 16),
    s.rst.coreOn = true →
    s.obj (Obj.bankVolt bank.val) ≠ 0 →
    s.obj (Obj.bankState bank.val) < 2 →
    s.inBand bank.val mv.toNat = false →
    Does (.bankFault bank mv) s (Obj.vioMv bank.val :: Obj.bankState bank.val :: (bankCells bank.val).map Obj.cellState ++ (bankCells bank.val).map Obj.placeShifted) [.fc] (fun u =>
      u.obj (Obj.vioMv bank.val) = mv.toNat ∧ u.obj (Obj.bankState bank.val) = 2 ∧
        (∀ n ∈ bankCells bank.val, u.cellFlag n csBankFault = true ∧ (u.cell n).driven = none))) ∧
  (∀ (s : State) (bank : Fin 8),
    s.rst.coreOn = true →
    s.obj (Obj.bankState bank.val) = 2 →
    Does (.bankFaultLasting bank) s [Obj.bankState bank.val, Obj.vgNextSeq] (.time :: logParts) (fun u =>
      u.obj (Obj.bankState bank.val) = 3 ∧ u.faultOpen (0x3200 + bank.val) 6 bank.val = true)) ∧
  (∀ (s : State) (bank : Fin 8) (mv : BitVec 16),
    s.rst.coreOn = true →
    s.obj (Obj.bankState bank.val) = 2 →
    s.inBand bank.val mv.toNat = true →
    s.now ≤ sparseGet (fun _ => 0) s.fc.bankSince bank.val + sec →
    Does (.bankSupplyReturn bank mv) s (Obj.vioMv bank.val :: Obj.bankState bank.val :: Obj.bankFaults bank.val :: Obj.vgNextSeq :: (bankCells bank.val).map Obj.cellState ++ (bankCells bank.val).map Obj.placeShifted ++ (bankCells bank.val).map Obj.edges) [.fc, .vgHead, .vgMain] (fun u =>
      u.obj (Obj.vioMv bank.val) = mv.toNat ∧ u.obj (Obj.bankState bank.val) = 1 ∧
        u.obj (Obj.bankFaults bank.val) = (s.obj (Obj.bankFaults bank.val) + 1) % 2 ^ 32 ∧
        (∀ n ∈ bankCells bank.val, u.cellFlag n csBankFault = false))) ∧
  (∀ (s : State) (cell : Fin 320),
    s.rst.coreOn = true →
    s.serving = true →
    s.holding = false →
    s.fabricOutput cell.val = true →
    s.liveCommanders = [] →
    s.frozen = false →
    s.obj (Obj.cellMissed cell.val) ≤ s.ring.sinceNoClaim →
    s.obj (Obj.holdPolicy cell.val) = 0 →
    Does (.cellHoldPolicy cell) s [Obj.cellState cell.val] [] (fun u =>
      (s.cellFlag cell.val csSafe = false → u.cellFlag cell.val csHold = true) ∧ (s.cellFlag cell.val csSafe = true →
        u.obj (Obj.cellState cell.val) = s.obj (Obj.cellState cell.val)))) ∧
  (∀ (s : State) (cell : Fin 320) (c : Cell),
    s.rst.coreOn = true →
    s.fc.cells = [(cell.val, c)] →
    s.governed cell.val = true →
    c.driven = some (s.activeLevel cell.val) →
    s.cellFlag cell.val csBankFault = false →
    s.obj (Obj.eventBudget cell.val) ≠ 0 →
    s.obj (Obj.eventBudget cell.val) * 1000 < c.eventPj / 1000 →
    Does .govCheck s [Obj.cellState cell.val, Obj.govCuts cell.val, Obj.edges cell.val, Obj.placeShifted cell.val, Obj.vgNextSeq] [.fc, .time, .vgHead, .vgMain] (fun u =>
      (u.cell cell.val).driven = some (!s.activeLevel cell.val) ∧ u.cellFlag cell.val csGovCut = true ∧
        u.obj (Obj.govCuts cell.val) = (s.obj (Obj.govCuts cell.val) + 1) % 2 ^ 32 ∧ s.now < u.now)) ∧
  (∀ (s : State) (cell : Fin 320),
    s.rst.coreOn = true →
    s.governed cell.val = true →
    (s.cell cell.val).driven ≠ some (s.activeLevel cell.val) →
    Does (.bucketRoll cell) s [Obj.cellState cell.val] [.fc, .time] (fun u =>
      s.now < u.now ∧ u.cellFlag cell.val csGovWindow = (s.obj (Obj.windowBudget cell.val) != 0 && s.obj (Obj.windowBudget cell.val) * 1000 ≤ u.windowNj cell.val))) ∧
  (∀ (s : State) (snd : Sender) (cell : Fin 320),
    s.admits snd.who (writeReq snd (0x3000 + cell.val) 21 [1]) →
    Answers (.govReset cell snd) s snd.who (writeReq snd (0x3000 + cell.val) 21 [1]) stDone [] [Obj.cellState cell.val] [] (fun u =>
      u.cellFlag cell.val csGovCut = false ∧ (∀ i, i < 8 → i ≠ csGovCut → u.cellFlag cell.val i = s.cellFlag cell.val i)))

/-- In a clock the first true slot is taken whole: its actions are performed, the state becomes NEXT and the transition is counted (R247,
R249); with no true slot a state that sleeps sleeps (R257); a queued pin action is placed at its time (R251); a compare fires and wakes
(R252), a wake source restarts the clock (R257), and a stall ends once its cause is gone (R253) or is counted once it is long (R253). -/
def Obligations.EngineClock : Prop :=
  (∀ (s : State) (engine : Fin 64) (w : Nat) (sw : Nat) (t : State),
    s.rst.coreOn = true →
    s.engClocked engine.val = true →
    sw = stateWord (s.prog engine.val) (s.obj (Obj.curState engine.val)) →
    t = ({ s with time := s.time + 5 * 2 ^ 39 } : State).setEngine engine.val { s.engine engine.val with wake := false } →
    ((List.range (bits sw 59 56)).map (fun i => slotWord (s.prog engine.val) (bits sw 40 32 + i))).find? (t.slotTrue engine.val) = some w →
    bits w 35 32 = 0 →
    Does (.engineTransition engine) s [Obj.curState engine.val, Obj.transitions engine.val] [.eng, .time, .blobs] (fun u =>
      u.obj (Obj.curState engine.val) = bits w 45 39 ∧
        u.obj (Obj.transitions engine.val) = (s.obj (Obj.transitions engine.val) + 1) % 2 ^ 64 ∧ u.time = s.time + 5 * 2 ^ 39)) ∧
  (∀ (s : State) (engine : Fin 64) (w : Nat) (sw : Nat) (t : State) (x : Nat),
    s.rst.coreOn = true →
    s.engClocked engine.val = true →
    sw = stateWord (s.prog engine.val) (s.obj (Obj.curState engine.val)) →
    t = ({ s with time := s.time + 5 * 2 ^ 39 } : State).setEngine engine.val { s.engine engine.val with wake := false } →
    ((List.range (bits sw 59 56)).map (fun i => slotWord (s.prog engine.val) (bits sw 40 32 + i))).find? (t.slotTrue engine.val) = some w →
    bits w 35 32 = 1 →
    x = actionWord (s.prog engine.val) (bits w 31 22) →
    actOp x = 0x2C →
    actBase x = 0 →
    actOffset x = 0 →
    Does (.engineTransition engine) s [Obj.curState engine.val, Obj.transitions engine.val, Obj.engFlags engine.val] [.eng, .time, .blobs] (fun u =>
      u.obj (Obj.curState engine.val) = bits w 45 39 ∧
        u.obj (Obj.transitions engine.val) = (s.obj (Obj.transitions engine.val) + 1) % 2 ^ 64 ∧ u.time = s.time + 5 * 2 ^ 39 ∧
        u.flag (Obj.engFlags engine.val) (actArg x) = true)) ∧
  (∀ (s : State) (engine : Fin 64) (sw : Nat),
    s.rst.coreOn = true →
    s.engClocked engine.val = true →
    sw = stateWord (s.prog engine.val) (s.obj (Obj.curState engine.val)) →
    bits sw 59 56 = 0 →
    (s.engine engine.val).queue = [] →
    Does (.engineTransition engine) s [] [.eng, .time] (fun u =>
      u.engine engine.val = { s.engine engine.val with wake := false, asleep := true } ∧ u.time = s.time + 5 * 2 ^ 39)) ∧
  (∀ (s : State) (engine : Fin 64) (tm : Nat) (w : Nat) (c : Nat),
    s.rst.coreOn = true →
    s.engMay engine.val = true →
    (s.engine engine.val).running = true →
    s.obj (Obj.stallReason engine.val) = 0 →
    (s.engine engine.val).queue = [(tm, w)] →
    actOp w = 2 →
    c = s.pinCell engine.val (actArg w) →
    c < 320 →
    s.obj (Obj.cellMode c) = 2 →
    s.governed c = false →
    s.cellFlag c csBankFault = false →
    Does (.queuedActionDue engine) s [Obj.cellState c, Obj.edges c, Obj.placeShifted c] [.eng, .fc, .time] (fun u =>
      (u.engine engine.val).queue = [] ∧ (u.cell c).driven = some true ∧ u.cellFlag c csSafe = false ∧ tm ≤ u.now256)) ∧
  (∀ (s : State) (engine : Fin 64) (compare : Fin 2) (c : Compare),
    s.rst.coreOn = true →
    s.engMay engine.val = true →
    (s.engine engine.val).running = true →
    s.obj (Obj.stallReason engine.val) = 0 →
    c = (if compare.val = 0 then (s.engine engine.val).tc0 else (s.engine engine.val).tc1) →
    c.armed = true →
    c.fired = false →
    Does (.compareFire engine compare) s [] [.eng, .time] (fun u =>
      u.engine engine.val = (if compare.val = 0 then { s.engine engine.val with tc0 := { c with fired := true }, wake := true } else { s.engine engine.val with tc1 := { c with fired := true }, wake := true }) ∧
        c.time ≤ u.now256)) ∧
  (∀ (s : State) (engine : Fin 64),
    s.rst.coreOn = true →
    (s.engine engine.val).running = true →
    (s.engine engine.val).asleep = true →
    (s.engine engine.val).wake = true →
    Does (.engineWake engine) s [] [.eng] (fun u =>
      u.engine engine.val = { s.engine engine.val with asleep := false, wake := false })) ∧
  (∀ (s : State) (engine : Fin 64),
    s.rst.coreOn = true →
    s.obj (Obj.stallReason engine.val) ≠ 0 →
    (s.engine engine.val).stallEnded = true →
    Does (.stallEnd engine) s [Obj.stallReason engine.val] [.eng] (fun u =>
      u.obj (Obj.stallReason engine.val) = 0 ∧ u.engine engine.val = { s.engine engine.val with wake := true })) ∧
  (∀ (s : State) (engine : Fin 64),
    s.rst.coreOn = true →
    s.obj (Obj.stallReason engine.val) ≠ 0 →
    s.obj (Obj.stallLimit engine.val) ≠ 0 →
    (s.engine engine.val).longCounted = false →
    Does (.longStall engine) s [Obj.longStalls engine.val, Obj.vgNextSeq] [.eng, .time, .vgHead, .vgMain] (fun u =>
      u.obj (Obj.longStalls engine.val) = (s.obj (Obj.longStalls engine.val) + 1) % 2 ^ 32 ∧ (u.engine engine.val).longCounted = true ∧
        (s.engine engine.val).stalledAt + s.obj (Obj.stallLimit engine.val) * us < u.now))

/-- A shift ends with its last bit: the bit sampled enters SH_IN, SH_OUT moves on and the shifter is idle (R254); at an AUTO word boundary
SH_IN is pushed, and the next word popped into SH_OUT (R255); a shifter that stalled at its end makes its push once it can (R255). -/
def Obligations.Shifter : Prop :=
  (∀ (s : State) (engine : Fin 64) (sampled : BitVec 32) (h : Shift),
    s.rst.coreOn = true →
    s.engMay engine.val = true →
    (s.engine engine.val).shift = some h →
    h.left = 1 →
    h.stalled = false →
    progAuto (s.prog engine.val) = false →
    progMsb (s.prog engine.val) = true →
    progOutPin (s.prog engine.val) = 15 →
    progClkPin (s.prog engine.val) = 15 →
    Does (.shiftEnd engine sampled) s [Obj.shOut engine.val, Obj.shIn engine.val, Obj.shLeft engine.val] [.eng, .time] (fun u =>
      (u.engine engine.val).shift = none ∧ (u.engine engine.val).wake = true ∧ u.obj (Obj.shLeft engine.val) = 0 ∧
        u.obj (Obj.shOut engine.val) = s.obj (Obj.shOut engine.val) * 2 % 2 ^ progWidth (s.prog engine.val) ∧
        u.obj (Obj.shIn engine.val) = (s.obj (Obj.shIn engine.val) * 2 + ofBool (sampled.toNat.testBit 0)) % 2 ^ progWidth (s.prog engine.val) ∧
        h.start + progPeriod (s.prog engine.val) * 64 ≤ u.now256)) ∧
  (∀ (s : State) (engine : Fin 64) (sampled : BitVec 32) (h : Shift) (x : Nat) (r : List Nat),
    s.rst.coreOn = true →
    s.engMay engine.val = true →
    (s.engine engine.val).shift = some h →
    1 < h.left →
    progWidth (s.prog engine.val) - h.done % progWidth (s.prog engine.val) = 1 →
    h.stalled = false →
    progAuto (s.prog engine.val) = true →
    progMsb (s.prog engine.val) = true →
    progOutPin (s.prog engine.val) = 15 →
    progClkPin (s.prog engine.val) = 15 →
    (s.fifo engine.val).rx = x :: r →
    (s.fifo engine.val).opened.length < 511 →
    1 ≤ (s.fifo engine.val).txCredit →
    s.obj (Obj.txHwm engine.val) = 0 →
    s.obj (Obj.rxHwm engine.val) = 0 →
    s.obj (Obj.fifoFlags engine.val) % 4 = 0 →
    Does (.shifterBoundary engine sampled) s [Obj.shOut engine.val, Obj.shIn engine.val, Obj.shLeft engine.val, Obj.fifoFlags engine.val] [.eng, .time] (fun u =>
      (u.engine engine.val).shift = some { start := h.start + progPeriod (s.prog engine.val) * 64, left := h.left - 1, done := h.done + 1 } ∧
        u.obj (Obj.shLeft engine.val) = h.left - 1 ∧ u.obj (Obj.shOut engine.val) = x % 2 ^ progWidth (s.prog engine.val) ∧
        u.obj (Obj.shIn engine.val) = 0 ∧ (u.fifo engine.val).rx = r ∧
        (u.fifo engine.val).opened = (s.fifo engine.val).opened ++ [(s.obj (Obj.shIn engine.val) * 2 + ofBool (sampled.toNat.testBit 0)) % 2 ^ progWidth (s.prog engine.val)])) ∧
  (∀ (s : State) (engine : Fin 64) (h : Shift),
    s.rst.coreOn = true →
    s.engMay engine.val = true →
    (s.engine engine.val).shift = some h →
    h.left = 0 →
    h.stalled = true →
    progAuto (s.prog engine.val) = true →
    (s.fifo engine.val).opened.length < 511 →
    1 ≤ (s.fifo engine.val).txCredit →
    s.obj (Obj.txHwm engine.val) = 0 →
    s.obj (Obj.rxHwm engine.val) = 0 →
    s.obj (Obj.fifoFlags engine.val) % 4 = 0 →
    Does (.shifterResume engine) s [Obj.fifoFlags engine.val] [.eng] (fun u =>
      (u.engine engine.val).shift = none ∧ (u.engine engine.val).wake = true ∧
        (u.fifo engine.val).opened = (s.fifo engine.val).opened ++ [s.obj (Obj.shIn engine.val)])) ∧
  (∀ (s : State) (engine : Fin 64) (h : Shift),
    s.rst.coreOn = true →
    s.engMay engine.val = true →
    (s.engine engine.val).shift = some h →
    h.left ≠ 0 →
    h.stalled = true →
    progAuto (s.prog engine.val) = true →
    (s.fifo engine.val).txCredit < 1 →
    Does (.shifterResume engine) s [] [] (fun u =>
      u = s))

/-- An engine whose running conditions have become true starts at ENTRY with its counters reloaded, and one whose conditions have gone stops
with its owned outputs at SAFE_VALUE (R258); an armed swap makes the waiting program the active one at ENTRY (R260), a forced one is counted
and recorded (R262, R264); ENG_CMD forces the armed swap or restarts the engine, with an abort record (R258, R261, R264); CLEAR sets the
counters of an engine to 0 (R267). -/
def Obligations.EngineStartsAndSwaps : Prop :=
  (∀ (s : State) (engine : Fin 64),
    s.rst.coreOn = true →
    s.engMay engine.val = true →
    (s.engine engine.val).running = false →
    Does (.engineStart engine) s ([Obj.curState engine.val, Obj.engFlags engine.val, Obj.engPub engine.val, Obj.engCounter engine.val 0, Obj.engCounter engine.val 1, Obj.engCounter engine.val 2, Obj.engCounter engine.val 3, Obj.shOut engine.val, Obj.shIn engine.val, Obj.shLeft engine.val, Obj.stallReason engine.val, Obj.govRefused engine.val] ++ ((s.enginePins engine.val).flatMap (fun x => [Obj.cellState x.2, Obj.edges x.2, Obj.placeShifted x.2]))) [.eng, .fc] (fun u =>
      (u.engine engine.val).running = true ∧ (u.engine engine.val).queue = [] ∧ (u.engine engine.val).shift = none ∧
        u.obj (Obj.curState engine.val) = progEntry (s.prog engine.val) ∧
        u.obj (Obj.engCounter engine.val 0) = progReload (s.prog engine.val) 0 ∧
        u.obj (Obj.engCounter engine.val 1) = progReload (s.prog engine.val) 1 ∧
        u.obj (Obj.engCounter engine.val 2) = progReload (s.prog engine.val) 2 ∧
        u.obj (Obj.engCounter engine.val 3) = progReload (s.prog engine.val) 3 ∧ u.obj (Obj.engFlags engine.val) = 0 ∧
        u.obj (Obj.stallReason engine.val) = 0)) ∧
  (∀ (s : State) (engine : Fin 64),
    s.rst.coreOn = true →
    s.engMay engine.val = false →
    (s.engine engine.val).running = true →
    s.swapArmed engine.val = false →
    s.obj Obj.powerState ≠ 2 →
    Does (.engineStop engine) s ([Obj.shOut engine.val, Obj.shIn engine.val, Obj.shLeft engine.val, Obj.stallReason engine.val] ++ (((List.range 320).filter (fun c => s.obj (Obj.cellMode c) == 2 && s.obj (Obj.cellOwner c) == engine.val && c ≠ s.obj (Obj.txFcCell engine.val) && c ≠ s.obj (Obj.rxFcCell engine.val))).flatMap (fun c => [Obj.cellState c, Obj.edges c, Obj.placeShifted c]))) [.eng, .fc, .blobs] (fun u =>
      (u.engine engine.val).running = false ∧ (u.engine engine.val).queue = [] ∧ (u.engine engine.val).shift = none ∧
        u.obj (Obj.stallReason engine.val) = 0 ∧ (∀ c, c < 320 ∧ s.obj (Obj.cellMode c) = 2 ∧ s.obj (Obj.cellOwner c) = engine.val ∧
        c ≠ s.obj (Obj.txFcCell engine.val) ∧ c ≠ s.obj (Obj.rxFcCell engine.val) → u.cellFlag c csSafe = true))) ∧
  (∀ (s : State) (engine : Fin 64) (p : List Byte),
    s.rst.coreOn = true →
    s.dict.waiting = [(Obj.engProgram engine.val, p)] →
    (s.engine engine.val).running = false →
    Does (.mordantSwap engine) s [Obj.curState engine.val, Obj.swapState engine.val, Obj.stallReason engine.val] [.eng, .blobs, .dict] (fun u =>
      u.prog engine.val = p ∧ u.dict.waiting = [] ∧ u.obj (Obj.curState engine.val) = progEntry p ∧ u.obj (Obj.swapState engine.val) = 3)) ∧
  (∀ (s : State) (engine : Fin 64) (p : List Byte),
    s.rst.coreOn = true →
    s.dict.waiting = [(Obj.engProgram engine.val, p)] →
    p ≠ [] →
    (s.engine engine.val).running = true →
    s.obj (Obj.swapMode engine.val) = 1 →
    s.atMordant engine.val = false →
    Does (.forcedSwap engine) s ([Obj.curState engine.val, Obj.swapState engine.val, Obj.stallReason engine.val, Obj.shOut engine.val, Obj.shIn engine.val, Obj.shLeft engine.val, Obj.aborts, Obj.vgNextSeq, Obj.govRefused engine.val] ++ ((s.enginePins engine.val).flatMap (fun x => [Obj.cellState x.2, Obj.edges x.2, Obj.placeShifted x.2]))) [.eng, .fc, .blobs, .dict, .vgHead, .vgMain] (fun u =>
      u.prog engine.val = p ∧ u.dict.waiting = [] ∧ u.obj (Obj.curState engine.val) = progEntry p ∧ u.obj (Obj.swapState engine.val) = 4 ∧
        u.obj Obj.aborts = (s.obj Obj.aborts + 1) % 2 ^ 32 ∧ (u.engine engine.val).queue = [] ∧ (u.engine engine.val).shift = none ∧
        (u.engine engine.val).running = true ∧ leAt (u.blob (Obj.abortRecord engine.val)) 8 1 = 1)) ∧
  (∀ (s : State) (snd : Sender) (engine : Fin 64) (p : List Byte),
    s.admits snd.who (writeReq snd (0x4100 + engine.val) 5 [1]) →
    s.dict.waiting = [(Obj.engProgram engine.val, p)] →
    p ≠ [] →
    (s.engine engine.val).running = true →
    Answers (.engCmdForcedSwap snd engine) s snd.who (writeReq snd (0x4100 + engine.val) 5 [1]) stDone [] ([Obj.curState engine.val, Obj.swapState engine.val, Obj.stallReason engine.val, Obj.shOut engine.val, Obj.shIn engine.val, Obj.shLeft engine.val, Obj.aborts, Obj.vgNextSeq, Obj.govRefused engine.val] ++ ((s.enginePins engine.val).flatMap (fun x => [Obj.cellState x.2, Obj.edges x.2, Obj.placeShifted x.2]))) [.eng, .fc, .blobs, .dict, .vgHead, .vgMain] (fun u =>
      u.prog engine.val = p ∧ u.dict.waiting = [] ∧ u.obj (Obj.curState engine.val) = progEntry p ∧ u.obj (Obj.swapState engine.val) = 4 ∧
        u.obj Obj.aborts = (s.obj Obj.aborts + 1) % 2 ^ 32 ∧ (u.engine engine.val).queue = [] ∧ (u.engine engine.val).shift = none ∧
        (u.engine engine.val).running = true ∧ leAt (u.blob (Obj.abortRecord engine.val)) 8 1 = 1)) ∧
  (∀ (s : State) (snd : Sender) (engine : Fin 64),
    s.admits snd.who (writeReq snd (0x4100 + engine.val) 5 [2]) →
    s.engMay engine.val = true →
    (s.fifo engine.val).opened = [] →
    Answers (.engCmdLocalReset snd engine) s snd.who (writeReq snd (0x4100 + engine.val) 5 [2]) stDone [] ([Obj.curState engine.val, Obj.engFlags engine.val, Obj.engPub engine.val, Obj.engCounter engine.val 0, Obj.engCounter engine.val 1, Obj.engCounter engine.val 2, Obj.engCounter engine.val 3, Obj.shOut engine.val, Obj.shIn engine.val, Obj.shLeft engine.val, Obj.stallReason engine.val, Obj.govRefused engine.val] ++ ((s.enginePins engine.val).flatMap (fun x => [Obj.cellState x.2, Obj.edges x.2, Obj.placeShifted x.2]))) [.eng, .fc, .blobs] (fun u =>
      (u.engine engine.val).running = true ∧ (u.engine engine.val).queue = [] ∧ (u.engine engine.val).shift = none ∧
        u.obj (Obj.curState engine.val) = progEntry (s.prog engine.val) ∧
        u.obj (Obj.engCounter engine.val 0) = progReload (s.prog engine.val) 0 ∧
        u.obj (Obj.engCounter engine.val 1) = progReload (s.prog engine.val) 1 ∧
        u.obj (Obj.engCounter engine.val 2) = progReload (s.prog engine.val) 2 ∧
        u.obj (Obj.engCounter engine.val 3) = progReload (s.prog engine.val) 3 ∧ u.obj (Obj.engFlags engine.val) = 0 ∧
        u.obj (Obj.stallReason engine.val) = 0 ∧ leAt (u.blob (Obj.abortRecord engine.val)) 8 1 = 2)) ∧
  (∀ (s : State) (snd : Sender) (engine : Fin 64),
    s.admits snd.who (writeReq snd (0x4100 + engine.val) 28 [0]) →
    Answers (.engineCountersClear snd engine) s snd.who (writeReq snd (0x4100 + engine.val) 28 [0]) stDone [] [Obj.transitions engine.val, Obj.stalls engine.val, Obj.longStalls engine.val, Obj.lateActions engine.val, Obj.govRefused engine.val] [] (fun u =>
      ([Obj.transitions engine.val, Obj.stalls engine.val, Obj.longStalls engine.val, Obj.lateActions engine.val, Obj.govRefused engine.val]).all (fun k => u.obj k == 0) = true))

/-- A closed message of class 3 is offered to the switch as one frame to its destination (R271); a read of TX_POLL takes one word, with its
tag (R273); a reservation is granted once the words fit (R275), and the words of a reserved write enter whole and complete it (R274);
FIFO_CMD empties what it names, and counts an open message that it discards (R280); CLEAR sets the counters to 0 (R281). -/
def Obligations.EngineFifos : Prop :=
  (∀ (s : State) (engine : Fin 64) (selfCheck : Fin 3) (m : TxMessage) (fr : Frame),
    s.rst.coreOn = true →
    s.obj (Obj.txMode engine.val) = 0 →
    (s.fifo engine.val).closed = [m] →
    m.offered = false →
    s.streamOf 4 engine.val 0 = none →
    fr = s.txFrame engine.val m →
    fr.cls = 3 →
    fr.dst ≠ s.ownId →
    s.reaches fr.dst = true →
    s.obj (Obj.txHwm engine.val) = 0 →
    s.obj (Obj.rxHwm engine.val) = 0 →
    s.obj (Obj.fifoFlags engine.val) % 4 = 0 →
    Does (.engineFrameOffer engine selfCheck) s [Obj.fifoFlags engine.val] [.eng, .acc, .sw] (fun u =>
      (u.fifo engine.val).closed = [{ m with offered := true, no := s.acc.issueNo }] ∧
        (u.fifo engine.val).sentBytes = (s.fifo engine.val).sentBytes + 4 * m.words.length ∧
        u.sw.entering = s.sw.entering ++ [{ port := portEngines, cls := 3, packet := .ring fr, engine := some engine.val, message := s.acc.issueNo }])) ∧
  (∀ (s : State) (snd : Sender) (engine : Fin 64) (m : TxMessage) (q : List TxMessage) (w : Nat) (v : Nat),
    s.admits snd.who (readReq snd (0x4200 + engine.val) 20) →
    s.obj (Obj.txMode engine.val) ≠ 0 →
    (s.fifo engine.val).closed = m :: q →
    m.words = [w] →
    v = w + sumOf (q.map (·.words.length)) * 2 ^ 32 + 2 ^ 48 + 2 ^ 49 →
    s.obj (Obj.txHwm engine.val) = 0 →
    s.obj (Obj.rxHwm engine.val) = 0 →
    s.obj (Obj.fifoFlags engine.val) % 4 = 0 →
    Answers (.txPoll snd engine) s snd.who (readReq snd (0x4200 + engine.val) 20) stDone (leBytes 8 v) [Obj.fifoFlags engine.val, Obj.fifoTxFrames engine.val] [.eng] (fun u =>
      (u.fifo engine.val).closed = q ∧ (u.engine engine.val).wake = true ∧
        u.obj (Obj.fifoTxFrames engine.val) = (s.obj (Obj.fifoTxFrames engine.val) + 1) % 2 ^ 32)) ∧
  (∀ (s : State) (engine : Fin 64) (w : FifoWrite) (r : List FifoWrite) (t : Nat) (fr : Frame) (o : Offered) (q : List Offered),
    s.rst.coreOn = true →
    (s.fifo engine.val).requests = w :: r →
    w.source = .block (.window t) fr →
    w.words.length ≤ (s.fifo engine.val).rxFree →
    s.sw.held = [] →
    s.sw.entering = o :: q →
    o.unreserved = true →
    o.packet = .ring fr →
    s.obj (Obj.txHwm engine.val) = 0 →
    s.obj (Obj.rxHwm engine.val) = 0 →
    s.obj (Obj.fifoFlags engine.val) % 4 = 0 →
    Does (.reservationGrant engine) s [Obj.fifoFlags engine.val] [.eng, .sw] (fun u =>
      (u.fifo engine.val).requests = r ∧ (u.fifo engine.val).granted = (s.fifo engine.val).granted ++ [w] ∧
        u.sw.entering = { o with unreserved := false } :: q)) ∧
  (∀ (s : State) (engine : Fin 64) (w : FifoWrite) (r : List FifoWrite) (i : Issuer) (fr : Frame),
    s.rst.coreOn = true →
    (s.fifo engine.val).granted = w :: r →
    w.source = .block i fr →
    s.inSwitch fr = false →
    s.sw.inbox = [] →
    s.obj (Obj.txHwm engine.val) = 0 →
    s.obj (Obj.rxHwm engine.val) = 0 →
    s.obj (Obj.fifoFlags engine.val) % 4 = 0 →
    Does (.rxWordsArrive engine) s [Obj.fifoFlags engine.val] [.eng, .acc] (fun u =>
      (u.fifo engine.val).granted = r ∧ (u.fifo engine.val).rx = (s.fifo engine.val).rx ++ w.words ∧ (u.engine engine.val).wake = true ∧
        u.acc.completions = s.acc.completions ++ [{ issuer := i, seq := 0, status := stDone }])) ∧
  (∀ (s : State) (snd : Sender) (engine : Fin 64),
    s.admits snd.who (writeReq snd (0x4200 + engine.val) 21 [1]) →
    s.obj (Obj.txHwm engine.val) = 0 →
    s.obj (Obj.rxHwm engine.val) = 0 →
    s.obj (Obj.fifoFlags engine.val) % 4 = 0 →
    Answers (.fifoFlushRx snd engine) s snd.who (writeReq snd (0x4200 + engine.val) 21 [1]) stDone [] [Obj.fifoFlags engine.val] [.eng] (fun u =>
      u.fifo engine.val = { s.fifo engine.val with rx := [] })) ∧
  (∀ (s : State) (snd : Sender) (engine : Fin 64),
    s.admits snd.who (writeReq snd (0x4200 + engine.val) 21 [2]) →
    (s.fifo engine.val).opened ≠ [] →
    s.obj (Obj.txHwm engine.val) = 0 →
    s.obj (Obj.rxHwm engine.val) = 0 →
    s.obj (Obj.fifoFlags engine.val) % 4 = 0 →
    Answers (.fifoFlushTx snd engine) s snd.who (writeReq snd (0x4200 + engine.val) 21 [2]) stDone [] [Obj.fifoFlags engine.val, Obj.openDiscards engine.val] [.eng] (fun u =>
      u.fifo engine.val = { s.fifo engine.val with opened := [], closed := [] } ∧
        u.obj (Obj.openDiscards engine.val) = (s.obj (Obj.openDiscards engine.val) + 1) % 2 ^ 32 ∧ (u.engine engine.val).wake = true)) ∧
  (∀ (s : State) (snd : Sender) (engine : Fin 64),
    s.admits snd.who (writeReq snd (0x4200 + engine.val) 21 [3]) →
    (s.fifo engine.val).opened ≠ [] →
    s.obj (Obj.txHwm engine.val) = 0 →
    s.obj (Obj.rxHwm engine.val) = 0 →
    s.obj (Obj.fifoFlags engine.val) % 4 = 0 →
    Answers (.fifoFlushBoth snd engine) s snd.who (writeReq snd (0x4200 + engine.val) 21 [3]) stDone [] [Obj.fifoFlags engine.val, Obj.openDiscards engine.val] [.eng] (fun u =>
      u.fifo engine.val = { s.fifo engine.val with rx := [], opened := [], closed := [] } ∧
        u.obj (Obj.openDiscards engine.val) = (s.obj (Obj.openDiscards engine.val) + 1) % 2 ^ 32 ∧ (u.engine engine.val).wake = true)) ∧
  (∀ (s : State) (snd : Sender) (engine : Fin 64),
    s.admits snd.who (writeReq snd (0x4200 + engine.val) 26 [0]) →
    Answers (.fifoCountersClear snd engine) s snd.who (writeReq snd (0x4200 + engine.val) 26 [0]) stDone [] [Obj.fifoTxFrames engine.val, Obj.txFails engine.val, Obj.rxRefused engine.val, Obj.openDiscards engine.val] [] (fun u =>
      ([Obj.fifoTxFrames engine.val, Obj.txFails engine.val, Obj.rxRefused engine.val, Obj.openDiscards engine.val]).all (fun k => u.obj k == 0) = true))

/-- A record that passes its checks enters its FIFO at once, or waits in the schedule list for its TIME and enters then (R289, R290, R291);
a start point offers the head of the urgent FIFO before that of the normal one (R292); a frame sent without error leaves its FIFO, is
counted and sets LAST_TX_TIME (R292); one that loses arbitration stays at the head (R294); TX_HOLD and TX_ABORT discard what they name,
counted (R302, R305). -/
def Obligations.CanTransmit : Prop :=
  (∀ (s : State) (snd : Sender) (controller : Fin 16) (record : List Byte),
    s.admits snd.who (writeReq snd (0x5100 + controller.val) 20 record) →
    s.canRefusal controller.val record snd.commander none = none →
    recTime record ≤ s.now →
    s.canRoom controller.val (recUrgent record) = true →
    Answers (.canTxSubmit snd controller record) s snd.who (writeReq snd (0x5100 + controller.val) 20 record) stDone [] [Obj.canFlags controller.val] [.can] (fun u =>
      u.canFifo controller.val (recUrgent record) = s.canFifo controller.val (recUrgent record) ++ [{ record := record, time := recTime record, commander := snd.commander, origin := .object }] ∧
        (u.canCtl controller.val).schedule = (s.canCtl controller.val).schedule)) ∧
  (∀ (s : State) (controller : Fin 16) (e : CanEntry),
    s.rst.coreOn = true →
    (s.canCtl controller.val).schedule = [e] →
    e.origin = .object →
    e.commander = s.holderNow →
    s.holderNow ≠ 0 →
    s.canRoom controller.val (recUrgent e.record) = true →
    Does (.canScheduleDue controller) s [Obj.canFlags controller.val] [.can, .time] (fun u =>
      u.canFifo controller.val (recUrgent e.record) = s.canFifo controller.val (recUrgent e.record) ++ [e] ∧
        (u.canCtl controller.val).schedule = [] ∧ e.time ≤ u.now)) ∧
  (∀ (s : State) (controller : Fin 16),
    s.rst.coreOn = true →
    s.canOn controller.val = true →
    (s.canCtl controller.val).sending = none →
    s.obj (Obj.canMode controller.val) = 1 →
    (s.canCtl controller.val).urgent ≠ [] →
    Does (.canStartPoint controller) s [] [.can] (fun u =>
      u.canCtl controller.val = { s.canCtl controller.val with sending := some true })) ∧
  (∀ (s : State) (controller : Fin 16),
    s.rst.coreOn = true →
    s.canOn controller.val = true →
    (s.canCtl controller.val).sending = none →
    s.obj (Obj.canMode controller.val) = 1 →
    (s.canCtl controller.val).urgent = [] →
    (s.canCtl controller.val).normal ≠ [] →
    Does (.canStartPoint controller) s [] [.can] (fun u =>
      u.canCtl controller.val = { s.canCtl controller.val with sending := some false })) ∧
  (∀ (s : State) (controller : Fin 16) (sof : Nat) (loopDelay : Nat) (b : Bool) (e : CanEntry) (r : List CanEntry),
    s.rst.coreOn = true →
    (s.canCtl controller.val).sending = some b →
    s.canFifo controller.val b = e :: r →
    recFdf e.record = false →
    (s.canCtl controller.val).offOpen = false →
    s.obj (Obj.canMode controller.val) = 1 →
    Does (.canTxOk controller sof loopDelay) s [Obj.txOk controller.val, Obj.canLastTxTime controller.val, Obj.canTec controller.val, Obj.busState controller.val, Obj.canFlags controller.val] [.can, .out] (fun u =>
      u.canFifo controller.val b = r ∧ u.canFifo controller.val (!b) = s.canFifo controller.val (!b) ∧
        (u.canCtl controller.val).sending = none ∧ u.obj (Obj.txOk controller.val) = (s.obj (Obj.txOk controller.val) + 1) % 2 ^ 32 ∧
        u.obj (Obj.canLastTxTime controller.val) = sof ∧ u.obj (Obj.canTec controller.val) = s.obj (Obj.canTec controller.val) - 1 ∧
        u.out = s.out ++ [.canFrame controller.val e.record])) ∧
  (∀ (s : State) (controller : Fin 16) (error : CanError) (b : Bool),
    s.rst.coreOn = true →
    (s.canCtl controller.val).sending = some b →
    (s.canCtl controller.val).abortHead = false →
    error.kind = 0 →
    Does (.canTxError controller error) s [] [.can] (fun u =>
      (u.canCtl controller.val).sending = none ∧ u.canFifo controller.val true = s.canFifo controller.val true ∧
        u.canFifo controller.val false = s.canFifo controller.val false)) ∧
  (∀ (s : State) (controller : Fin 16),
    s.rst.coreOn = true →
    s.serving = true →
    s.holding = false →
    s.liveCommanders = [] →
    s.frozen = false →
    s.obj (Obj.canTxMissed controller.val) ≤ s.ring.sinceNoClaim →
    s.obj (Obj.canTxHold controller.val) = 1 →
    (∀ e ∈ (s.canCtl controller.val).schedule, e.origin = .object) →
    Does (.canTxHold controller) s [Obj.canTxDiscarded controller.val, Obj.canFlags controller.val, Obj.claimRefusals] [.can] (fun u =>
      u.canFifo controller.val true = [] ∧ u.canFifo controller.val false = [] ∧ (u.canCtl controller.val).schedule = [] ∧
        u.obj (Obj.canTxDiscarded controller.val) = (s.obj (Obj.canTxDiscarded controller.val) + (s.canFifo controller.val true).length + (s.canFifo controller.val false).length + (s.canCtl controller.val).schedule.length) % 2 ^ 32)) ∧
  (∀ (s : State) (snd : Sender) (controller : Fin 16),
    s.admits snd.who (writeReq snd (0x5100 + controller.val) 21 [1]) →
    (s.canCtl controller.val).sending ≠ some true →
    Answers (.canAbortUrgent snd controller) s snd.who (writeReq snd (0x5100 + controller.val) 21 [1]) stDone [] [Obj.canTxDiscarded controller.val, Obj.canFlags controller.val] [.can] (fun u =>
      u.canFifo controller.val true = [] ∧ u.canFifo controller.val (!true) = s.canFifo controller.val (!true) ∧
        u.obj (Obj.canTxDiscarded controller.val) = (s.obj (Obj.canTxDiscarded controller.val) + (s.canFifo controller.val true).length) % 2 ^ 32)) ∧
  (∀ (s : State) (snd : Sender) (controller : Fin 16),
    s.admits snd.who (writeReq snd (0x5100 + controller.val) 21 [2]) →
    (s.canCtl controller.val).sending ≠ some false →
    Answers (.canAbortNormal snd controller) s snd.who (writeReq snd (0x5100 + controller.val) 21 [2]) stDone [] [Obj.canTxDiscarded controller.val, Obj.canFlags controller.val] [.can] (fun u =>
      u.canFifo controller.val false = [] ∧ u.canFifo controller.val (!false) = s.canFifo controller.val (!false) ∧
        u.obj (Obj.canTxDiscarded controller.val) = (s.obj (Obj.canTxDiscarded controller.val) + (s.canFifo controller.val false).length) % 2 ^ 32)) ∧
  (∀ (s : State) (snd : Sender) (controller : Fin 16),
    s.admits snd.who (writeReq snd (0x5100 + controller.val) 21 [4]) →
    (∀ e ∈ (s.canCtl controller.val).schedule, e.origin = .object) →
    Answers (.canAbortSchedule snd controller) s snd.who (writeReq snd (0x5100 + controller.val) 21 [4]) stDone [] [Obj.canTxDiscarded controller.val] [.can] (fun u =>
      u.canCtl controller.val = { s.canCtl controller.val with schedule := [] } ∧
        u.obj (Obj.canTxDiscarded controller.val) = (s.obj (Obj.canTxDiscarded controller.val) + (s.canCtl controller.val).schedule.length) % 2 ^ 32))

/-- A frame received without error that an enabled filter entry sends to the buffer is stored there as a record and counted (R299, R300),
and a read of RX_POLL takes the oldest one (R301); an error in a received frame is counted, REC moves and an error frame goes out (R293);
TEC above 255 is bus-off, which its recovery ends with both counts 0 (R295); a head that stands too long is counted and logged (R296); a
protocol exception makes the controller integrate again, after which its counts say what it is (R298, R303); CAN_CMD and CLEAR (R297, R303,
R306). -/
def Obligations.CanBus : Prop :=
  (∀ (s : State) (controller : Fin 16) (frame : CanFrame) (i : Nat),
    s.rst.coreOn = true →
    s.canOn controller.val = true →
    frame.fdf = false →
    (s.canCtl controller.val).offOpen = false →
    s.obj (Obj.canMode controller.val) = 1 →
    s.obj (Obj.canRec controller.val) ≤ 127 →
    (filterEntries (s.blob (Obj.filters controller.val))).findIdx? (fun w => filterTakes w frame) = some i →
    bits ((filterEntries (s.blob (Obj.filters controller.val))).getD i 0) 59 58 = 1 →
    (s.canCtl controller.val).rx.length < 128 →
    Does (.canFrameRx controller frame) s [Obj.rxOk controller.val, Obj.canRec controller.val, Obj.busState controller.val] [.can, .out] (fun u =>
      u.out = s.out ++ [.canAck controller.val] ∧
        u.canCtl controller.val = { s.canCtl controller.val with rx := (s.canCtl controller.val).rx ++ [rxRecord frame i false (s.canCtl controller.val).lost], lost := false } ∧
        u.obj (Obj.rxOk controller.val) = (s.obj (Obj.rxOk controller.val) + 1) % 2 ^ 32 ∧
        u.obj (Obj.canRec controller.val) = s.obj (Obj.canRec controller.val) - 1)) ∧
  (∀ (s : State) (snd : Sender) (controller : Fin 16) (b : List Byte) (q : List (List Byte)),
    s.admits snd.who (readReq snd (0x5300 + controller.val) 12) →
    (s.canCtl controller.val).rx = b :: q →
    Answers (.canRxPoll snd controller) s snd.who (readReq snd (0x5300 + controller.val) 12) stDone b [] [.can] (fun u =>
      u.canCtl controller.val = { s.canCtl controller.val with rx := q })) ∧
  (∀ (s : State) (controller : Fin 16) (error : CanError),
    s.rst.coreOn = true →
    s.canOn controller.val = true →
    error.kind = 1 →
    s.obj (Obj.canMode controller.val) ≠ 2 →
    Does (.canRxError controller error) s [Obj.stuffErrors controller.val, Obj.lastError controller.val, Obj.canRec controller.val, Obj.busState controller.val] [.out] (fun u =>
      u.obj (Obj.stuffErrors controller.val) = (s.obj (Obj.stuffErrors controller.val) + 1) % 2 ^ 32 ∧
        u.obj (Obj.lastError controller.val) = 1 + 16 * ofBool error.dataPhase ∧
        u.obj (Obj.canRec controller.val) = min 255 (s.obj (Obj.canRec controller.val) + 1 + 8 * error.flagRuns) ∧
        (u.obj (Obj.busState controller.val) = (if 128 ≤ s.obj (Obj.canTec controller.val) ∨ 128 ≤ u.obj (Obj.canRec controller.val) then 3 else 2)) ∧
        u.out = s.out ++ [.canErrorFrame controller.val])) ∧
  (∀ (s : State) (controller : Fin 16),
    s.rst.coreOn = true →
    (s.obj (Obj.busState controller.val) = 2 ∨ s.obj (Obj.busState controller.val) = 3) →
    255 < s.obj (Obj.canTec controller.val) →
    (s.canCtl controller.val).offOpen = false →
    Does (.canBusOff controller) s [Obj.busState controller.val, Obj.busoffCount controller.val] [.can] (fun u =>
      u.obj (Obj.busState controller.val) = 5 ∧
        u.obj (Obj.busoffCount controller.val) = (s.obj (Obj.busoffCount controller.val) + 1) % 2 ^ 32 ∧
        u.canCtl controller.val = { s.canCtl controller.val with sending := none, offOpen := true })) ∧
  (∀ (s : State) (controller : Fin 16),
    s.rst.coreOn = true →
    s.obj (Obj.busState controller.val) = 5 →
    Does (.canBusOffRecovered controller) s [Obj.canTec controller.val, Obj.canRec controller.val, Obj.busState controller.val] [] (fun u =>
      u.obj (Obj.canTec controller.val) = 0 ∧ u.obj (Obj.canRec controller.val) = 0 ∧ u.obj (Obj.busState controller.val) = 2)) ∧
  (∀ (s : State) (controller : Fin 16) (urgent : Bool) (e : CanEntry) (r : List CanEntry),
    s.rst.coreOn = true →
    s.canFifo controller.val urgent = e :: r →
    s.obj (Obj.stuckLimit controller.val) ≠ 0 →
    (if urgent then (s.canCtl controller.val).urgentStuck else (s.canCtl controller.val).normalStuck) = false →
    Does (.canStuck controller urgent) s [Obj.canFlags controller.val, Obj.stuckEvents controller.val, Obj.vgNextSeq] [.can, .time, .vgHead, .vgMain] (fun u =>
      u.flag (Obj.canFlags controller.val) cfStuck = true ∧
        u.obj (Obj.stuckEvents controller.val) = (s.obj (Obj.stuckEvents controller.val) + 1) % 2 ^ 32 ∧
        (if urgent then (s.canCtl controller.val).urgentSince else (s.canCtl controller.val).normalSince) + s.obj (Obj.stuckLimit controller.val) * ms < u.now)) ∧
  (∀ (s : State) (controller : Fin 16),
    s.rst.coreOn = true →
    s.canOn controller.val = true →
    s.obj (Obj.fdMode controller.val) ≠ 0 →
    Does (.protocolException controller) s [Obj.busState controller.val, Obj.pexCount controller.val, Obj.lastError controller.val] [.can] (fun u =>
      u.obj (Obj.busState controller.val) = 1 ∧ u.obj (Obj.pexCount controller.val) = (s.obj (Obj.pexCount controller.val) + 1) % 2 ^ 32 ∧
        u.obj (Obj.lastError controller.val) = 7 ∧ u.canCtl controller.val = { s.canCtl controller.val with sending := none })) ∧
  (∀ (s : State) (controller : Fin 16),
    s.rst.coreOn = true →
    s.obj (Obj.busState controller.val) = 1 →
    Does (.canBusIntegration controller) s [Obj.busState controller.val] [] (fun u =>
      (u.obj (Obj.busState controller.val) = (if 128 ≤ s.obj (Obj.canTec controller.val) ∨ 128 ≤ s.obj (Obj.canRec controller.val) then 3 else 2)))) ∧
  (∀ (s : State) (snd : Sender) (controller : Fin 16),
    s.admits snd.who (writeReq snd (0x5100 + controller.val) 22 [1]) →
    (∀ e ∈ (s.canCtl controller.val).schedule, e.origin = .object) →
    Answers (.canLocalReset snd controller) s snd.who (writeReq snd (0x5100 + controller.val) 22 [1]) stDone [] [Obj.canTxDiscarded controller.val, Obj.canFlags controller.val, Obj.canTec controller.val, Obj.canRec controller.val, Obj.busState controller.val] [.can, .sw] (fun u =>
      u.canFifo controller.val true = [] ∧ u.canFifo controller.val false = [] ∧ (u.canCtl controller.val).schedule = [] ∧
        (u.canCtl controller.val).rx = [] ∧ (u.canCtl controller.val).sending = none ∧ u.obj (Obj.canTec controller.val) = 0 ∧
        u.obj (Obj.canRec controller.val) = 0 ∧
        u.obj (Obj.busState controller.val) = (if s.obj (Obj.canMode controller.val) = 0 then 0 else 1))) ∧
  (∀ (s : State) (snd : Sender) (controller : Fin 16),
    s.admits snd.who (writeReq snd (0x5100 + controller.val) 22 [2]) →
    Answers (.canClearIdClash snd controller) s snd.who (writeReq snd (0x5100 + controller.val) 22 [2]) stDone [] [Obj.canFlags controller.val] [] (fun u =>
      u.flag (Obj.canFlags controller.val) cfClash = false ∧
        u.flag (Obj.canFlags controller.val) cfStuck = s.flag (Obj.canFlags controller.val) cfStuck ∧
        u.flag (Obj.canFlags controller.val) cfLasting = s.flag (Obj.canFlags controller.val) cfLasting)) ∧
  (∀ (s : State) (snd : Sender) (controller : Fin 16),
    s.admits snd.who (writeReq snd (0x5300 + controller.val) 29 [0]) →
    Answers (.canCountersClear snd controller) s snd.who (writeReq snd (0x5300 + controller.val) 29 [0]) stDone [] ((List.range 15).map (fun i => (0x5300 + controller.val) * 256 + 0x0E + i)) [] (fun u =>
      ((List.range 15).map (fun i => (0x5300 + controller.val) * 256 + 0x0E + i)).all (fun k => u.obj k == 0) = true))

/-- A character without error enters the open message or opens one, one with a parity error enters it, is counted and marks it, and a start
bit that is not low at its middle counts as noise (R310, R311, R313); what a channel sends for a value reads back as that value at a channel
of the same settings (R308); the gap closes the message, and its record goes to the buffer (R311, R314), from which a read of RX_POLL takes
the oldest (R314); a break has a record of its own (R312), is counted when the line is high again within LINE_LIMIT, and sets LINE_STUCK and
a lasting fault where it is not (R312). -/
def Obligations.UartReceive : Prop :=
  (∀ (s : State) (channel : Fin 32) (char : UartChar) (ch : UartHeard) (m : UartOpen),
    s.rst.coreOn = true →
    s.chanOn channel.val = true →
    s.obj (Obj.uartMode channel.val) ≠ 3 →
    (s.chan channel.val).breakFrom = none →
    s.deAsserted channel.val = false →
    (s.chan channel.val).sending = none →
    ch = s.sampled channel.val char →
    ch.falseStart = false →
    ch.low = false →
    (s.chan channel.val).lastTx ≤ char.start →
    (s.chan channel.val).rxBefore = [] →
    ch.parityBad = false →
    ch.framingBad = false →
    ch.noise = false →
    s.flag (Obj.uartFlags channel.val) ufStuck = false →
    (s.chan channel.val).message = some m →
    m.data.length + s.charBytes channel.val < s.obj (Obj.rxMax channel.val) →
    Does (.uartCharacterRx channel char) s [Obj.lineState channel.val] [.uart] (fun u =>
      (u.chan channel.val).message = some { m with data := m.data ++ leBytes (s.charBytes channel.val) (ch.value % 2 ^ s.obj (Obj.dataBits channel.val)) } ∧
        u.obj (Obj.lineState channel.val) = 2 ∧ (u.chan channel.val).rx = (s.chan channel.val).rx ∧
        (u.chan channel.val).lastRx = char.start + s.charNs channel.val)) ∧
  (∀ (s : State) (channel : Fin 32) (char : UartChar) (ch : UartHeard) (m : UartOpen),
    s.rst.coreOn = true →
    s.chanOn channel.val = true →
    s.obj (Obj.uartMode channel.val) ≠ 3 →
    (s.chan channel.val).breakFrom = none →
    s.deAsserted channel.val = false →
    (s.chan channel.val).sending = none →
    ch = s.sampled channel.val char →
    ch.falseStart = false →
    ch.low = false →
    (s.chan channel.val).lastTx ≤ char.start →
    (s.chan channel.val).rxBefore = [] →
    ch.parityBad = true →
    ch.framingBad = false →
    (s.chan channel.val).message = some m →
    m.firstErr = none →
    m.data.length + s.charBytes channel.val < s.obj (Obj.rxMax channel.val) →
    Does (.uartCharacterRx channel char) s [Obj.lineState channel.val, Obj.parityErrors channel.val] [.uart] (fun u =>
      (u.chan channel.val).message = some { m with data := m.data ++ leBytes (s.charBytes channel.val) (ch.value % 2 ^ s.obj (Obj.dataBits channel.val)), parity := true, noise := m.noise || ch.noise, firstErr := some m.data.length } ∧
        u.obj (Obj.parityErrors channel.val) = (s.obj (Obj.parityErrors channel.val) + 1) % 2 ^ 32)) ∧
  (∀ (s : State) (channel : Fin 32) (char : UartChar) (ch : UartHeard),
    s.rst.coreOn = true →
    s.chanOn channel.val = true →
    s.obj (Obj.uartMode channel.val) ≠ 3 →
    (s.chan channel.val).breakFrom = none →
    s.deAsserted channel.val = false →
    (s.chan channel.val).sending = none →
    ch = s.sampled channel.val char →
    ch.falseStart = true →
    Does (.uartCharacterRx channel char) s [Obj.noiseEvents channel.val] [] (fun u =>
      u.obj (Obj.noiseEvents channel.val) = (s.obj (Obj.noiseEvents channel.val) + 1) % 2 ^ 32)) ∧
  (∀ (s : State) (channel : Fin 32) (char : UartChar) (ch : UartHeard),
    s.rst.coreOn = true →
    s.chanOn channel.val = true →
    s.obj (Obj.uartMode channel.val) ≠ 3 →
    (s.chan channel.val).breakFrom = none →
    s.deAsserted channel.val = false →
    (s.chan channel.val).sending = none →
    ch = s.sampled channel.val char →
    ch.falseStart = false →
    ch.low = false →
    (s.chan channel.val).lastTx ≤ char.start →
    (s.chan channel.val).rxBefore = [] →
    ch.parityBad = false →
    ch.framingBad = false →
    ch.noise = false →
    s.flag (Obj.uartFlags channel.val) ufStuck = false →
    (s.chan channel.val).message = none →
    s.charBytes channel.val < s.obj (Obj.rxMax channel.val) →
    Does (.uartCharacterRx channel char) s [Obj.lineState channel.val] [.uart] (fun u =>
      (u.chan channel.val).message = some { first := uartStamp char.start, data := leBytes (s.charBytes channel.val) (ch.value % 2 ^ s.obj (Obj.dataBits channel.val)) } ∧
        u.obj (Obj.lineState channel.val) = 2 ∧ (u.chan channel.val).lastRx = char.start + s.charNs channel.val)) ∧
  (∀ (s : State) (n v start : Nat), v < 2 ^ s.obj (Obj.dataBits n) →
    s.sampled n { start := start, bits := (s.charLevels n v ++ [true]).map (fun l =>
      let b := l != s.flag (Obj.uartInvert n) 1; { early := b, mid := b, late := b }) } = { value := v, start := start }) ∧
  (∀ (s : State) (channel : Fin 32) (m : UartOpen),
    s.rst.coreOn = true →
    (s.chan channel.val).message = some m →
    s.chanOn channel.val = true →
    s.obj (Obj.gapUnit channel.val) ≠ 0 →
    (s.chan channel.val).rxBefore = [] →
    (s.chan channel.val).sending = none →
    (s.chan channel.val).breakFrom = none →
    s.obj (Obj.rxDest channel.val) = 1 →
    (s.chan channel.val).rx.length < 64 →
    Does (.uartGapClose channel) s [Obj.lineState channel.val, Obj.rxMessages channel.val] [.uart, .time] (fun u =>
      (u.chan channel.val).message = none ∧
        (u.chan channel.val).rx = (s.chan channel.val).rx ++ [uartRecord m 0 false (s.chan channel.val).lost] ∧
        u.obj (Obj.rxMessages channel.val) = (s.obj (Obj.rxMessages channel.val) + 1) % 2 ^ 32 ∧ u.obj (Obj.lineState channel.val) = 1 ∧
        (s.chan channel.val).lastRx + s.rxGapNs channel.val ≤ u.now)) ∧
  (∀ (s : State) (snd : Sender) (channel : Fin 32) (b : List Byte) (q : List (List Byte)),
    s.admits snd.who (readReq snd (0x5880 + channel.val) 8) →
    (s.chan channel.val).rx = b :: q →
    Answers (.uartRxPoll snd channel) s snd.who (readReq snd (0x5880 + channel.val) 8) stDone b [] [.uart] (fun u =>
      u.chan channel.val = { s.chan channel.val with rx := q })) ∧
  (∀ (s : State) (channel : Fin 32) (start : Nat),
    s.rst.coreOn = true →
    s.chanOn channel.val = true →
    s.obj (Obj.uartMode channel.val) ≠ 3 →
    s.deAsserted channel.val = false →
    (s.chan channel.val).sending = none →
    s.flag (Obj.uartFlags channel.val) ufStuck = false →
    (s.chan channel.val).rxBefore = [] →
    (s.chan channel.val).breakFrom = none →
    (s.chan channel.val).message = none →
    s.obj (Obj.rxDest channel.val) = 1 →
    (s.chan channel.val).rx.length < 64 →
    Does (.uartBreak channel start) s [Obj.lineState channel.val] [.uart] (fun u =>
      u.chan channel.val = { s.chan channel.val with breakFrom := some start, rx := (s.chan channel.val).rx ++ [uartRecord { first := uartStamp start } 2 true (s.chan channel.val).lost], lost := false } ∧
        u.obj (Obj.lineState channel.val) = 4)) ∧
  (∀ (s : State) (channel : Fin 32) (b : Nat),
    s.rst.coreOn = true →
    (s.chan channel.val).breakFrom = some b →
    (s.chan channel.val).sending = none →
    (s.chan channel.val).message = none →
    s.obj (Obj.lineState channel.val) ≠ 0 →
    (s.obj (Obj.lineLimit channel.val) = 0 ∨ s.now ≤ b + s.obj (Obj.lineLimit channel.val) * ms) →
    Does (.uartBreakEnd channel) s [Obj.lineState channel.val, Obj.breaks channel.val, Obj.vgNextSeq] [.uart, .vgHead, .vgMain] (fun u =>
      u.chan channel.val = { s.chan channel.val with breakFrom := none, lastRx := s.now } ∧ u.obj (Obj.lineState channel.val) = 1 ∧
        u.obj (Obj.breaks channel.val) = (s.obj (Obj.breaks channel.val) + 1) % 2 ^ 32)) ∧
  (∀ (s : State) (channel : Fin 32) (b : Nat),
    s.rst.coreOn = true →
    (s.chan channel.val).breakFrom = some b →
    s.obj (Obj.lineState channel.val) ≠ 0 →
    s.obj (Obj.lineLimit channel.val) ≠ 0 →
    s.flag (Obj.uartFlags channel.val) ufStuck = false →
    Does (.lineStuck channel) s [Obj.lineState channel.val, Obj.uartFlags channel.val, Obj.vgNextSeq] (.time :: logParts) (fun u =>
      u.flag (Obj.uartFlags channel.val) ufStuck = true ∧ u.obj (Obj.lineState channel.val) = 5 ∧
        u.faultOpen (0x5880 + channel.val) 2 channel.val = true ∧ b + s.obj (Obj.lineLimit channel.val) * ms < u.now))

/-- A record that passes its checks enters the queue at once, or from the schedule list at its TIME (R315, R317); the head message starts
DE_LEAD after UA_DE is asserted (R317, R318), its last stop bit gives its result and counts it (R320), and UA_DE is released DE_LAG after
(R318); TX_HOLD and TX_ABORT discard what they name, counted, the result that an abort leaves being a free value (R320; log entry 3);
UART_CMD 1 resets the channel and 2 clears COLLISION (R321, R322), and CLEAR sets the counters to 0 (R323). -/
def Obligations.UartTransmit : Prop :=
  (∀ (s : State) (snd : Sender) (channel : Fin 32) (record : List Byte),
    s.admits snd.who (writeReq snd (0x5800 + channel.val) 22 record) →
    s.uartRefusal channel.val record snd.commander none = none →
    recTime record ≤ s.now →
    (s.chan channel.val).queue.length < 16 →
    Answers (.uartTxSubmit snd channel record) s snd.who (writeReq snd (0x5800 + channel.val) 22 record) stDone [] [] [.uart] (fun u =>
      u.chan channel.val = { s.chan channel.val with queue := (s.chan channel.val).queue ++ [{ record := record, time := recTime record, commander := snd.commander, origin := .object }] })) ∧
  (∀ (s : State) (channel : Fin 32) (e : CanEntry),
    s.rst.coreOn = true →
    (s.chan channel.val).schedule = [e] →
    e.origin = .object →
    e.commander = s.holderNow →
    s.holderNow ≠ 0 →
    (s.chan channel.val).queue.length < 16 →
    Does (.uartScheduleDue channel) s [] [.uart, .time] (fun u =>
      u.chan channel.val = { s.chan channel.val with schedule := [], queue := (s.chan channel.val).queue ++ [e] } ∧ e.time ≤ u.now)) ∧
  (∀ (s : State) (channel : Fin 32) (e : CanEntry) (r : List CanEntry),
    s.rst.coreOn = true →
    (s.chan channel.val).queue = e :: r →
    s.chanOn channel.val = true →
    s.obj (Obj.uartMode channel.val) = 1 →
    (s.chan channel.val).sending = none →
    (s.chan channel.val).lagFrom = none →
    uRecLen e.record ≠ 0 →
    s.obj (Obj.deMode channel.val) = 1 →
    (s.chan channel.val).breakFrom = none →
    Does (.uartMessageStart channel) s [Obj.lineState channel.val] [.uart, .time, .out] (fun u =>
      u.chan channel.val = { s.chan channel.val with sending := some { entry := e, start := u.now + uartClockUp (s.obj (Obj.deLead channel.val)) } } ∧
        u.obj (Obj.lineState channel.val) = 3 ∧ u.out = s.out ++ [.uartDe channel.val true] ∧
        max (s.chan channel.val).lastTx (s.chan channel.val).lastRx + s.gapNs channel.val ≤ u.now)) ∧
  (∀ (s : State) (channel : Fin 32) (x : UartTx),
    s.rst.coreOn = true →
    (s.chan channel.val).sending = some x →
    uRecBreak x.entry.record = false →
    s.obj (Obj.uartMode channel.val) = 1 →
    s.obj (Obj.lineState channel.val) ≠ 0 →
    s.uRecChars channel.val x.entry.record ≠ 0 →
    (s.chan channel.val).breakFrom = none →
    (s.chan channel.val).message = none →
    Does (.uartMessageEnd channel) s [Obj.lastTxResult channel.val, Obj.uartLastTxTime channel.val, Obj.txMessages channel.val, Obj.lineState channel.val] [.uart, .time, .out] (fun u =>
      (u.chan channel.val).sending = none ∧ (u.chan channel.val).queue = (s.chan channel.val).queue.erase x.entry ∧
        u.obj (Obj.lastTxResult channel.val) = stDone ∧ u.obj (Obj.uartLastTxTime channel.val) = x.start ∧
        u.obj (Obj.txMessages channel.val) = (s.obj (Obj.txMessages channel.val) + 1) % 2 ^ 32 ∧ u.obj (Obj.lineState channel.val) = 1 ∧
        u.out = s.out ++ [.uartSent channel.val false (uRecData x.entry.record)])) ∧
  (∀ (s : State) (channel : Fin 32) (e : Nat),
    s.rst.coreOn = true →
    (s.chan channel.val).lagFrom = some e →
    (s.chan channel.val).txBefore = [] →
    Does (.deLagEnd channel) s [] [.uart, .time, .out] (fun u =>
      u.chan channel.val = { s.chan channel.val with lagFrom := none } ∧ u.out = s.out ++ [.uartDe channel.val false] ∧
        e + uartClockUp (s.obj (Obj.deLag channel.val)) ≤ u.now)) ∧
  (∀ (s : State) (channel : Fin 32),
    s.rst.coreOn = true →
    s.serving = true →
    s.holding = false →
    s.liveCommanders = [] →
    s.frozen = false →
    s.obj (Obj.uartTxMissed channel.val) ≤ s.ring.sinceNoClaim →
    s.obj (Obj.uartTxHold channel.val) = 1 →
    (s.chan channel.val).sending = none →
    (∀ e ∈ (s.chan channel.val).schedule, e.origin = .object) →
    Does (.uartTxHold channel) s [Obj.uartTxDiscarded channel.val, Obj.lastTxResult channel.val, Obj.uartLastTxTime channel.val, Obj.claimRefusals] [.uart] (fun u =>
      u.chan channel.val = { s.chan channel.val with queue := [], schedule := [] } ∧
        u.obj (Obj.uartTxDiscarded channel.val) = (s.obj (Obj.uartTxDiscarded channel.val) + (s.chan channel.val).queue.length + (s.chan channel.val).schedule.length) % 2 ^ 32 ∧
        u.obj (Obj.lastTxResult channel.val) = (if (s.chan channel.val).queue = [] then s.obj (Obj.lastTxResult channel.val) else stClaimLost))) ∧
  (∀ (s : State) (snd : Sender) (channel : Fin 32),
    s.admits snd.who (writeReq snd (0x5800 + channel.val) 23 [1]) →
    (s.chan channel.val).sending = none →
    (s.chan channel.val).queue ≠ [] →
    Answers (.uartAbortQueue snd channel) s snd.who (writeReq snd (0x5800 + channel.val) 23 [1]) stDone [] [Obj.uartTxDiscarded channel.val, Obj.lastTxResult channel.val, Obj.uartLastTxTime channel.val] [.uart, .free] (fun u =>
      u.chan channel.val = { s.chan channel.val with queue := [] } ∧
        u.obj (Obj.uartTxDiscarded channel.val) = (s.obj (Obj.uartTxDiscarded channel.val) + (s.chan channel.val).queue.length) % 2 ^ 32 ∧
        u.obj (Obj.lastTxResult channel.val) = s.freeNow % 256 ∧ u.freeCount = s.freeCount + 1)) ∧
  (∀ (s : State) (snd : Sender) (channel : Fin 32),
    s.admits snd.who (writeReq snd (0x5800 + channel.val) 23 [2]) →
    (∀ e ∈ (s.chan channel.val).schedule, e.origin = .object) →
    Answers (.uartAbortSchedule snd channel) s snd.who (writeReq snd (0x5800 + channel.val) 23 [2]) stDone [] [Obj.uartTxDiscarded channel.val] [.uart] (fun u =>
      u.chan channel.val = { s.chan channel.val with schedule := [] } ∧
        u.obj (Obj.uartTxDiscarded channel.val) = (s.obj (Obj.uartTxDiscarded channel.val) + (s.chan channel.val).schedule.length) % 2 ^ 32)) ∧
  (∀ (s : State) (snd : Sender) (channel : Fin 32),
    s.admits snd.who (writeReq snd (0x5800 + channel.val) 24 [1]) →
    (s.chan channel.val).message = none →
    (s.chan channel.val).sending = none →
    (s.chan channel.val).queue = [] →
    (∀ e ∈ (s.chan channel.val).schedule, e.origin = .object) →
    Answers (.uartLocalReset snd channel) s snd.who (writeReq snd (0x5800 + channel.val) 24 [1]) stDone [] [Obj.uartTxDiscarded channel.val, Obj.lineState channel.val] [.uart, .sw, .free, .out] (fun u =>
      u.chan channel.val = { lastRx := (s.chan channel.val).lastRx, lastTx := (s.chan channel.val).lastTx } ∧
        u.obj (Obj.lineState channel.val) = (if s.obj (Obj.uartMode channel.val) = 0 then 0 else 1) ∧
        u.out = s.out ++ [.uartDe channel.val false])) ∧
  (∀ (s : State) (snd : Sender) (channel : Fin 32),
    s.admits snd.who (writeReq snd (0x5800 + channel.val) 24 [2]) →
    Answers (.uartClearCollision snd channel) s snd.who (writeReq snd (0x5800 + channel.val) 24 [2]) stDone [] [Obj.uartFlags channel.val] [] (fun u =>
      u.flag (Obj.uartFlags channel.val) ufCollision = false ∧
        u.flag (Obj.uartFlags channel.val) ufStuck = s.flag (Obj.uartFlags channel.val) ufStuck)) ∧
  (∀ (s : State) (snd : Sender) (channel : Fin 32),
    s.admits snd.who (writeReq snd (0x5880 + channel.val) 21 [0]) →
    Answers (.uartCountersClear snd channel) s snd.who (writeReq snd (0x5880 + channel.val) 21 [0]) stDone [] ((List.range 10).map (fun i => (0x5880 + channel.val) * 256 + 0x0B + i)) [] (fun u =>
      ((List.range 10).map (fun i => (0x5880 + channel.val) * 256 + 0x0B + i)).all (fun k => u.obj k == 0) = true))

/-- A read cycle of the mailbox gives its bytes, one of a bridge register the register (R326, R327); INT_STATUS is cleared where 1 is
written, CLAIM_LO holds its value, CLAIM_HI sends a claim, and TGT_ABANDON gives up the pending fabric cycle, all of them only while the
bridge answers the host (R326, R327, R329); a window cycle to DRAM of this node completes with its bytes, one to another node is pending as
a READ (R328, R329); its result is passed on or waits with READY (R329), TGT_HOLD ends it with HB_RETRY_N (R329), and a crossing with
BUSY_CROSS (R330). -/
def Obligations.HostBusTarget : Prop :=
  (∀ (s : State) (cycle : HostCycle),
    s.rst.coreOn = true →
    (s.obj Obj.hbEnable).testBit 0 = true →
    s.bridge.granted = false →
    cycGood cycle = true →
    cycle.write = false →
    s.obj Obj.mboxBase ≤ cycOffset cycle →
    cycOffset cycle < s.obj Obj.mboxBase + 0x1000 →
    Does (.hostTargetCycle cycle) s [] [.out] (fun u =>
      u.out = s.out ++ [.hostCycle false (cycPlaced cycle ((List.range (cycBytes cycle).length).map (fun i => s.mbByte (cycFirstByte cycle - s.obj Obj.mboxBase + i))))])) ∧
  (∀ (s : State) (cycle : HostCycle) (b : Nat × Nat),
    s.rst.coreOn = true →
    (s.obj Obj.hbEnable).testBit 0 = true →
    s.bridge.granted = false →
    cycGood cycle = true →
    cycle.write = false →
    cycle.beats = [b] →
    s.obj Obj.mboxBase + 0x1000 ≤ cycOffset cycle →
    cycOffset cycle < s.obj Obj.mboxBase + 0x1040 →
    Does (.hostTargetCycle cycle) s [] [.out] (fun u =>
      u.out = s.out ++ [.hostCycle false [s.bridgeRead (cycOffset cycle - (s.obj Obj.mboxBase + 0x1000))]])) ∧
  (∀ (s : State) (value : BitVec 32),
    s.rst.coreOn = true →
    s.answersHost = true →
    Does (.intStatusWrite value) s [] [.bridge] (fun u =>
      (∀ i, i < 32 → u.bridge.intStatus.testBit i = (s.bridge.intStatus.testBit i && !value.toNat.testBit i)) ∧
        u.bridge = { s.bridge with intStatus := u.bridge.intStatus })) ∧
  (∀ (s : State) (value : BitVec 32),
    s.rst.coreOn = true →
    s.answersHost = true →
    Does (.claimLoWrite value) s [] [.bridge] (fun u =>
      u.bridge = { s.bridge with claimLo := value.toNat })) ∧
  (∀ (s : State) (value : BitVec 32),
    s.rst.coreOn = true →
    s.answersHost = true →
    bits value.toNat 7 4 = 0 →
    bits value.toNat 31 16 = 0 →
    1 ≤ bits value.toNat 3 0 →
    bits value.toNat 3 0 ≤ 8 →
    1 ≤ bits value.toNat 15 8 →
    bits value.toNat 15 8 ≤ 0x60 →
    s.ownId ≠ 0 →
    bits value.toNat 15 8 ≠ s.ownId →
    Does (.claimHiWrite value) s [] [.sw] (fun u =>
      u.sw.entering = s.sw.entering ++ [{ port := portHost, cls := 0, packet := .ring { cls := 0, type := tyClaim, src := s.ownId, dst := bits value.toNat 15 8, commander := bits value.toNat 3 0, seq := s.bridge.claimLo } }])) ∧
  (∀ (s : State) (value : BitVec 32),
    s.rst.coreOn = true →
    s.answersHost = true →
    value = 1 →
    Does (.tgtAbandon value) s [] [.bridge] (fun u =>
      u.bridge = { s.bridge with pending := none })) ∧
  (∀ (s : State) (value : BitVec 32),
    s.rst.coreOn = true →
    (s.obj Obj.hbEnable).testBit 0 = false →
    Does (.intStatusWrite value) s [] [] (fun u =>
      u = s)) ∧
  (∀ (s : State) (value : BitVec 32),
    s.rst.coreOn = true →
    (s.obj Obj.hbEnable).testBit 0 = false →
    Does (.claimLoWrite value) s [] [] (fun u =>
      u = s)) ∧
  (∀ (s : State) (value : BitVec 32),
    s.rst.coreOn = true →
    (s.obj Obj.hbEnable).testBit 0 = false →
    Does (.claimHiWrite value) s [] [] (fun u =>
      u = s)) ∧
  (∀ (s : State) (value : BitVec 32),
    s.rst.coreOn = true →
    (s.obj Obj.hbEnable).testBit 0 = false →
    Does (.tgtAbandon value) s [] [] (fun u =>
      u = s)) ∧
  (∀ (s : State) (cycle : HostCycle) (a : Nat),
    s.rst.coreOn = true →
    (s.obj Obj.hbEnable).testBit 0 = true →
    s.bridge.granted = false →
    cycGood cycle = true →
    cycle.write = false →
    s.bridge.pending = none →
    ¬ (s.obj Obj.mboxBase ≤ cycOffset cycle ∧ cycOffset cycle < s.obj Obj.mboxBase + 0x1040) →
    0x100000 ≤ cycOffset cycle →
    cycOffset cycle < 0x500000 →
    a = s.windowAddress cycle →
    (addrNode a = 0 ∨ addrNode a = s.ownId) →
    s.accessRefusal a (cycBytes cycle).length false (s.obj Obj.fwCommander) = none →
    addrSpace a = 3 →
    Does (.windowCycle cycle) s [] [.bridge, .out] (fun u =>
      u.bridge = { s.bridge with status := stDone } ∧
        u.out = s.out ++ [.hostCycle false (cycPlaced cycle (s.dramRead (addrOffset a) (cycBytes cycle).length))])) ∧
  (∀ (s : State) (cycle : HostCycle) (a : Nat),
    s.rst.coreOn = true →
    (s.obj Obj.hbEnable).testBit 0 = true →
    s.bridge.granted = false →
    cycGood cycle = true →
    cycle.write = false →
    s.bridge.pending = none →
    ¬ (s.obj Obj.mboxBase ≤ cycOffset cycle ∧ cycOffset cycle < s.obj Obj.mboxBase + 0x1040) →
    0x100000 ≤ cycOffset cycle →
    cycOffset cycle < 0x500000 →
    a = s.windowAddress cycle →
    addrNode a ≠ 0 →
    addrNode a ≠ s.ownId →
    s.reaches (addrNode a) = true →
    s.obj Obj.tgtHold ≠ 0 →
    Does (.windowCycle cycle) s [] [.bridge, .sw] (fun u =>
      u.bridge = { s.bridge with pending := some { cycle := cycle, tag := s.bridge.tag, node := addrNode a, held := true }, tag := (s.bridge.tag + 1) % 2 ^ 16 } ∧
        (u.sw.entering.drop s.sw.entering.length).map (·.packet) = [Packet.ring { cls := 2, type := tyRead, src := s.ownId, dst := addrNode a, commander := s.obj Obj.fwCommander, tag := s.bridge.tag, address := a, param := (cycBytes cycle).length }])) ∧
  (∀ (s : State) (p : PendingCycle),
    s.rst.coreOn = true →
    s.bridge.pending = some p →
    p.held = true →
    Does .tgtHoldExpiry s [Obj.retries] [.bridge, .out] (fun u =>
      u.bridge = { s.bridge with pending := some { p with held := false } } ∧ u.obj Obj.retries = (s.obj Obj.retries + 1) % 2 ^ 32 ∧
        u.out = s.out ++ [.hostCycle true []])) ∧
  (∀ (s : State) (p : PendingCycle) (d : List Byte),
    s.rst.coreOn = true →
    s.bridge.pending = some p →
    p.arrived = some (stDone, d) →
    p.ready = false →
    p.held = false →
    Does .fabricCycleComplete s [] [.bridge] (fun u =>
      u.bridge = { s.bridge with pending := some { p with ready := true }, status := stDone, intStatus := s.bridge.intStatus ||| 2 ^ intTgtReady })) ∧
  (∀ (s : State) (p : PendingCycle) (d : List Byte),
    s.rst.coreOn = true →
    s.bridge.pending = some p →
    p.arrived = some (stDone, d) →
    p.ready = false →
    p.held = true →
    Does .fabricCycleComplete s [] [.bridge, .out] (fun u =>
      u.bridge = { s.bridge with pending := none, status := stDone } ∧
        u.out = s.out ++ [.hostCycle false (if p.cycle.write then [] else cycPlaced p.cycle d)])) ∧
  (∀ (s : State) (node : Fin 97) (p : PendingCycle) (r : MasterReq),
    s.rst.coreOn = true →
    s.bridge.pending = some p →
    p.held = true →
    p.arrived = none →
    p.node = node.val →
    node.val ≠ 0 →
    node.val < s.ownId →
    s.bridge.queue = [r] →
    r.source = some node.val →
    r.length ≠ 0 →
    s.bridge.requesting = false →
    (s.obj Obj.hbEnable).testBit 1 = true →
    Does (.crossing node) s [Obj.retries, Obj.crossCount] [.bridge, .out] (fun u =>
      u.bridge.pending = some { p with held := false } ∧ u.bridge.status = stBusyCross ∧ u.bridge.requesting = true ∧
        u.obj Obj.crossCount = (s.obj Obj.crossCount + 1) % 2 ^ 32 ∧ u.obj Obj.retries = (s.obj Obj.retries + 1) % 2 ^ 32 ∧
        u.bridge.intStatus.testBit intCross = true))

/-- A request asks for the bus (R331), gets it for its cycles and completes at its requester with the bus released; a cycle ended by
HB_RETRY_N is counted and its request stays first in the queue up to the limit, and a beat that does not come ends the request with TIMEOUT
(R331); CLEAR sets the counters of the bridge to 0 (R347). -/
def Obligations.HostBusMaster : Prop :=
  (∀ (s : State) (r : MasterReq) (q : List MasterReq),
    s.rst.coreOn = true →
    s.bridge.queue = r :: q →
    s.bridge.requesting = false →
    (s.obj Obj.hbEnable).testBit 1 = true →
    r.length ≠ 0 →
    s.bridge.pending = none →
    Does .masterRequest s [] [.bridge, .out] (fun u =>
      u.bridge = { s.bridge with requesting := true } ∧ u.out = s.out ++ [.hostRequest true])) ∧
  (∀ (s : State) (cycles : Nat) (data : List Byte) (r : MasterReq) (q : List MasterReq) (t : Nat) (f : Frame),
    s.rst.coreOn = true →
    s.bridge.requesting = true →
    1 ≤ cycles →
    s.bridge.queue = r :: q →
    r.origin = .block (.window t) f →
    r.pos = 0 →
    0 < r.length →
    r.write = true →
    r.length ≤ 64 - r.address % 64 →
    Does (.busGrant cycles data) s [] [.bridge, .acc, .out] (fun u =>
      u.bridge.queue = q ∧ u.bridge.requesting = false ∧ u.bridge.granted = false ∧
        u.acc.completions = s.acc.completions ++ [{ issuer := .window t, seq := 0, status := stDone }] ∧
        u.out = s.out ++ [.hostMaster true r.address (slice r.data 0 r.length), .hostRequest false])) ∧
  (∀ (s : State) (data : List Byte) (r : MasterReq) (q : List MasterReq),
    s.rst.coreOn = true →
    s.bridge.requesting = true →
    s.bridge.queue = r :: q →
    r.pos < r.length →
    (s.obj Obj.mstRetryLimit = 0 ∨ r.retries < s.obj Obj.mstRetryLimit) →
    Does (.masterRetry 0 data) s [Obj.mstRetries] [.bridge] (fun u =>
      u.bridge = { s.bridge with queue := { r with retries := r.retries + 1, began := some (r.began.getD s.now) } :: q, granted := true } ∧
        u.obj Obj.mstRetries = (s.obj Obj.mstRetries + 1) % 2 ^ 32)) ∧
  (∀ (s : State) (data : List Byte) (r : MasterReq) (q : List MasterReq) (t : Nat) (f : Frame),
    s.rst.coreOn = true →
    s.bridge.requesting = true →
    s.bridge.queue = r :: q →
    r.origin = .block (.window t) f →
    r.pos = 0 →
    0 < r.length →
    Does (.mstWaitTimeout 0 data) s [Obj.mstTimeouts] [.bridge, .acc, .out] (fun u =>
      u.bridge.queue = q ∧ u.bridge.requesting = false ∧ u.bridge.granted = false ∧
        u.acc.completions = s.acc.completions ++ [{ issuer := .window t, seq := 0, status := stTimeout }] ∧
        u.obj Obj.mstTimeouts = (s.obj Obj.mstTimeouts + 1) % 2 ^ 32 ∧ u.out = s.out ++ [.hostRequest false])) ∧
  (∀ (s : State) (snd : Sender),
    s.admits snd.who (writeReq snd 0x6001 6 [0]) →
    Answers (.bridgeCountersClear snd) s snd.who (writeReq snd 0x6001 6 [0]) stDone [] [Obj.retries, Obj.crossCount, Obj.mstTimeouts, Obj.mstRetries, Obj.tgtErrors] [] (fun u =>
      [Obj.retries, Obj.crossCount, Obj.mstTimeouts, Obj.mstRetries, Obj.tgtErrors].all (fun k => u.obj k == 0) = true))

/-- A GOOSE frame that its subscription takes and that is fresh sets its numbers and waits as an input (R333, R335); no frame within the TAL
makes the subscription stale, and SUB_INVALID_MS after that invalid (R335); a publication repeats at doubled intervals with the next SqNum
(R338); a run whose two passes agree commits what pass P made, is counted, and enters the replay log or makes a mordant point (R339, R362,
R367); a write to EVENT_IN waits as an input (R349); CLEAR sets the counters to 0 (R348, R349). -/
def Obligations.GooseAndMap : Prop :=
  (∀ (s : State) (port : Fin 4) (frame : EthFrame) (n : Nat) (p : GoosePdu),
    s.rst.coreOn = true →
    s.sw.inbox = [] →
    s.gooseMatch port.val frame = some n →
    gooseOf frame.payload = some p →
    p.gocbRef = s.blob (Obj.subGocbref n) →
    p.datSet = s.blob (Obj.subDatset n) →
    p.simulation = false →
    p.confRev = s.obj (Obj.subConfrev n) →
    p.ndsCom = false →
    p.entries = s.obj (Obj.subMembers n) →
    (p.stNum + 2 ^ 32 - s.obj (Obj.stNum n)) % 2 ^ 32 < 2 ^ 31 →
    (p.stNum ≠ s.obj (Obj.stNum n) ∨ s.obj (Obj.subState n) ≠ 2) →
    s.quiet = false →
    Does (.gooseRx port frame) s [Obj.gooseRx, Obj.stNum n, Obj.sqNum n, Obj.lastRx n, Obj.subState n] [.sme] (fun u =>
      u.obj Obj.gooseRx = (s.obj Obj.gooseRx + 1) % 2 ^ 32 ∧ u.obj (Obj.stNum n) = p.stNum ∧ u.obj (Obj.sqNum n) = p.sqNum ∧
        u.obj (Obj.lastRx n) = s.now ∧ u.obj (Obj.subState n) = 2 ∧
        u.sme.waiting = s.sme.waiting ++ [{ cls := 0, kind := 3, index := n, members := (p.members.take 64).map s.gooseMember, time := s.timeOfUtc p.time }] ∧
        (u.gooseSub n).stale = false ∧ (u.gooseSub n).invalid = false ∧ (u.gooseSub n).tal = p.tal * ms)) ∧
  (∀ (s : State) (subscription : Fin 128),
    s.rst.coreOn = true →
    s.obj (Obj.subState subscription.val) = 2 →
    Does (.gooseTalExpiry subscription) s [Obj.subState subscription.val] [.sme, .time] (fun u =>
      u.obj (Obj.subState subscription.val) = 3 ∧ u.gooseSub subscription.val = { (s.gooseSub subscription.val) with stale := true } ∧
        s.obj (Obj.lastRx subscription.val) + (s.gooseSub subscription.val).tal ≤ u.now)) ∧
  (∀ (s : State) (subscription : Fin 128),
    s.rst.coreOn = true →
    s.obj (Obj.subState subscription.val) = 3 →
    s.obj (Obj.subInvalidMs subscription.val) ≠ 0 →
    Does (.gooseInvalidExpiry subscription) s [Obj.subState subscription.val] [.sme, .time] (fun u =>
      u.obj (Obj.subState subscription.val) = 4 ∧ u.gooseSub subscription.val = { (s.gooseSub subscription.val) with invalid := true } ∧
        s.obj (Obj.lastRx subscription.val) + (s.gooseSub subscription.val).tal + s.obj (Obj.subInvalidMs subscription.val) * ms ≤ u.now)) ∧
  (∀ (s : State) (publication : Fin 32) (i : Nat),
    s.rst.coreOn = true →
    (s.goosePub publication.val).interval = some i →
    s.onRing = true →
    s.paused = false →
    s.obj (Obj.pubEnable publication.val) ≠ 0 →
    Does (.gooseRepeat publication) s [Obj.pubSqnum publication.val, Obj.pubSent publication.val, Obj.gooseTx] [.sme, .sw, .time, .free] (fun u =>
      u.obj (Obj.pubSqnum publication.val) = (if s.obj (Obj.pubSqnum publication.val) = 2 ^ 32 - 1 then 1 else s.obj (Obj.pubSqnum publication.val) + 1) ∧
        u.obj (Obj.pubSent publication.val) = (s.obj (Obj.pubSent publication.val) + 1) % 2 ^ 32 ∧
        u.goosePub publication.val = { s.goosePub publication.val with interval := some (s.nextInterval publication.val i), next := u.now + s.nextInterval publication.val i } ∧
        u.sw.entering.length = s.sw.entering.length + 1 ∧ (s.goosePub publication.val).next ≤ u.now)) ∧
  (∀ (s : State) (selfCheck : Fin 3) (i : MapInput) (t : State) (snap : MapSnapshot) (p : MapPass),
    s.rst.coreOn = true →
    s.smeOn = true →
    t.attempt t.sme.map snap none = (p, none) →
    p.cells = [] →
    t.runBuffers t.sme.map p = [] →
    changedPubs p.groups = [] →
    p.oos = false →
    s.sme.kept = [] →
    s.nextInput = some i →
    t = { s with sme := { s.sme with waiting := s.sme.waiting.erase i } } →
    snap = t.snapshot (some (t.inputNow i)) →
    i.work = none →
    i.block = none →
    s.sme.logBytes ≤ 384 * 1024 →
    Does (.arrivalRun [] selfCheck) s [Obj.fieldMissing, Obj.mapRuns] [.sme] (fun u =>
      u.sme = { s.sme with waiting := s.sme.waiting.erase i, map := p.map, log := s.sme.log ++ [snap], logBytes := s.sme.logBytes + snapshotBytes snap } ∧
        u.obj Obj.mapRuns = (s.obj Obj.mapRuns + 1) % 2 ^ 64 ∧ u.obj Obj.fieldMissing = (s.obj Obj.fieldMissing + p.missing) % 2 ^ 32)) ∧
  (∀ (s : State) (selfCheck : Fin 3) (k : Nat) (snap : MapSnapshot) (p : MapPass),
    s.rst.coreOn = true →
    s.smeOn = true →
    s.attempt s.sme.map snap none = (p, none) →
    p.cells = [] →
    s.runBuffers s.sme.map p = [] →
    changedPubs p.groups = [] →
    p.oos = false →
    s.sme.kept = [] →
    s.sme.cyclic = some k →
    s.blocksPending = false →
    snap = { s.snapshot none with lake := s.slotsNamed, blocks := s.sme.blocks, epoch := k, applyAt := s.sampleOf k + s.applyNs, sampleAt := s.sampleOf (k - 1) } →
    Does (.cyclicRun [] selfCheck) s [Obj.fieldMissing, Obj.mapRuns, Obj.mordantEpoch] [.sme] (fun u =>
      u.sme = { s.sme with cyclic := none, agreed := true, map := p.map, mordant := p.map, log := [], logBytes := 0 } ∧
        u.obj Obj.mapRuns = (s.obj Obj.mapRuns + 1) % 2 ^ 64 ∧ u.obj Obj.mordantEpoch = k)) ∧
  (∀ (s : State) (snd : Sender) (input : Fin 64) (data : List Byte),
    s.admits snd.who (writeReq snd (0x62C0 + input.val) 0 data) →
    data.length = 256 →
    s.flag Obj.smeOosMap 4 = false →
    Answers (.eventInWrite snd input data) s snd.who (writeReq snd (0x62C0 + input.val) 0 data) stDone [] [] [.sme] (fun u =>
      u.sme = { s.sme with waiting := s.sme.waiting ++ [{ cls := 2, kind := 5, index := input.val, data := data, time := s.now }] })) ∧
  (∀ (s : State) (snd : Sender),
    s.admits snd.who (writeReq snd 0x6100 3 [0]) →
    Answers (.gooseClear snd) s snd.who (writeReq snd 0x6100 3 [0]) stDone [] ([Obj.gooseRx, Obj.gooseTx] ++ (List.range 128).map (fun n => Obj.subDiscards n) ++ (List.range 32).map (fun p => Obj.pubSent p)) [] (fun u =>
      ([Obj.gooseRx, Obj.gooseTx] ++ (List.range 128).map (fun n => Obj.subDiscards n) ++ (List.range 32).map (fun p => Obj.pubSent p)).all (fun k => u.obj k == 0) = true)) ∧
  (∀ (s : State) (snd : Sender),
    s.admits snd.who (writeReq snd 0x6203 7 [0]) →
    Answers (.mapCountersClear snd) s snd.who (writeReq snd 0x6203 7 [0]) stDone [] [Obj.mapRuns, Obj.cycleOverruns, Obj.outRefused, Obj.obReplaced, Obj.fieldMissing] [] (fun u =>
      [Obj.mapRuns, Obj.cycleOverruns, Obj.outRefused, Obj.obReplaced, Obj.fieldMissing].all (fun k => u.obj k == 0) = true))

/-- JOB_CMD starts a memory check job from INIT or continues it from the running value of its context, or abandons it with RETRY and its
context as it was (R357); a job that ends saves its running value, which the context then holds, and gives its result (R351, R357);
CTX_VALUE and CTX_ALIVE are written (R358), CK_CMD clears every context of its unit (R359) and CLEAR its counters (R361). -/
def Obligations.CheckUnits : Prop :=
  (∀ (s : State) (snd : Sender) (unit : Fin 24),
    s.admits snd.who (writeReq snd (0x7080 + unit.val) 4 [1]) →
    s.ckJob unit.val = none →
    s.ckOos unit.val = false →
    stKind (s.streamEntry unit.val (s.obj (Obj.jobCtx unit.val))) = 0 →
    s.jobRange (s.obj (Obj.jobAddr unit.val) % 2 ^ 48) (s.obj (Obj.jobLen unit.val)) = true →
    s.obj (Obj.jobLen unit.val) ≠ 0 →
    Answers (.jobStart snd unit) s snd.who (writeReq snd (0x7080 + unit.val) 4 [1]) stDone [] [Obj.jobState unit.val] [.ck] (fun u =>
      u.ck = (s.setCkJob unit.val (some { params := s.ckParams unit.val, addr := s.obj (Obj.jobAddr unit.val) % 2 ^ 48, len := s.obj (Obj.jobLen unit.val), ctx := s.obj (Obj.jobCtx unit.val), reg := s.obj (Obj.ckInit unit.val) })).ck ∧
        u.obj (Obj.jobState unit.val) = 1)) ∧
  (∀ (s : State) (snd : Sender) (unit : Fin 24),
    s.admits snd.who (writeReq snd (0x7080 + unit.val) 4 [2]) →
    s.ckJob unit.val = none →
    s.ckOos unit.val = false →
    stKind (s.streamEntry unit.val (s.obj (Obj.jobCtx unit.val))) = 0 →
    s.jobRange (s.obj (Obj.jobAddr unit.val) % 2 ^ 48) (s.obj (Obj.jobLen unit.val)) = true →
    s.obj (Obj.jobLen unit.val) ≠ 0 →
    Answers (.jobContinue snd unit) s snd.who (writeReq snd (0x7080 + unit.val) 4 [2]) stDone [] [Obj.jobState unit.val] [.ck] (fun u =>
      u.ck = (s.setCkJob unit.val (some { params := s.ckParams unit.val, addr := s.obj (Obj.jobAddr unit.val) % 2 ^ 48, len := s.obj (Obj.jobLen unit.val), ctx := s.obj (Obj.jobCtx unit.val), reg := s.ctxValueNow unit.val (s.obj (Obj.jobCtx unit.val)) })).ck ∧
        u.obj (Obj.jobState unit.val) = 1)) ∧
  (∀ (s : State) (snd : Sender) (unit : Fin 24) (j : CkJob),
    s.admits snd.who (writeReq snd (0x7080 + unit.val) 4 [3]) →
    s.ckJob unit.val = some j →
    j.written = none →
    Answers (.jobAbandon snd unit) s snd.who (writeReq snd (0x7080 + unit.val) 4 [3]) stDone [] [Obj.jobState unit.val, Obj.jobStatus unit.val] [.ck] (fun u =>
      u.ckJob unit.val = none ∧ u.ck.contexts = s.ck.contexts ∧ u.obj (Obj.jobState unit.val) = 3 ∧
        u.obj (Obj.jobStatus unit.val) = stRetry)) ∧
  (∀ (s : State) (unit : Fin 24) (status : Byte) (host : List Byte) (j : CkJob),
    s.rst.coreOn = true →
    s.ckJob unit.val = some j →
    j.written = none →
    s.ckOos unit.val = false →
    addrSpace j.addr = 3 →
    Does (.jobComplete unit status host) s [Obj.jobState unit.val, Obj.jobStatus unit.val, Obj.jobResult unit.val] [.ck] (fun u =>
      u.ckJob unit.val = none ∧ (u.ckCtx unit.val j.ctx).value = some (j.params.feed j.reg (s.dramRead (addrOffset j.addr) j.len)) ∧
        u.obj (Obj.jobState unit.val) = 2 ∧ u.obj (Obj.jobStatus unit.val) = stDone ∧
        u.obj (Obj.jobResult unit.val) = j.params.result (j.params.feed j.reg (s.dramRead (addrOffset j.addr) j.len)))) ∧
  (∀ (s : State) (unit : Fin 24) (status : Byte) (host : List Byte) (j : CkJob),
    s.rst.coreOn = true →
    s.ckJob unit.val = some j →
    j.written = none →
    s.ckOos unit.val = false →
    addrSpace j.addr = 2 →
    s.flag Obj.hbEnable 1 = true →
    status = 0 →
    host.length = j.len →
    Does (.jobComplete unit status host) s [Obj.jobState unit.val, Obj.jobStatus unit.val, Obj.jobResult unit.val] [.ck] (fun u =>
      u.ckJob unit.val = none ∧ (u.ckCtx unit.val j.ctx).value = some (j.params.feed j.reg host) ∧ u.obj (Obj.jobState unit.val) = 2 ∧
        u.obj (Obj.jobStatus unit.val) = stDone ∧ u.obj (Obj.jobResult unit.val) = j.params.result (j.params.feed j.reg host))) ∧
  (∀ (s : State) (snd : Sender) (unit : Fin 24) (value : BitVec 32),
    s.admits snd.who (writeReq snd (0x70A0 + unit.val) 2 (leBytes 4 value.toNat)) →
    s.ckJob unit.val = none →
    value.toNat < 2 ^ s.obj (Obj.ckWidth unit.val) →
    Answers (.ctxValueWrite snd unit value) s snd.who (writeReq snd (0x70A0 + unit.val) 2 (leBytes 4 value.toNat)) stDone [] [] [.ck] (fun u =>
      u.ckCtx unit.val (s.obj (Obj.ctxSelect unit.val)) = { s.ckCtx unit.val (s.obj (Obj.ctxSelect unit.val)) with value := some value.toNat })) ∧
  (∀ (s : State) (snd : Sender) (unit : Fin 24) (value : Byte),
    s.admits snd.who (writeReq snd (0x70A0 + unit.val) 3 [value]) →
    value.toNat < 2 ^ stAliveWidth (s.streamEntry unit.val (s.obj (Obj.ctxSelect unit.val))) →
    Answers (.ctxAliveWrite snd unit value) s snd.who (writeReq snd (0x70A0 + unit.val) 3 [value]) stDone [] [] [.ck] (fun u =>
      u.ckCtx unit.val (s.obj (Obj.ctxSelect unit.val)) = { s.ckCtx unit.val (s.obj (Obj.ctxSelect unit.val)) with alive := value.toNat, synced := true })) ∧
  (∀ (s : State) (snd : Sender) (unit : Fin 24),
    s.admits snd.who (writeReq snd (0x7060 + unit.val) 9 [1]) →
    s.ckJob unit.val = none →
    Answers (.ckLocalReset snd unit) s snd.who (writeReq snd (0x7060 + unit.val) 9 [1]) stDone [] [] [.ck] (fun u =>
      (∀ c, c < 64 → u.ckCtx unit.val c = {}) ∧ (∀ k c, k ≠ unit.val → c < 64 → u.ckCtx k c = s.ckCtx k c) ∧ u.ck.jobs = s.ck.jobs)) ∧
  (∀ (s : State) (snd : Sender) (unit : Fin 24),
    s.admits snd.who (writeReq snd (0x7060 + unit.val) 10 [0]) →
    Answers (.ckCountersClear snd unit) s snd.who (writeReq snd (0x7060 + unit.val) 10 [0]) stDone [] [Obj.ckProtected unit.val, Obj.ckVerified unit.val, Obj.checkFails unit.val, Obj.repeats unit.val, Obj.ckMissed unit.val, Obj.ckGaps unit.val, Obj.ckShort unit.val, Obj.selfcheckTransient unit.val] [] (fun u =>
      [Obj.ckProtected unit.val, Obj.ckVerified unit.val, Obj.checkFails unit.val, Obj.repeats unit.val, Obj.ckMissed unit.val, Obj.ckGaps unit.val, Obj.ckShort unit.val, Obj.selfcheckTransient unit.val].all (fun k => u.obj k == 0) = true))

/-- The self-test starts by its schedule or by command and is counted (R370, R371, R377); where all of it passes and no run failed before
it, the SME goes on from its committed state and nothing else changes (R371); a write of 1 to DEBUG_CMD over the service link halts the SME
and sets DEBUG_BROKE, one of 2 resumes it from its mordant point with its log replayed (R374); CLEAR sets the counters to 0 (R377). -/
def Obligations.SmeTests : Prop :=
  (∀ (s : State),
    s.rst.coreOn = true →
    s.smeOn = true →
    Does .selftest s [Obj.smeState, Obj.selftests] [] (fun u =>
      u.obj Obj.smeState = smeTesting ∧ u.obj Obj.selftests = (s.obj Obj.selftests + 1) % 2 ^ 32)) ∧
  (∀ (s : State),
    s.rst.coreOn = true →
    s.smeOn = true →
    s.obj Obj.selftestInterval ≠ 0 →
    Does .selftestIntervalExpiry s [Obj.smeState, Obj.selftests] [.time] (fun u =>
      u.obj Obj.smeState = smeTesting ∧ u.obj Obj.selftests = (s.obj Obj.selftests + 1) % 2 ^ 32 ∧
        s.sme.lastTest + s.obj Obj.selftestInterval * 3600 * sec ≤ u.now)) ∧
  (∀ (s : State) (snd : Sender),
    s.admits snd.who (writeReq snd 0x7410 2 [1]) →
    s.obj Obj.smeState = smeRunning →
    Answers (.selftestCmd snd) s snd.who (writeReq snd 0x7410 2 [1]) stDone [] [Obj.smeState, Obj.selftests] [] (fun u =>
      u.obj Obj.smeState = smeTesting ∧ u.obj Obj.selftests = (s.obj Obj.selftests + 1) % 2 ^ 32)) ∧
  (∀ (s : State),
    s.rst.coreOn = true →
    s.obj Obj.smeState = smeTesting →
    s.sme.failed = none →
    s.sme.escalated = false →
    Does (.selftestComplete false 0 false) s [Obj.smeState, Obj.selftestResult] [.sme] (fun u =>
      u.obj Obj.smeState = smeRunning ∧ u.obj Obj.selftestResult = 1 ∧ u.sme = { s.sme with lastTest := s.now })) ∧
  (∀ (s : State) (snd : Sender),
    s.admits snd.who (writeReq snd 0x7410 4 [1]) →
    snd.who = .farif →
    s.obj Obj.smeState ≠ smeHalted →
    s.sme.failed = none →
    Answers (.debugHalt snd) s snd.who (writeReq snd 0x7410 4 [1]) stDone [] [Obj.smeState, Obj.faultSummary] [.sme] (fun u =>
      u.obj Obj.smeState = smeHalted ∧ u.flag Obj.faultSummary fsDebugBroke = true ∧ u.sme = { s.sme with escalated := false })) ∧
  (∀ (s : State) (snd : Sender),
    s.admits snd.who (writeReq snd 0x7410 4 [2]) →
    snd.who = .farif →
    s.obj Obj.smeState = smeHalted →
    s.flag Obj.smeOosMap 4 = false →
    s.sme.log = [] →
    Answers (.debugResume snd) s snd.who (writeReq snd 0x7410 4 [2]) stDone [] [Obj.smeState] [.sme] (fun u =>
      u.obj Obj.smeState = smeRunning ∧ u.sme = { s.sme with map := s.sme.mordant })) ∧
  (∀ (s : State) (snd : Sender),
    s.admits snd.who (writeReq snd 0x7410 6 [0]) →
    Answers (.smeCountersClear snd) s snd.who (writeReq snd 0x7410 6 [0]) stDone [] [Obj.smeMismatches, Obj.smeTransient, Obj.selftests, Obj.maxRestartNs, Obj.skippedByTest, Obj.extraMordant, Obj.eccCorrected] [] (fun u =>
      [Obj.smeMismatches, Obj.smeTransient, Obj.selftests, Obj.maxRestartNs, Obj.skippedByTest, Obj.extraMordant, Obj.eccCorrected].all (fun k => u.obj k == 0) = true))

/-- Removal and the fall of PE_EN turn every gate off (R383, R392); a rise of PE_EN after 10 µs clears the latch and leads to INSERT (R392);
INSERT_DELAY and the retry timer lead to a ramp on the good feed (R386, R391), which ends in SETTLE at full enhancement (R387); 10 s of
power-good clear RETRY_COUNT (R391); a reset of the housekeeping domain leaves nothing running until a feed brings it up clean (R380). -/
def Obligations.PowerEntryStates : Prop :=
  (∀ (s : State) (q : Nat),
    s.pe.goneSince = some q →
    s.pe.removed = false →
    s.pe.alive = true →
    s.pe.pgood = false →
    s.rst.coreOn = false →
    s.pe.test = none →
    Does .removal s [Obj.nodeState] [.pe] (fun u =>
      u.obj Obj.nodeState = 0 ∧
        u.pe = { s.pe with tick := max s.pe.tick (q + 10000), state := peOff, latched := false, retryAt := none, retryCount := 0, removed := true, ramp := none, gateFull := false, test := none, retest := none, transfer := none, faultTimer := 0, on1 := false, on2 := false })) ∧
  (∀ (s : State),
    s.pe.alive = true →
    s.pe.pgood = false →
    s.pe.state ≠ peHold →
    s.pe.state ≠ peDisabled →
    s.pe.state ≠ peLimit →
    s.pe.state ≤ 10 →
    s.pe.enLow = none →
    s.feedGood 1 = true →
    s.rst.coreOn = false →
    s.pe.test = none →
    Does .peEnLow s [Obj.nodeState] [.pe, .blobs] (fun u =>
      u.obj Obj.nodeState = 0 ∧
        u.pe = { s.pe with peEn := false, enLow := some s.pe.tick, state := peDisabled, ramp := none, gateFull := false, test := none, retest := none, transfer := none, faultTimer := 0, on1 := false, on2 := false } ∧
        bits (leVal (u.blob Obj.peLastFault)) 31 24 = causePeEn ∧ bits (leVal (u.blob Obj.peLastFault)) 15 8 = s.pe.state ∧
        (∀ k, k ≠ Obj.peLastFault → u.blob k = s.blob k))) ∧
  (∀ (s : State) (lowNs : Nat),
    s.pe.alive = true →
    s.pe.state = peDisabled →
    10000 ≤ lowNs →
    Does (.peEnHigh lowNs) s [] [.pe] (fun u =>
      u.pe = { s.pe with peEn := true, enLow := none, latched := false, state := peInsert, retryAt := none })) ∧
  (∀ (s : State) (q : Nat),
    s.rst.coreOn = false →
    s.pe.state = peInsert →
    s.feedGood 1 = true →
    s.feedGood 2 = false →
    s.pe.feed1.goodSince = some q →
    Does .insertDelayExpiry s [Obj.nodeState] [.pe] (fun u =>
      u.pe = { s.pe with tick := max s.pe.tick (q + max 1 (s.peCfg Obj.insertDelay * 1000)), state := peRamp, retryAt := none, ramp := some { path := 1, start := max s.pe.tick (q + max 1 (s.peCfg Obj.insertDelay * 1000)) }, on1 := true, on2 := false, gateFull := false, transfer := none } ∧
        u.obj Obj.nodeState = 1)) ∧
  (∀ (s : State) (q : Nat),
    s.rst.coreOn = false →
    s.pe.state = peTripped →
    s.pe.retryAt = some q →
    s.feedGood 1 = true →
    s.feedGood 2 = false →
    Does .retryTimeExpiry s [Obj.nodeState] [.pe] (fun u =>
      u.pe = { s.pe with tick := max s.pe.tick q, state := peRamp, retryAt := none, ramp := some { path := 1, start := max s.pe.tick q }, on1 := true, on2 := false, gateFull := false, transfer := none } ∧
        u.obj Obj.nodeState = 1)) ∧
  (∀ (s : State) (p : Ramp),
    s.pe.state = peRamp →
    s.pe.ramp = some p →
    p.whole.isSome = true →
    Does .rampComplete s [] [.pe] (fun u =>
      u.pe = { s.pe with state := peSettle, gateFull := true, settleFrom := max s.pe.settleFrom s.pe.tick })) ∧
  (∀ (s : State) (p : Ramp),
    s.pe.state = peRamp →
    s.pe.ramp = some p →
    p.whole = none →
    Does .rampComplete s [Obj.lastInrushUc, Obj.lastRampMj, Obj.lastRampUs, Obj.lastLimitMj] [.pe] (fun u =>
      u.pe = { s.pe with state := peSettle, gateFull := true, settleFrom := max s.pe.settleFrom s.pe.tick, ramp := some { p with whole := some (s.pe.tick - p.start) }, lastCharge := p.charge / 1000 % 2 ^ 32, lastEnergy := p.energy / 10 ^ 9 % 2 ^ 32, lastLength := (s.pe.tick - p.start) % 2 ^ 32 } ∧
        u.obj Obj.lastRampUs = (s.pe.tick - p.start) % 2 ^ 32 ∧ u.obj Obj.lastInrushUc = p.charge / 1000 % 2 ^ 32 ∧
        u.obj Obj.lastRampMj = p.energy / 10 ^ 9 % 2 ^ 32 ∧ u.obj Obj.lastLimitMj = s.pe.lastLimit)) ∧
  (∀ (s : State),
    s.pe.pgood = true →
    Does .retryCountReset s [Obj.retryCount] [.pe] (fun u =>
      u.pe = { s.pe with tick := max s.pe.tick (s.pe.pgoodSince + 10000000), retryCount := 0 } ∧ u.obj Obj.retryCount = 0)) ∧
  (∀ (s : State),
    s.pe.pgood = false →
    s.rst.coreOn = false →
    s.pe.test = none →
    Does .hkDomainReset s [Obj.nodeState] [.pe] (fun u =>
      u.obj Obj.nodeState = 0 ∧ u.pe.alive = false ∧ u.pe.state = peOff ∧ u.pe.pgood = false ∧ u.pe.copied = false ∧ u.pe.copy = [] ∧
        u.pe.on1 = false ∧ u.pe.on2 = false ∧ u.pe.gateFull = false ∧ u.pe.retryCount = 0 ∧ u.pe.latched = false ∧ u.pe.ramp = none ∧
        u.pe.tick = s.pe.tick)) ∧
  (∀ (s : State) (rtcPeriods : Nat),
    s.pe.alive = false →
    Does (.hkDomainCleanStart rtcPeriods) s [] [.pe, .tb, .rst] (fun u =>
      u.pe = { s.pe with alive := true, state := peOff } ∧ u.tb = { s.tb with rtcTime := s.tb.rtcTime + rtcPeriods * 1000000000 / 32768 } ∧
        u.rst = { s.rst with onVbat := false, standby := false, wokenBy := none }))

/-- A trip turns every gate off, is counted and recorded, and waits for RETRY_TIME, or latches once RETRY_LIMIT is passed (R387, R390, R391,
R402); with power-good high it takes the core supplies away, and the node is OFF with what a power loss keeps (R17, R389, R416). -/
def Obligations.PowerEntryTrips : Prop :=
  (∀ (s : State),
    s.rst.coreOn = false →
    s.pe.pgood = false →
    s.pe.state ≠ peLimit →
    s.pe.test = none →
    peConducts s.pe.state = true →
    (s.peCfg Obj.retryLimit = 255 ∨ s.pe.retryCount + 1 ≤ s.peCfg Obj.retryLimit) →
    Does .shortTrip s [Obj.trips, Obj.vgNextSeq, Obj.nodeState] [.pe, .blobs, .vgHead] (fun u =>
      u.pe = { s.pe with tick := s.pe.tick, retryCount := s.pe.retryCount + 1, latched := false, state := peTripped, retryAt := some (s.pe.tick + s.peCfg Obj.retryTime * 1000), ramp := none, gateFull := false, test := none, retest := none, transfer := none, faultTimer := 0, on1 := false, on2 := false } ∧
        u.obj Obj.trips = (s.obj Obj.trips + 1) % 2 ^ 32 ∧ bits (leVal (u.blob Obj.peLastFault)) 31 24 = causeShort ∧
        (∀ k, k ≠ Obj.peLastFault → u.blob k = s.blob k) ∧
        (u.vgHead.getLast?.map (fun e => (e.index, e.detail))) = some (0x7840, causeShort))) ∧
  (∀ (s : State),
    s.rst.coreOn = false →
    s.pe.pgood = false →
    s.pe.state ≠ peLimit →
    s.pe.test = none →
    peConducts s.pe.state = true →
    s.peCfg Obj.retryLimit ≠ 255 →
    s.peCfg Obj.retryLimit ≤ s.pe.retryCount →
    Does .shortTrip s [Obj.trips, Obj.vgNextSeq, Obj.nodeState] [.pe, .blobs, .vgHead] (fun u =>
      u.pe.state = peLatched ∧ u.pe.latched = true ∧ u.pe.retryAt = none ∧ u.pe.on1 = false ∧ u.pe.on2 = false ∧ u.pe.gateFull = false ∧
        u.pe.retryCount = s.pe.retryCount + 1)) ∧
  (∀ (s : State),
    s.pe.pgood = true →
    s.rst.coreOn = true →
    s.rst.standby = false →
    s.pe.state = peOn →
    Leads .shortTrip s (fun u =>
      u.pe.pgood = false ∧ u.pe.on1 = false ∧ u.pe.on2 = false ∧ u.pe.gateFull = false ∧ u.rst.coreOn = false ∧ u.obj Obj.nodeState = 0 ∧
        resetObjs 1 [Obj.nodeState, Obj.cellsRetired, Obj.faultSummary, Obj.trips, Obj.vgNextSeq] s u ∧ u.dram = [] ∧
        u.obj Obj.trips = (s.obj Obj.trips + 1) % 2 ^ 32)) ∧
  (∀ (s : State) (p : Ramp),
    s.rst.coreOn = false →
    s.pe.pgood = false →
    s.pe.state ≠ peLimit →
    s.pe.test = none →
    s.pe.state = peRamp →
    s.pe.ramp = some p →
    (s.peCfg Obj.retryLimit = 255 ∨ s.pe.retryCount + 1 ≤ s.peCfg Obj.retryLimit) →
    Does .rampTimeout s [Obj.trips, Obj.vgNextSeq, Obj.nodeState] [.pe, .blobs, .vgHead] (fun u =>
      u.pe = { s.pe with tick := (max s.pe.tick (p.start + s.peCfg Obj.rampLimit * 1000)), retryCount := s.pe.retryCount + 1, latched := false, state := peTripped, retryAt := some ((max s.pe.tick (p.start + s.peCfg Obj.rampLimit * 1000)) + s.peCfg Obj.retryTime * 1000), ramp := none, gateFull := false, test := none, retest := none, transfer := none, faultTimer := 0, on1 := false, on2 := false } ∧
        u.obj Obj.trips = (s.obj Obj.trips + 1) % 2 ^ 32 ∧ bits (leVal (u.blob Obj.peLastFault)) 31 24 = causeRampTimeout ∧
        (∀ k, k ≠ Obj.peLastFault → u.blob k = s.blob k) ∧
        (u.vgHead.getLast?.map (fun e => (e.index, e.detail))) = some (0x7840, causeRampTimeout))) ∧
  (∀ (s : State),
    s.rst.coreOn = false →
    s.pe.pgood = false →
    s.pe.state = peLimit →
    s.pe.test = none →
    (s.peCfg Obj.retryLimit = 255 ∨ s.pe.retryCount + 1 ≤ s.peCfg Obj.retryLimit) →
    Does .faultTimeExpiry s [Obj.trips, Obj.vgNextSeq, Obj.lastLimitMj, Obj.nodeState] [.pe, .blobs, .vgHead] (fun u =>
      u.pe = { s.pe with tick := (s.pe.tick + (s.peCfg Obj.faultTime - s.pe.faultTimer)), retryCount := s.pe.retryCount + 1, limitEnergy := 0, lastLimit := s.pe.limitEnergy / 10 ^ 9 % 2 ^ 32, latched := false, state := peTripped, retryAt := some ((s.pe.tick + (s.peCfg Obj.faultTime - s.pe.faultTimer)) + s.peCfg Obj.retryTime * 1000), ramp := none, gateFull := false, test := none, retest := none, transfer := none, faultTimer := 0, on1 := false, on2 := false } ∧
        u.obj Obj.trips = (s.obj Obj.trips + 1) % 2 ^ 32 ∧ bits (leVal (u.blob Obj.peLastFault)) 31 24 = causeOvercurrent ∧
        (∀ k, k ≠ Obj.peLastFault → u.blob k = s.blob k) ∧
        (u.vgHead.getLast?.map (fun e => (e.index, e.detail))) = some (0x7840, causeOvercurrent) ∧
        u.obj Obj.lastLimitMj = s.pe.limitEnergy / 10 ^ 9 % 2 ^ 32))

/-- In a tick with both feeds good and no event, the measurements follow and nothing else changes (R384, R401); an ideal diode turns off
(R395), a break-before-make transfer completes after BBM_US (R396), and PRIO_FEED takes the load back after PRIO_RETURN or by command
(R397); a feed test moves the load to the feed, passes after TEST_TIME, and is repeated (R398); a feed that stays away is a lasting fault,
closed once the feed is good for 1 s (R398); CLEAR restarts the extremes (R406). -/
def Obligations.PowerEntryPaths : Prop :=
  (∀ (s : State) (sample : PeSample) (i : PeSample) (a1 : Nat) (a2 : Nat) (ma : Nat) (l : List (Nat × Nat × Nat × Nat)),
    i = sample →
    s.pe.alive = true →
    s.rst.coreOn = true →
    s.rst.standby = false →
    s.rst.onVbat = false →
    s.pe.state = peOn →
    s.pe.pgood = true →
    s.pe.faultTimer = 0 →
    s.pe.ramp = none →
    s.pe.transfer = none →
    s.pe.test = none →
    s.pe.retest = none →
    s.pe.on1 = true →
    s.pe.on2 = true →
    s.pe.enLow = none →
    s.peCfg Obj.combine = 0 →
    s.pe.tick + 1 < s.pe.pgoodSince + 10000000 →
    a1 = s.peMeasure 0x440 i.feed1 →
    s.pe.feed1.up = true →
    s.pe.feed1.high = false →
    s.pe.feed1.lasting = false →
    s.pe.feed1.lostAt = none →
    s.peCfg Obj.uvMv ≤ a1 →
    s.peCfg Obj.warnMv ≤ a1 →
    2000 ≤ a1 →
    a1 ≤ s.peCfg Obj.ovMv →
    i.vcom ≤ a1 + 10 →
    a2 = s.peMeasure 0x441 i.feed2 →
    s.pe.feed2.up = true →
    s.pe.feed2.high = false →
    s.pe.feed2.lasting = false →
    s.pe.feed2.lostAt = none →
    s.peCfg Obj.uvMv ≤ a2 →
    s.peCfg Obj.warnMv ≤ a2 →
    2000 ≤ a2 →
    a2 ≤ s.peCfg Obj.ovMv →
    i.vcom ≤ a2 + 10 →
    5000 ≤ i.feed1 →
    i.peEn = true →
    s.peCfg Obj.busUvMv ≤ i.bus →
    ma = s.busCurrent i.sense →
    ma < s.peCfg Obj.ilim * 100000 / s.peCfg Obj.senseUohm →
    i.sense < 2 * s.peCfg Obj.ilim * 100 →
    l = lastN 1000 (s.pe.samples ++ [(a1, a2, i.bus, ma)]) →
    Does (.powerEntryTick sample) s [Obj.peState, Obj.peFlags, Obj.feed1Mv, Obj.feed2Mv, Obj.busMv, Obj.busMa, Obj.carrying, Obj.retryCount, Obj.peakMa, Obj.peakTime, Obj.maxFeed1Mv, Obj.maxFeed2Mv, Obj.minFeed1Mv, Obj.minFeed2Mv, Obj.minBusMv] [.pe] (fun u =>
      u.pe = { s.pe with tick := s.pe.tick + 1, feed1 := { s.pe.feed1 with mv := a1, overLow := none, absent := false, warnSince := some (s.pe.feed1.warnSince.getD (s.pe.tick + 1)) }, feed2 := { s.pe.feed2 with mv := a2, overLow := none, absent := false, warnSince := some (s.pe.feed2.warnSince.getD (s.pe.tick + 1)) }, goneSince := none, removed := false, peEn := true, warn := false, samples := l } ∧
        u.obj Obj.peState = peOn ∧ u.obj Obj.carrying = 3 ∧ u.obj Obj.feed1Mv = min 0xFFFF (sampleMean l (·.1)) ∧
        u.obj Obj.feed2Mv = min 0xFFFF (sampleMean l (·.2.1)) ∧ u.obj Obj.busMv = min 0xFFFF (sampleMean l (·.2.2.1)) ∧
        u.obj Obj.busMa = sampleMean l (·.2.2.2) % 2 ^ 32 ∧ u.obj Obj.minBusMv = min i.bus (s.obj Obj.minBusMv))) ∧
  (∀ (s : State) (path : Fin 2),
    s.peCfg Obj.combine = 0 →
    pathOn s.pe (path.val + 1) = true →
    Does (.reverseTurnoff path) s [Obj.revTurnoffs] [.pe] (fun u =>
      u.obj Obj.revTurnoffs = (s.obj Obj.revTurnoffs + 1) % 2 ^ 32 ∧
        (u.pe = { s.pe with on1 := if path.val + 1 = 1 then false else s.pe.on1, on2 := if path.val + 1 = 1 then s.pe.on2 else false }))) ∧
  (∀ (s : State) (x : Transfer),
    s.pe.transfer = some x →
    s.pe.test = none →
    Does .bbmTransfer s [] [.pe] (fun u =>
      u.pe = { s.pe with tick := max s.pe.tick (x.start + s.peCfg Obj.bbmUs), transfer := none, on1 := s.pe.on1 || x.incoming == 1, on2 := s.pe.on2 || x.incoming != 1 })) ∧
  (∀ (s : State) (q : Nat),
    s.peCfg Obj.combine = 1 →
    s.pe.state = peOn →
    s.pe.transfer = none →
    s.pe.test = none →
    s.carrier ≠ s.peCfg Obj.prioFeed →
    s.feedStrong (s.peCfg Obj.prioFeed) = true →
    (s.feed (s.peCfg Obj.prioFeed)).warnSince = some q →
    s.peCfg Obj.prioReturn ≠ 0 →
    Does .prioReturnExpiry s [Obj.transfers] [.pe] (fun u =>
      u.obj Obj.transfers = (s.obj Obj.transfers + 1) % 2 ^ 32 ∧
        (u.pe = { s.pe with tick := max s.pe.tick (q + s.peCfg Obj.prioReturn * 1000), on1 := if s.carrier = 1 then false else s.pe.on1, on2 := if s.carrier = 1 then s.pe.on2 else false, transfer := some { outgoing := s.carrier, incoming := s.peCfg Obj.prioFeed, start := max s.pe.tick (q + s.peCfg Obj.prioReturn * 1000) } }))) ∧
  (∀ (s : State) (snd : Sender) (q : Nat),
    s.admits snd.who (writeReq snd 0x7830 0 [3]) →
    s.peCfg Obj.combine = 1 →
    s.pe.state = peOn →
    s.pe.transfer = none →
    s.pe.test = none →
    s.carrier ≠ s.peCfg Obj.prioFeed →
    s.feedStrong (s.peCfg Obj.prioFeed) = true →
    (s.feed (s.peCfg Obj.prioFeed)).warnSince = some q →
    q + s.peCfg Obj.prioReturn * 1000 ≤ s.pe.tick →
    Answers (.peCmdReturn snd) s snd.who (writeReq snd 0x7830 0 [3]) stDone [] [Obj.transfers] [.pe] (fun u =>
      u.obj Obj.transfers = (s.obj Obj.transfers + 1) % 2 ^ 32 ∧
        (u.pe = { s.pe with  on1 := if s.carrier = 1 then false else s.pe.on1, on2 := if s.carrier = 1 then s.pe.on2 else false, transfer := some { outgoing := s.carrier, incoming := s.peCfg Obj.prioFeed, start := s.pe.tick } }))) ∧
  (∀ (s : State) (snd : Sender),
    s.admits snd.who (writeReq snd 0x7830 0 [1]) →
    s.pe.test = none →
    s.pe.state = peOn →
    s.feedGood 2 = true →
    s.pe.on2 = true →
    Answers (.peCmdTestFeed1 snd) s snd.who (writeReq snd 0x7830 0 [1]) stDone [] [Obj.transfers] [.pe] (fun u =>
      u.obj Obj.transfers = (s.obj Obj.transfers + 1) % 2 ^ 32 ∧
        u.pe = { s.pe with on2 := false, test := some { feed := 1, start := s.pe.tick, minMv := (s.feed 1).mv }, transfer := some { outgoing := 2, incoming := 1, start := s.pe.tick } })) ∧
  (∀ (s : State) (snd : Sender),
    s.admits snd.who (writeReq snd 0x7830 0 [2]) →
    s.single = false →
    s.pe.test = none →
    s.pe.state = peOn →
    s.feedGood 1 = true →
    s.pe.on1 = true →
    Answers (.peCmdTestFeed2 snd) s snd.who (writeReq snd 0x7830 0 [2]) stDone [] [Obj.transfers] [.pe] (fun u =>
      u.obj Obj.transfers = (s.obj Obj.transfers + 1) % 2 ^ 32 ∧
        u.pe = { s.pe with on1 := false, test := some { feed := 2, start := s.pe.tick, minMv := (s.feed 2).mv }, transfer := some { outgoing := 1, incoming := 2, start := s.pe.tick } })) ∧
  (∀ (s : State) (e : FeedTest),
    s.pe.test = some e →
    s.pe.transfer = none →
    e.second = false →
    s.peCfg Obj.combine ≠ 1 →
    Does .testTimeExpiry s [Obj.testResult] [.pe] (fun u =>
      u.obj Obj.testResult = 1 ∧ u.pe = { s.pe with tick := max s.pe.tick (e.start + s.peCfg Obj.testTime * 1000), test := none })) ∧
  (∀ (s : State) (n : Nat) (q : Nat),
    s.pe.retest = some (n, q) →
    (n = 1 ∨ n = 2) →
    s.pe.state = peOn →
    s.feedGood (otherFeed n) = true →
    pathOn s.pe (otherFeed n) = true →
    Does .feedRetest s [Obj.transfers] [.pe] (fun u =>
      u.obj Obj.transfers = (s.obj Obj.transfers + 1) % 2 ^ 32 ∧
        u.pe = { s.pe with tick := max s.pe.tick q, retest := none, on1 := s.pe.on1 && n == 1, on2 := s.pe.on2 && n == 2, test := some { feed := n, start := max s.pe.tick q, minMv := (s.feed n).mv, second := true }, transfer := some { outgoing := otherFeed n, incoming := n, start := max s.pe.tick q } })) ∧
  (∀ (s : State) (feed : Fin 2) (q : Nat),
    (s.feed (feed.val + 1)).lostAt = some q →
    (s.feed (feed.val + 1)).lasting = false →
    s.feedUsed (feed.val + 1) = true →
    s.faultOpen 0x7810 0x0D (feed.val + 1) = false →
    Does (.feedFaultLasting feed) s [Obj.feedLasting, Obj.vgNextSeq] (.pe :: logParts) (fun u =>
      u.obj Obj.feedLasting = (s.obj Obj.feedLasting + 1) % 2 ^ 32 ∧
        u.feed (feed.val + 1) = { s.feed (feed.val + 1) with lasting := true, lostAt := none } ∧
        u.feed (2 - feed.val) = s.feed (2 - feed.val) ∧ u.pe.tick = max s.pe.tick (q + 1000000) ∧
        u.faultOpen 0x7810 0x0D (feed.val + 1) = true)) ∧
  (∀ (s : State) (feed : Fin 2) (q : Nat),
    (s.feed (feed.val + 1)).goodSince = some q →
    (s.feed (feed.val + 1)).lasting = true →
    s.faultOpen 0x7810 0x0D (feed.val + 1) = false →
    Does (.feedFaultClose feed) s [] [.pe] (fun u =>
      u.feed (feed.val + 1) = { s.feed (feed.val + 1) with lasting := false } ∧ u.feed (2 - feed.val) = s.feed (2 - feed.val) ∧
        u.pe.tick = max s.pe.tick (q + 1000000))) ∧
  (∀ (s : State) (feed : Fin 2) (q : Nat) (o : OpenFault),
    (s.feed (feed.val + 1)).goodSince = some q →
    (s.feed (feed.val + 1)).lasting = true →
    s.vgOpen = [o] →
    o.entry.index = 0x7810 →
    o.entry.sub = 0x0D →
    o.entry.inst = feed.val + 1 →
    Leads (.feedFaultClose feed) s (fun u =>
      u.vgOpen = [] ∧ (u.feed (feed.val + 1)).lasting = false ∧
        (u.vgHead.getLast?.map (fun e => (e.index, e.sub, e.inst, e.kind))) = some (0x7810, 0x0D, feed.val + 1, 3) ∧
        u.objs = (s.put Obj.vgNextSeq ((s.obj Obj.vgNextSeq + 1) % 2 ^ 32)).objs)) ∧
  (∀ (s : State) (snd : Sender),
    s.admits snd.who (writeReq snd 0x7820 12 [0]) →
    Answers (.peMeasureClear snd) s snd.who (writeReq snd 0x7820 12 [0]) stDone [] [Obj.peakMa, Obj.peakTime, Obj.maxFeed1Mv, Obj.maxFeed2Mv, Obj.minFeed1Mv, Obj.minFeed2Mv, Obj.minBusMv] [] (fun u =>
      ([Obj.peakMa, Obj.peakTime, Obj.maxFeed1Mv, Obj.maxFeed2Mv, Obj.minFeed1Mv, Obj.minFeed2Mv, Obj.minBusMv].take 4).all (fun k => u.obj k == 0) = true ∧
        ([Obj.peakMa, Obj.peakTime, Obj.maxFeed1Mv, Obj.maxFeed2Mv, Obj.minFeed1Mv, Obj.minFeed2Mv, Obj.minBusMv].drop 4).all (fun k => u.obj k == 0xFFFF) = true))

/-- The core supply monitor raises a POR (R407), RST_N low for 0.2 µs or more that is taken a PIN reset (R408), the watchdog a WDG reset
(R410), and RESET_CMD, 1 ms after its response, a WARM or RING reset (R409), and the end of the settle time, with which power-good rises, a
POR (R389, R407); each leaves of the dictionary what its kind keeps and defaults elsewhere, its counter is counted, and the node is in
LOADING (R407, R411, R416). -/
def Obligations.ResetKinds : Prop :=
  (∀ (s : State),
    s.rst.vbatLow = false →
    s.rst.coreOn = true →
    s.onRing = true →
    s.rst.starting ≠ some 0 →
    Leads .por s (fun u =>
      u.obj Obj.lastReset = 1 ∧ u.obj Obj.lastResetTime = u.now ∧ u.obj Obj.resetOrigin = 0 ∧
        u.obj (Obj.resets (1 - 1)) = (s.obj (Obj.resets (1 - 1)) + 1) % 2 ^ 32 ∧ u.obj Obj.nodeState = stLoading ∧
        u.obj Obj.stateReason = 0x08 ∧ u.obj Obj.stateEntered = u.now ∧ u.rst.coreOn = true ∧ u.rst.loaded = false ∧ u.rst.starting = some 1 ∧
        u.rst.startAt = u.now ∧ u.dict = s.dict.afterReset ∧ u.sw = {} ∧ u.eng = {} ∧ u.can = [] ∧ u.uart = [] ∧ u.bridge = {} ∧ u.sme = {} ∧
        u.acc.sessions = [] ∧ u.vgOpen = [] ∧ u.dram = (if keepsDram 1 then s.dram else []) ∧ u.boardDram = s.boardDram ∧ u.pe = s.pe ∧
        u.vgHead = s.vgHead ∧ resetObjs 1 [Obj.cellsRetired, Obj.faultSummary, Obj.islandState, Obj.lastReset, Obj.lastResetTime, Obj.resetOrigin, Obj.resets (1 - 1), Obj.nodeState, Obj.stateReason, Obj.stateEntered] s u ∧
        u.time = s.rtcNow * 2 ^ 40)) ∧
  (∀ (s : State) (lowNs : Nat) (taken : Bool),
    s.rst.vbatLow = false →
    s.rst.coreOn = true →
    200 ≤ lowNs →
    (1000 ≤ lowNs ∨ taken = true) →
    s.rst.starting = none →
    Leads (.pinReset lowNs taken) s (fun u =>
      u.obj Obj.lastReset = 2 ∧ u.obj Obj.lastResetTime = u.now ∧ u.obj Obj.resetOrigin = 0 ∧
        u.obj (Obj.resets (2 - 1)) = (s.obj (Obj.resets (2 - 1)) + 1) % 2 ^ 32 ∧ u.obj Obj.nodeState = stLoading ∧
        u.obj Obj.stateReason = 0x08 ∧ u.obj Obj.stateEntered = u.now ∧ u.rst.coreOn = true ∧ u.rst.loaded = false ∧ u.rst.starting = some 2 ∧
        u.rst.startAt = u.now ∧ u.dict = s.dict.afterReset ∧ u.sw = {} ∧ u.eng = {} ∧ u.can = [] ∧ u.uart = [] ∧ u.bridge = {} ∧ u.sme = {} ∧
        u.acc.sessions = [] ∧ u.vgOpen = [] ∧ u.dram = (if keepsDram 2 then s.dram else []) ∧ u.boardDram = s.boardDram ∧ u.pe = s.pe ∧
        u.vgHead = s.vgHead ∧ resetObjs 2 [Obj.cellsRetired, Obj.faultSummary, Obj.islandState, Obj.lastReset, Obj.lastResetTime, Obj.resetOrigin, Obj.resets (2 - 1), Obj.nodeState, Obj.stateReason, Obj.stateEntered] s u ∧
        s.now + lowNs + 10 * us ≤ u.now)) ∧
  (∀ (s : State),
    s.rst.vbatLow = false →
    s.rst.coreOn = true →
    s.node ≠ stLoading →
    s.rst.starting = none →
    Leads .wdgExpiry s (fun u =>
      u.obj Obj.lastReset = 3 ∧ u.obj Obj.lastResetTime = u.now ∧ u.obj Obj.resetOrigin = 0 ∧
        u.obj (Obj.resets (3 - 1)) = (s.obj (Obj.resets (3 - 1)) + 1) % 2 ^ 32 ∧ u.obj Obj.nodeState = stLoading ∧
        u.obj Obj.stateReason = 0x08 ∧ u.obj Obj.stateEntered = u.now ∧ u.rst.coreOn = true ∧ u.rst.loaded = false ∧ u.rst.starting = some 3 ∧
        u.rst.startAt = u.now ∧ u.dict = s.dict.afterReset ∧ u.sw = {} ∧ u.eng = {} ∧ u.can = [] ∧ u.uart = [] ∧ u.bridge = {} ∧ u.sme = {} ∧
        u.acc.sessions = [] ∧ u.vgOpen = [] ∧ u.dram = (if keepsDram 3 then s.dram else []) ∧ u.boardDram = s.boardDram ∧ u.pe = s.pe ∧
        u.vgHead = s.vgHead ∧ resetObjs 3 [Obj.cellsRetired, Obj.faultSummary, Obj.islandState, Obj.lastReset, Obj.lastResetTime, Obj.resetOrigin, Obj.resets (3 - 1), Obj.nodeState, Obj.stateReason, Obj.stateEntered] s u)) ∧
  (∀ (s : State) (kind : Nat) (origin : Nat) (q : Nat),
    s.rst.vbatLow = false →
    s.rst.coreOn = true →
    s.rst.due = some (kind, origin, q) →
    (kind = 4 ∨ kind = 5) →
    s.rst.starting = none →
    Leads .resetBegin s (fun u =>
      u.obj Obj.lastReset = kind ∧ u.obj Obj.lastResetTime = u.now ∧ u.obj Obj.resetOrigin = origin ∧
        u.obj (Obj.resets (kind - 1)) = (s.obj (Obj.resets (kind - 1)) + 1) % 2 ^ 32 ∧ u.obj Obj.nodeState = stLoading ∧
        u.obj Obj.stateReason = 0x08 ∧ u.obj Obj.stateEntered = u.now ∧ u.rst.coreOn = true ∧ u.rst.loaded = false ∧
        u.rst.starting = some kind ∧ u.rst.startAt = u.now ∧ u.dict = s.dict.afterReset ∧ u.sw = {} ∧ u.eng = {} ∧ u.can = [] ∧ u.uart = [] ∧
        u.bridge = {} ∧ u.sme = {} ∧ u.acc.sessions = [] ∧ u.vgOpen = [] ∧ u.dram = (if keepsDram kind then s.dram else []) ∧
        u.boardDram = s.boardDram ∧ u.pe = s.pe ∧ u.vgHead = s.vgHead ∧
        resetObjs kind [Obj.cellsRetired, Obj.faultSummary, Obj.islandState, Obj.lastReset, Obj.lastResetTime, Obj.resetOrigin, Obj.resets (kind - 1), Obj.nodeState, Obj.stateReason, Obj.stateEntered] s u ∧
        q ≤ u.now)) ∧
  (∀ (s : State) (q : Nat),
    s.pe.pgood = false →
    s.pe.state = peSettle →
    s.pe.gateFull = true →
    s.pe.faultTimer = 0 →
    s.pe.standby = false →
    s.rst.coreOn = false →
    s.rst.wokenBy = none →
    s.rst.vbatLow = false →
    q = max s.pe.tick (s.pe.settleFrom + s.peCfg Obj.settleTime * 1000) →
    Leads .settleExpiry s (fun u =>
      u.obj Obj.lastReset = 1 ∧ u.obj Obj.lastResetTime = u.now ∧ u.obj Obj.resetOrigin = 0 ∧
        u.obj (Obj.resets (1 - 1)) = (s.obj (Obj.resets (1 - 1)) + 1) % 2 ^ 32 ∧ u.obj Obj.nodeState = stLoading ∧
        u.obj Obj.stateReason = 0x00 ∧ u.obj Obj.stateEntered = u.now ∧ u.rst.coreOn = true ∧ u.rst.loaded = false ∧ u.rst.starting = some 1 ∧
        u.rst.startAt = u.now ∧ u.dict = s.dict.afterReset ∧ u.sw = {} ∧ u.eng = {} ∧ u.can = [] ∧ u.uart = [] ∧ u.bridge = {} ∧ u.sme = {} ∧
        u.acc.sessions = [] ∧ u.vgOpen = [] ∧ u.dram = (if keepsDram 1 then s.dram else []) ∧ u.boardDram = s.boardDram ∧
        u.vgHead = s.vgHead ∧ u.pe = { s.pe with tick := q, pgood := true, pgoodSince := q, state := peOn, ramp := none, on1 := s.pe.on1 || (s.peCfg Obj.combine == 0 && s.feedGood 1), on2 := s.pe.on2 || (s.peCfg Obj.combine == 0 && s.feedGood 2) } ∧
        resetObjs 1 [Obj.cellsRetired, Obj.faultSummary, Obj.islandState, Obj.lastReset, Obj.lastResetTime, Obj.resetOrigin, Obj.resets (1 - 1), Obj.nodeState, Obj.stateReason, Obj.stateEntered] s u)) ∧
  (∀ (s : State) (snd : Sender),
    s.admits snd.who (writeReq snd 0x1200 1 [1]) →
    snd.who = .mailbox →
    s.wrapActive = false →
    Answers (.resetCmdWarm snd) s snd.who (writeReq snd 0x1200 1 [1]) stDone [] [] [.rst] (fun u =>
      u.rst = { s.rst with due := some (5, 1, s.now + ms) })) ∧
  (∀ (s : State) (snd : Sender),
    s.admits snd.who (writeReq snd 0x1200 1 [2]) →
    snd.who = .mailbox →
    Answers (.resetCmdForced snd) s snd.who (writeReq snd 0x1200 1 [2]) stDone [] [] [.rst] (fun u =>
      u.rst = { s.rst with due := some (5, 1, s.now + ms) })) ∧
  (∀ (s : State) (snd : Sender) (n : Nat) (port : Nat),
    s.admits snd.who (writeReq snd 0x1200 1 [2]) →
    snd.who = .ring n port →
    snd.commander ≠ 0 →
    snd.commander = s.holderNow →
    Answers (.resetCmdForced snd) s snd.who (writeReq snd 0x1200 1 [2]) stDone [] [] [.rst] (fun u =>
      u.rst = { s.rst with due := some (4, snd.commander, s.now + ms) }))

/-- A start with BOOT_SEL 2 or after three failed ones ends in ROM recovery (R418, R443, R444); one from a slot whose image passes its check
and whose sections and injection test are good loads the objects, and the links come up (R418), while a slot whose image fails its check
adds 1 to FAILED_STARTS and ends in a WDG reset (R418, R442); rails not within limits in time are logged in the head (R453). The check of
the signature is a free value (log entry 4). -/
def Obligations.Starts : Prop :=
  (∀ (s : State) (found : StartFound),
    s.rst.coreOn = true →
    s.node = stLoading →
    s.rst.loaded = false →
    s.fw.badStrap = none →
    s.fw.boot0.isSome = true →
    found.bootSel = 2 →
    Leads (.startSequence found) s (fun u =>
      u.obj Obj.nodeState = stRecovery ∧ u.obj Obj.stateReason = 0x09 ∧ u.rst.loaded = true ∧ s.rst.startAt + found.ns ≤ u.now)) ∧
  (∀ (s : State) (found : StartFound),
    s.rst.coreOn = true →
    s.node = stLoading →
    s.rst.loaded = false →
    s.fw.badStrap = none →
    s.fw.boot0.isSome = true →
    found.bootSel = 0 →
    s.fw.boot1 = none →
    3 ≤ s.boot.failed →
    Leads (.startSequence found) s (fun u =>
      u.obj Obj.nodeState = stRecovery ∧ u.obj Obj.stateReason = 0x0A ∧ u.rst.loaded = true)) ∧
  (∀ (s : State) (found : StartFound) (b : BootRecord),
    s.rst.coreOn = true →
    s.node = stLoading →
    s.rst.loaded = false →
    s.fw.badStrap = none →
    s.fw.boot0 = some b →
    s.fw.boot1 = none →
    found.bootSel = 0 →
    b.failed = 0 →
    b.trial = false →
    (b.slot0 = 0 ∨ 4 ≤ b.slot0) →
    (b.slot1 = 0 ∨ 4 ≤ b.slot1) →
    s.rst.vbatLow = false →
    Leads (.startSequence found) s (fun u =>
      (s.imageStatus (s.image s.boot.active).data = none → found.reloadGood = true → found.injectGood = true →
        imgSectionsGood (s.image s.boot.active).data = true → u.rst.loaded = true) ∧
        (∀ st, s.imageStatus (s.image s.boot.active).data = some st → u.boot.failed = 1 ∧
        u.obj Obj.lastReset = (match s.rst.starting with | some k => min k 3 | none => 3) ∧ u.obj Obj.nodeState = stLoading ∧
        u.rst.loaded = false ∧ u.rst.raised = 3))) ∧
  (∀ (s : State) (rails : Fin 64),
    s.rst.coreOn = true →
    s.node = stLoading →
    s.rst.loaded = false →
    Does (.railTimeout rails) s [Obj.vgNextSeq] [.time, .vgHead] (fun u =>
      s.rst.startAt + 100 * ms ≤ u.now ∧
        (u.vgHead.getLast?.map (fun e => (e.index, e.kind, e.status, e.detail, e.fromIsland))) = some (0x1200, 1, stInternal, rails.val, true)))

/-- POWER_CMD leads to RUN, DOZE and HOLD, and starts the unweld that leads to STANDBY (R412 to R414); STANDBY_ENTRY takes the core supplies
away with what STANDBY keeps (R414, R416), and a wake starts the node again, abandons the entry before its census, or waits for it to
complete (R389, R415); below 2.7 V the island runs from VBAT, and a low VBAT is kept (R412, R419); VG_CMD empties the log and is logged
itself (R422). -/
def Obligations.PowerStates : Prop :=
  (∀ (s : State) (snd : Sender),
    s.admits snd.who (writeReq snd 0x1210 1 [0]) →
    s.obj Obj.powerState ≠ 0 →
    Answers (.powerCmdRun snd) s snd.who (writeReq snd 0x1210 1 [0]) stDone [] [Obj.powerState] [] (fun u =>
      u.obj Obj.powerState = 0)) ∧
  (∀ (s : State) (snd : Sender),
    s.admits snd.who (writeReq snd 0x1210 1 [1]) →
    s.obj Obj.powerState = 0 →
    Answers (.powerCmdDoze snd) s snd.who (writeReq snd 0x1210 1 [1]) stDone [] [Obj.powerState] [] (fun u =>
      u.obj Obj.powerState = 1)) ∧
  (∀ (s : State) (snd : Sender),
    s.admits snd.who (writeReq snd 0x1210 1 [2]) →
    s.obj Obj.powerState = 0 →
    s.fc.cells = [] →
    s.eng.engines = [] →
    s.can = [] →
    s.uart = [] →
    s.obj Obj.stageState ≠ 2 →
    s.obj Obj.stageState ≠ 3 →
    s.obj Obj.storeState ≠ 1 →
    s.obj Obj.smeState ≠ smeTesting →
    Answers (.powerCmdHold snd) s snd.who (writeReq snd 0x1210 1 [2]) stDone [] [Obj.powerState] [] (fun u =>
      u.obj Obj.powerState = 2)) ∧
  (∀ (s : State) (snd : Sender),
    s.admits snd.who (writeReq snd 0x1210 1 [3]) →
    s.obj Obj.powerState = 0 →
    s.obj Obj.wakePinEn = 1 →
    s.wrapActive = false →
    s.ringState ≠ 4 →
    s.acc.unweld = none →
    (∀ e ∈ s.acc.sessions, e.role ≠ 2) →
    s.obj Obj.stageState ≠ 2 →
    s.obj Obj.stageState ≠ 3 →
    s.obj Obj.storeState ≠ 1 →
    s.obj Obj.smeState ≠ smeTesting →
    Answers (.powerCmdStandby snd) s snd.who (writeReq snd 0x1210 1 [3]) stDone [] [Obj.weldState] [.acc] (fun u =>
      u.obj Obj.weldState = 3 ∧ u.acc = { s.acc with unweld := some { start := s.now, standby := true } })) ∧
  (∀ (s : State) (x : Unweld),
    s.acc.unweld = some x →
    x.standby = true →
    x.requested = true →
    s.ownId = 0 →
    s.rst.coreOn = true →
    s.rst.wakeWaiting = none →
    Leads .standbyEntry s (fun u =>
      u.rst.standby = true ∧ u.rst.coreOn = false ∧ u.rst.wakeAt = s.obj Obj.wakeAt ∧ u.rst.wakePin = (s.obj Obj.wakePinEn == 1) ∧
        u.pe = { s.pe with pgood := false, standby := true } ∧ u.obj Obj.nodeState = 1 ∧
        resetObjs 7 [Obj.nodeState, Obj.cellsRetired, Obj.faultSummary] s u ∧ u.dram = [])) ∧
  (∀ (s : State),
    s.rst.standby = true →
    s.rst.starting = none →
    s.rst.vbatLow = false →
    s.rst.coreOn = false →
    s.pe.state = peOn →
    s.pe.gateFull = true →
    s.pe.faultTimer = 0 →
    s.pe.settleFrom + s.peCfg Obj.settleTime * 1000 ≤ s.pe.tick →
    s.rst.wakePin = true →
    Leads .wakeN s (fun u =>
      u.rst.standby = false ∧ u.rst.coreOn = true ∧ u.rst.wokenBy = none ∧ u.pe.pgood = true ∧ u.pe.state = peOn ∧ u.pe.standby = false ∧
        u.obj Obj.lastWake = 1 ∧ u.obj Obj.nodeState = stLoading ∧ u.obj Obj.lastReset = 7 ∧
        u.obj (Obj.resets 6) = (s.obj (Obj.resets 6) + 1) % 2 ^ 32)) ∧
  (∀ (s : State),
    s.rst.standby = true →
    s.rst.starting = none →
    s.rst.vbatLow = false →
    s.rst.coreOn = false →
    s.pe.state = peOn →
    s.pe.gateFull = true →
    s.pe.faultTimer = 0 →
    s.pe.settleFrom + s.peCfg Obj.settleTime * 1000 ≤ s.pe.tick →
    s.rst.wakeAt ≠ 0 →
    Leads .wakeAtReached s (fun u =>
      u.rst.standby = false ∧ u.rst.coreOn = true ∧ u.rst.wokenBy = none ∧ u.pe.pgood = true ∧ u.pe.state = peOn ∧ u.pe.standby = false ∧
        u.obj Obj.lastWake = 2 ∧ u.obj Obj.nodeState = stLoading ∧ u.obj Obj.lastReset = 7 ∧
        u.obj (Obj.resets 6) = (s.obj (Obj.resets 6) + 1) % 2 ^ 32 ∧ s.rst.wakeAt ≤ u.now)) ∧
  (∀ (s : State) (x : Unweld),
    s.rst.coreOn = true →
    s.rst.standby = false →
    s.acc.unweld = some x →
    x.standby = true →
    s.acc.census = none →
    s.ownId ≠ 0 →
    s.obj Obj.wakePinEn = 1 →
    Does .wakeN s [Obj.weldState] [.acc] (fun u =>
      u.acc = { s.acc with unweld := none, leaving := none } ∧ u.obj Obj.weldState = 2)) ∧
  (∀ (s : State) (x : Unweld),
    s.rst.coreOn = true →
    s.rst.standby = false →
    s.acc.unweld = some x →
    x.standby = true →
    s.acc.census.isSome = true →
    s.obj Obj.wakePinEn = 1 →
    Does .wakeN s [] [.rst] (fun u =>
      u.rst = { s.rst with wakeWaiting := some 1 })) ∧
  (∀ (s : State),
    s.rst.onVbat = false →
    s.pe.pgood = false →
    s.rst.coreOn = false →
    s.rst.standby = false →
    Does .backupEntry s [Obj.backupEntries, Obj.nodeState] [.rst, .pe] (fun u =>
      u.rst = { s.rst with onVbat := true, vbatUsed := true, wokenBy := none } ∧ u.pe = { s.pe with standby := false } ∧
        u.obj Obj.nodeState = 0 ∧ u.obj Obj.backupEntries = (s.obj Obj.backupEntries + 1) % 2 ^ 32)) ∧
  (∀ (s : State) (mv : Nat),
    s.rst.onVbat = true →
    Does (.vbatLow mv) s [] [.rst] (fun u =>
      u.rst = { s.rst with vbatMv := some (min 0xFFFF mv), vbatLow := true })) ∧
  (∀ (s : State) (mv : Nat),
    s.rst.onVbat = false →
    Does (.vbatLow mv) s [] [.rst] (fun u =>
      u.rst = { s.rst with vbatMv := some (min 0xFFFF mv) })) ∧
  (∀ (s : State) (snd : Sender),
    s.admits snd.who (writeReq snd 0xF000 6 [1]) →
    1 ≤ s.obj Obj.vgCapacity →
    Answers (.vgCmd snd) s snd.who (writeReq snd 0xF000 6 [1]) stDone [] [Obj.vgNextSeq] [.vgHead, .vgMain] (fun u =>
      u.vgHead.length = 1 ∧ u.vgMain.length = 1 ∧
        (u.vgHead.map (fun e => (e.index, e.sub, e.inst, e.kind, e.seq))) = [(0xF000, 6, 0xFFFF, 0, s.obj Obj.vgNextSeq)] ∧
        u.obj Obj.vgNextSeq = (s.obj Obj.vgNextSeq + 1) % 2 ^ 32))

/-- IMG_BEGIN opens a download and erases the slot, whose erase once complete takes data (R434); IMG_DATA at NEXT_OFFSET is programmed,
IMG_END checks the complete image and leaves its slot in state 5, or in state 4 where the check fails, and IMG_ABORT and 10 s without a
frame end it in state 4 (R432, R434); IMG_STATUS changes nothing (R433); every frame is answered (R433), and the link locks at a rate and
loses its lock (R461). -/
def Obligations.Downloads : Prop :=
  (∀ (s : State) (slot : Byte) (total : BitVec 32),
    s.rst.coreOn = true →
    s.fw.linkRate.isSome = true →
    s.node ≠ stLoading →
    s.paused = false →
    s.fw.download = none →
    slot.toNat ≤ 1 →
    4352 ≤ total.toNat →
    total.toNat ≤ 33554432 →
    (s.node = stRecovery ∨ slot.toNat ≠ s.boot.active) →
    Does (.imgBegin slot total) s (bootKeys ++ [Obj.dlState, Obj.dlSlot, Obj.dlReceived, Obj.dlTotal]) [.fw, .blobs, .out] (fun u =>
      u.fw.download = some { slot := slot.toNat, total := total.toNat, last := s.now } ∧ u.image slot.toNat = {} ∧
        u.boot.slotState slot.toNat = 1 ∧ u.obj Obj.dlState = 1 ∧ u.obj Obj.dlSlot = slot.toNat ∧ u.obj Obj.dlReceived = 0 ∧
        u.obj Obj.dlTotal = total.toNat ∧ (∀ k, k ≠ Obj.imgHash 0 → k ≠ Obj.imgHash 1 → u.blob k = s.blob k) ∧ u.answersImage 0x10 (stDone) ∧
        u.out.length = s.out.length + 1)) ∧
  (∀ (s : State) (d : Download),
    s.rst.coreOn = true →
    s.fw.download = some d →
    d.erased = false →
    d.slot ≤ 1 →
    Does .eraseComplete s (bootKeys ++ [Obj.dlState]) [.fw, .blobs] (fun u =>
      u.fw.download = some { d with erased := true } ∧ u.boot.slotState d.slot = 2 ∧ u.obj Obj.dlState = 2 ∧ (∀ k, k ≠ Obj.imgHash 0 →
        k ≠ Obj.imgHash 1 → u.blob k = s.blob k))) ∧
  (∀ (s : State) (offset : BitVec 32) (data : List Byte) (d : Download),
    s.rst.coreOn = true →
    s.fw.linkRate.isSome = true →
    s.node ≠ stLoading →
    s.paused = false →
    s.fw.download = some d →
    d.erased = true →
    d.lastFrame.all (fun l => l.1 != offset.toNat) = true →
    data ≠ [] →
    data.length ≤ 1024 →
    offset.toNat = s.obj Obj.dlReceived →
    offset.toNat + data.length ≤ d.total →
    d.slot ≤ 1 →
    Does (.imgData offset data) s [Obj.dlReceived] [.fw, .out] (fun u =>
      u.image d.slot = { s.image d.slot with data := (s.image d.slot).data ++ data } ∧ u.image (1 - d.slot) = s.image (1 - d.slot) ∧
        u.fw.download = some { d with last := s.now, lastFrame := some (offset.toNat, data) } ∧
        u.obj Obj.dlReceived = offset.toNat + data.length ∧ u.boot = s.boot ∧ u.answersImage 0x11 (stDone) ∧
        u.out.length = s.out.length + 1)) ∧
  (∀ (s : State) (d : Download),
    s.rst.coreOn = true →
    s.fw.linkRate.isSome = true →
    s.node ≠ stLoading →
    s.paused = false →
    s.fw.download = some d →
    d.total ≤ s.obj Obj.dlReceived →
    d.slot ≤ 1 →
    Does .imgEnd s (bootKeys ++ [Obj.dlState, Obj.dlAborts]) [.fw, .blobs, .out] (fun u =>
      u.fw.download = none ∧ u.obj Obj.dlState = 0 ∧ u.boot.slotState d.slot = (if s.imageStatus (s.image d.slot).data = none then 5 else 4) ∧
        u.obj Obj.dlAborts = (if s.imageStatus (s.image d.slot).data = none then s.obj Obj.dlAborts else (s.obj Obj.dlAborts + 1) % 2 ^ 32) ∧
        (u.image d.slot).data = (s.image d.slot).data ∧ (∀ k, k ≠ Obj.imgHash 0 → k ≠ Obj.imgHash 1 → u.blob k = s.blob k) ∧
        u.answersImage 0x12 ((s.imageStatus (s.image d.slot).data).getD stDone) ∧ u.out.length = s.out.length + 1)) ∧
  (∀ (s : State) (d : Download),
    s.rst.coreOn = true →
    s.fw.linkRate.isSome = true →
    s.node ≠ stLoading →
    s.paused = false →
    s.fw.download = some d →
    d.slot ≤ 1 →
    Does .imgAbort s (bootKeys ++ [Obj.dlState, Obj.dlAborts]) [.fw, .blobs, .out] (fun u =>
      u.fw.download = none ∧ u.obj Obj.dlState = 0 ∧ u.boot.slotState d.slot = 4 ∧ u.obj Obj.dlAborts = (s.obj Obj.dlAborts + 1) % 2 ^ 32 ∧
        (∀ k, k ≠ Obj.imgHash 0 → k ≠ Obj.imgHash 1 → u.blob k = s.blob k) ∧ u.answersImage 0x13 (stDone) ∧
        u.out.length = s.out.length + 1)) ∧
  (∀ (s : State) (d : Download),
    s.rst.coreOn = true →
    s.fw.download = some d →
    d.slot ≤ 1 →
    Does .downloadTimeout s (bootKeys ++ [Obj.dlState, Obj.dlAborts]) [.fw, .blobs, .time] (fun u =>
      u.fw.download = none ∧ u.obj Obj.dlState = 0 ∧ u.boot.slotState d.slot = 4 ∧ u.obj Obj.dlAborts = (s.obj Obj.dlAborts + 1) % 2 ^ 32 ∧
        (∀ k, k ≠ Obj.imgHash 0 → k ≠ Obj.imgHash 1 → u.blob k = s.blob k) ∧ d.last + 10 * sec ≤ u.now)) ∧
  (∀ (s : State),
    s.rst.coreOn = true →
    s.fw.linkRate.isSome = true →
    s.node ≠ stLoading →
    s.paused = false →
    s.fw.download = none →
    Does .imgStatus s [] [.out] (fun u =>
      u.answersImage 0x15 (stDone) ∧ u.out.length = s.out.length + 1)) ∧
  (∀ (s : State) (rate : Fin 4),
    s.rst.coreOn = true →
    s.fw.linkRate = none →
    Does (.serviceLinkLock rate) s [] [.fw] (fun u =>
      u.fw = { s.fw with linkRate := some rate.val })) ∧
  (∀ (s : State),
    s.rst.coreOn = true →
    Does .serviceLinkLockLost s [] [.fw] (fun u =>
      u.fw = { s.fw with linkRate := none }))

/-- FW_CMD 1 checks the other slot and, where it passes, starts the pause 1 ms after its response, and where it fails leaves the slot in
state 4 (R432, R435); the pause makes the new slot active on trial (R437); FW_CMD 2 and TRIAL_TIME confirm it (R441), FW_CMD 3 erases the
export copy (R440), and RECOVER_START picks a slot in state 5 and resets 1 ms later (R445). The check of the signature is a free value (log
entry 4). -/
def Obligations.Activation : Prop :=
  (∀ (s : State) (snd : Sender) (b : BootRecord),
    s.admits snd.who (writeReq snd 0x1300 5 [1]) →
    s.boot = b →
    b.active ≤ 1 →
    b.slotState (1 - b.active) = 5 →
    s.fw.download = none →
    s.obj Obj.stageState ≠ 2 →
    s.obj Obj.stageState ≠ 3 →
    s.obj Obj.storeState ≠ 1 →
    s.obj Obj.smeState ≠ smeTesting →
    s.fw.pauseAt = none →
    s.holding = false →
    Answers (.fwCmdActivate snd) s snd.who (writeReq snd 0x1300 5 [1]) ((s.imageStatus (s.image (1 - s.boot.active)).data).getD stDone) [] (Obj.actState :: bootKeys) [.fw, .blobs] (fun u =>
      (((s.imageStatus (s.image (1 - s.boot.active)).data) = none → u.obj Obj.actState = 2 ∧
        u.fw = { s.fw with pauseAt := some (s.now + ms) })) ∧ (((s.imageStatus (s.image (1 - s.boot.active)).data) ≠ none →
        u.obj Obj.actState = s.obj Obj.actState ∧ u.fw.pauseAt = none ∧ u.boot.slotState (1 - b.active) = 4 ∧ u.boot.result = 4 ∧
        u.boot.active = b.active)) ∧ (∀ k, k ≠ Obj.imgHash 0 → k ≠ Obj.imgHash 1 → u.blob k = s.blob k))) ∧
  (∀ (s : State) (q : Nat),
    s.rst.coreOn = true →
    s.fw.pauseAt = some q →
    s.eng.engines = [] →
    s.boot.active ≤ 1 →
    Does (.activationPause none) s bootKeys [.fw, .blobs, .time] (fun u =>
      u.fw.pauseAt = none ∧ u.fw.pause = some u.now ∧ u.fw.pausedIn = s.node ∧ u.boot.active = 1 - s.boot.active ∧
        u.boot.prev = s.boot.active ∧ u.boot.trial = true ∧ q ≤ u.now ∧ (∀ k, k ≠ Obj.imgHash 0 → k ≠ Obj.imgHash 1 →
        u.blob k = s.blob k))) ∧
  (∀ (s : State) (snd : Sender),
    s.admits snd.who (writeReq snd 0x1300 5 [2]) →
    s.boot.trial = true →
    Answers (.fwCmdConfirm snd) s snd.who (writeReq snd 0x1300 5 [2]) stDone [] bootKeys [.fw, .blobs] (fun u =>
      u.boot.trial = false ∧ u.boot.active = s.boot.active ∧ u.boot.failed = s.boot.failed ∧ (∀ k, k ≠ Obj.imgHash 0 → k ≠ Obj.imgHash 1 →
        u.blob k = s.blob k))) ∧
  (∀ (s : State) (q : Nat),
    s.rst.coreOn = true →
    s.fw.trialFrom = some q →
    s.boot.trial = true →
    s.onRing = true →
    Does .trialExpiry s bootKeys [.fw, .blobs, .time] (fun u =>
      u.boot.trial = false ∧ u.boot.active = s.boot.active ∧ q + s.obj Obj.trialTime * sec ≤ u.now ∧ (∀ k, k ≠ Obj.imgHash 0 →
        k ≠ Obj.imgHash 1 → u.blob k = s.blob k))) ∧
  (∀ (s : State) (snd : Sender),
    s.admits snd.who (writeReq snd 0x1300 5 [3]) →
    Answers (.fwCmdEraseExport snd) s snd.who (writeReq snd 0x1300 5 [3]) stDone [] [Obj.exportFormat, Obj.exportTime, Obj.exportLength] [.fw, .blobs, .dict] (fun u =>
      u.fw = { s.fw with exported := none } ∧ u.obj Obj.exportFormat = 0 ∧ u.obj Obj.exportLength = 0 ∧ u.obj Obj.exportTime = 0 ∧
        u.blob Obj.exportConfig = [] ∧ (∀ k, k ≠ Obj.exportConfig → u.blob k = s.blob k))) ∧
  (∀ (s : State) (slot : Byte),
    s.rst.coreOn = true →
    s.fw.linkRate.isSome = true →
    s.node ≠ stLoading →
    s.paused = false →
    s.fw.download = none →
    s.node = stRecovery →
    slot.toNat ≤ 1 →
    s.boot.slotState slot.toNat = 5 →
    Does (.recoverStart slot) s bootKeys [.fw, .blobs, .out, .rst] (fun u =>
      u.boot.active = slot.toNat ∧ u.boot.prev = 1 - slot.toNat ∧ u.boot.trial = false ∧ u.boot.failed = 0 ∧
        u.rst = { s.rst with due := some (5, 3, s.now + ms) } ∧ (∀ k, k ≠ Obj.imgHash 0 → k ≠ Obj.imgHash 1 → u.blob k = s.blob k) ∧
        u.answersImage 0x14 (stDone) ∧ u.out.length = s.out.length + 1))

end Statements
end

