-- ==== Sys2Proof/Laws/Sparse.lean ====
section
/-! SUPPORT. The laws of the sparse stores: a read after a write, and the canonical form. -/
namespace Sys2Proof.Machine
variable {α : Type} (d : Nat → α)

/-- A listed key is not below every bound that the store is above. -/
theorem sparseGet_above {n i : Nat} : ∀ {l : List (Nat × α)}, sparseAbove n l = true → i ≤ n → sparseGet d l i = d i
  | [], _, _ => rfl
  | (k, v) :: r, h, hi => by
    simp only [sparseAbove, List.all_cons, Bool.and_eq_true, decide_eq_true_eq] at h
    have : i ≠ k := by omega
    simpa only [sparseGet, this, if_false] using sparseGet_above (l := r) h.2 hi

theorem sparseErase_same (l : List (Nat × α)) (i : Nat) : sparseGet d (sparseErase l i) i = d i := by
  induction l with
  | nil => rfl
  | cons e r ih =>
    by_cases h : e.1 = i
    · simpa [sparseErase, h] using ih
    · have : i ≠ e.1 := fun x => h x.symm
      simpa [sparseErase, h, sparseGet, this] using ih

theorem sparseErase_other (l : List (Nat × α)) {i j : Nat} (h : j ≠ i) : sparseGet d (sparseErase l i) j = sparseGet d l j := by
  induction l with
  | nil => rfl
  | cons e r ih =>
    by_cases he : e.1 = i
    · have : j ≠ e.1 := by omega
      simpa [sparseErase, he, sparseGet, h] using ih
    · by_cases hj : j = e.1
      · simp [sparseErase, he, sparseGet, hj]
      · simpa [sparseErase, he, sparseGet, hj] using ih

theorem sparseInsert_other (l : List (Nat × α)) {i j : Nat} (v : α) (h : j ≠ i) :
    sparseGet d (sparseInsert l i v) j = sparseGet d l j := by
  induction l with
  | nil => simp [sparseInsert, sparseGet, h]
  | cons e r ih =>
    obtain ⟨k, w⟩ := e
    by_cases hk : i < k
    · simp [sparseInsert, hk, sparseGet, h]
    · by_cases hj : j = k
      · simp [sparseInsert, hk, sparseGet, hj]
      · simpa [sparseInsert, hk, sparseGet, hj] using ih

theorem sparseInsert_same (l : List (Nat × α)) (i : Nat) (v : α) (h : ∀ e ∈ l, e.1 ≠ i) :
    sparseGet d (sparseInsert l i v) i = v := by
  induction l with
  | nil => simp [sparseInsert, sparseGet]
  | cons e r ih =>
    obtain ⟨k, w⟩ := e
    by_cases hk : i < k
    · simp [sparseInsert, hk, sparseGet]
    · have : i ≠ k := fun x => h (k, w) (by simp) x.symm
      simpa [sparseInsert, hk, sparseGet, this] using ih (fun e he => h e (by simp [he]))

/-- A read of the key just written gives the value written. -/
@[simp] theorem sparsePut_same [DecidableEq α] (l : List (Nat × α)) (i : Nat) (v : α) : sparseGet d (sparsePut d l i v) i = v := by
  unfold sparsePut
  split
  · rename_i h
    rw [sparseErase_same, h]
  · exact sparseInsert_same d _ i v (by simp [sparseErase])

/-- A write leaves every other key alone. -/
theorem sparsePut_other [DecidableEq α] (l : List (Nat × α)) {i j : Nat} (v : α) (h : j ≠ i) :
    sparseGet d (sparsePut d l i v) j = sparseGet d l j := by
  unfold sparsePut
  split
  · exact sparseErase_other d l h
  · rw [sparseInsert_other d _ v h, sparseErase_other d l h]

theorem sparseAbove_erase {n : Nat} {l : List (Nat × α)} (i : Nat) (h : sparseAbove n l = true) :
    sparseAbove n (sparseErase l i) = true := by
  simp only [sparseAbove, List.all_eq_true, sparseErase, List.mem_filter] at *
  exact fun x hx => h x hx.1

theorem sparseAbove_insert {n i : Nat} {l : List (Nat × α)} (v : α) (h : sparseAbove n l = true) (hi : n < i) :
    sparseAbove n (sparseInsert l i v) = true := by
  induction l with
  | nil => simp [sparseInsert, sparseAbove, hi]
  | cons e r ih =>
    obtain ⟨k, w⟩ := e
    simp only [sparseAbove, List.all_cons, Bool.and_eq_true, decide_eq_true_eq] at h ih
    by_cases hk : i < k
    · simp only [sparseInsert, if_pos hk, sparseAbove, List.all_cons, Bool.and_eq_true, decide_eq_true_eq]
      exact ⟨hi, h⟩
    · simp only [sparseInsert, if_neg hk, sparseAbove, List.all_cons, Bool.and_eq_true, decide_eq_true_eq]
      exact ⟨h.1, ih h.2⟩

theorem sparseWf_erase [DecidableEq α] {l : List (Nat × α)} (i : Nat) (h : sparseWf d l = true) : sparseWf d (sparseErase l i) = true := by
  induction l with
  | nil => rfl
  | cons e r ih =>
    obtain ⟨k, w⟩ := e
    simp only [sparseWf, Bool.and_eq_true] at h
    by_cases hk : k = i
    · simpa [sparseErase, hk] using ih h.2
    · have e : sparseErase ((k, w) :: r) i = (k, w) :: sparseErase r i := by simp [sparseErase, hk]
      rw [e]
      simp only [sparseWf, Bool.and_eq_true]
      exact ⟨⟨h.1.1, sparseAbove_erase i h.1.2⟩, ih h.2⟩

theorem sparseWf_insert [DecidableEq α] {l : List (Nat × α)} {i : Nat} {v : α} (hv : v ≠ d i) (hi : ∀ e ∈ l, e.1 ≠ i) (h : sparseWf d l = true) :
    sparseWf d (sparseInsert l i v) = true := by
  induction l with
  | nil => simp [sparseInsert, sparseWf, sparseAbove, hv]
  | cons e r ih =>
    obtain ⟨k, w⟩ := e
    simp only [sparseWf, Bool.and_eq_true] at h
    by_cases hk : i < k
    · have a : sparseAbove i ((k, w) :: r) = true := by
        have a := h.1.2
        simp only [sparseAbove, List.all_cons, Bool.and_eq_true, List.all_eq_true, decide_eq_true_eq] at a ⊢
        exact ⟨hk, fun x hx => Nat.lt_trans hk (a x hx)⟩
      have b : sparseWf d ((k, w) :: r) = true := by simpa only [sparseWf, Bool.and_eq_true] using h
      rw [sparseInsert, if_pos hk, sparseWf, a, b]
      simp [hv]
    · have : k < i := by
        have := hi (k, w) (by simp)
        simp only at this
        omega
      simp only [sparseInsert, if_neg hk, sparseWf, Bool.and_eq_true]
      exact ⟨⟨h.1.1, sparseAbove_insert v h.1.2 this⟩, ih (fun e he => hi e (by simp [he])) h.2⟩

/-- A write keeps the canonical form. -/
theorem sparseWf_put [DecidableEq α] {l : List (Nat × α)} (i : Nat) (v : α) (h : sparseWf d l = true) : sparseWf d (sparsePut d l i v) = true := by
  unfold sparsePut
  split
  · exact sparseWf_erase d i h
  · rename_i hv
    exact sparseWf_insert d hv (by simp [sparseErase]) (sparseWf_erase d i h)

end Sys2Proof.Machine
end

