-- ==== Sys2Proof/Laws/State.lean ====
section
/-! SUPPORT. What each shared update of State leaves alone, one lemma for each field, and a read of an object after a write. -/
namespace Sys2Proof.Machine

@[simp] theorem State.put_blobs (s : State) (k v : Nat) : (s.put k v).blobs = s.blobs := rfl
@[simp] theorem State.put_time (s : State) (k v : Nat) : (s.put k v).time = s.time := rfl
@[simp] theorem State.put_freeCount (s : State) (k v : Nat) : (s.put k v).freeCount = s.freeCount := rfl
@[simp] theorem State.put_dict (s : State) (k v : Nat) : (s.put k v).dict = s.dict := rfl
@[simp] theorem State.put_ring (s : State) (k v : Nat) : (s.put k v).ring = s.ring := rfl
@[simp] theorem State.put_tb (s : State) (k v : Nat) : (s.put k v).tb = s.tb := rfl
@[simp] theorem State.put_lake (s : State) (k v : Nat) : (s.put k v).lake = s.lake := rfl
@[simp] theorem State.put_sw (s : State) (k v : Nat) : (s.put k v).sw = s.sw := rfl
@[simp] theorem State.put_acc (s : State) (k v : Nat) : (s.put k v).acc = s.acc := rfl
@[simp] theorem State.put_fc (s : State) (k v : Nat) : (s.put k v).fc = s.fc := rfl
@[simp] theorem State.put_eng (s : State) (k v : Nat) : (s.put k v).eng = s.eng := rfl
@[simp] theorem State.put_ck (s : State) (k v : Nat) : (s.put k v).ck = s.ck := rfl
@[simp] theorem State.put_can (s : State) (k v : Nat) : (s.put k v).can = s.can := rfl
@[simp] theorem State.put_uart (s : State) (k v : Nat) : (s.put k v).uart = s.uart := rfl
@[simp] theorem State.put_bridge (s : State) (k v : Nat) : (s.put k v).bridge = s.bridge := rfl
@[simp] theorem State.put_sme (s : State) (k v : Nat) : (s.put k v).sme = s.sme := rfl
@[simp] theorem State.put_pe (s : State) (k v : Nat) : (s.put k v).pe = s.pe := rfl
@[simp] theorem State.put_rst (s : State) (k v : Nat) : (s.put k v).rst = s.rst := rfl
@[simp] theorem State.put_fw (s : State) (k v : Nat) : (s.put k v).fw = s.fw := rfl
@[simp] theorem State.put_dram (s : State) (k v : Nat) : (s.put k v).dram = s.dram := rfl
@[simp] theorem State.put_boardDram (s : State) (k v : Nat) : (s.put k v).boardDram = s.boardDram := rfl
@[simp] theorem State.put_vgHead (s : State) (k v : Nat) : (s.put k v).vgHead = s.vgHead := rfl
@[simp] theorem State.put_vgMain (s : State) (k v : Nat) : (s.put k v).vgMain = s.vgMain := rfl
@[simp] theorem State.put_vgOpen (s : State) (k v : Nat) : (s.put k v).vgOpen = s.vgOpen := rfl
@[simp] theorem State.put_out (s : State) (k v : Nat) : (s.put k v).out = s.out := rfl
@[simp] theorem State.put_pending (s : State) (k v : Nat) : (s.put k v).pending = s.pending := rfl

@[simp] theorem State.putBlob_objs (s : State) (k : Nat) (v : List Byte) : (s.putBlob k v).objs = s.objs := rfl
@[simp] theorem State.putBlob_time (s : State) (k : Nat) (v : List Byte) : (s.putBlob k v).time = s.time := rfl
@[simp] theorem State.putBlob_freeCount (s : State) (k : Nat) (v : List Byte) : (s.putBlob k v).freeCount = s.freeCount := rfl
@[simp] theorem State.putBlob_dict (s : State) (k : Nat) (v : List Byte) : (s.putBlob k v).dict = s.dict := rfl
@[simp] theorem State.putBlob_ring (s : State) (k : Nat) (v : List Byte) : (s.putBlob k v).ring = s.ring := rfl
@[simp] theorem State.putBlob_tb (s : State) (k : Nat) (v : List Byte) : (s.putBlob k v).tb = s.tb := rfl
@[simp] theorem State.putBlob_lake (s : State) (k : Nat) (v : List Byte) : (s.putBlob k v).lake = s.lake := rfl
@[simp] theorem State.putBlob_sw (s : State) (k : Nat) (v : List Byte) : (s.putBlob k v).sw = s.sw := rfl
@[simp] theorem State.putBlob_acc (s : State) (k : Nat) (v : List Byte) : (s.putBlob k v).acc = s.acc := rfl
@[simp] theorem State.putBlob_fc (s : State) (k : Nat) (v : List Byte) : (s.putBlob k v).fc = s.fc := rfl
@[simp] theorem State.putBlob_eng (s : State) (k : Nat) (v : List Byte) : (s.putBlob k v).eng = s.eng := rfl
@[simp] theorem State.putBlob_ck (s : State) (k : Nat) (v : List Byte) : (s.putBlob k v).ck = s.ck := rfl
@[simp] theorem State.putBlob_can (s : State) (k : Nat) (v : List Byte) : (s.putBlob k v).can = s.can := rfl
@[simp] theorem State.putBlob_uart (s : State) (k : Nat) (v : List Byte) : (s.putBlob k v).uart = s.uart := rfl
@[simp] theorem State.putBlob_bridge (s : State) (k : Nat) (v : List Byte) : (s.putBlob k v).bridge = s.bridge := rfl
@[simp] theorem State.putBlob_sme (s : State) (k : Nat) (v : List Byte) : (s.putBlob k v).sme = s.sme := rfl
@[simp] theorem State.putBlob_pe (s : State) (k : Nat) (v : List Byte) : (s.putBlob k v).pe = s.pe := rfl
@[simp] theorem State.putBlob_rst (s : State) (k : Nat) (v : List Byte) : (s.putBlob k v).rst = s.rst := rfl
@[simp] theorem State.putBlob_fw (s : State) (k : Nat) (v : List Byte) : (s.putBlob k v).fw = s.fw := rfl
@[simp] theorem State.putBlob_dram (s : State) (k : Nat) (v : List Byte) : (s.putBlob k v).dram = s.dram := rfl
@[simp] theorem State.putBlob_boardDram (s : State) (k : Nat) (v : List Byte) : (s.putBlob k v).boardDram = s.boardDram := rfl
@[simp] theorem State.putBlob_vgHead (s : State) (k : Nat) (v : List Byte) : (s.putBlob k v).vgHead = s.vgHead := rfl
@[simp] theorem State.putBlob_vgMain (s : State) (k : Nat) (v : List Byte) : (s.putBlob k v).vgMain = s.vgMain := rfl
@[simp] theorem State.putBlob_vgOpen (s : State) (k : Nat) (v : List Byte) : (s.putBlob k v).vgOpen = s.vgOpen := rfl
@[simp] theorem State.putBlob_out (s : State) (k : Nat) (v : List Byte) : (s.putBlob k v).out = s.out := rfl
@[simp] theorem State.putBlob_pending (s : State) (k : Nat) (v : List Byte) : (s.putBlob k v).pending = s.pending := rfl

@[simp] theorem State.putBlob_obj (s : State) (k : Nat) (v : List Byte) (j : Nat) : (s.putBlob k v).obj j = s.obj j := rfl

@[simp] theorem State.bump_blobs (s : State) (k : Nat) : (s.bump k).blobs = s.blobs := rfl
@[simp] theorem State.bump_time (s : State) (k : Nat) : (s.bump k).time = s.time := rfl
@[simp] theorem State.bump_freeCount (s : State) (k : Nat) : (s.bump k).freeCount = s.freeCount := rfl
@[simp] theorem State.bump_dict (s : State) (k : Nat) : (s.bump k).dict = s.dict := rfl
@[simp] theorem State.bump_ring (s : State) (k : Nat) : (s.bump k).ring = s.ring := rfl
@[simp] theorem State.bump_tb (s : State) (k : Nat) : (s.bump k).tb = s.tb := rfl
@[simp] theorem State.bump_lake (s : State) (k : Nat) : (s.bump k).lake = s.lake := rfl
@[simp] theorem State.bump_sw (s : State) (k : Nat) : (s.bump k).sw = s.sw := rfl
@[simp] theorem State.bump_acc (s : State) (k : Nat) : (s.bump k).acc = s.acc := rfl
@[simp] theorem State.bump_fc (s : State) (k : Nat) : (s.bump k).fc = s.fc := rfl
@[simp] theorem State.bump_eng (s : State) (k : Nat) : (s.bump k).eng = s.eng := rfl
@[simp] theorem State.bump_ck (s : State) (k : Nat) : (s.bump k).ck = s.ck := rfl
@[simp] theorem State.bump_can (s : State) (k : Nat) : (s.bump k).can = s.can := rfl
@[simp] theorem State.bump_uart (s : State) (k : Nat) : (s.bump k).uart = s.uart := rfl
@[simp] theorem State.bump_bridge (s : State) (k : Nat) : (s.bump k).bridge = s.bridge := rfl
@[simp] theorem State.bump_sme (s : State) (k : Nat) : (s.bump k).sme = s.sme := rfl
@[simp] theorem State.bump_pe (s : State) (k : Nat) : (s.bump k).pe = s.pe := rfl
@[simp] theorem State.bump_rst (s : State) (k : Nat) : (s.bump k).rst = s.rst := rfl
@[simp] theorem State.bump_fw (s : State) (k : Nat) : (s.bump k).fw = s.fw := rfl
@[simp] theorem State.bump_dram (s : State) (k : Nat) : (s.bump k).dram = s.dram := rfl
@[simp] theorem State.bump_boardDram (s : State) (k : Nat) : (s.bump k).boardDram = s.boardDram := rfl
@[simp] theorem State.bump_vgHead (s : State) (k : Nat) : (s.bump k).vgHead = s.vgHead := rfl
@[simp] theorem State.bump_vgMain (s : State) (k : Nat) : (s.bump k).vgMain = s.vgMain := rfl
@[simp] theorem State.bump_vgOpen (s : State) (k : Nat) : (s.bump k).vgOpen = s.vgOpen := rfl
@[simp] theorem State.bump_out (s : State) (k : Nat) : (s.bump k).out = s.out := rfl
@[simp] theorem State.bump_pending (s : State) (k : Nat) : (s.bump k).pending = s.pending := rfl

@[simp] theorem State.bumpBy_blobs (s : State) (k n : Nat) : (s.bumpBy k n).blobs = s.blobs := rfl
@[simp] theorem State.bumpBy_time (s : State) (k n : Nat) : (s.bumpBy k n).time = s.time := rfl
@[simp] theorem State.bumpBy_freeCount (s : State) (k n : Nat) : (s.bumpBy k n).freeCount = s.freeCount := rfl
@[simp] theorem State.bumpBy_dict (s : State) (k n : Nat) : (s.bumpBy k n).dict = s.dict := rfl
@[simp] theorem State.bumpBy_ring (s : State) (k n : Nat) : (s.bumpBy k n).ring = s.ring := rfl
@[simp] theorem State.bumpBy_tb (s : State) (k n : Nat) : (s.bumpBy k n).tb = s.tb := rfl
@[simp] theorem State.bumpBy_lake (s : State) (k n : Nat) : (s.bumpBy k n).lake = s.lake := rfl
@[simp] theorem State.bumpBy_sw (s : State) (k n : Nat) : (s.bumpBy k n).sw = s.sw := rfl
@[simp] theorem State.bumpBy_acc (s : State) (k n : Nat) : (s.bumpBy k n).acc = s.acc := rfl
@[simp] theorem State.bumpBy_fc (s : State) (k n : Nat) : (s.bumpBy k n).fc = s.fc := rfl
@[simp] theorem State.bumpBy_eng (s : State) (k n : Nat) : (s.bumpBy k n).eng = s.eng := rfl
@[simp] theorem State.bumpBy_ck (s : State) (k n : Nat) : (s.bumpBy k n).ck = s.ck := rfl
@[simp] theorem State.bumpBy_can (s : State) (k n : Nat) : (s.bumpBy k n).can = s.can := rfl
@[simp] theorem State.bumpBy_uart (s : State) (k n : Nat) : (s.bumpBy k n).uart = s.uart := rfl
@[simp] theorem State.bumpBy_bridge (s : State) (k n : Nat) : (s.bumpBy k n).bridge = s.bridge := rfl
@[simp] theorem State.bumpBy_sme (s : State) (k n : Nat) : (s.bumpBy k n).sme = s.sme := rfl
@[simp] theorem State.bumpBy_pe (s : State) (k n : Nat) : (s.bumpBy k n).pe = s.pe := rfl
@[simp] theorem State.bumpBy_rst (s : State) (k n : Nat) : (s.bumpBy k n).rst = s.rst := rfl
@[simp] theorem State.bumpBy_fw (s : State) (k n : Nat) : (s.bumpBy k n).fw = s.fw := rfl
@[simp] theorem State.bumpBy_dram (s : State) (k n : Nat) : (s.bumpBy k n).dram = s.dram := rfl
@[simp] theorem State.bumpBy_boardDram (s : State) (k n : Nat) : (s.bumpBy k n).boardDram = s.boardDram := rfl
@[simp] theorem State.bumpBy_vgHead (s : State) (k n : Nat) : (s.bumpBy k n).vgHead = s.vgHead := rfl
@[simp] theorem State.bumpBy_vgMain (s : State) (k n : Nat) : (s.bumpBy k n).vgMain = s.vgMain := rfl
@[simp] theorem State.bumpBy_vgOpen (s : State) (k n : Nat) : (s.bumpBy k n).vgOpen = s.vgOpen := rfl
@[simp] theorem State.bumpBy_out (s : State) (k n : Nat) : (s.bumpBy k n).out = s.out := rfl
@[simp] theorem State.bumpBy_pending (s : State) (k n : Nat) : (s.bumpBy k n).pending = s.pending := rfl

@[simp] theorem State.bump64_blobs (s : State) (k n : Nat) : (s.bump64 k n).blobs = s.blobs := rfl
@[simp] theorem State.bump64_time (s : State) (k n : Nat) : (s.bump64 k n).time = s.time := rfl
@[simp] theorem State.bump64_freeCount (s : State) (k n : Nat) : (s.bump64 k n).freeCount = s.freeCount := rfl
@[simp] theorem State.bump64_dict (s : State) (k n : Nat) : (s.bump64 k n).dict = s.dict := rfl
@[simp] theorem State.bump64_ring (s : State) (k n : Nat) : (s.bump64 k n).ring = s.ring := rfl
@[simp] theorem State.bump64_tb (s : State) (k n : Nat) : (s.bump64 k n).tb = s.tb := rfl
@[simp] theorem State.bump64_lake (s : State) (k n : Nat) : (s.bump64 k n).lake = s.lake := rfl
@[simp] theorem State.bump64_sw (s : State) (k n : Nat) : (s.bump64 k n).sw = s.sw := rfl
@[simp] theorem State.bump64_acc (s : State) (k n : Nat) : (s.bump64 k n).acc = s.acc := rfl
@[simp] theorem State.bump64_fc (s : State) (k n : Nat) : (s.bump64 k n).fc = s.fc := rfl
@[simp] theorem State.bump64_eng (s : State) (k n : Nat) : (s.bump64 k n).eng = s.eng := rfl
@[simp] theorem State.bump64_ck (s : State) (k n : Nat) : (s.bump64 k n).ck = s.ck := rfl
@[simp] theorem State.bump64_can (s : State) (k n : Nat) : (s.bump64 k n).can = s.can := rfl
@[simp] theorem State.bump64_uart (s : State) (k n : Nat) : (s.bump64 k n).uart = s.uart := rfl
@[simp] theorem State.bump64_bridge (s : State) (k n : Nat) : (s.bump64 k n).bridge = s.bridge := rfl
@[simp] theorem State.bump64_sme (s : State) (k n : Nat) : (s.bump64 k n).sme = s.sme := rfl
@[simp] theorem State.bump64_pe (s : State) (k n : Nat) : (s.bump64 k n).pe = s.pe := rfl
@[simp] theorem State.bump64_rst (s : State) (k n : Nat) : (s.bump64 k n).rst = s.rst := rfl
@[simp] theorem State.bump64_fw (s : State) (k n : Nat) : (s.bump64 k n).fw = s.fw := rfl
@[simp] theorem State.bump64_dram (s : State) (k n : Nat) : (s.bump64 k n).dram = s.dram := rfl
@[simp] theorem State.bump64_boardDram (s : State) (k n : Nat) : (s.bump64 k n).boardDram = s.boardDram := rfl
@[simp] theorem State.bump64_vgHead (s : State) (k n : Nat) : (s.bump64 k n).vgHead = s.vgHead := rfl
@[simp] theorem State.bump64_vgMain (s : State) (k n : Nat) : (s.bump64 k n).vgMain = s.vgMain := rfl
@[simp] theorem State.bump64_vgOpen (s : State) (k n : Nat) : (s.bump64 k n).vgOpen = s.vgOpen := rfl
@[simp] theorem State.bump64_out (s : State) (k n : Nat) : (s.bump64 k n).out = s.out := rfl
@[simp] theorem State.bump64_pending (s : State) (k n : Nat) : (s.bump64 k n).pending = s.pending := rfl

@[simp] theorem State.setFlag_blobs (s : State) (k i : Nat) (b : Bool) : (s.setFlag k i b).blobs = s.blobs := rfl
@[simp] theorem State.setFlag_time (s : State) (k i : Nat) (b : Bool) : (s.setFlag k i b).time = s.time := rfl
@[simp] theorem State.setFlag_freeCount (s : State) (k i : Nat) (b : Bool) : (s.setFlag k i b).freeCount = s.freeCount := rfl
@[simp] theorem State.setFlag_dict (s : State) (k i : Nat) (b : Bool) : (s.setFlag k i b).dict = s.dict := rfl
@[simp] theorem State.setFlag_ring (s : State) (k i : Nat) (b : Bool) : (s.setFlag k i b).ring = s.ring := rfl
@[simp] theorem State.setFlag_tb (s : State) (k i : Nat) (b : Bool) : (s.setFlag k i b).tb = s.tb := rfl
@[simp] theorem State.setFlag_lake (s : State) (k i : Nat) (b : Bool) : (s.setFlag k i b).lake = s.lake := rfl
@[simp] theorem State.setFlag_sw (s : State) (k i : Nat) (b : Bool) : (s.setFlag k i b).sw = s.sw := rfl
@[simp] theorem State.setFlag_acc (s : State) (k i : Nat) (b : Bool) : (s.setFlag k i b).acc = s.acc := rfl
@[simp] theorem State.setFlag_fc (s : State) (k i : Nat) (b : Bool) : (s.setFlag k i b).fc = s.fc := rfl
@[simp] theorem State.setFlag_eng (s : State) (k i : Nat) (b : Bool) : (s.setFlag k i b).eng = s.eng := rfl
@[simp] theorem State.setFlag_ck (s : State) (k i : Nat) (b : Bool) : (s.setFlag k i b).ck = s.ck := rfl
@[simp] theorem State.setFlag_can (s : State) (k i : Nat) (b : Bool) : (s.setFlag k i b).can = s.can := rfl
@[simp] theorem State.setFlag_uart (s : State) (k i : Nat) (b : Bool) : (s.setFlag k i b).uart = s.uart := rfl
@[simp] theorem State.setFlag_bridge (s : State) (k i : Nat) (b : Bool) : (s.setFlag k i b).bridge = s.bridge := rfl
@[simp] theorem State.setFlag_sme (s : State) (k i : Nat) (b : Bool) : (s.setFlag k i b).sme = s.sme := rfl
@[simp] theorem State.setFlag_pe (s : State) (k i : Nat) (b : Bool) : (s.setFlag k i b).pe = s.pe := rfl
@[simp] theorem State.setFlag_rst (s : State) (k i : Nat) (b : Bool) : (s.setFlag k i b).rst = s.rst := rfl
@[simp] theorem State.setFlag_fw (s : State) (k i : Nat) (b : Bool) : (s.setFlag k i b).fw = s.fw := rfl
@[simp] theorem State.setFlag_dram (s : State) (k i : Nat) (b : Bool) : (s.setFlag k i b).dram = s.dram := rfl
@[simp] theorem State.setFlag_boardDram (s : State) (k i : Nat) (b : Bool) : (s.setFlag k i b).boardDram = s.boardDram := rfl
@[simp] theorem State.setFlag_vgHead (s : State) (k i : Nat) (b : Bool) : (s.setFlag k i b).vgHead = s.vgHead := rfl
@[simp] theorem State.setFlag_vgMain (s : State) (k i : Nat) (b : Bool) : (s.setFlag k i b).vgMain = s.vgMain := rfl
@[simp] theorem State.setFlag_vgOpen (s : State) (k i : Nat) (b : Bool) : (s.setFlag k i b).vgOpen = s.vgOpen := rfl
@[simp] theorem State.setFlag_out (s : State) (k i : Nat) (b : Bool) : (s.setFlag k i b).out = s.out := rfl
@[simp] theorem State.setFlag_pending (s : State) (k i : Nat) (b : Bool) : (s.setFlag k i b).pending = s.pending := rfl

@[simp] theorem State.putBool_blobs (s : State) (k : Nat) (b : Bool) : (s.putBool k b).blobs = s.blobs := rfl
@[simp] theorem State.putBool_time (s : State) (k : Nat) (b : Bool) : (s.putBool k b).time = s.time := rfl
@[simp] theorem State.putBool_freeCount (s : State) (k : Nat) (b : Bool) : (s.putBool k b).freeCount = s.freeCount := rfl
@[simp] theorem State.putBool_dict (s : State) (k : Nat) (b : Bool) : (s.putBool k b).dict = s.dict := rfl
@[simp] theorem State.putBool_ring (s : State) (k : Nat) (b : Bool) : (s.putBool k b).ring = s.ring := rfl
@[simp] theorem State.putBool_tb (s : State) (k : Nat) (b : Bool) : (s.putBool k b).tb = s.tb := rfl
@[simp] theorem State.putBool_lake (s : State) (k : Nat) (b : Bool) : (s.putBool k b).lake = s.lake := rfl
@[simp] theorem State.putBool_sw (s : State) (k : Nat) (b : Bool) : (s.putBool k b).sw = s.sw := rfl
@[simp] theorem State.putBool_acc (s : State) (k : Nat) (b : Bool) : (s.putBool k b).acc = s.acc := rfl
@[simp] theorem State.putBool_fc (s : State) (k : Nat) (b : Bool) : (s.putBool k b).fc = s.fc := rfl
@[simp] theorem State.putBool_eng (s : State) (k : Nat) (b : Bool) : (s.putBool k b).eng = s.eng := rfl
@[simp] theorem State.putBool_ck (s : State) (k : Nat) (b : Bool) : (s.putBool k b).ck = s.ck := rfl
@[simp] theorem State.putBool_can (s : State) (k : Nat) (b : Bool) : (s.putBool k b).can = s.can := rfl
@[simp] theorem State.putBool_uart (s : State) (k : Nat) (b : Bool) : (s.putBool k b).uart = s.uart := rfl
@[simp] theorem State.putBool_bridge (s : State) (k : Nat) (b : Bool) : (s.putBool k b).bridge = s.bridge := rfl
@[simp] theorem State.putBool_sme (s : State) (k : Nat) (b : Bool) : (s.putBool k b).sme = s.sme := rfl
@[simp] theorem State.putBool_pe (s : State) (k : Nat) (b : Bool) : (s.putBool k b).pe = s.pe := rfl
@[simp] theorem State.putBool_rst (s : State) (k : Nat) (b : Bool) : (s.putBool k b).rst = s.rst := rfl
@[simp] theorem State.putBool_fw (s : State) (k : Nat) (b : Bool) : (s.putBool k b).fw = s.fw := rfl
@[simp] theorem State.putBool_dram (s : State) (k : Nat) (b : Bool) : (s.putBool k b).dram = s.dram := rfl
@[simp] theorem State.putBool_boardDram (s : State) (k : Nat) (b : Bool) : (s.putBool k b).boardDram = s.boardDram := rfl
@[simp] theorem State.putBool_vgHead (s : State) (k : Nat) (b : Bool) : (s.putBool k b).vgHead = s.vgHead := rfl
@[simp] theorem State.putBool_vgMain (s : State) (k : Nat) (b : Bool) : (s.putBool k b).vgMain = s.vgMain := rfl
@[simp] theorem State.putBool_vgOpen (s : State) (k : Nat) (b : Bool) : (s.putBool k b).vgOpen = s.vgOpen := rfl
@[simp] theorem State.putBool_out (s : State) (k : Nat) (b : Bool) : (s.putBool k b).out = s.out := rfl
@[simp] theorem State.putBool_pending (s : State) (k : Nat) (b : Bool) : (s.putBool k b).pending = s.pending := rfl

@[simp] theorem State.emit_objs (s : State) (o : Out) : (s.emit o).objs = s.objs := rfl
@[simp] theorem State.emit_blobs (s : State) (o : Out) : (s.emit o).blobs = s.blobs := rfl
@[simp] theorem State.emit_time (s : State) (o : Out) : (s.emit o).time = s.time := rfl
@[simp] theorem State.emit_freeCount (s : State) (o : Out) : (s.emit o).freeCount = s.freeCount := rfl
@[simp] theorem State.emit_dict (s : State) (o : Out) : (s.emit o).dict = s.dict := rfl
@[simp] theorem State.emit_ring (s : State) (o : Out) : (s.emit o).ring = s.ring := rfl
@[simp] theorem State.emit_tb (s : State) (o : Out) : (s.emit o).tb = s.tb := rfl
@[simp] theorem State.emit_lake (s : State) (o : Out) : (s.emit o).lake = s.lake := rfl
@[simp] theorem State.emit_sw (s : State) (o : Out) : (s.emit o).sw = s.sw := rfl
@[simp] theorem State.emit_acc (s : State) (o : Out) : (s.emit o).acc = s.acc := rfl
@[simp] theorem State.emit_fc (s : State) (o : Out) : (s.emit o).fc = s.fc := rfl
@[simp] theorem State.emit_eng (s : State) (o : Out) : (s.emit o).eng = s.eng := rfl
@[simp] theorem State.emit_ck (s : State) (o : Out) : (s.emit o).ck = s.ck := rfl
@[simp] theorem State.emit_can (s : State) (o : Out) : (s.emit o).can = s.can := rfl
@[simp] theorem State.emit_uart (s : State) (o : Out) : (s.emit o).uart = s.uart := rfl
@[simp] theorem State.emit_bridge (s : State) (o : Out) : (s.emit o).bridge = s.bridge := rfl
@[simp] theorem State.emit_sme (s : State) (o : Out) : (s.emit o).sme = s.sme := rfl
@[simp] theorem State.emit_pe (s : State) (o : Out) : (s.emit o).pe = s.pe := rfl
@[simp] theorem State.emit_rst (s : State) (o : Out) : (s.emit o).rst = s.rst := rfl
@[simp] theorem State.emit_fw (s : State) (o : Out) : (s.emit o).fw = s.fw := rfl
@[simp] theorem State.emit_dram (s : State) (o : Out) : (s.emit o).dram = s.dram := rfl
@[simp] theorem State.emit_boardDram (s : State) (o : Out) : (s.emit o).boardDram = s.boardDram := rfl
@[simp] theorem State.emit_vgHead (s : State) (o : Out) : (s.emit o).vgHead = s.vgHead := rfl
@[simp] theorem State.emit_vgMain (s : State) (o : Out) : (s.emit o).vgMain = s.vgMain := rfl
@[simp] theorem State.emit_vgOpen (s : State) (o : Out) : (s.emit o).vgOpen = s.vgOpen := rfl
@[simp] theorem State.emit_pending (s : State) (o : Out) : (s.emit o).pending = s.pending := rfl

@[simp] theorem State.emit_obj (s : State) (o : Out) (j : Nat) : (s.emit o).obj j = s.obj j := rfl

@[simp] theorem State.waitUntil_objs (s : State) (t : Nat) : (s.waitUntil t).objs = s.objs := rfl
@[simp] theorem State.waitUntil_blobs (s : State) (t : Nat) : (s.waitUntil t).blobs = s.blobs := rfl
@[simp] theorem State.waitUntil_freeCount (s : State) (t : Nat) : (s.waitUntil t).freeCount = s.freeCount := rfl
@[simp] theorem State.waitUntil_dict (s : State) (t : Nat) : (s.waitUntil t).dict = s.dict := rfl
@[simp] theorem State.waitUntil_ring (s : State) (t : Nat) : (s.waitUntil t).ring = s.ring := rfl
@[simp] theorem State.waitUntil_tb (s : State) (t : Nat) : (s.waitUntil t).tb = s.tb := rfl
@[simp] theorem State.waitUntil_lake (s : State) (t : Nat) : (s.waitUntil t).lake = s.lake := rfl
@[simp] theorem State.waitUntil_sw (s : State) (t : Nat) : (s.waitUntil t).sw = s.sw := rfl
@[simp] theorem State.waitUntil_acc (s : State) (t : Nat) : (s.waitUntil t).acc = s.acc := rfl
@[simp] theorem State.waitUntil_fc (s : State) (t : Nat) : (s.waitUntil t).fc = s.fc := rfl
@[simp] theorem State.waitUntil_eng (s : State) (t : Nat) : (s.waitUntil t).eng = s.eng := rfl
@[simp] theorem State.waitUntil_ck (s : State) (t : Nat) : (s.waitUntil t).ck = s.ck := rfl
@[simp] theorem State.waitUntil_can (s : State) (t : Nat) : (s.waitUntil t).can = s.can := rfl
@[simp] theorem State.waitUntil_uart (s : State) (t : Nat) : (s.waitUntil t).uart = s.uart := rfl
@[simp] theorem State.waitUntil_bridge (s : State) (t : Nat) : (s.waitUntil t).bridge = s.bridge := rfl
@[simp] theorem State.waitUntil_sme (s : State) (t : Nat) : (s.waitUntil t).sme = s.sme := rfl
@[simp] theorem State.waitUntil_pe (s : State) (t : Nat) : (s.waitUntil t).pe = s.pe := rfl
@[simp] theorem State.waitUntil_rst (s : State) (t : Nat) : (s.waitUntil t).rst = s.rst := rfl
@[simp] theorem State.waitUntil_fw (s : State) (t : Nat) : (s.waitUntil t).fw = s.fw := rfl
@[simp] theorem State.waitUntil_dram (s : State) (t : Nat) : (s.waitUntil t).dram = s.dram := rfl
@[simp] theorem State.waitUntil_boardDram (s : State) (t : Nat) : (s.waitUntil t).boardDram = s.boardDram := rfl
@[simp] theorem State.waitUntil_vgHead (s : State) (t : Nat) : (s.waitUntil t).vgHead = s.vgHead := rfl
@[simp] theorem State.waitUntil_vgMain (s : State) (t : Nat) : (s.waitUntil t).vgMain = s.vgMain := rfl
@[simp] theorem State.waitUntil_vgOpen (s : State) (t : Nat) : (s.waitUntil t).vgOpen = s.vgOpen := rfl
@[simp] theorem State.waitUntil_out (s : State) (t : Nat) : (s.waitUntil t).out = s.out := rfl
@[simp] theorem State.waitUntil_pending (s : State) (t : Nat) : (s.waitUntil t).pending = s.pending := rfl

@[simp] theorem State.waitUntil_obj (s : State) (t : Nat) (j : Nat) : (s.waitUntil t).obj j = s.obj j := rfl

@[simp] theorem State.waitUntil256_objs (s : State) (t : Nat) : (s.waitUntil256 t).objs = s.objs := rfl
@[simp] theorem State.waitUntil256_blobs (s : State) (t : Nat) : (s.waitUntil256 t).blobs = s.blobs := rfl
@[simp] theorem State.waitUntil256_freeCount (s : State) (t : Nat) : (s.waitUntil256 t).freeCount = s.freeCount := rfl
@[simp] theorem State.waitUntil256_dict (s : State) (t : Nat) : (s.waitUntil256 t).dict = s.dict := rfl
@[simp] theorem State.waitUntil256_ring (s : State) (t : Nat) : (s.waitUntil256 t).ring = s.ring := rfl
@[simp] theorem State.waitUntil256_tb (s : State) (t : Nat) : (s.waitUntil256 t).tb = s.tb := rfl
@[simp] theorem State.waitUntil256_lake (s : State) (t : Nat) : (s.waitUntil256 t).lake = s.lake := rfl
@[simp] theorem State.waitUntil256_sw (s : State) (t : Nat) : (s.waitUntil256 t).sw = s.sw := rfl
@[simp] theorem State.waitUntil256_acc (s : State) (t : Nat) : (s.waitUntil256 t).acc = s.acc := rfl
@[simp] theorem State.waitUntil256_fc (s : State) (t : Nat) : (s.waitUntil256 t).fc = s.fc := rfl
@[simp] theorem State.waitUntil256_eng (s : State) (t : Nat) : (s.waitUntil256 t).eng = s.eng := rfl
@[simp] theorem State.waitUntil256_ck (s : State) (t : Nat) : (s.waitUntil256 t).ck = s.ck := rfl
@[simp] theorem State.waitUntil256_can (s : State) (t : Nat) : (s.waitUntil256 t).can = s.can := rfl
@[simp] theorem State.waitUntil256_uart (s : State) (t : Nat) : (s.waitUntil256 t).uart = s.uart := rfl
@[simp] theorem State.waitUntil256_bridge (s : State) (t : Nat) : (s.waitUntil256 t).bridge = s.bridge := rfl
@[simp] theorem State.waitUntil256_sme (s : State) (t : Nat) : (s.waitUntil256 t).sme = s.sme := rfl
@[simp] theorem State.waitUntil256_pe (s : State) (t : Nat) : (s.waitUntil256 t).pe = s.pe := rfl
@[simp] theorem State.waitUntil256_rst (s : State) (t : Nat) : (s.waitUntil256 t).rst = s.rst := rfl
@[simp] theorem State.waitUntil256_fw (s : State) (t : Nat) : (s.waitUntil256 t).fw = s.fw := rfl
@[simp] theorem State.waitUntil256_dram (s : State) (t : Nat) : (s.waitUntil256 t).dram = s.dram := rfl
@[simp] theorem State.waitUntil256_boardDram (s : State) (t : Nat) : (s.waitUntil256 t).boardDram = s.boardDram := rfl
@[simp] theorem State.waitUntil256_vgHead (s : State) (t : Nat) : (s.waitUntil256 t).vgHead = s.vgHead := rfl
@[simp] theorem State.waitUntil256_vgMain (s : State) (t : Nat) : (s.waitUntil256 t).vgMain = s.vgMain := rfl
@[simp] theorem State.waitUntil256_vgOpen (s : State) (t : Nat) : (s.waitUntil256 t).vgOpen = s.vgOpen := rfl
@[simp] theorem State.waitUntil256_out (s : State) (t : Nat) : (s.waitUntil256 t).out = s.out := rfl
@[simp] theorem State.waitUntil256_pending (s : State) (t : Nat) : (s.waitUntil256 t).pending = s.pending := rfl

@[simp] theorem State.waitUntil256_obj (s : State) (t : Nat) (j : Nat) : (s.waitUntil256 t).obj j = s.obj j := rfl

@[simp] theorem State.tookFree_objs (s : State) : (s.tookFree).objs = s.objs := rfl
@[simp] theorem State.tookFree_blobs (s : State) : (s.tookFree).blobs = s.blobs := rfl
@[simp] theorem State.tookFree_time (s : State) : (s.tookFree).time = s.time := rfl
@[simp] theorem State.tookFree_dict (s : State) : (s.tookFree).dict = s.dict := rfl
@[simp] theorem State.tookFree_ring (s : State) : (s.tookFree).ring = s.ring := rfl
@[simp] theorem State.tookFree_tb (s : State) : (s.tookFree).tb = s.tb := rfl
@[simp] theorem State.tookFree_lake (s : State) : (s.tookFree).lake = s.lake := rfl
@[simp] theorem State.tookFree_sw (s : State) : (s.tookFree).sw = s.sw := rfl
@[simp] theorem State.tookFree_acc (s : State) : (s.tookFree).acc = s.acc := rfl
@[simp] theorem State.tookFree_fc (s : State) : (s.tookFree).fc = s.fc := rfl
@[simp] theorem State.tookFree_eng (s : State) : (s.tookFree).eng = s.eng := rfl
@[simp] theorem State.tookFree_ck (s : State) : (s.tookFree).ck = s.ck := rfl
@[simp] theorem State.tookFree_can (s : State) : (s.tookFree).can = s.can := rfl
@[simp] theorem State.tookFree_uart (s : State) : (s.tookFree).uart = s.uart := rfl
@[simp] theorem State.tookFree_bridge (s : State) : (s.tookFree).bridge = s.bridge := rfl
@[simp] theorem State.tookFree_sme (s : State) : (s.tookFree).sme = s.sme := rfl
@[simp] theorem State.tookFree_pe (s : State) : (s.tookFree).pe = s.pe := rfl
@[simp] theorem State.tookFree_rst (s : State) : (s.tookFree).rst = s.rst := rfl
@[simp] theorem State.tookFree_fw (s : State) : (s.tookFree).fw = s.fw := rfl
@[simp] theorem State.tookFree_dram (s : State) : (s.tookFree).dram = s.dram := rfl
@[simp] theorem State.tookFree_boardDram (s : State) : (s.tookFree).boardDram = s.boardDram := rfl
@[simp] theorem State.tookFree_vgHead (s : State) : (s.tookFree).vgHead = s.vgHead := rfl
@[simp] theorem State.tookFree_vgMain (s : State) : (s.tookFree).vgMain = s.vgMain := rfl
@[simp] theorem State.tookFree_vgOpen (s : State) : (s.tookFree).vgOpen = s.vgOpen := rfl
@[simp] theorem State.tookFree_out (s : State) : (s.tookFree).out = s.out := rfl
@[simp] theorem State.tookFree_pending (s : State) : (s.tookFree).pending = s.pending := rfl

@[simp] theorem State.tookFree_obj (s : State) (j : Nat) : (s.tookFree).obj j = s.obj j := rfl

@[simp] theorem State.offerRing_objs (s : State) (p : Nat) (f : Frame) : (s.offerRing p f).objs = s.objs := rfl
@[simp] theorem State.offerRing_blobs (s : State) (p : Nat) (f : Frame) : (s.offerRing p f).blobs = s.blobs := rfl
@[simp] theorem State.offerRing_time (s : State) (p : Nat) (f : Frame) : (s.offerRing p f).time = s.time := rfl
@[simp] theorem State.offerRing_freeCount (s : State) (p : Nat) (f : Frame) : (s.offerRing p f).freeCount = s.freeCount := rfl
@[simp] theorem State.offerRing_dict (s : State) (p : Nat) (f : Frame) : (s.offerRing p f).dict = s.dict := rfl
@[simp] theorem State.offerRing_ring (s : State) (p : Nat) (f : Frame) : (s.offerRing p f).ring = s.ring := rfl
@[simp] theorem State.offerRing_tb (s : State) (p : Nat) (f : Frame) : (s.offerRing p f).tb = s.tb := rfl
@[simp] theorem State.offerRing_lake (s : State) (p : Nat) (f : Frame) : (s.offerRing p f).lake = s.lake := rfl
@[simp] theorem State.offerRing_acc (s : State) (p : Nat) (f : Frame) : (s.offerRing p f).acc = s.acc := rfl
@[simp] theorem State.offerRing_fc (s : State) (p : Nat) (f : Frame) : (s.offerRing p f).fc = s.fc := rfl
@[simp] theorem State.offerRing_eng (s : State) (p : Nat) (f : Frame) : (s.offerRing p f).eng = s.eng := rfl
@[simp] theorem State.offerRing_ck (s : State) (p : Nat) (f : Frame) : (s.offerRing p f).ck = s.ck := rfl
@[simp] theorem State.offerRing_can (s : State) (p : Nat) (f : Frame) : (s.offerRing p f).can = s.can := rfl
@[simp] theorem State.offerRing_uart (s : State) (p : Nat) (f : Frame) : (s.offerRing p f).uart = s.uart := rfl
@[simp] theorem State.offerRing_bridge (s : State) (p : Nat) (f : Frame) : (s.offerRing p f).bridge = s.bridge := rfl
@[simp] theorem State.offerRing_sme (s : State) (p : Nat) (f : Frame) : (s.offerRing p f).sme = s.sme := rfl
@[simp] theorem State.offerRing_pe (s : State) (p : Nat) (f : Frame) : (s.offerRing p f).pe = s.pe := rfl
@[simp] theorem State.offerRing_rst (s : State) (p : Nat) (f : Frame) : (s.offerRing p f).rst = s.rst := rfl
@[simp] theorem State.offerRing_fw (s : State) (p : Nat) (f : Frame) : (s.offerRing p f).fw = s.fw := rfl
@[simp] theorem State.offerRing_dram (s : State) (p : Nat) (f : Frame) : (s.offerRing p f).dram = s.dram := rfl
@[simp] theorem State.offerRing_boardDram (s : State) (p : Nat) (f : Frame) : (s.offerRing p f).boardDram = s.boardDram := rfl
@[simp] theorem State.offerRing_vgHead (s : State) (p : Nat) (f : Frame) : (s.offerRing p f).vgHead = s.vgHead := rfl
@[simp] theorem State.offerRing_vgMain (s : State) (p : Nat) (f : Frame) : (s.offerRing p f).vgMain = s.vgMain := rfl
@[simp] theorem State.offerRing_vgOpen (s : State) (p : Nat) (f : Frame) : (s.offerRing p f).vgOpen = s.vgOpen := rfl
@[simp] theorem State.offerRing_out (s : State) (p : Nat) (f : Frame) : (s.offerRing p f).out = s.out := rfl
@[simp] theorem State.offerRing_pending (s : State) (p : Nat) (f : Frame) : (s.offerRing p f).pending = s.pending := rfl

@[simp] theorem State.offerRing_obj (s : State) (p : Nat) (f : Frame) (j : Nat) : (s.offerRing p f).obj j = s.obj j := rfl

@[simp] theorem State.offerEth_objs (s : State) (p c : Nat) (f : EthFrame) (o : List Nat) : (s.offerEth p c f o).objs = s.objs := rfl
@[simp] theorem State.offerEth_blobs (s : State) (p c : Nat) (f : EthFrame) (o : List Nat) : (s.offerEth p c f o).blobs = s.blobs := rfl
@[simp] theorem State.offerEth_time (s : State) (p c : Nat) (f : EthFrame) (o : List Nat) : (s.offerEth p c f o).time = s.time := rfl
@[simp] theorem State.offerEth_freeCount (s : State) (p c : Nat) (f : EthFrame) (o : List Nat) : (s.offerEth p c f o).freeCount = s.freeCount := rfl
@[simp] theorem State.offerEth_dict (s : State) (p c : Nat) (f : EthFrame) (o : List Nat) : (s.offerEth p c f o).dict = s.dict := rfl
@[simp] theorem State.offerEth_ring (s : State) (p c : Nat) (f : EthFrame) (o : List Nat) : (s.offerEth p c f o).ring = s.ring := rfl
@[simp] theorem State.offerEth_tb (s : State) (p c : Nat) (f : EthFrame) (o : List Nat) : (s.offerEth p c f o).tb = s.tb := rfl
@[simp] theorem State.offerEth_lake (s : State) (p c : Nat) (f : EthFrame) (o : List Nat) : (s.offerEth p c f o).lake = s.lake := rfl
@[simp] theorem State.offerEth_acc (s : State) (p c : Nat) (f : EthFrame) (o : List Nat) : (s.offerEth p c f o).acc = s.acc := rfl
@[simp] theorem State.offerEth_fc (s : State) (p c : Nat) (f : EthFrame) (o : List Nat) : (s.offerEth p c f o).fc = s.fc := rfl
@[simp] theorem State.offerEth_eng (s : State) (p c : Nat) (f : EthFrame) (o : List Nat) : (s.offerEth p c f o).eng = s.eng := rfl
@[simp] theorem State.offerEth_ck (s : State) (p c : Nat) (f : EthFrame) (o : List Nat) : (s.offerEth p c f o).ck = s.ck := rfl
@[simp] theorem State.offerEth_can (s : State) (p c : Nat) (f : EthFrame) (o : List Nat) : (s.offerEth p c f o).can = s.can := rfl
@[simp] theorem State.offerEth_uart (s : State) (p c : Nat) (f : EthFrame) (o : List Nat) : (s.offerEth p c f o).uart = s.uart := rfl
@[simp] theorem State.offerEth_bridge (s : State) (p c : Nat) (f : EthFrame) (o : List Nat) : (s.offerEth p c f o).bridge = s.bridge := rfl
@[simp] theorem State.offerEth_sme (s : State) (p c : Nat) (f : EthFrame) (o : List Nat) : (s.offerEth p c f o).sme = s.sme := rfl
@[simp] theorem State.offerEth_pe (s : State) (p c : Nat) (f : EthFrame) (o : List Nat) : (s.offerEth p c f o).pe = s.pe := rfl
@[simp] theorem State.offerEth_rst (s : State) (p c : Nat) (f : EthFrame) (o : List Nat) : (s.offerEth p c f o).rst = s.rst := rfl
@[simp] theorem State.offerEth_fw (s : State) (p c : Nat) (f : EthFrame) (o : List Nat) : (s.offerEth p c f o).fw = s.fw := rfl
@[simp] theorem State.offerEth_dram (s : State) (p c : Nat) (f : EthFrame) (o : List Nat) : (s.offerEth p c f o).dram = s.dram := rfl
@[simp] theorem State.offerEth_boardDram (s : State) (p c : Nat) (f : EthFrame) (o : List Nat) : (s.offerEth p c f o).boardDram = s.boardDram := rfl
@[simp] theorem State.offerEth_vgHead (s : State) (p c : Nat) (f : EthFrame) (o : List Nat) : (s.offerEth p c f o).vgHead = s.vgHead := rfl
@[simp] theorem State.offerEth_vgMain (s : State) (p c : Nat) (f : EthFrame) (o : List Nat) : (s.offerEth p c f o).vgMain = s.vgMain := rfl
@[simp] theorem State.offerEth_vgOpen (s : State) (p c : Nat) (f : EthFrame) (o : List Nat) : (s.offerEth p c f o).vgOpen = s.vgOpen := rfl
@[simp] theorem State.offerEth_out (s : State) (p c : Nat) (f : EthFrame) (o : List Nat) : (s.offerEth p c f o).out = s.out := rfl
@[simp] theorem State.offerEth_pending (s : State) (p c : Nat) (f : EthFrame) (o : List Nat) : (s.offerEth p c f o).pending = s.pending := rfl

@[simp] theorem State.offerEth_obj (s : State) (p c : Nat) (f : EthFrame) (o : List Nat) (j : Nat) : (s.offerEth p c f o).obj j = s.obj j := rfl

@[simp] theorem State.putDramByte_objs (s : State) (a : Nat) (b : Byte) : (s.putDramByte a b).objs = s.objs := rfl
@[simp] theorem State.putDramByte_blobs (s : State) (a : Nat) (b : Byte) : (s.putDramByte a b).blobs = s.blobs := rfl
@[simp] theorem State.putDramByte_time (s : State) (a : Nat) (b : Byte) : (s.putDramByte a b).time = s.time := rfl
@[simp] theorem State.putDramByte_freeCount (s : State) (a : Nat) (b : Byte) : (s.putDramByte a b).freeCount = s.freeCount := rfl
@[simp] theorem State.putDramByte_dict (s : State) (a : Nat) (b : Byte) : (s.putDramByte a b).dict = s.dict := rfl
@[simp] theorem State.putDramByte_ring (s : State) (a : Nat) (b : Byte) : (s.putDramByte a b).ring = s.ring := rfl
@[simp] theorem State.putDramByte_tb (s : State) (a : Nat) (b : Byte) : (s.putDramByte a b).tb = s.tb := rfl
@[simp] theorem State.putDramByte_lake (s : State) (a : Nat) (b : Byte) : (s.putDramByte a b).lake = s.lake := rfl
@[simp] theorem State.putDramByte_sw (s : State) (a : Nat) (b : Byte) : (s.putDramByte a b).sw = s.sw := rfl
@[simp] theorem State.putDramByte_acc (s : State) (a : Nat) (b : Byte) : (s.putDramByte a b).acc = s.acc := rfl
@[simp] theorem State.putDramByte_fc (s : State) (a : Nat) (b : Byte) : (s.putDramByte a b).fc = s.fc := rfl
@[simp] theorem State.putDramByte_eng (s : State) (a : Nat) (b : Byte) : (s.putDramByte a b).eng = s.eng := rfl
@[simp] theorem State.putDramByte_ck (s : State) (a : Nat) (b : Byte) : (s.putDramByte a b).ck = s.ck := rfl
@[simp] theorem State.putDramByte_can (s : State) (a : Nat) (b : Byte) : (s.putDramByte a b).can = s.can := rfl
@[simp] theorem State.putDramByte_uart (s : State) (a : Nat) (b : Byte) : (s.putDramByte a b).uart = s.uart := rfl
@[simp] theorem State.putDramByte_bridge (s : State) (a : Nat) (b : Byte) : (s.putDramByte a b).bridge = s.bridge := rfl
@[simp] theorem State.putDramByte_sme (s : State) (a : Nat) (b : Byte) : (s.putDramByte a b).sme = s.sme := rfl
@[simp] theorem State.putDramByte_pe (s : State) (a : Nat) (b : Byte) : (s.putDramByte a b).pe = s.pe := rfl
@[simp] theorem State.putDramByte_rst (s : State) (a : Nat) (b : Byte) : (s.putDramByte a b).rst = s.rst := rfl
@[simp] theorem State.putDramByte_fw (s : State) (a : Nat) (b : Byte) : (s.putDramByte a b).fw = s.fw := rfl
@[simp] theorem State.putDramByte_boardDram (s : State) (a : Nat) (b : Byte) : (s.putDramByte a b).boardDram = s.boardDram := rfl
@[simp] theorem State.putDramByte_vgHead (s : State) (a : Nat) (b : Byte) : (s.putDramByte a b).vgHead = s.vgHead := rfl
@[simp] theorem State.putDramByte_vgMain (s : State) (a : Nat) (b : Byte) : (s.putDramByte a b).vgMain = s.vgMain := rfl
@[simp] theorem State.putDramByte_vgOpen (s : State) (a : Nat) (b : Byte) : (s.putDramByte a b).vgOpen = s.vgOpen := rfl
@[simp] theorem State.putDramByte_out (s : State) (a : Nat) (b : Byte) : (s.putDramByte a b).out = s.out := rfl
@[simp] theorem State.putDramByte_pending (s : State) (a : Nat) (b : Byte) : (s.putDramByte a b).pending = s.pending := rfl

@[simp] theorem State.putDramByte_obj (s : State) (a : Nat) (b : Byte) (j : Nat) : (s.putDramByte a b).obj j = s.obj j := rfl

@[simp] theorem State.log_blobs (s : State) (e : VgEntry) : (s.log e).blobs = s.blobs := rfl
@[simp] theorem State.log_time (s : State) (e : VgEntry) : (s.log e).time = s.time := rfl
@[simp] theorem State.log_freeCount (s : State) (e : VgEntry) : (s.log e).freeCount = s.freeCount := rfl
@[simp] theorem State.log_dict (s : State) (e : VgEntry) : (s.log e).dict = s.dict := rfl
@[simp] theorem State.log_ring (s : State) (e : VgEntry) : (s.log e).ring = s.ring := rfl
@[simp] theorem State.log_tb (s : State) (e : VgEntry) : (s.log e).tb = s.tb := rfl
@[simp] theorem State.log_lake (s : State) (e : VgEntry) : (s.log e).lake = s.lake := rfl
@[simp] theorem State.log_sw (s : State) (e : VgEntry) : (s.log e).sw = s.sw := rfl
@[simp] theorem State.log_acc (s : State) (e : VgEntry) : (s.log e).acc = s.acc := rfl
@[simp] theorem State.log_fc (s : State) (e : VgEntry) : (s.log e).fc = s.fc := rfl
@[simp] theorem State.log_eng (s : State) (e : VgEntry) : (s.log e).eng = s.eng := rfl
@[simp] theorem State.log_ck (s : State) (e : VgEntry) : (s.log e).ck = s.ck := rfl
@[simp] theorem State.log_can (s : State) (e : VgEntry) : (s.log e).can = s.can := rfl
@[simp] theorem State.log_uart (s : State) (e : VgEntry) : (s.log e).uart = s.uart := rfl
@[simp] theorem State.log_bridge (s : State) (e : VgEntry) : (s.log e).bridge = s.bridge := rfl
@[simp] theorem State.log_sme (s : State) (e : VgEntry) : (s.log e).sme = s.sme := rfl
@[simp] theorem State.log_pe (s : State) (e : VgEntry) : (s.log e).pe = s.pe := rfl
@[simp] theorem State.log_rst (s : State) (e : VgEntry) : (s.log e).rst = s.rst := rfl
@[simp] theorem State.log_fw (s : State) (e : VgEntry) : (s.log e).fw = s.fw := rfl
@[simp] theorem State.log_dram (s : State) (e : VgEntry) : (s.log e).dram = s.dram := rfl
@[simp] theorem State.log_boardDram (s : State) (e : VgEntry) : (s.log e).boardDram = s.boardDram := rfl
@[simp] theorem State.log_vgOpen (s : State) (e : VgEntry) : (s.log e).vgOpen = s.vgOpen := rfl
@[simp] theorem State.log_out (s : State) (e : VgEntry) : (s.log e).out = s.out := rfl
@[simp] theorem State.log_pending (s : State) (e : VgEntry) : (s.log e).pending = s.pending := rfl

/-- A read of the object just written gives the value written. -/
@[simp] theorem State.put_obj_same (s : State) (k v : Nat) : (s.put k v).obj k = v := sparsePut_same scalarDefault s.objs k v

/-- A write leaves every other object alone. -/
theorem State.put_obj_other (s : State) {k j : Nat} (v : Nat) (h : j ≠ k) : (s.put k v).obj j = s.obj j :=
  sparsePut_other scalarDefault s.objs v h

/-- Both at once. -/
theorem State.put_obj (s : State) (k v j : Nat) : (s.put k v).obj j = if j = k then v else s.obj j := by
  split
  · rename_i h
    rw [h, State.put_obj_same]
  · rename_i h
    exact s.put_obj_other v h

/-- The same for an object held as bytes. -/
theorem State.putBlob_blob (s : State) (k : Nat) (v : List Byte) (j : Nat) :
    (s.putBlob k v).blob j = if j = k then v else s.blob j := by
  split
  · rename_i h
    rw [h]
    exact sparsePut_same bytesDefault s.blobs k v
  · rename_i h
    exact sparsePut_other bytesDefault s.blobs v h

theorem State.bump_obj (s : State) (k j : Nat) : (s.bump k).obj j = if j = k then (s.obj k + 1) % 2 ^ 32 else s.obj j := s.put_obj _ _ _

/-- A DRAM byte after a write of one. -/
theorem State.putDramByte_dramByte (s : State) (a : Nat) (b : Byte) (c : Nat) :
    (s.putDramByte a b).dramByte c = if c = a then b else s.dramByte c := by
  split
  · rename_i h
    rw [h]
    exact sparsePut_same _ s.dram a b
  · rename_i h
    exact sparsePut_other _ s.dram b h

/-- The stores keep their canonical form. -/
theorem State.put_objs_wf (s : State) (k v : Nat) (h : sparseWf scalarDefault s.objs = true) :
    sparseWf scalarDefault (s.put k v).objs = true := sparseWf_put scalarDefault k v h

theorem State.putBlob_blobs_wf (s : State) (k : Nat) (v : List Byte) (h : sparseWf bytesDefault s.blobs = true) :
    sparseWf bytesDefault (s.putBlob k v).blobs = true := sparseWf_put bytesDefault k v h

theorem State.putDramByte_dram_wf (s : State) (a : Nat) (b : Byte) (h : Memory.wf s.dram = true) :
    Memory.wf (s.putDramByte a b).dram = true := sparseWf_put _ a b h

theorem State.reset_dram_wf : Memory.wf State.reset.dram = true := rfl

end Sys2Proof.Machine
end

