-- ==== Sys2Proof/Laws/Changes.lean ====
section
/-! SUPPORT. What the shared operations can change, as `OnlyChanges`, and how changes compose; what an entry in the verdigris log and a
fault do; DRAM. -/
namespace Sys2Proof.Machine

/-! ## Composition -/

theorem Part.same_refl (s : State) (p : Part) : p.same s s := by cases p <;> rfl

theorem Part.same_trans {s t u : State} {p : Part} (h : p.same s t) (g : p.same t u) : p.same s u := by
  cases p <;> exact Eq.trans g h

theorem OnlyChanges.refl (ks : List Nat) (ps : List Part) (s : State) : OnlyChanges ks ps s s :=
  ⟨fun _ _ => rfl, fun p _ => p.same_refl s⟩

theorem OnlyChanges.trans {ks : List Nat} {ps : List Part} {s t u : State} (h : OnlyChanges ks ps s t) (g : OnlyChanges ks ps t u) :
    OnlyChanges ks ps s u :=
  ⟨fun k hk => (g.1 k hk).trans (h.1 k hk), fun p hp => Part.same_trans (h.2 p hp) (g.2 p hp)⟩

theorem OnlyChanges.mono {ks ks' : List Nat} {ps ps' : List Part} {s u : State} (h : OnlyChanges ks ps s u) (hk : ∀ k ∈ ks, k ∈ ks')
    (hp : ∀ p ∈ ps, p ∈ ps') : OnlyChanges ks' ps' s u :=
  ⟨fun k n => h.1 k (fun m => n (hk k m)), fun p n => h.2 p (fun m => n (hp p m))⟩

/-- Changes of the dictionary's numbers alone. -/
theorem OnlyChanges.ofObjs {ks : List Nat} {ps : List Part} {s u : State} (h : ∀ k, k ∉ ks → u.obj k = s.obj k)
    (e : u = { s with objs := u.objs }) : OnlyChanges ks ps s u :=
  ⟨h, fun p _ => by rw [e]; cases p <;> rfl⟩

/-! ## The operations -/

theorem OnlyChanges.put (s : State) {k : Nat} (v : Nat) {ks : List Nat} (ps : List Part) (h : k ∈ ks) : OnlyChanges ks ps s (s.put k v) :=
  OnlyChanges.ofObjs (fun _ hj => s.put_obj_other v (fun e => hj (e ▸ h))) rfl

theorem OnlyChanges.putBool (s : State) {k : Nat} (b : Bool) {ks : List Nat} (ps : List Part) (h : k ∈ ks) :
    OnlyChanges ks ps s (s.putBool k b) := OnlyChanges.put s _ ps h

theorem OnlyChanges.bump (s : State) {k : Nat} {ks : List Nat} (ps : List Part) (h : k ∈ ks) : OnlyChanges ks ps s (s.bump k) :=
  OnlyChanges.put s _ ps h

theorem OnlyChanges.bumpBy (s : State) {k : Nat} (n : Nat) {ks : List Nat} (ps : List Part) (h : k ∈ ks) :
    OnlyChanges ks ps s (s.bumpBy k n) := OnlyChanges.put s _ ps h

theorem OnlyChanges.setFlag (s : State) {k : Nat} (i : Nat) (b : Bool) {ks : List Nat} (ps : List Part) (h : k ∈ ks) :
    OnlyChanges ks ps s (s.setFlag k i b) := OnlyChanges.put s _ ps h

theorem OnlyChanges.clearKeys {ks : List Nat} (ps : List Part) : ∀ (l : List Nat) (s : State), (∀ k ∈ l, k ∈ ks) →
    OnlyChanges ks ps s (s.clearKeys l)
  | [], s, _ => OnlyChanges.refl ks ps s
  | k :: r, s, h => (OnlyChanges.put s 0 ps (h k (by simp))).trans (OnlyChanges.clearKeys ps r (s.put k 0) (fun j hj => h j (by simp [hj])))

theorem OnlyChanges.enter (s : State) (st reason : Nat) {ks : List Nat} (ps : List Part) (h1 : Obj.nodeState ∈ ks)
    (h2 : Obj.stateReason ∈ ks) (h3 : Obj.stateEntered ∈ ks) : OnlyChanges ks ps s (s.enter st reason) := by
  unfold State.enter
  split
  · exact OnlyChanges.refl ks ps s
  · exact ((OnlyChanges.put s _ ps h1).trans (OnlyChanges.put _ _ ps h2)).trans (OnlyChanges.put _ _ ps h3)

theorem OnlyChanges.putBlob (s : State) (k : Nat) (v : List Byte) (ks : List Nat) {ps : List Part} (h : Part.blobs ∈ ps) :
    OnlyChanges ks ps s (s.putBlob k v) := by
  refine ⟨fun _ _ => rfl, fun p hp => ?_⟩
  cases p <;> first | rfl | exact absurd h hp

theorem OnlyChanges.waitUntil (s : State) (t : Nat) (ks : List Nat) {ps : List Part} (h : Part.time ∈ ps) :
    OnlyChanges ks ps s (s.waitUntil t) := by
  refine ⟨fun _ _ => rfl, fun p hp => ?_⟩
  cases p <;> first | rfl | exact absurd h hp

theorem OnlyChanges.emit (s : State) (o : Out) (ks : List Nat) {ps : List Part} (h : Part.out ∈ ps) : OnlyChanges ks ps s (s.emit o) := by
  refine ⟨fun _ _ => rfl, fun p hp => ?_⟩
  cases p <;> first | rfl | exact absurd h hp

theorem OnlyChanges.offerRing (s : State) (port : Nat) (f : Frame) (ks : List Nat) {ps : List Part} (h : Part.sw ∈ ps) :
    OnlyChanges ks ps s (s.offerRing port f) := by
  refine ⟨fun _ _ => rfl, fun p hp => ?_⟩
  cases p <;> first | rfl | exact absurd h hp

theorem OnlyChanges.setPe (s : State) (x : PowerState) (ks : List Nat) {ps : List Part} (h : Part.pe ∈ ps) :
    OnlyChanges ks ps s (s.setPe x) := by
  refine ⟨fun _ _ => rfl, fun p hp => ?_⟩
  cases p <;> first | rfl | exact absurd h hp

theorem OnlyChanges.dramWrite {ks : List Nat} {ps : List Part} (h : Part.dram ∈ ps) : ∀ (l : List Byte) (s : State) (a : Nat),
    OnlyChanges ks ps s (s.dramWrite a l)
  | [], s, _ => OnlyChanges.refl ks ps s
  | b :: r, s, a => by
    refine OnlyChanges.trans (t := s.putDramByte a b) ⟨fun _ _ => rfl, fun p hp => ?_⟩ (OnlyChanges.dramWrite h r _ _)
    cases p <;> first | rfl | exact absurd h hp

/-! ## The verdigris log -/

/-- A log entry takes the next number and touches the head and the main log alone. -/
theorem OnlyChanges.log (s : State) (e : VgEntry) {ks : List Nat} {ps : List Part} (h : Obj.vgNextSeq ∈ ks) (h1 : Part.vgHead ∈ ps)
    (h2 : Part.vgMain ∈ ps) : OnlyChanges ks ps s (s.log e) := by
  refine ⟨fun k hk => s.put_obj_other _ (fun e => hk (e ▸ h)), fun p hp => ?_⟩
  cases p <;> first | rfl | exact absurd h1 hp | exact absurd h2 hp

theorem State.log_vgNextSeq (s : State) (e : VgEntry) :
    (s.log e).obj Obj.vgNextSeq = (s.obj Obj.vgNextSeq + 1) % 2 ^ 32 := by
  show (s.put Obj.vgNextSeq _).obj Obj.vgNextSeq = _
  rw [State.put_obj, if_pos rfl]

theorem OnlyChanges.openFault (s : State) (index sub inst status detail : Nat) (covered : Bool) (untilClosed : List Nat) {ks : List Nat}
    {ps : List Part} (h : Obj.vgNextSeq ∈ ks) (h1 : Part.vgHead ∈ ps) (h2 : Part.vgMain ∈ ps) (h3 : Part.vgOpen ∈ ps) :
    OnlyChanges ks ps s (s.openFault index sub inst status detail covered untilClosed) := by
  unfold State.openFault
  split
  · exact OnlyChanges.refl ks ps s
  · refine OnlyChanges.trans (t := s.log { index := index, sub := sub, inst := inst, status := status, detail := detail, kind := 2 })
      (OnlyChanges.log s _ h h1 h2) ⟨fun _ _ => rfl, fun p hp => ?_⟩
    cases p <;> first | rfl | exact absurd h3 hp

theorem OnlyChanges.lastingFault (s : State) (index sub inst status detail : Nat) (covered : Bool) {ks : List Nat} {ps : List Part}
    (h : Obj.vgNextSeq ∈ ks) (h1 : Part.vgHead ∈ ps) (h2 : Part.vgMain ∈ ps) (h3 : Part.vgOpen ∈ ps) :
    OnlyChanges ks ps s (s.lastingFault index sub inst status detail covered) :=
  OnlyChanges.openFault s index sub inst status detail covered [] h h1 h2 h3

theorem OnlyChanges.transientFault (s : State) (index sub inst status detail : Nat) (covered : Bool) {ks : List Nat} {ps : List Part}
    (h : Obj.vgNextSeq ∈ ks) (h1 : Part.vgHead ∈ ps) (h2 : Part.vgMain ∈ ps) (h3 : Part.vgOpen ∈ ps) :
    OnlyChanges ks ps s (s.transientFault index sub inst status detail covered) := by
  unfold State.transientFault
  dsimp only
  split
  · exact OnlyChanges.openFault s index sub inst status detail true _ h h1 h2 h3
  · exact OnlyChanges.log s _ h h1 h2

/-- A lasting fault that has been opened is open. -/
theorem State.openFault_open (s : State) (index sub inst status detail : Nat) (covered : Bool) :
    (s.openFault index sub inst status detail covered []).faultOpen index sub inst = true := by
  unfold State.openFault
  split
  · rename_i h
    exact h.2
  · simp [State.faultOpen, List.any_append, OpenFault.isOwn]

/-! ## The end of a command -/

theorem settleOn_on {s : State} (t : State) (h : s.rst.coreOn = true) : settleOn s t = settle s t := by simp [settleOn, h]

theorem settleOn_off {s : State} (t : State) (h : s.rst.coreOn = false) : settleOn s t = s := by simp [settleOn, settle, h]

/-- A command of a block that works with core power completes with its own effect. -/
theorem Does.intro {i : Instr} {s u : State} {ks : List Nat} {ps : List Part} {post : State → Prop} (on : s.rst.coreOn = true)
    (h : exec i s = .next (settleOn s u)) (p : post u) (c : OnlyChanges ks ps s u) : Does i s ks ps post :=
  ⟨u, h.trans (by rw [settleOn_on u on]), p, c⟩

/-! ## DRAM -/

/-- A byte after a write of several: the byte written there, or the one that stood there. -/
theorem State.dramWrite_dramByte : ∀ (l : List Byte) (s : State) (a c : Nat),
    (s.dramWrite a l).dramByte c = if a ≤ c ∧ c < a + l.length then l.getD (c - a) 0 else s.dramByte c
  | [], s, a, c => by
    simp [State.dramWrite]
  | b :: r, s, a, c => by
    rw [State.dramWrite, State.dramWrite_dramByte r, State.putDramByte_dramByte]
    by_cases h : c = a
    · have h1 : ¬ (a + 1 ≤ c ∧ c < a + 1 + r.length) := by omega
      have h2 : a ≤ c ∧ c < a + (b :: r).length := by simp; omega
      rw [if_neg h1, if_pos h, if_pos h2, h]
      simp
    · by_cases g : a + 1 ≤ c ∧ c < a + 1 + r.length
      · have h2 : a ≤ c ∧ c < a + (b :: r).length := by simp; omega
        have h3 : c - a = (c - (a + 1)) + 1 := by omega
        rw [if_pos g, if_pos h2, h3]
        simp
      · have h2 : ¬ (a ≤ c ∧ c < a + (b :: r).length) := by simp; omega
        rw [if_neg g, if_neg h, if_neg h2]

/-- A read after a write of the same place gives the bytes written. -/
theorem State.dramRead_write_aux (t : State) (l : List Byte) : ∀ (m : List Byte) (a n : Nat), l.drop n = m →
    (∀ c, n ≤ c → c < l.length → t.dramByte (a + c) = l.getD c 0) → t.dramRead (a + n) m.length = m
  | [], _, _, _, _ => rfl
  | b :: r, a, n, h, g => by
    have hn : n < l.length := by
      have := congrArg List.length h
      simp at this
      omega
    have hb : l.getD n 0 = b := by
      rw [List.drop_eq_getElem_cons hn] at h
      simp only [List.getD_eq_getElem?_getD, List.getElem?_eq_getElem hn, Option.getD_some]
      exact (List.cons.inj h).1
    have hr : l.drop (n + 1) = r := by
      rw [List.drop_eq_getElem_cons hn] at h
      exact (List.cons.inj h).2
    rw [List.length_cons, State.dramRead, g n (Nat.le_refl n) hn, hb]
    exact congrArg (b :: ·) (State.dramRead_write_aux t l r a (n + 1) hr (fun c hc => g c (by omega)))

theorem State.dramRead_dramWrite (s : State) (a : Nat) (l : List Byte) : (s.dramWrite a l).dramRead a l.length = l :=
  State.dramRead_write_aux (s.dramWrite a l) l l a 0 rfl (fun c _ hc => by
    rw [State.dramWrite_dramByte, if_pos ⟨by omega, by omega⟩]
    congr 1
    omega)

theorem State.dramWrite_dram_wf : ∀ (l : List Byte) (s : State) (a : Nat), sparseWf (fun _ => (0 : Byte)) s.dram = true →
    sparseWf (fun _ => (0 : Byte)) (s.dramWrite a l).dram = true
  | [], _, _, h => h
  | b :: r, s, a, h => State.dramWrite_dram_wf r _ _ (s.putDramByte_dram_wf a b h)

end Sys2Proof.Machine
end

