-- ==== Sys2Proof/Laws/Objects.lean ====
section
/-! SUPPORT. The objects that the rows of spec/opcode_table.json write or read: their rows of the dictionary, whatever the state. -/
set_option maxRecDepth 20000
namespace Sys2Proof.Machine

/-- Outside the lake, what is found at an index and subindex does not depend on the state. -/
theorem State.lookup_row (s : State) {ix sub : Nat} {r : Row} (h : isLakeIndex ix = false) (g : rowOf (ix * 256 + sub) = some r) :
    s.lookup ix sub = .ok r := by
  simp [State.lookup, h, g]

theorem State.lookup_1120_1 (s : State) : s.lookup 0x1120 1 =
    .ok { name := "STAGE_CMD", ix := 0x1120, n := 1, lo := 1, hi := 1, ty := .u8, acc := .wo, kept := .v, range := [(1, 3)] } :=
  s.lookup_row (by decide) (by decide)

theorem State.lookup_1130_1 (s : State) : s.lookup 0x1130 1 =
    .ok { name := "STORE_CMD", ix := 0x1130, n := 1, lo := 1, hi := 1, ty := .u8, acc := .wo, kept := .v, range := [(1, 2)] } :=
  s.lookup_row (by decide) (by decide)

theorem State.lookup_1107_0 (s : State) : s.lookup 0x1107 0 =
    .ok { name := "HELD_ORDER", ix := 0x1107, n := 1, lo := 0, hi := 0, ty := .u8, acc := .rw, kept := .v, range := [(0, 1)] } :=
  s.lookup_row (by decide) (by decide)

theorem State.lookup_2011_0 (s : State) : s.lookup 0x2011 0 =
    .ok { name := "PROVE_CMD", ix := 0x2011, n := 1, lo := 0, hi := 0, ty := .u8, acc := .wo, kept := .v, range := [(1, 1)] } :=
  s.lookup_row (by decide) (by decide)

theorem State.lookup_2012_0 (s : State) : s.lookup 0x2012 0 =
    .ok { name := "REVERT_CMD", ix := 0x2012, n := 1, lo := 0, hi := 0, ty := .u8, acc := .wo, kept := .v, range := [(1, 1)] } :=
  s.lookup_row (by decide) (by decide)

theorem State.lookup_2002_1 (s : State) : s.lookup 0x2002 1 =
    .ok { name := "ID_ASSIGN", ix := 0x2002, n := 1, lo := 1, hi := 1, ty := .u8, acc := .wo, kept := .v, range := [(0, 96)] } :=
  s.lookup_row (by decide) (by decide)

theorem State.lookup_2250_8 (s : State) : s.lookup 0x2250 8 =
    .ok { name := "CLEAR", ix := 0x2250, n := 1, lo := 8, hi := 8, ty := .u8, acc := .wo, kept := .v, range := [(0, 0)] } :=
  s.lookup_row (by decide) (by decide)

theorem State.lookup_2468_4 (s : State) : s.lookup 0x2468 4 =
    .ok { name := "SAMPLE_FREEZE", ix := 0x2468, n := 1, lo := 4, hi := 4, ty := .u8, acc := .rw, kept := .v, range := [(0, 1)] } :=
  s.lookup_row (by decide) (by decide)

theorem State.lookup_2440_65 (s : State) : s.lookup 0x2440 65 =
    .ok { name := "CLEAR", ix := 0x2440, n := 1, lo := 65, hi := 65, ty := .u8, acc := .wo, kept := .v, range := [(0, 0)] } :=
  s.lookup_row (by decide) (by decide)

theorem row_2480_24 (n : Fin 16) : rowOf ((0x2480 + n.val) * 256 + 24) =
    some { name := "CLEAR", ix := 0x2480, n := 16, lo := 24, hi := 24, ty := .u8, acc := .wo, kept := .v, range := [(0, 0)] } := by
  revert n; decide

theorem State.lookup_2480_24 (s : State) (n : Fin 16) : s.lookup (0x2480 + n.val) 24 =
    .ok { name := "CLEAR", ix := 0x2480, n := 16, lo := 24, hi := 24, ty := .u8, acc := .wo, kept := .v, range := [(0, 0)] } := by
  have := n.isLt
  exact s.lookup_row (by simp [isLakeIndex]; omega) (row_2480_24 n)

theorem row_2640_8 (n : Fin 4) : rowOf ((0x2640 + n.val) * 256 + 8) =
    some { name := "CLEAR", ix := 0x2640, n := 4, lo := 8, hi := 8, ty := .u8, acc := .wo, kept := .v, range := [(0, 0)] } := by
  revert n; decide

theorem State.lookup_2640_8 (s : State) (n : Fin 4) : s.lookup (0x2640 + n.val) 8 =
    .ok { name := "CLEAR", ix := 0x2640, n := 4, lo := 8, hi := 8, ty := .u8, acc := .wo, kept := .v, range := [(0, 0)] } := by
  have := n.isLt
  exact s.lookup_row (by simp [isLakeIndex]; omega) (row_2640_8 n)

theorem row_2618_6 (n : Fin 2) : rowOf ((0x2618 + n.val) * 256 + 6) =
    some { name := "CLEAR", ix := 0x2618, n := 2, lo := 6, hi := 6, ty := .u8, acc := .wo, kept := .v, range := [(0, 0)] } := by
  revert n; decide

theorem State.lookup_2618_6 (s : State) (n : Fin 2) : s.lookup (0x2618 + n.val) 6 =
    .ok { name := "CLEAR", ix := 0x2618, n := 2, lo := 6, hi := 6, ty := .u8, acc := .wo, kept := .v, range := [(0, 0)] } := by
  have := n.isLt
  exact s.lookup_row (by simp [isLakeIndex]; omega) (row_2618_6 n)

theorem State.lookup_2880_3 (s : State) : s.lookup 0x2880 3 =
    .ok { name := "LEQ_POP", ix := 0x2880, n := 1, lo := 3, hi := 3, ty := .u8, acc := .wo, kept := .v, range := [(1, 1)] } :=
  s.lookup_row (by decide) (by decide)

theorem State.lookup_2800_8 (s : State) : s.lookup 0x2800 8 =
    .ok { name := "CLEAR", ix := 0x2800, n := 1, lo := 8, hi := 8, ty := .u8, acc := .wo, kept := .v, range := [(0, 0)] } :=
  s.lookup_row (by decide) (by decide)

theorem State.lookup_28D0_10 (s : State) : s.lookup 0x28D0 10 =
    .ok { name := "CLEAR", ix := 0x28D0, n := 1, lo := 10, hi := 10, ty := .u8, acc := .wo, kept := .v, range := [(0, 0)] } :=
  s.lookup_row (by decide) (by decide)

theorem State.lookup_28C0_1 (s : State) : s.lookup 0x28C0 1 =
    .ok { name := "UNWELD_CMD", ix := 0x28C0, n := 1, lo := 1, hi := 1, ty := .u8, acc := .wo, kept := .v, range := [(1, 1)] } :=
  s.lookup_row (by decide) (by decide)

theorem State.lookup_3210_6 (s : State) : s.lookup 0x3210 6 =
    .ok { name := "SOE_READ", ix := 0x3210, n := 1, lo := 6, hi := 6, ty := .u64, acc := .rw, kept := .w } :=
  s.lookup_row (by decide) (by decide)

theorem row_3000_33 (n : Fin 320) : rowOf ((0x3000 + n.val) * 256 + 33) =
    some { name := "CLEAR", ix := 0x3000, n := 320, lo := 33, hi := 33, ty := .u8, acc := .wo, kept := .v, range := [(0, 0)] } := by
  revert n; decide

theorem State.lookup_3000_33 (s : State) (n : Fin 320) : s.lookup (0x3000 + n.val) 33 =
    .ok { name := "CLEAR", ix := 0x3000, n := 320, lo := 33, hi := 33, ty := .u8, acc := .wo, kept := .v, range := [(0, 0)] } := by
  have := n.isLt
  exact s.lookup_row (by simp [isLakeIndex]; omega) (row_3000_33 n)

theorem row_3000_20 (n : Fin 320) : rowOf ((0x3000 + n.val) * 256 + 20) =
    some { name := "OUT_CMD", ix := 0x3000, n := 320, lo := 20, hi := 20, ty := .octets 16, acc := .wo, kept := .v } := by
  revert n; decide

theorem State.lookup_3000_20 (s : State) (n : Fin 320) : s.lookup (0x3000 + n.val) 20 =
    .ok { name := "OUT_CMD", ix := 0x3000, n := 320, lo := 20, hi := 20, ty := .octets 16, acc := .wo, kept := .v } := by
  have := n.isLt
  exact s.lookup_row (by simp [isLakeIndex]; omega) (row_3000_20 n)

theorem row_3000_21 (n : Fin 320) : rowOf ((0x3000 + n.val) * 256 + 21) =
    some { name := "GOV_RESET", ix := 0x3000, n := 320, lo := 21, hi := 21, ty := .u8, acc := .wo, kept := .v, range := [(1, 1)] } := by
  revert n; decide

theorem State.lookup_3000_21 (s : State) (n : Fin 320) : s.lookup (0x3000 + n.val) 21 =
    .ok { name := "GOV_RESET", ix := 0x3000, n := 320, lo := 21, hi := 21, ty := .u8, acc := .wo, kept := .v, range := [(1, 1)] } := by
  have := n.isLt
  exact s.lookup_row (by simp [isLakeIndex]; omega) (row_3000_21 n)

theorem row_4100_5 (n : Fin 64) : rowOf ((0x4100 + n.val) * 256 + 5) =
    some { name := "ENG_CMD", ix := 0x4100, n := 64, lo := 5, hi := 5, ty := .u8, acc := .wo, kept := .v, range := [(1, 2)] } := by
  revert n; decide

theorem State.lookup_4100_5 (s : State) (n : Fin 64) : s.lookup (0x4100 + n.val) 5 =
    .ok { name := "ENG_CMD", ix := 0x4100, n := 64, lo := 5, hi := 5, ty := .u8, acc := .wo, kept := .v, range := [(1, 2)] } := by
  have := n.isLt
  exact s.lookup_row (by simp [isLakeIndex]; omega) (row_4100_5 n)

theorem row_4100_28 (n : Fin 64) : rowOf ((0x4100 + n.val) * 256 + 28) =
    some { name := "CLEAR", ix := 0x4100, n := 64, lo := 28, hi := 28, ty := .u8, acc := .wo, kept := .v, range := [(0, 0)] } := by
  revert n; decide

theorem State.lookup_4100_28 (s : State) (n : Fin 64) : s.lookup (0x4100 + n.val) 28 =
    .ok { name := "CLEAR", ix := 0x4100, n := 64, lo := 28, hi := 28, ty := .u8, acc := .wo, kept := .v, range := [(0, 0)] } := by
  have := n.isLt
  exact s.lookup_row (by simp [isLakeIndex]; omega) (row_4100_28 n)

theorem row_4200_20 (n : Fin 64) : rowOf ((0x4200 + n.val) * 256 + 20) =
    some { name := "TX_POLL", ix := 0x4200, n := 64, lo := 20, hi := 20, ty := .u64, acc := .ro, kept := .v } := by
  revert n; decide

theorem State.lookup_4200_20 (s : State) (n : Fin 64) : s.lookup (0x4200 + n.val) 20 =
    .ok { name := "TX_POLL", ix := 0x4200, n := 64, lo := 20, hi := 20, ty := .u64, acc := .ro, kept := .v } := by
  have := n.isLt
  exact s.lookup_row (by simp [isLakeIndex]; omega) (row_4200_20 n)

theorem row_4200_21 (n : Fin 64) : rowOf ((0x4200 + n.val) * 256 + 21) =
    some { name := "FIFO_CMD", ix := 0x4200, n := 64, lo := 21, hi := 21, ty := .u8, acc := .wo, kept := .v, range := [(1, 3)] } := by
  revert n; decide

theorem State.lookup_4200_21 (s : State) (n : Fin 64) : s.lookup (0x4200 + n.val) 21 =
    .ok { name := "FIFO_CMD", ix := 0x4200, n := 64, lo := 21, hi := 21, ty := .u8, acc := .wo, kept := .v, range := [(1, 3)] } := by
  have := n.isLt
  exact s.lookup_row (by simp [isLakeIndex]; omega) (row_4200_21 n)

theorem row_4200_26 (n : Fin 64) : rowOf ((0x4200 + n.val) * 256 + 26) =
    some { name := "CLEAR", ix := 0x4200, n := 64, lo := 26, hi := 26, ty := .u8, acc := .wo, kept := .v, range := [(0, 0)] } := by
  revert n; decide

theorem State.lookup_4200_26 (s : State) (n : Fin 64) : s.lookup (0x4200 + n.val) 26 =
    .ok { name := "CLEAR", ix := 0x4200, n := 64, lo := 26, hi := 26, ty := .u8, acc := .wo, kept := .v, range := [(0, 0)] } := by
  have := n.isLt
  exact s.lookup_row (by simp [isLakeIndex]; omega) (row_4200_26 n)

theorem row_5100_20 (n : Fin 16) : rowOf ((0x5100 + n.val) * 256 + 20) =
    some { name := "TX_SUBMIT", ix := 0x5100, n := 16, lo := 20, hi := 20, ty := .octets 80, acc := .wo, kept := .v } := by
  revert n; decide

theorem State.lookup_5100_20 (s : State) (n : Fin 16) : s.lookup (0x5100 + n.val) 20 =
    .ok { name := "TX_SUBMIT", ix := 0x5100, n := 16, lo := 20, hi := 20, ty := .octets 80, acc := .wo, kept := .v } := by
  have := n.isLt
  exact s.lookup_row (by simp [isLakeIndex]; omega) (row_5100_20 n)

theorem row_5100_21 (n : Fin 16) : rowOf ((0x5100 + n.val) * 256 + 21) =
    some { name := "TX_ABORT", ix := 0x5100, n := 16, lo := 21, hi := 21, ty := .u8, acc := .wo, kept := .v, mask := 0x7 } := by
  revert n; decide

theorem State.lookup_5100_21 (s : State) (n : Fin 16) : s.lookup (0x5100 + n.val) 21 =
    .ok { name := "TX_ABORT", ix := 0x5100, n := 16, lo := 21, hi := 21, ty := .u8, acc := .wo, kept := .v, mask := 0x7 } := by
  have := n.isLt
  exact s.lookup_row (by simp [isLakeIndex]; omega) (row_5100_21 n)

theorem row_5300_12 (n : Fin 16) : rowOf ((0x5300 + n.val) * 256 + 12) =
    some { name := "RX_POLL", ix := 0x5300, n := 16, lo := 12, hi := 12, ty := .octets 80, acc := .ro, kept := .v } := by
  revert n; decide

theorem State.lookup_5300_12 (s : State) (n : Fin 16) : s.lookup (0x5300 + n.val) 12 =
    .ok { name := "RX_POLL", ix := 0x5300, n := 16, lo := 12, hi := 12, ty := .octets 80, acc := .ro, kept := .v } := by
  have := n.isLt
  exact s.lookup_row (by simp [isLakeIndex]; omega) (row_5300_12 n)

theorem row_5100_22 (n : Fin 16) : rowOf ((0x5100 + n.val) * 256 + 22) =
    some { name := "CAN_CMD", ix := 0x5100, n := 16, lo := 22, hi := 22, ty := .u8, acc := .wo, kept := .v, range := [(1, 2)] } := by
  revert n; decide

theorem State.lookup_5100_22 (s : State) (n : Fin 16) : s.lookup (0x5100 + n.val) 22 =
    .ok { name := "CAN_CMD", ix := 0x5100, n := 16, lo := 22, hi := 22, ty := .u8, acc := .wo, kept := .v, range := [(1, 2)] } := by
  have := n.isLt
  exact s.lookup_row (by simp [isLakeIndex]; omega) (row_5100_22 n)

theorem row_5300_29 (n : Fin 16) : rowOf ((0x5300 + n.val) * 256 + 29) =
    some { name := "CLEAR", ix := 0x5300, n := 16, lo := 29, hi := 29, ty := .u8, acc := .wo, kept := .v, range := [(0, 0)] } := by
  revert n; decide

theorem State.lookup_5300_29 (s : State) (n : Fin 16) : s.lookup (0x5300 + n.val) 29 =
    .ok { name := "CLEAR", ix := 0x5300, n := 16, lo := 29, hi := 29, ty := .u8, acc := .wo, kept := .v, range := [(0, 0)] } := by
  have := n.isLt
  exact s.lookup_row (by simp [isLakeIndex]; omega) (row_5300_29 n)

theorem row_5880_8 (n : Fin 32) : rowOf ((0x5880 + n.val) * 256 + 8) =
    some { name := "RX_POLL", ix := 0x5880, n := 32, lo := 8, hi := 8, ty := .octets 272, acc := .ro, kept := .v } := by
  revert n; decide

theorem State.lookup_5880_8 (s : State) (n : Fin 32) : s.lookup (0x5880 + n.val) 8 =
    .ok { name := "RX_POLL", ix := 0x5880, n := 32, lo := 8, hi := 8, ty := .octets 272, acc := .ro, kept := .v } := by
  have := n.isLt
  exact s.lookup_row (by simp [isLakeIndex]; omega) (row_5880_8 n)

theorem row_5800_22 (n : Fin 32) : rowOf ((0x5800 + n.val) * 256 + 22) =
    some { name := "TX_SUBMIT", ix := 0x5800, n := 32, lo := 22, hi := 22, ty := .octets 272, acc := .wo, kept := .v } := by
  revert n; decide

theorem State.lookup_5800_22 (s : State) (n : Fin 32) : s.lookup (0x5800 + n.val) 22 =
    .ok { name := "TX_SUBMIT", ix := 0x5800, n := 32, lo := 22, hi := 22, ty := .octets 272, acc := .wo, kept := .v } := by
  have := n.isLt
  exact s.lookup_row (by simp [isLakeIndex]; omega) (row_5800_22 n)

theorem row_5800_23 (n : Fin 32) : rowOf ((0x5800 + n.val) * 256 + 23) =
    some { name := "TX_ABORT", ix := 0x5800, n := 32, lo := 23, hi := 23, ty := .u8, acc := .wo, kept := .v, mask := 0x3 } := by
  revert n; decide

theorem State.lookup_5800_23 (s : State) (n : Fin 32) : s.lookup (0x5800 + n.val) 23 =
    .ok { name := "TX_ABORT", ix := 0x5800, n := 32, lo := 23, hi := 23, ty := .u8, acc := .wo, kept := .v, mask := 0x3 } := by
  have := n.isLt
  exact s.lookup_row (by simp [isLakeIndex]; omega) (row_5800_23 n)

theorem row_5800_24 (n : Fin 32) : rowOf ((0x5800 + n.val) * 256 + 24) =
    some { name := "UART_CMD", ix := 0x5800, n := 32, lo := 24, hi := 24, ty := .u8, acc := .wo, kept := .v, range := [(1, 2)] } := by
  revert n; decide

theorem State.lookup_5800_24 (s : State) (n : Fin 32) : s.lookup (0x5800 + n.val) 24 =
    .ok { name := "UART_CMD", ix := 0x5800, n := 32, lo := 24, hi := 24, ty := .u8, acc := .wo, kept := .v, range := [(1, 2)] } := by
  have := n.isLt
  exact s.lookup_row (by simp [isLakeIndex]; omega) (row_5800_24 n)

theorem row_5880_21 (n : Fin 32) : rowOf ((0x5880 + n.val) * 256 + 21) =
    some { name := "CLEAR", ix := 0x5880, n := 32, lo := 21, hi := 21, ty := .u8, acc := .wo, kept := .v, range := [(0, 0)] } := by
  revert n; decide

theorem State.lookup_5880_21 (s : State) (n : Fin 32) : s.lookup (0x5880 + n.val) 21 =
    .ok { name := "CLEAR", ix := 0x5880, n := 32, lo := 21, hi := 21, ty := .u8, acc := .wo, kept := .v, range := [(0, 0)] } := by
  have := n.isLt
  exact s.lookup_row (by simp [isLakeIndex]; omega) (row_5880_21 n)

theorem State.lookup_6001_6 (s : State) : s.lookup 0x6001 6 =
    .ok { name := "CLEAR", ix := 0x6001, n := 1, lo := 6, hi := 6, ty := .u8, acc := .wo, kept := .v, range := [(0, 0)] } :=
  s.lookup_row (by decide) (by decide)

theorem row_62C0_0 (n : Fin 64) : rowOf ((0x62C0 + n.val) * 256 + 0) =
    some { name := "EVENT_IN", ix := 0x62C0, n := 64, lo := 0, hi := 0, ty := .octets 256, acc := .wo, kept := .v } := by
  revert n; decide

theorem State.lookup_62C0_0 (s : State) (n : Fin 64) : s.lookup (0x62C0 + n.val) 0 =
    .ok { name := "EVENT_IN", ix := 0x62C0, n := 64, lo := 0, hi := 0, ty := .octets 256, acc := .wo, kept := .v } := by
  have := n.isLt
  exact s.lookup_row (by simp [isLakeIndex]; omega) (row_62C0_0 n)

theorem State.lookup_6100_3 (s : State) : s.lookup 0x6100 3 =
    .ok { name := "CLEAR", ix := 0x6100, n := 1, lo := 3, hi := 3, ty := .u8, acc := .wo, kept := .v, range := [(0, 0)] } :=
  s.lookup_row (by decide) (by decide)

theorem State.lookup_6203_7 (s : State) : s.lookup 0x6203 7 =
    .ok { name := "CLEAR", ix := 0x6203, n := 1, lo := 7, hi := 7, ty := .u8, acc := .wo, kept := .v, range := [(0, 0)] } :=
  s.lookup_row (by decide) (by decide)

theorem row_7080_4 (n : Fin 24) : rowOf ((0x7080 + n.val) * 256 + 4) =
    some { name := "JOB_CMD", ix := 0x7080, n := 24, lo := 4, hi := 4, ty := .u8, acc := .wo, kept := .v, range := [(1, 3)] } := by
  revert n; decide

theorem State.lookup_7080_4 (s : State) (n : Fin 24) : s.lookup (0x7080 + n.val) 4 =
    .ok { name := "JOB_CMD", ix := 0x7080, n := 24, lo := 4, hi := 4, ty := .u8, acc := .wo, kept := .v, range := [(1, 3)] } := by
  have := n.isLt
  exact s.lookup_row (by simp [isLakeIndex]; omega) (row_7080_4 n)

theorem row_70A0_2 (n : Fin 24) : rowOf ((0x70A0 + n.val) * 256 + 2) =
    some { name := "CTX_VALUE", ix := 0x70A0, n := 24, lo := 2, hi := 2, ty := .u32, acc := .rw, kept := .w, dflt := 0xFFFFFFFF } := by
  revert n; decide

theorem State.lookup_70A0_2 (s : State) (n : Fin 24) : s.lookup (0x70A0 + n.val) 2 =
    .ok { name := "CTX_VALUE", ix := 0x70A0, n := 24, lo := 2, hi := 2, ty := .u32, acc := .rw, kept := .w, dflt := 0xFFFFFFFF } := by
  have := n.isLt
  exact s.lookup_row (by simp [isLakeIndex]; omega) (row_70A0_2 n)

theorem row_70A0_3 (n : Fin 24) : rowOf ((0x70A0 + n.val) * 256 + 3) =
    some { name := "CTX_ALIVE", ix := 0x70A0, n := 24, lo := 3, hi := 3, ty := .u8, acc := .rw, kept := .w } := by
  revert n; decide

theorem State.lookup_70A0_3 (s : State) (n : Fin 24) : s.lookup (0x70A0 + n.val) 3 =
    .ok { name := "CTX_ALIVE", ix := 0x70A0, n := 24, lo := 3, hi := 3, ty := .u8, acc := .rw, kept := .w } := by
  have := n.isLt
  exact s.lookup_row (by simp [isLakeIndex]; omega) (row_70A0_3 n)

theorem row_7060_9 (n : Fin 24) : rowOf ((0x7060 + n.val) * 256 + 9) =
    some { name := "CK_CMD", ix := 0x7060, n := 24, lo := 9, hi := 9, ty := .u8, acc := .wo, kept := .v, range := [(1, 1)] } := by
  revert n; decide

theorem State.lookup_7060_9 (s : State) (n : Fin 24) : s.lookup (0x7060 + n.val) 9 =
    .ok { name := "CK_CMD", ix := 0x7060, n := 24, lo := 9, hi := 9, ty := .u8, acc := .wo, kept := .v, range := [(1, 1)] } := by
  have := n.isLt
  exact s.lookup_row (by simp [isLakeIndex]; omega) (row_7060_9 n)

theorem row_7060_10 (n : Fin 24) : rowOf ((0x7060 + n.val) * 256 + 10) =
    some { name := "CLEAR", ix := 0x7060, n := 24, lo := 10, hi := 10, ty := .u8, acc := .wo, kept := .v, range := [(0, 0)] } := by
  revert n; decide

theorem State.lookup_7060_10 (s : State) (n : Fin 24) : s.lookup (0x7060 + n.val) 10 =
    .ok { name := "CLEAR", ix := 0x7060, n := 24, lo := 10, hi := 10, ty := .u8, acc := .wo, kept := .v, range := [(0, 0)] } := by
  have := n.isLt
  exact s.lookup_row (by simp [isLakeIndex]; omega) (row_7060_10 n)

theorem State.lookup_7410_2 (s : State) : s.lookup 0x7410 2 =
    .ok { name := "SELFTEST_CMD", ix := 0x7410, n := 1, lo := 2, hi := 2, ty := .u8, acc := .wo, kept := .v, range := [(1, 1)] } :=
  s.lookup_row (by decide) (by decide)

theorem State.lookup_7410_4 (s : State) : s.lookup 0x7410 4 =
    .ok { name := "DEBUG_CMD", ix := 0x7410, n := 1, lo := 4, hi := 4, ty := .u8, acc := .wo, kept := .v, range := [(1, 2)] } :=
  s.lookup_row (by decide) (by decide)

theorem State.lookup_7410_6 (s : State) : s.lookup 0x7410 6 =
    .ok { name := "CLEAR", ix := 0x7410, n := 1, lo := 6, hi := 6, ty := .u8, acc := .wo, kept := .v, range := [(0, 0)] } :=
  s.lookup_row (by decide) (by decide)

theorem State.lookup_7830_0 (s : State) : s.lookup 0x7830 0 =
    .ok { name := "PE_CMD", ix := 0x7830, n := 1, lo := 0, hi := 0, ty := .u8, acc := .wo, kept := .v, range := [(1, 3)] } :=
  s.lookup_row (by decide) (by decide)

theorem State.lookup_7820_12 (s : State) : s.lookup 0x7820 12 =
    .ok { name := "CLEAR", ix := 0x7820, n := 1, lo := 12, hi := 12, ty := .u8, acc := .wo, kept := .v, range := [(0, 0)] } :=
  s.lookup_row (by decide) (by decide)

theorem State.lookup_1200_1 (s : State) : s.lookup 0x1200 1 =
    .ok { name := "RESET_CMD", ix := 0x1200, n := 1, lo := 1, hi := 1, ty := .u8, acc := .wo, kept := .v, range := [(1, 2)] } :=
  s.lookup_row (by decide) (by decide)

theorem State.lookup_1210_1 (s : State) : s.lookup 0x1210 1 =
    .ok { name := "POWER_CMD", ix := 0x1210, n := 1, lo := 1, hi := 1, ty := .u8, acc := .wo, kept := .v, range := [(0, 3)] } :=
  s.lookup_row (by decide) (by decide)

theorem State.lookup_F000_6 (s : State) : s.lookup 0xF000 6 =
    .ok { name := "VG_CMD", ix := 0xF000, n := 1, lo := 6, hi := 6, ty := .u8, acc := .wo, kept := .v, range := [(1, 1)] } :=
  s.lookup_row (by decide) (by decide)

theorem State.lookup_1300_5 (s : State) : s.lookup 0x1300 5 =
    .ok { name := "FW_CMD", ix := 0x1300, n := 1, lo := 5, hi := 5, ty := .u8, acc := .wo, kept := .v, range := [(1, 3)] } :=
  s.lookup_row (by decide) (by decide)

end Sys2Proof.Machine
end

