-- ==== Sys2Proof/Laws/Requests.lean ====
section
/-! SUPPORT. A request that passes the checks of R470: what its handling, its service and a sender's command come to. -/
namespace Sys2Proof.Machine

/-- Past the checks up to the claim, an object that exists and takes the access and the form has its effect. -/
theorem State.handleHere_effect {s : State} {who : Requester} {r : ObjReq} {row : Row} {work : Option WorkRef}
    (h1 : s.stateRefusal r = none) (h2 : s.lookup r.index r.sub = .ok row) (h3 : s.claimRefusal r = none)
    (h4 : codeRefusal row.acc (isWriteOp r.opcode) = none) (h5 : formRefusal row r = none) :
    s.handleHere who r work = s.objectEffect who r row work := by
  simp only [State.handleHere, State.objectRefusal, h1, h2, h3, h4, h5, firstRefusal]

/-- The same for a request to this node. -/
theorem State.handle_here {s : State} {who : Requester} {r : ObjReq} {work : Option WorkRef} (h0 : s.paused = false)
    (h1 : bodyRefusal who r true = none) (h2 : r.target = 0) : s.handle who r true work = s.handleHere who r work := by
  simp [State.handle, h0, h1, h2]

/-- A request that is answered at once: its effect, the count of a refusal, and the response. -/
theorem State.serve_now {s t : State} {who : Requester} {r : ObjReq} {ok : Bool} {work : Option WorkRef} {st flags : Nat} {data : List Byte}
    (h : s.answers who = true) (hm : mailboxData who r = r) (hh : s.handle who r ok work = (t, .now st flags data)) :
    (s.serve who r ok work).1 = (t.countRefusal st).respond who (respTo t r st flags data) work := by
  simp [State.serve, h, hm, hh]

/-- A status other than CLAIM_LOST is not counted. -/
theorem State.countRefusal_other {s : State} {st : Nat} (h : st ≠ stClaimLost) : s.countRefusal st = s := by
  simp [State.countRefusal, h]

theorem mailboxData_same {who : Requester} {r : ObjReq} (h : r.data.length ≤ (if r.opcode = 2 ∨ r.opcode = 4 then r.length else 0)) :
    mailboxData who r = r := by
  unfold mailboxData
  split
  · rw [List.take_of_length_le h]
  · rfl

/-- With the dictionary queue free, a request is served at once. -/
theorem State.submit_free {s : State} {who : Requester} {r : ObjReq} {ok : Bool} (h : s.dict.queue = []) :
    s.submit who r ok = (s.serve who r ok none).1 := by
  have hs : ({ s with dict := { s.dict with queue := [] } } : State) = s := by rw [← h]
  have e : ({ s with dict := { s.dict with queue := s.dict.queue ++ [(who, r, ok)] } } : State).drainQueue =
      (({ s with dict := { s.dict with queue := [] } } : State).serve who r ok none).1 := by
    simp [State.drainQueue, forEach, h]
  unfold State.submit
  rw [if_neg (by simp [h]), e, hs]

/-- A request whose frame does not wait, with the queue free. -/
theorem State.request_free {s : State} {who : Requester} {r : ObjReq} (h : s.dict.queue = []) (hf : s.noFrameFor who r) :
    s.request who r = (s.serve who r true none).1 := by
  unfold State.request
  split
  · rename_i src c
    have : s.readFrame src r = none := hf
    rw [this]
    exact State.submit_free h
  · exact State.submit_free h

/-- A request that passes the checks up to the claim, with the effect of its object: what the access path does. -/
theorem State.request_effect {s t : State} {who : Requester} {r : ObjReq} {row : Row} {st flags : Nat} {data : List Byte}
    (a : s.admits who r) (hd : r.data.length ≤ (if r.opcode = 2 ∨ r.opcode = 4 then r.length else 0))
    (h2 : s.lookup r.index r.sub = .ok row) (h4 : codeRefusal row.acc (isWriteOp r.opcode) = none) (h5 : formRefusal row r = none)
    (he : s.objectEffect who r row none = (t, .now st flags data)) :
    s.request who r = (t.countRefusal st).respond who (respTo t r st flags data) none := by
  obtain ⟨b1, b2, b3, b4, b5, b6, b7, b8⟩ := a
  rw [State.request_free b3 b4]
  refine State.serve_now b1 (mailboxData_same hd) ?_
  rw [State.handle_here b2 b5 b6, State.handleHere_effect b7 h2 b8 h4 h5, he]

/-- A node that answers has core power. -/
theorem State.answers_on {s : State} {who : Requester} (h : s.answers who = true) : s.rst.coreOn = true := by
  simp only [State.answers, Bool.and_eq_true] at h
  exact h.1

/-- A sender's write that passes the checks completes with the effect of its object. -/
theorem Answers.write {i : Instr} {s t : State} {snd : Sender} {ix sub st : Nat} {data d : List Byte} {row : Row} {ks : List Nat}
    {ps : List Part} {post : State → Prop} (hi : exec i s = .next (settleOn s (s.senderWrite snd ix sub data)))
    (a : s.admits snd.who (writeReq snd ix sub data)) (h2 : s.lookup ix sub = .ok row) (h4 : codeRefusal row.acc true = none)
    (h5 : formRefusal row (writeReq snd ix sub data) = none)
    (he : s.objectEffect snd.who (writeReq snd ix sub data) row none = (t, .now st 0 d)) (hs : st ≠ stClaimLost) (p : post t)
    (c : OnlyChanges ks ps s t) : Answers i s snd.who (writeReq snd ix sub data) st d ks ps post := by
  have hr : s.senderWrite snd ix sub data = (t.countRefusal st).respond snd.who (respTo t (writeReq snd ix sub data) st 0 d) none :=
    State.request_effect a (by simp) h2 h4 h5 he
  refine ⟨t, ?_, p, c⟩
  rw [hi, hr, State.countRefusal_other hs]
  simp [settleOn, State.answers_on a.1]

/-- The same for a sender's read. -/
theorem Answers.read {i : Instr} {s t : State} {snd : Sender} {ix sub st : Nat} {d : List Byte} {row : Row} {ks : List Nat}
    {ps : List Part} {post : State → Prop} (hi : exec i s = .next (settleOn s (s.senderRead snd ix sub)))
    (a : s.admits snd.who (readReq snd ix sub)) (h2 : s.lookup ix sub = .ok row) (h4 : codeRefusal row.acc false = none)
    (h5 : formRefusal row (readReq snd ix sub) = none)
    (he : s.objectEffect snd.who (readReq snd ix sub) row none = (t, .now st 0 d)) (hs : st ≠ stClaimLost) (p : post t)
    (c : OnlyChanges ks ps s t) : Answers i s snd.who (readReq snd ix sub) st d ks ps post := by
  have hr : s.senderRead snd ix sub = (t.countRefusal st).respond snd.who (respTo t (readReq snd ix sub) st 0 d) none :=
    State.request_effect a (by simp) h2 h4 h5 he
  refine ⟨t, ?_, p, c⟩
  rw [hi, hr, State.countRefusal_other hs]
  simp [settleOn, State.answers_on a.1]

end Sys2Proof.Machine
end

