-- ==== Sys2Proof/Machine/Rows.lean ====
section
/-! DEFINITION. The rows with which a node fills its out links between and after frames: the LINK_WORD of IDLE and TRAILER rows (R62)
and the IDLE rows that a node inserts (R65). The rows themselves pass at 2.56 ns each, below the grain of the commands; these functions
say what a row sent now carries. -/
namespace Sys2Proof.Machine

/-- When an out link entered UP, ns. -/
def State.upSince (s : State) : Path → Nat
  | .a => s.ring.outSince
  | .b => s.ring.outSinceB

/-- Rows sent on an out link since it entered UP, one in each 2.56 ns (R60, R62). -/
def State.rowCount (s : State) (p : Path) : Nat := (s.now - s.upSince p) * 100 / 256 % 2 ^ 32

/-- The LINK_WORD that this node sends on an out link (R62). -/
def State.linkWordNow (s : State) (p : Path) : Nat :=
  s.rowCount p + s.obj Obj.membershipGen % 2 ^ 16 * 2 ^ 32 + ofBool s.clockLocked * 2 ^ 48 + s.ringState % 16 * 2 ^ 52 +
  s.ownId % 256 * 2 ^ 56

/-- An IDLE row (R62): C6 to C13 hold the LINK_WORD. -/
def State.idleRow (s : State) (p : Path) : List Byte :=
  controlRow rcIdle (List.replicate 6 0 ++ leBytes 8 (s.linkWordNow p))

/-- The TRAILER row that ends a frame (R62): C0 holds STOMP, C2 to C5 the FCRC, C6 to C13 the LINK_WORD. -/
def State.trailerRow (s : State) (p : Path) (stomp : Bool) (fcrc : Nat) : List Byte :=
  controlRow rcTrailer (leBytes 2 (ofBool stomp) ++ leBytes 4 fcrc ++ leBytes 8 (s.linkWordNow p))

/-- A node inserts one IDLE row after every 4,095 other rows of an out link (R65): while its own time base is not locked, and on a B
link while the neighbour that the link feeds has told on A-in that its own is not. -/
def State.insertsIdle (s : State) (p : Path) : Bool :=
  !s.clockLocked || (p = .b && !bit (s.link .a).linkWord 48)

end Sys2Proof.Machine
end

