-- ==== Sys2Proof/Tests/Slice0.lean ====
section
/-! SUPPORT. Tests: states that the tests are made on, values that the spec gives, ill-formed commands, and for every statement of the
obligations a state and operands for each of its clauses that meet the hypotheses together. -/
set_option maxRecDepth 20000
set_option exponentiation.threshold 512
set_option linter.unusedVariables false
namespace Sys2Proof.Machine

/-! ## States -/

def wOn : State :=
  { ((State.reset.put Obj.nodeState 3).put Obj.effectiveId 5) with
    acc := { State.reset.acc with members := [{ id := 5, identity := 1 }, { id := 7, identity := 2 }] } }
def wRun : State :=
  ((((wOn.put Obj.nodeState 4).put (Obj.cmdrLive 0) 1).put (Obj.cmdrClaim 0) 9).put Obj.holder 1).put Obj.configValid 1
def wSnd : Sender := { who := .mailbox, commander := 1, tag := 7 }
def admitsB (s : State) (who : Requester) (r : ObjReq) : Bool :=
  s.answers who && !s.paused && decide (s.dict.queue = []) && (match who with | .ring src _ => (s.readFrame src r).isNone | _ => true) &&
  decide (bodyRefusal who r true = none) && r.target == 0 && decide (s.stateRefusal r = none) && decide (s.claimRefusal r = none)
def wRow : Row := { name := "", ix := 0, n := 1, lo := 0, hi := 0, ty := .u8, acc := .rw, kept := .v }
def wF : Frame := { cls := 2, type := tyWrite, src := 7, dst := 5, commander := 1, session := 0x8001, seq := 1, address := mkAddr 5 3 0x18400000 }
def wRowOf (ix sub : Nat) : Row := (wRun.lookup ix sub).toOption.getD wRow
def wMax (r : Row) : Nat := match r.ty with | .domain m _ _ => m | _ => 0
def wProg (per pins mode width : Nat) (states slots acts : List Nat) : List Byte :=
  leBytes 2 1 ++ leBytes 1 states.length ++ [0] ++ leBytes 2 slots.length ++ leBytes 2 acts.length ++ List.replicate 8 3 ++
  leBytes 4 7 ++ leBytes 4 6 ++ leBytes 4 5 ++ leBytes 4 4 ++ leBytes 2 per ++ leBytes 2 pins ++ leBytes 1 mode ++ leBytes 1 width ++
  List.replicate 26 0 ++ (states ++ slots ++ acts).flatMap (leBytes 8)
def wMap (cells : List Nat) : List Byte := cells.flatMap (leBytes 2) ++ List.replicate (16 - 2 * cells.length) 0xFF
def wEng (p : List Byte) (e : Engine) (f : Fifo) (n : Nat := 4) : State :=
  { (((wRun.put (Obj.runEnable n) 1).putBlob (Obj.engProgram n) p).putBlob (Obj.pinMap n) (wMap [])) with
    eng := { engines := [(n, e)], fifos := [(n, f)] } }

/-! ## Values that the spec gives -/

/-- The nine bytes "123456789" (R352). -/
def wNine : List Byte := [0x31, 0x32, 0x33, 0x34, 0x35, 0x36, 0x37, 0x38, 0x39]
def wCrc (w p i x : Nat) (ri ro : Bool) : Nat × Nat :=
  let c : CkParams := { width := w, poly := p, init := i, xorout := x, refin := ri, refout := ro }
  (c.result (c.feed c.init wNine), c.result c.init)

/-- The table of R352. -/
theorem test_crc8 : wCrc 8 0x07 0 0 false false = (0xF4, 0) ∧ wCrc 8 0x1D 0xFF 0xFF false false = (0x4B, 0) := by decide
theorem test_crc16 : wCrc 16 0x1021 0xFFFF 0 false false = (0x29B1, 0xFFFF) ∧ wCrc 16 0x1021 0 0 true true = (0x2189, 0) ∧
    wCrc 16 0x8005 0xFFFF 0 true true = (0x4B37, 0xFFFF) ∧ wCrc 16 0x3D65 0 0xFFFF true true = (0xEA82, 0xFFFF) := by decide
theorem test_crc32 : wCrc 32 0x04C11DB7 0xFFFFFFFF 0xFFFFFFFF true true = (0xCBF43926, 0) ∧
    wCrc 32 0x1EDC6F41 0xFFFFFFFF 0xFFFFFFFF true true = (0xE3069283, 0) := by decide
/-- The checks of R69 and R54 are the sets marked in R352. -/
theorem test_frame_checks : hcrc wNine = 0x29B1 ∧ fcrc wNine = 0xE3069283 ∧ crc32 wNine = 0xCBF43926 := by decide

/-- The two addresses of the example at R22. -/
theorem test_addresses : mkAddr 0 1 (31 * 32768 + 0x123 * 8) = 0x0010000F8918 ∧ objAddr 0x1F 0x2010 2 = 0x1F0000201002 := by decide

/-- The feed voltage of the example at R44: 24,000 mV read as 24,266 mV. -/
theorem test_calibration : calibrate 0x3F8174AD 0xC0E00000 24000 = 24266 := by decide

/-- The example at R183: NEXT is 0xFFFF_FFFE; SEQ 1 is 3 ahead, and 0xFFFF_FFF0 is behind. -/
theorem test_sequence : seqSub 1 0xFFFFFFFE = 3 ∧ seqNewer 1 0xFFFFFFFE = true ∧ seqSub 0xFFFFFFF0 0xFFFFFFFE = 0xFFFFFFF2 ∧
    seqNewer 0xFFFFFFF0 0xFFFFFFFE = false ∧ seqNext 0xFFFFFFFF = 0 := by decide

/-- The hand-over of the example at R103, and of equal numbers the lower ID (R101). -/
theorem test_holder : (((wRun.put (Obj.cmdrClaim 0) 0x200).put (Obj.cmdrLive 1) 1).put (Obj.cmdrClaim 1) 0x300).holderNow = 2 ∧
    (((wRun.put (Obj.cmdrClaim 0) 0x300).put (Obj.cmdrLive 1) 1).put (Obj.cmdrClaim 1) 0x300).holderNow = 1 := by decide

/-- Entry 1,200 of the example at R343: GAIN 5, GAIN_SHIFT 4, ROUND 0, OUT_MIN -500, OUT_MAX 2,000. -/
def wEntry : Nat := 5 * 2 ^ 288 + (2 ^ 32 - 500) * 2 ^ 224 + 2000 * 2 ^ 192 + 4 * 2 ^ 187 + 77 * 2 ^ 32
theorem test_scale_P : scaleP wEntry 3898 = (1218, false) ∧ scaleP wEntry 8 = (3, false) ∧ scaleP wEntry (-400) = (-125, false) ∧
    scaleP wEntry 32767 = (2000, true) := by decide
theorem test_scale_T : scaleBy true wEntry 3898 = (1218, false) ∧ scaleBy true wEntry 8 = (3, false) ∧
    scaleBy true wEntry (-400) = (-125, false) ∧ scaleBy true wEntry 32767 = (2000, true) := by decide
theorem test_round_half_even : (scaleP (wEntry + 2 ^ 184) 8).1 = 2 := by decide

/-- The alive counter of the example at R356: CRC-8/SAE-J1850, ID_LEN 2, DATA_ID 0x0321, MAX_GAP 2. -/
def wStream : Nat := 2 * 2 ^ 124 + 4 * 2 ^ 116 + 7 * 2 ^ 84 + 7 * 2 ^ 72 + 2 ^ 68 + 4 * 2 ^ 64 + 52 * 2 ^ 50 + 2 * 2 ^ 48 +
  0x0321 * 2 ^ 32 + 2 * 2 ^ 24
def wAlive : State :=
  (((((wRun.put (Obj.ckWidth 3) 8).put (Obj.ckPoly 3) 0x1D).put (Obj.ckInit 3) 0xFF).put (Obj.ckXorout 3) 0xFF).put (Obj.ckRefin 3) 0
    |>.put (Obj.ckRefout 3) 0).putBlob (Obj.streams 3) (leBytes 16 wStream)
def wMsg (n : Nat) (good : Bool) : List Byte :=
  let m := List.replicate 6 0 ++ [BitVec.ofNat 8 (n * 16)]
  let c := ckOver (wAlive.ckParams 3) wStream m
  m ++ leBytes 1 (if good then c else c + 1)
def wSeen (l : List (Nat × Bool)) : List CkVerdict × Nat × Nat × Nat :=
  let x := l.foldl (fun (a : State × List CkVerdict) p =>
    let y := a.1.checkStream 2 4 9 (wMsg p.1 p.2)
    (y.1, a.2 ++ [y.2])) (wAlive, [])
  (x.2, x.1.obj (Obj.ckMissed 3), x.1.obj (Obj.checkFails 3), x.1.obj (Obj.ckGaps 3))
theorem test_alive : wSeen [(5, true), (6, true), (6, true), (8, true), (9, false), (11, true), (12, true)] =
    ([.pass, .pass, .discard, .pass, .invalid, .invalid, .pass], 1, 1, 1) := by decide

/-- The reset of FAULT_SUMMARY (R57). -/
theorem test_reset_faults : State.reset.faultSummaryNow = 0x228 ∧ State.reset.pending = [] ∧ sparseWf scalarDefault State.reset.objs = true := by
  decide

/-- The hash that FIPS 180-4 gives for "abc" (R431, log entry 29). -/
theorem test_sha256 : sha256 [0x61, 0x62, 0x63] = [0xBA, 0x78, 0x16, 0xBF, 0x8F, 0x01, 0xCF, 0xEA, 0x41, 0x41, 0x40, 0xDE, 0x5D, 0xAE, 0x22, 0x23, 0xB0, 0x03, 0x61, 0xA3, 0x96, 0x17, 0x7A, 0x9C, 0xB4, 0x10, 0xFF, 0x61, 0xF2, 0x00, 0x15, 0xAD] := by
  decide

/-! ## Well-formed commands: an ill-formed term for each check is refused -/

def wReq : ObjReq := { opcode := 2, index := 0x2000, sub := 5 }
theorem smoke_sender : (Instr.por).wf = true ∧ (Instr.store wSnd).wf = true ∧ (Instr.store { wSnd with commander := 256 }).wf = false ∧
    (Instr.store { wSnd with tag := 65536 }).wf = false ∧ (Instr.store { wSnd with who := .ring 97 0 }).wf = false ∧
    (Instr.store { wSnd with who := .kedogil (2 ^ 32) 0 }).wf = false := by decide
theorem smoke_request : (Instr.objectWrite .mailbox wReq).wf = true ∧
    ([{ wReq with opcode := 256 }, { wReq with flags := 256 }, { wReq with target := 256 }, { wReq with commander := 256 },
      { wReq with index := 65536 }, { wReq with sub := 256 }, { wReq with reserved := 256 }, { wReq with tag := 65536 },
      { wReq with length := 65536 }, { wReq with segOffset := 2 ^ 32 }].all (fun q => !(Instr.objectWrite .mailbox q).wf)) = true := by decide
theorem smoke_frame : (Instr.memoryRead wF).wf = true ∧
    ([{ wF with hops := 256 }, { wF with cls := 4 }, { wF with type := 16 }, { wF with src := 0 }, { wF with src := 97 },
      { wF with dst := 100 }, { wF with status := 256 }, { wF with commander := 9 }, { wF with tag := 65536 }, { wF with session := 65536 },
      { wF with seq := 2 ^ 32 }, { wF with address := 2 ^ 48 }, { wF with param := 2 ^ 48 },
      { wF with payload := List.replicate 2049 0 }].all (fun f => !(Instr.memoryRead f).wf)) = true := by decide
theorem smoke_ring : (Instr.ringFrameRx .a { header := [], payload := [], rows := 0, fcrc := 0 }).wf = false ∧
    (Instr.ringFrameRx .a { header := List.replicate 32 0, payload := [], rows := 0, fcrc := 2 ^ 32 }).wf = false ∧
    (Instr.censusRx { kind := 256, origin := 1 }).wf = false ∧ (Instr.censusRx { kind := 1, origin := 256 }).wf = false ∧
    (Instr.censusRx { kind := 1, origin := 1, u := 256 }).wf = false ∧ (Instr.censusRx { kind := 1, origin := 1, d := 256 }).wf = false ∧
    (Instr.censusRx { kind := 1, origin := 1, time := 2 ^ 64 }).wf = false ∧ (Instr.censusRx { kind := 1, origin := 1, seq := 2 ^ 32 }).wf = false ∧
    (fitsIn 16 65536) = false := by decide
theorem smoke_time : (Instr.helloRx .a { reverse := 256, stepping := 0, effectiveId := 0, configuredId := 0, identity := 0 }).wf = false ∧
    (Instr.helloRx .a { reverse := 0, stepping := 256, effectiveId := 0, configuredId := 0, identity := 0 }).wf = false ∧
    (Instr.helloRx .a { reverse := 0, stepping := 0, effectiveId := 256, configuredId := 0, identity := 0 }).wf = false ∧
    (Instr.helloRx .a { reverse := 0, stepping := 0, effectiveId := 0, configuredId := 256, identity := 0 }).wf = false ∧
    (Instr.helloRx .a { reverse := 0, stepping := 0, effectiveId := 0, configuredId := 0, identity := 2 ^ 64 }).wf = false ∧
    (Instr.timingIgnored { content := [], arrival := 0 }).wf = false ∧
    ([{ form := 8, mark := 0, day := 1, hour := 0, minute := 0, second := 0 }, { form := 0, mark := 0, day := 0, hour := 0, minute := 0, second := 0 },
      { form := 0, mark := 0, day := 367, hour := 0, minute := 0, second := 0 }, { form := 0, mark := 0, day := 1, hour := 24, minute := 0, second := 0 },
      { form := 0, mark := 0, day := 1, hour := 0, minute := 60, second := 0 },
      { form := 0, mark := 0, day := 1, hour := 0, minute := 0, second := 61 }].all (fun f => !(Instr.irigFrame f).wf)) = true := by decide
theorem smoke_buses : ([{ dst := 2 ^ 48 }, { src := 2 ^ 48 }, { etherType := 65536 }, { vlan := some (8, 0) }, { vlan := some (0, 4096) },
      { red := some (65536, 0) }, { red := some (0, 16) }].all (fun f => !(Instr.ethernetRx 0 f).wf)) = true ∧
    ([{ id := 2048 }, { extended := true, id := 2 ^ 29 }, { dlc := 16 }, { data := List.replicate 65 0 }].all
      (fun f => !(Instr.canFrameRx 0 f).wf)) = true ∧
    (Instr.uartCharacterRx 0 { bits := List.replicate 13 {} }).wf = false ∧
    ([{ address := 2 ^ 24, beats := [(15, 0)] }, { beats := [] }, { beats := [(16, 0)] }, { beats := [(15, 2 ^ 32)] }].all
      (fun c => !(Instr.hostTargetCycle c).wf)) = true ∧
    (Instr.canTxSubmit wSnd 0 (List.replicate 1025 0)).wf = false ∧ (Instr.uartTxSubmit wSnd 0 (List.replicate 1025 0)).wf = false ∧
    (Instr.eventInWrite wSnd 0 (List.replicate 1025 0)).wf = false := by decide
theorem smoke_rest : ([{ cause := 256 }, { cause := 1, bit := 40 }, { cause := 1, entry := 65536 }].all
      (fun f => !(Instr.arrivalRun [f] 0).wf)) = true ∧
    ([{ bootSel := 4 }, { ckTransient := 2 ^ 24 }, { ckFail := 2 ^ 24 }].all (fun o => !(Instr.startSequence o).wf)) = true ∧
    (Instr.imgData 0 []).wf = false ∧ (Instr.imgData 0 (List.replicate 1025 0)).wf = false := by decide

/-- The example of R451: FC107 stands at ball AC3; FC319 is the last of its bank's rows. -/
theorem test_cell_ball : cellBall 107 = ("AC", 3) ∧ cellBall 0 = ("A", 1) ∧ cellBall 319 = ("AN", 35) ∧ gridRows.length = 39 := by decide

/-! ## The hypotheses of every statement can be met -/

theorem witness_StepTakesFront :
    (({ wRun with pending := [Instr.por] } : State).pending = [Instr.por]) ∧
    (wRun.pending = []) :=
  ⟨by decide, by decide⟩

theorem witness_StatusTold :
    (({ wRun with pending := [(Instr.lossTimeout 7)] } : State).pending ≠ []) ∧
    (wRun.pending = [] ∧ ¬(wRun.rst.coreOn = false)) :=
  ⟨by decide, by decide⟩

theorem witness_HighestClaim :
    (wRun.holderNow ≠ 0 ∧ wOn.holderNow = 0) ∧
    (({ wRun with pending := [(Instr.lossTimeout 7)] } : State).pending ≠ [] ∧ wRun.rst.coreOn = true) :=
  ⟨by decide, by decide⟩

theorem witness_ClaimNeeded :
    (let s : State := wRun;
        let req : ObjReq := { commander := 2, index := 0x2000, sub := 5, tag := 3, length := 2, data := [32, 0] };
        s.answers .farif = true ∧ s.paused = false ∧ s.dict.queue = [] ∧ bodyRefusal .farif { req with opcode := 2 } true = none ∧
        s.stateRefusal { req with opcode := 2 } = none ∧ (s.lookup req.index req.sub).toOption.isSome = true ∧ s.serving = true ∧
        s.isOutputCommand req.index req.sub = false ∧ req.commander ≠ s.holderNow) :=
  by decide

theorem witness_NoCoreNoEffect :
    (({ State.reset with rst := { State.reset.rst with coreOn := false } } : State).rst.coreOn = false ∧ worksWithoutCore (Instr.lossTimeout 7) = false) :=
  by decide

theorem witness_HeaderRoundTrip :
    (({ cls := 2, type := tyWrite, src := 7, dst := 5, commander := 8, seq := 0xFFFFFFFF, address := mkAddr 96 3 0x3FFFFFFFF, payload := [1, 2] } : Frame).wf = true) ∧
    (({ cls := 2, type := tyWrite, src := 7, dst := 5, commander := 8, seq := 0xFFFFFFFF, address := mkAddr 96 3 0x3FFFFFFFF, payload := [1, 2] } : Frame).wf = true ∧ 255 < 256) :=
  ⟨by decide, by decide⟩

theorem witness_BodiesRoundTrip :
    (({ opcode := 255, index := 65535, sub := 255, tag := 65535, length := 3, segOffset := 0xFFFFFFFF, data := [1, 2, 3] } : ObjReq).wf = true) ∧
    (let p : ObjResp := { opcode := 255, status := 255, source := 255, commander := 255, index := 65535, sub := 255, flags := 255, tag := 65535, segOffset := 2 ^ 32 - 1, data := [1] };
        p.opcode < 2 ^ 8 ∧ p.status < 2 ^ 8 ∧ p.source < 2 ^ 8 ∧ p.commander < 2 ^ 8 ∧ p.index < 2 ^ 16 ∧ p.sub < 2 ^ 8 ∧ p.flags < 2 ^ 8 ∧ p.tag < 2 ^ 16 ∧ p.segOffset < 2 ^ 32 ∧ p.data.length < 2 ^ 16) :=
  ⟨by decide, by decide⟩

theorem witness_RunningValue :
    (let c : CkParams := { width := 16, poly := 0x1021, init := 0xFFFF, xorout := 0xFFFF, refin := true, refout := true };
        c.good = true ∧ 0xABCD < 2 ^ c.width) ∧
    (let c : CkParams := { width := 16, poly := 0x1021, init := 0xFFFF, xorout := 0xFFFF, refin := true, refout := true };
        c.good = true ∧ 0xABCD < 2 ^ c.width) ∧
    ((wRun.ckCtx 4 2).value = none) ∧
    (let s : State := ((((wRun.put (Obj.jobAddr 4) (mkAddr 0 3 0x18400000)).put (Obj.jobLen 4) 8).put (Obj.jobCtx 4) 2).put Obj.dramSize 16384);
        (s.jobCommand 4 1).2 = stDone ∧ s.obj (Obj.jobLen 4) ≠ 0) :=
  ⟨by decide, by decide, by decide, by decide⟩

theorem witness_CodesDecode :
    ((0x3C96 < 2 ^ 16 ∧ 2 ^ 32 - 1 < 2 ^ 32 ∧ 5 < 2 ^ 32)) ∧
    (((0x3C96 : Nat) < 2 ^ 16 ∧ -(2 ^ 79 : Int) ≤ -7 ∧ (-7 : Int) < (2 ^ 79 : Int))) :=
  ⟨by decide, by decide⟩

theorem witness_PassesAgree :
    ((-(2 ^ 32 : Int) ≤ -5 ∧ (-5 : Int) < (2 ^ 32 : Int))) :=
  by decide

theorem witness_FrameArrivals :
    (let s : State := (wOn.put Obj.pathAState 5);
        let p : Path := .a;
        let w : RingWire := { header := headerBytes wF, payload := [], rows := 0, fcrc := frameCrc { wF with hops := 1 } };
        let f : Frame := { wF with hops := 1 };
        let t : State := wOn.put Obj.pathAState 5;
        (s.rst.coreOn = true) ∧ (s.linkState p = lkUp) ∧ (headerGood w.header = true) ∧ (f = { frameOfHeader w.header w.payload with hops := ((frameOfHeader w.header w.payload).hops + 1) % 256 }) ∧ (typeAllows f.type f.cls (headerLength w.header) = true) ∧ (f.type ≠ tyObjectReq) ∧ (f.type ≠ tyObjectResp) ∧ (f.hops ≤ s.hopLimit) ∧ (w.stomp = false) ∧ (w.rows = ceilDiv (headerLength w.header) 32) ∧ (w.payload.length = headerLength w.header) ∧ (w.fcrc = frameCrc f) ∧ (p = .a ∨ s.ring.wraps.all (fun w => w.gapSeen) = true) ∧ (s.ring.prove = none) ∧ (s.ring.revert = none) ∧ (t.ringRoute p f ≠ []) ∧ (s.flowMatch 2 (ringKey (linkIdx p) f) = none) ∧ ((s.obj Obj.mirrorIn).testBit (linkIdx p) = false) ∧ ((s.obj Obj.samplePorts).testBit (linkIdx p) = false) ∧ (t = s.setLink p { s.link p with linkWord := w.linkWord })) ∧
    (let s : State := { wOn with bridge := { wOn.bridge with pending := some { cycle := { address := 0x100000, beats := [(15, 0)] }, tag := 9, node := 7 } } };
        let f : Frame := { type := 3, src := 7, dst := 5, tag := 9, commander := 1, cls := 2 };
        let q : PendingCycle := { cycle := { address := 0x100000, beats := [(15, 0)] }, tag := 9, node := 7 };
        (s.rst.coreOn = true) ∧ (s.bridge.pending = some q) ∧ (q.tag = f.tag) ∧ (q.node = f.src) ∧ (q.cycle.write = false) ∧ (q.arrived = none)) ∧
    (let s : State := wOn;
        let f : Frame := { type := 3, src := 7, dst := 5, tag := 9, commander := 1, cls := 2 };
        (s.rst.coreOn = true) ∧ (s.bridge.pending.any (fun p => p.tag == f.tag && p.node == f.src && !p.cycle.write && p.arrived.isNone) = false)) ∧
    (let s : State := { wOn with dict := { wOn.dict with outstanding := [{ tag := 9, isRead := true, who := .mailbox, req := { opcode := 1, target := 7, tag := 9 }, deadline := 5 }] } };
        let f : Frame := { type := 3, src := 7, dst := 5, tag := 9, commander := 1, cls := 2 };
        let o : Outstanding := { tag := 9, isRead := true, who := .mailbox, req := { opcode := 1, target := 7, tag := 9 }, deadline := 5 };
        (s.rst.coreOn = true) ∧ (s.dict.outstanding.find? (fun o => o.tag == f.tag && o.req.target == f.src) = some o) ∧ (o.who = .mailbox) ∧ (o.work = none)) ∧
    (let s : State := wOn;
        let f : Frame := { type := 3, src := 7, dst := 5, tag := 9, commander := 1, cls := 2 };
        (s.rst.coreOn = true) ∧ (s.dict.outstanding.find? (fun o => o.tag == f.tag && o.req.target == f.src) = none)) ∧
    (let s : State := { wOn with dict := { wOn.dict with outstanding := [{ tag := 9, isRead := true, who := .mailbox, req := { opcode := 1, target := 7, tag := 9 }, deadline := 5 }] } };
        let tag : BitVec 16 := 9;
        let o : Outstanding := { tag := 9, isRead := true, who := .mailbox, req := { opcode := 1, target := 7, tag := 9 }, deadline := 5 };
        (s.rst.coreOn = true) ∧ (s.dict.outstanding.find? (fun o => o.tag == tag.toNat) = some o) ∧ (o.who = .mailbox) ∧ (o.work = none)) :=
  ⟨by decide, by decide, by decide, by decide, by decide, by decide⟩

theorem witness_ObjectRequests :
    (let s : State := wRun;
        let who : Requester := .farif;
        let req : ObjReq := { index := 0x1107, tag := 3 };
        let row : Row := wRowOf 0x1107 0;
        admitsB s who ({ req with opcode := 1 }) = true ∧ ((s.lookup req.index req.sub).toOption = some row) ∧ (row.acc ≠ .wo) ∧ (tyIsBytes row.ty = false) ∧ (req.flags.testBit 0 = false) ∧ (¬ (0x4200 ≤ req.index ∧ req.index < 0x4240)) ∧ (¬ (0x5300 ≤ req.index ∧ req.index < 0x5310)) ∧ (¬ (0x5880 ≤ req.index ∧ req.index < 0x58A0))) ∧
    (let s : State := wRun;
        let who : Requester := .farif;
        let req : ObjReq := { commander := 1, index := 0x2000, sub := 5, tag := 3, length := 2, data := [32, 0] };
        let row : Row := wRowOf 0x2000 5;
        let k : Nat := 0x200005;
        admitsB s who ({ req with opcode := 2 }) = true ∧ (req.data.length = req.length) ∧ ((s.lookup req.index req.sub).toOption = some row) ∧ (row.acc = .rw) ∧ (tyIsBytes row.ty = false) ∧ (k = req.index * 256 + req.sub) ∧ (k ∉ [Obj.commitAt, Obj.soeRead, Obj.gmPriority, Obj.freeRunOk, Obj.heldOrder]) ∧ (¬ (0x70A0 ≤ req.index ∧ req.index < 0x70B8)) ∧ (lengthRefusal row req.data.length = none) ∧ (valueGood row req.index req.sub (maskedData row req.data) = true)) ∧
    (let s : State := wRun;
        let who : Requester := .farif;
        let req : ObjReq := { commander := 1, index := 0x2200, sub := 1, tag := 3, length := 2, data := [250, 0] };
        let row : Row := wRowOf 0x2200 1;
        let k : Nat := 0x220001;
        admitsB s who ({ req with opcode := 2 }) = true ∧ (req.data.length = req.length) ∧ ((s.lookup req.index req.sub).toOption = some row) ∧ (row.acc = .rws) ∧ (isLakeIndex req.index = false) ∧ (mordantEngine k = none) ∧ (tyIsBytes row.ty = false) ∧ (k = req.index * 256 + req.sub) ∧ (s.obj Obj.stageState ≠ 2) ∧ (s.obj Obj.stageState ≠ 3) ∧ (s.stageCountNow < 2048) ∧ (lengthRefusal row req.data.length = none) ∧ (valueGood row req.index req.sub (maskedData row req.data) = true)) ∧
    (let s : State := wRun;
        let who : Requester := .farif;
        let req : ObjReq := { commander := 1, index := 0x1100, tag := 3, length := 0 };
        let row : Row := wRowOf 0x1100 0;
        admitsB s who ({ req with opcode := 2 }) = true ∧ (req.data.length = req.length) ∧ ((s.lookup req.index req.sub).toOption = some row) ∧ (row.acc = .ro ∨ row.acc = .const)) ∧
    (let s : State := wRun;
        let who : Requester := .farif;
        let req : ObjReq := { index := 0x1120, sub := 1, tag := 3 };
        let row : Row := wRowOf 0x1120 1;
        admitsB s who ({ req with opcode := 1 }) = true ∧ ((s.lookup req.index req.sub).toOption = some row) ∧ (row.acc = .wo)) :=
  ⟨by decide, by decide, by decide, by decide, by decide⟩

theorem witness_DomainTransfers :
    (let s : State := { (wRun.putBlob Obj.mapTable (List.replicate 1024 7)) with dict := { wRun.dict with latches := [{ index := 0x6100, who := .mailbox, generation := 0, last := 0 }, { index := 0x6200, who := .farif, generation := wRun.generationOf 0x6200 0, last := 0 }] } };
        let who : Requester := .farif;
        let req : ObjReq := { index := 0x6200, sub := 0, tag := 3, length := 600, segOffset := 512 };
        let row : Row := wRowOf 0x6200 0;
        let max : Nat := wMax (wRowOf 0x6200 0);
        let empty : Bool := true;
        let code : Nat := 48;
        let k : Nat := 0x620000;
        let content : List Byte := List.replicate 1024 7;
        admitsB s who ({ req with opcode := 3 }) = true ∧ ((s.lookup req.index req.sub).toOption = some row) ∧ (row.ty = .domain max empty code) ∧ (row.acc ≠ .wo) ∧ (k = req.index * 256 + req.sub) ∧ (content = (if req.flags.testBit 0 = true ∧ row.acc = .rws then (s.stagedOf k).getD (s.bytesNow k) else s.bytesNow k)) ∧ (req.segOffset = 0 ∨ s.dict.latches.any (fun l => l.index == req.index && l.who == who && s.now < l.last + sec && l.generation == s.generationOf req.index req.sub) = true) ∧ (req.segOffset ≤ content.length)) ∧
    (let s : State := { (wRun.putBlob Obj.mapTable (List.replicate 1024 7)) with dict := { wRun.dict with latches := [{ index := 0x6100, who := .mailbox, generation := 0, last := 0 }, { index := 0x6200, who := .farif, generation := wRun.generationOf 0x6200 0 + 1, last := 0 }] } };
        let who : Requester := .farif;
        let req : ObjReq := { index := 0x6200, sub := 0, tag := 3, length := 600, segOffset := 512 };
        let row : Row := wRowOf 0x6200 0;
        let max : Nat := wMax (wRowOf 0x6200 0);
        let empty : Bool := true;
        let code : Nat := 48;
        let k : Nat := 0x620000;
        let content : List Byte := List.replicate 1024 7;
        admitsB s who ({ req with opcode := 3 }) = true ∧ ((s.lookup req.index req.sub).toOption = some row) ∧ (row.ty = .domain max empty code) ∧ (row.acc ≠ .wo) ∧ (k = req.index * 256 + req.sub) ∧ (content = (if req.flags.testBit 0 = true ∧ row.acc = .rws then (s.stagedOf k).getD (s.bytesNow k) else s.bytesNow k)) ∧ (req.segOffset ≠ 0) ∧ (s.dict.latches.any (fun l => l.index == req.index && l.who == who && s.now < l.last + sec && l.generation == s.generationOf req.index req.sub) = false)) ∧
    (let s : State := { wRun with dict := { wRun.dict with sessions := [{ index := 0x6100, who := .mailbox, data := [9], last := 0 }, { index := 0x6200, who := .farif, data := [1, 2], last := 0 }] } };
        let who : Requester := .farif;
        let req : ObjReq := { commander := 1, index := 0x6200, sub := 0, flags := 0, tag := 3, length := 2, segOffset := 0, data := [3, 4] };
        let row : Row := wRowOf 0x6200 0;
        let max : Nat := wMax (wRowOf 0x6200 0);
        let empty : Bool := true;
        let code : Nat := 48;
        let before : List Byte := [];
        admitsB s who ({ req with opcode := 4 }) = true ∧ ((s.lookup req.index req.sub).toOption = some row) ∧ (row.ty = .domain max empty code) ∧ (req.data.length = req.length) ∧ (row.acc = .rws) ∧ (before.length + req.data.length ≤ max) ∧ (req.segOffset = 0) ∧ ((s.writeSession req.index).all (fun w => w.who == who) = true) ∧ (before = []) ∧ (¬ (0x4400 ≤ req.index ∧ req.index < 0x4440)) ∧ (req.flags.testBit 1 = false)) ∧
    (let s : State := { wRun with dict := { wRun.dict with sessions := [{ index := 0x6100, who := .mailbox, data := [9], last := 0 }, { index := 0x6200, who := .farif, data := [1, 2], last := 0 }] } };
        let who : Requester := .farif;
        let req : ObjReq := { commander := 1, index := 0x6200, sub := 0, flags := 2, tag := 3, length := 2, segOffset := 0, data := [3, 4] };
        let row : Row := wRowOf 0x6200 0;
        let max : Nat := wMax (wRowOf 0x6200 0);
        let empty : Bool := true;
        let code : Nat := 48;
        let before : List Byte := [];
        admitsB s who ({ req with opcode := 4 }) = true ∧ ((s.lookup req.index req.sub).toOption = some row) ∧ (row.ty = .domain max empty code) ∧ (req.data.length = req.length) ∧ (row.acc = .rws) ∧ (before.length + req.data.length ≤ max) ∧ (req.segOffset = 0) ∧ ((s.writeSession req.index).all (fun w => w.who == who) = true) ∧ (before = []) ∧ (¬ (0x4400 ≤ req.index ∧ req.index < 0x4440)) ∧ (req.flags.testBit 1 = true) ∧ (before ++ req.data ≠ [] ∨ empty = true) ∧ (mordantEngine (req.index * 256 + req.sub) = none) ∧ (s.obj Obj.stageState ≠ 2) ∧ (s.obj Obj.stageState ≠ 3) ∧ (s.stageCountNow < 2048)) ∧
    (let s : State := { wRun with dict := { wRun.dict with sessions := [{ index := 0x6100, who := .mailbox, data := [9], last := 0 }, { index := 0x6200, who := .farif, data := [1, 2], last := 0 }] } };
        let who : Requester := .farif;
        let req : ObjReq := { commander := 1, index := 0x6200, sub := 0, flags := 0, tag := 3, length := 2, segOffset := 2, data := [3, 4] };
        let row : Row := wRowOf 0x6200 0;
        let max : Nat := wMax (wRowOf 0x6200 0);
        let empty : Bool := true;
        let code : Nat := 48;
        let before : List Byte := [1, 2];
        admitsB s who ({ req with opcode := 4 }) = true ∧ ((s.lookup req.index req.sub).toOption = some row) ∧ (row.ty = .domain max empty code) ∧ (req.data.length = req.length) ∧ (row.acc = .rws) ∧ (before.length + req.data.length ≤ max) ∧ (req.segOffset = before.length) ∧ (before ≠ []) ∧ ((s.writeSession req.index).any (fun w => w.who == who && w.data == before) = true) ∧ (req.flags.testBit 1 = false)) ∧
    (let s : State := { wRun with dict := { wRun.dict with sessions := [{ index := 0x6100, who := .mailbox, data := [9], last := 0 }, { index := 0x6200, who := .farif, data := [1, 2], last := 0 }] } };
        let who : Requester := .farif;
        let req : ObjReq := { commander := 1, index := 0x6200, sub := 0, flags := 2, tag := 3, length := 2, segOffset := 2, data := [3, 4] };
        let row : Row := wRowOf 0x6200 0;
        let max : Nat := wMax (wRowOf 0x6200 0);
        let empty : Bool := true;
        let code : Nat := 48;
        let before : List Byte := [1, 2];
        admitsB s who ({ req with opcode := 4 }) = true ∧ ((s.lookup req.index req.sub).toOption = some row) ∧ (row.ty = .domain max empty code) ∧ (req.data.length = req.length) ∧ (row.acc = .rws) ∧ (before.length + req.data.length ≤ max) ∧ (req.segOffset = before.length) ∧ (before ≠ []) ∧ ((s.writeSession req.index).any (fun w => w.who == who && w.data == before) = true) ∧ (req.flags.testBit 1 = true) ∧ (before ++ req.data ≠ [] ∨ empty = true) ∧ (mordantEngine (req.index * 256 + req.sub) = none) ∧ (s.obj Obj.stageState ≠ 2) ∧ (s.obj Obj.stageState ≠ 3) ∧ (s.stageCountNow < 2048)) ∧
    (let s : State := { wRun with dict := { wRun.dict with sessions := [{ index := 0x6100, who := .mailbox, data := [9], last := 0 }, { index := 0x6200, who := .mailbox, data := [1, 2], last := 0 }] } };
        let who : Requester := .farif;
        let req : ObjReq := { commander := 1, index := 0x6200, sub := 0, flags := 2, tag := 3, length := 2, segOffset := 2, data := [3, 4] };
        let row : Row := wRowOf 0x6200 0;
        let max : Nat := wMax (wRowOf 0x6200 0);
        let empty : Bool := true;
        let code : Nat := 48;
        let w : WriteSession := { index := 0x6200, who := .mailbox, data := [1, 2], last := 0 };
        admitsB s who ({ req with opcode := 4 }) = true ∧ ((s.lookup req.index req.sub).toOption = some row) ∧ (row.ty = .domain max empty code) ∧ (row.acc = .rws) ∧ (s.writeSession req.index = some w) ∧ (w.who ≠ who)) ∧
    (let s : State := { wRun with dict := { wRun.dict with sessions := [{ index := 0x6100, who := .mailbox, data := [9], last := 0 }, { index := 0x6200, who := .farif, data := [1, 2], last := 0 }] } };
        let who : Requester := .farif;
        let req : ObjReq := { commander := 1, index := 0x6200, sub := 0, tag := 3 };
        let row : Row := wRowOf 0x6200 0;
        let max : Nat := wMax (wRowOf 0x6200 0);
        let empty : Bool := true;
        let code : Nat := 48;
        admitsB s who ({ req with opcode := 5 }) = true ∧ ((s.lookup req.index req.sub).toOption = some row) ∧ (row.ty = .domain max empty code) ∧ (row.acc = .rws) ∧ ((s.writeSession req.index).any (fun w => w.who == who) = true)) ∧
    (let s : State := wRun;
        let who : Requester := .farif;
        let req : ObjReq := { commander := 1, index := 0x6200, sub := 0, tag := 3 };
        let row : Row := wRowOf 0x6200 0;
        let max : Nat := wMax (wRowOf 0x6200 0);
        let empty : Bool := true;
        let code : Nat := 48;
        admitsB s who ({ req with opcode := 5 }) = true ∧ ((s.lookup req.index req.sub).toOption = some row) ∧ (row.ty = .domain max empty code) ∧ (row.acc = .rws) ∧ (s.writeSession req.index = none)) ∧
    (let s : State := { wRun with dict := { wRun.dict with sessions := [{ index := 0x6100, who := .mailbox, data := [9], last := 0 }, { index := 0x6200, who := .mailbox, data := [1, 2], last := 0 }] } };
        let who : Requester := .farif;
        let req : ObjReq := { commander := 1, index := 0x6200, sub := 0, tag := 3 };
        let row : Row := wRowOf 0x6200 0;
        let max : Nat := wMax (wRowOf 0x6200 0);
        let empty : Bool := true;
        let code : Nat := 48;
        admitsB s who ({ req with opcode := 5 }) = true ∧ ((s.lookup req.index req.sub).toOption = some row) ∧ (row.ty = .domain max empty code) ∧ (row.acc = .rws) ∧ ((s.writeSession req.index).any (fun w => w.who != who) = true)) ∧
    (let s : State := { wRun with dict := { wRun.dict with sessions := [{ index := 0x6100, who := .mailbox, data := [9], last := 0 }, { index := 0x6200, who := .farif, data := [1, 2], last := 0 }] } };
        let ix : BitVec 16 := 0x6200;
        let w : WriteSession := { index := 0x6200, who := .farif, data := [1, 2], last := 0 };
        (s.rst.coreOn = true) ∧ (s.dict.sessions.find? (fun x => x.index == ix.toNat) = some w)) ∧
    (let s : State := { (wRun.putBlob Obj.mapTable (List.replicate 1024 7)) with dict := { wRun.dict with latches := [{ index := 0x6100, who := .mailbox, generation := 0, last := 0 }, { index := 0x6200, who := .farif, generation := 0, last := 3 }] } };
        let who : Requester := .farif;
        let ix : BitVec 16 := 0x6200;
        let l : ReadLatch := { index := 0x6200, who := .farif, generation := 0, last := 3 };
        (s.rst.coreOn = true) ∧ (s.dict.latches.find? (fun x => x.index == ix.toNat && x.who == who) = some l)) :=
  ⟨by decide, by decide, by decide, by decide, by decide, by decide, by decide, by decide, by decide, by decide, by decide, by decide⟩

theorem witness_MemoryAccess :
    (let s : State := wRun.put Obj.dramSize 16384;
        let f : Frame := { type := tyRead, src := 7, dst := 5, tag := 9, commander := 1, cls := 2, address := mkAddr 5 3 0x18400010, param := 4 };
        let n : Nat := 4;
        (s.rst.coreOn = true) ∧ (s.node ≠ stRecovery) ∧ (n = bits f.param 11 0) ∧ (n ≤ 2048) ∧ (s.memRefusal f.address n false = none) ∧ (addrSpace f.address = 3)) ∧
    (let s : State := wRun;
        let f : Frame := { type := tyRead, src := 7, dst := 5, tag := 9, commander := 1, cls := 2, address := mkAddr 5 3 0x18400010, param := 4 };
        let st : Nat := stOutOfRange;
        (s.rst.coreOn = true) ∧ (s.node ≠ stRecovery) ∧ (bits f.param 11 0 ≤ 2048) ∧ (s.memRefusal f.address (bits f.param 11 0) false = some st)) ∧
    (let s : State := wRun.put Obj.dramSize 16384;
        let f : Frame := { type := tyWrite, src := 7, dst := 5, tag := 9, commander := 1, cls := 3, posted := true, address := mkAddr 5 3 0x18400010, payload := [1, 2, 3] };
        (s.rst.coreOn = true) ∧ (f.cls = 3) ∧ (f.posted = true) ∧ (s.accessRefusal f.address f.payload.length true f.commander = none) ∧ (addrSpace f.address = 3) ∧ (f.payload ≠ [])) ∧
    (let s : State := wRun.put Obj.dramSize 16384;
        let f : Frame := { type := tyWrite, src := 7, dst := 5, tag := 9, commander := 1, cls := 3, posted := true, address := mkAddr 5 3 0x18400010, payload := [1, 2, 3] };
        let q : Nat := portDram;
        (s.rst.coreOn = true) ∧ (f.posted = true) ∧ (f.type = tyWrite) ∧ (f.payload ≠ []) ∧ (releasePort f = some q) ∧ (fifoTarget f = none)) ∧
    (let s : State := wRun;
        let f : Frame := { type := tyWrite, src := 7, dst := 5, cls := 3 };
        (s.rst.coreOn = true) ∧ (f.posted = false)) :=
  ⟨by decide, by decide, by decide, by decide, by decide⟩

theorem witness_AccessPaths :
    (let s : State := ((wRun.put Obj.kedogilEnable 1).put (Obj.ethMode 0) 1).put (Obj.ipv4Addr 0) 5;
        let port : Fin 4 := 0;
        let address : BitVec 32 := 5;
        let udpPort : BitVec 16 := 9;
        let b : List Byte := [1];
        (s.rst.coreOn = true) ∧ (s.node ≠ stRecovery) ∧ ((s.obj Obj.kedogilEnable).testBit port.val = true) ∧ (s.obj (Obj.ipv4Addr (s.addressPort port.val)) ≠ 0) ∧ (s.ethDeaf port.val = false) ∧ (b.take 4 ≠ [0x4B, 0x44, 1, 0] ∨ b.length < 20 ∨ s.allowed address.toNat = false)) ∧
    (let s : State := (((((wRun.put Obj.kedogilEnable 1).put (Obj.ethMode 0) 1).put (Obj.ipv4Addr 0) 5).put (Obj.allowMask 0) 255).put (Obj.allowAddr 0) 5);
        let port : Fin 4 := 0;
        let address : BitVec 32 := 5;
        let udpPort : BitVec 16 := 9;
        let b : List Byte := [0x4B, 0x44, 1, 0] ++ reqBytes { opcode := 1, index := 0x1107, tag := 3 };
        let r : ObjReq := { opcode := 1, index := 0x1107, tag := 3 };
        let row : Row := wRowOf 0x1107 0;
        admitsB s (.kedogil address.toNat udpPort.toNat) (r) = true ∧ (r = reqOfBytes (b.drop 4)) ∧ ((s.obj Obj.kedogilEnable).testBit port.val = true) ∧ (s.obj (Obj.ipv4Addr (s.addressPort port.val)) ≠ 0) ∧ (s.ethDeaf port.val = false) ∧ (b.take 4 = [0x4B, 0x44, 1, 0]) ∧ (20 ≤ b.length) ∧ (s.allowed address.toNat = true) ∧ (s.dict.kept.find? (fun k => k.address == address.toNat && k.tag == r.tag) = none) ∧ ((s.lookup r.index r.sub).toOption = some row) ∧ (r.opcode = 1) ∧ (row.acc ≠ .wo) ∧ (tyIsBytes row.ty = false) ∧ (r.flags.testBit 0 = false) ∧ (¬ (0x4200 ≤ r.index ∧ r.index < 0x4240)) ∧ (¬ (0x5300 ≤ r.index ∧ r.index < 0x5310)) ∧ (¬ (0x5880 ≤ r.index ∧ r.index < 0x58A0))) ∧
    (let s : State := let r := (((((wRun.put Obj.kedogilEnable 1).put (Obj.ethMode 0) 1).put (Obj.ipv4Addr 0) 5).put (Obj.allowMask 0) 255).put (Obj.allowAddr 0) 5);
        { r with dict := { r.dict with kept := [{ address := 5, tag := 3, resp := respTo wRun {} 0 }] } }
        let port : Fin 4 := 0;
        let address : BitVec 32 := 5;
        let udpPort : BitVec 16 := 9;
        let b : List Byte := [0x4B, 0x44, 1, 0] ++ reqBytes { opcode := 1, index := 0x1107, tag := 3 };
        let k : KeptResponse := { address := 5, tag := 3, resp := respTo wRun {} 0 };
        (s.rst.coreOn = true) ∧ (s.node ≠ stRecovery) ∧ ((s.obj Obj.kedogilEnable).testBit port.val = true) ∧ (s.obj (Obj.ipv4Addr (s.addressPort port.val)) ≠ 0) ∧ (s.ethDeaf port.val = false) ∧ (b.take 4 = [0x4B, 0x44, 1, 0]) ∧ (20 ≤ b.length) ∧ (s.allowed address.toNat = true) ∧ (s.dict.kept.find? (fun k => k.address == address.toNat && k.tag == (reqOfBytes (b.drop 4)).tag) = some k)) ∧
    (let s : State := let r := wRun.put Obj.hbEnable 1;
        { r with dict := { r.dict with mbBusy := true } }
        let v : BitVec 32 := 1;
        (s.rst.coreOn = true) ∧ (s.answersHost = true) ∧ (v = 1) ∧ (s.dict.mbBusy = true)) ∧
    (let s : State := ((wRun.put Obj.hbEnable 1).mbWrite 0 (reqBytes { opcode := 1, index := 0x1107, tag := 3 }));
        let r : ObjReq := reqOfBytes (((wRun.put Obj.hbEnable 1).mbWrite 0 (reqBytes { opcode := 1, index := 0x1107, tag := 3 })).mbRequestBytes);
        let row : Row := wRowOf 0x1107 0;
        admitsB s .mailbox (r) = true ∧ (s.answersHost = true) ∧ (r = reqOfBytes s.mbRequestBytes) ∧ (s.dict.mbBusy = false) ∧ ((s.lookup r.index r.sub).toOption = some row) ∧ (r.opcode = 1) ∧ (row.acc ≠ .wo) ∧ (tyIsBytes row.ty = false) ∧ (r.flags.testBit 0 = false) ∧ (¬ (0x4200 ≤ r.index ∧ r.index < 0x4240)) ∧ (¬ (0x5300 ≤ r.index ∧ r.index < 0x5310)) ∧ (¬ (0x5880 ≤ r.index ∧ r.index < 0x58A0))) ∧
    (let s : State := { wRun with dict := { wRun.dict with mbBusy := true, mbWaiting := some (respTo wRun {} 0) } };
        let r : ObjResp := respTo wRun {} 0;
        (s.rst.coreOn = true) ∧ (s.dict.mbWaiting = some r)) ∧
    (let s : State := { wRun with fw := { wRun.fw with linkRate := some 0 } };
        let kind : Byte := 1;
        let body : List Byte := [];
        let crc : BitVec 32 := 1;
        (s.rst.coreOn = true) ∧ (s.fw.linkRate.isSome = true) ∧ (crc.toNat ≠ crc32 (leBytes 1 kind.toNat ++ leBytes 2 body.length ++ body))) ∧
    (let s : State := { wRun with fw := { wRun.fw with linkRate := some 0 } };
        let crc : BitVec 32 := BitVec.ofNat 32 (crc32 [1, 0, 0]);
        (s.rst.coreOn = true) ∧ (s.fw.linkRate.isSome = true) ∧ (crc.toNat = crc32 [1, 0, 0])) ∧
    (let s : State := { wRun with fw := { wRun.fw with linkRate := some 0 } };
        let b : List Byte := reqBytes { opcode := 1, index := 0x1107, tag := 3 };
        let crc : BitVec 32 := BitVec.ofNat 32 (crc32 (leBytes 1 1 ++ leBytes 2 16 ++ reqBytes { opcode := 1, index := 0x1107, tag := 3 }));
        let r : ObjReq := { opcode := 1, index := 0x1107, tag := 3 };
        let row : Row := wRowOf 0x1107 0;
        admitsB s .farif (r) = true ∧ (r = reqOfBytes b) ∧ (s.fw.linkRate.isSome = true) ∧ (16 ≤ b.length) ∧ (b.length ≤ 1040) ∧ (crc.toNat = crc32 (leBytes 1 1 ++ leBytes 2 b.length ++ b)) ∧ ((s.lookup r.index r.sub).toOption = some row) ∧ (r.opcode = 1) ∧ (row.acc ≠ .wo) ∧ (tyIsBytes row.ty = false) ∧ (r.flags.testBit 0 = false) ∧ (¬ (0x4200 ≤ r.index ∧ r.index < 0x4240)) ∧ (¬ (0x5300 ≤ r.index ∧ r.index < 0x5310)) ∧ (¬ (0x5880 ≤ r.index ∧ r.index < 0x58A0))) :=
  ⟨by decide, by decide, by decide, by decide, by decide, by decide, by decide, by decide, by decide⟩

theorem witness_Staging :
    (let s : State := { (wRun.put Obj.stageState 1) with dict := { wRun.dict with staged := [(0x220004, [1])] } };
        let snd : Sender := wSnd;
        admitsB s snd.who (writeReq snd 0x1120 1 [1]) = true ∧ (s.obj Obj.stageState ≠ 2) ∧ (s.obj Obj.stageState ≠ 3) ∧ (s.dict.staged ≠ []) ∧ (s.firstFailing s.dict.staged = none)) ∧
    (let s : State := { (wRun.put Obj.stageState 1) with dict := { wRun.dict with staged := [(0x220001, [0, 0])] } };
        let snd : Sender := wSnd;
        let f : Nat × Nat := (0x220001, 0x13);
        admitsB s snd.who (writeReq snd 0x1120 1 [1]) = true ∧ (s.obj Obj.stageState ≠ 2) ∧ (s.obj Obj.stageState ≠ 3) ∧ (s.dict.staged ≠ []) ∧ (s.firstFailing s.dict.staged = some f)) ∧
    (let s : State := { (wRun.put Obj.stageState 1) with dict := { wRun.dict with staged := [(0x320101, [1])] } };
        let snd : Sender := wSnd;
        admitsB s snd.who (writeReq snd 0x1120 1 [2]) = true ∧ (s.obj Obj.stageState ≠ 3) ∧ ((s.dict.staged ++ s.dict.held).all (fun e => (mordantEngine e.1).isNone) = true)) ∧
    (let s : State := { (wRun.put Obj.stageState 2) with dict := { wRun.dict with staged := [(0x320101, [1])] } };
        let snd : Sender := wSnd;
        admitsB s snd.who (writeReq snd 0x1120 1 [3]) = true ∧ (s.obj Obj.stageState = 2) ∧ (s.dict.held = [])) ∧
    (let s : State := { (wRun.put Obj.stageState 2) with dict := { wRun.dict with staged := [(0x221000, [5, 0])], commitAt := 7 } };
        let k : Nat := 0x221000;
        let b : List Byte := [5, 0];
        let row : Row := wRowOf 0x2210 0;
        (s.rst.coreOn = true) ∧ (s.obj Obj.stageState = 2) ∧ (s.dict.staged = [(k, b)]) ∧ (s.dict.held = []) ∧ ((s.waitUntil (s.sampleFrom s.dict.commitAt)).firstFailing s.dict.staged = none) ∧ (mordantEngine k = none) ∧ (rowOf k = some row) ∧ (tyIsBytes row.ty = false) ∧ (k / 256 = 0x2210) ∧ (∀ n ∈ List.range 64, 320 ≤ s.obj (Obj.txFcCell n) ∧ 320 ≤ s.obj (Obj.rxFcCell n))) ∧
    (let s : State := { (wRun.put Obj.stageState 3) with dict := { wRun.dict with waiting := [(0x440300, [])] } };
        let k : Nat := 0x440300;
        let b : List Byte := [];
        let e : Nat := 3;
        (s.rst.coreOn = true) ∧ (s.obj Obj.stageState = 3) ∧ (s.dict.waiting = [(k, b)]) ∧ (mordantEngine k = some e) ∧ (s.dict.held = []) ∧ (s.serving = true)) :=
  ⟨by decide, by decide, by decide, by decide, by decide, by decide⟩

theorem witness_Store :
    (let s : State := wRun;
        let snd : Sender := wSnd;
        admitsB s snd.who (writeReq snd 0x1130 1 [1]) = true ∧ (s.obj Obj.storeState ≠ 1)) ∧
    (let s : State := wRun.put Obj.storeState 1;
        let snd : Sender := wSnd;
        admitsB s snd.who (writeReq snd 0x1130 1 [1]) = true ∧ (s.obj Obj.storeState = 1)) ∧
    (let s : State := wRun;
        let snd : Sender := wSnd;
        admitsB s snd.who (writeReq snd 0x1130 1 [2]) = true ∧ (s.obj Obj.storeState ≠ 1)) ∧
    (let s : State := { wRun with dict := { wRun.dict with storing := some wRun.configCopy } };
        let c : StoreCopy := wRun.configCopy;
        (s.rst.coreOn = true) ∧ (s.dict.storing = some c)) ∧
    (let s : State := { wRun with dict := { wRun.dict with storing := some wRun.configCopy } };
        let c : StoreCopy := wRun.configCopy;
        (s.rst.coreOn = true) ∧ (s.dict.storing = some c)) ∧
    (let s : State := wRun;
        let snd : Sender := wSnd;
        let value : Byte := 1;
        admitsB s snd.who (writeReq snd 0x1107 0 [value]) = true ∧ (value = 1) ∧ (s.serving = true)) ∧
    (let s : State := wRun.put Obj.heldOrder 1;
        let snd : Sender := wSnd;
        let value : Byte := 0;
        admitsB s snd.who (writeReq snd 0x1107 0 [value]) = true ∧ (value = 0)) :=
  ⟨by decide, by decide, by decide, by decide, by decide, by decide, by decide⟩

theorem witness_LinkTraining :
    (let s : State := wOn.put Obj.pathAState 2;
        let p : Path := .a;
        (s.rst.coreOn = true) ∧ (s.linkState p = lkTrain) ∧ (p = .a ∨ s.ring.prove.any (fun r => r.phase == .dwell) = false)) ∧
    (let s : State := { (wOn.put Obj.pathBState 2) with ring := { wOn.ring with prove := some { start := 400, phase := .dwell } } };
        (s.rst.coreOn = true) ∧ (s.linkState .b = lkTrain) ∧ (s.ring.prove.any (fun r => r.phase == .dwell) = true)) ∧
    (let s : State := wOn.put Obj.pathBState 2;
        let p : Path := .b;
        (s.rst.coreOn = true) ∧ (s.linkState p = lkTrain) ∧ ((s.link p).full = false) ∧ ((s.link p).locked = false) ∧ (s.wrapped = false)) ∧
    (let s : State := { wOn.put Obj.pathBState 2 with ring := { wOn.ring with wraps := [{ u := 5, d := 7, detection := 0 }] } };
        let p : Path := .b;
        (s.rst.coreOn = true) ∧ (s.linkState p = lkTrain) ∧ ((s.link p).full = false) ∧ ((s.link p).locked = false) ∧ (s.wrapped = true)) ∧
    (let s : State := (wOn.put Obj.pathAState 2).setLink .a { full := true };
        let p : Path := .a;
        (s.rst.coreOn = true) ∧ (s.linkState p = lkTrain) ∧ ((s.link p).full = true) ∧ ((s.link p).locked = false)) ∧
    (let s : State := (wOn.put Obj.pathAState 3).put Obj.gmId 5;
        let p : Path := .a;
        let rate : Int := -7;
        (s.rst.coreOn = true) ∧ (s.linkState p = lkAlign) ∧ (s.clockLocked = true ∨ (p = .b ∧ s.linkState .a = lkUp))) ∧
    (let s : State := wOn.put Obj.pathAState 3;
        let p : Path := .a;
        let rate : Int := -7;
        (s.rst.coreOn = true) ∧ (s.linkState p = lkAlign) ∧ (s.clockLocked = false) ∧ ((p = .a ∧ s.linkState .b ≠ lkCheck ∧ s.linkState .b ≠ lkUp) ∨ (p = .b ∧ s.linkState .a ≠ lkUp))) ∧
    (let s : State := wOn.put Obj.pathAState 3;
        let p : Path := .a;
        (s.rst.coreOn = true) ∧ (s.linkState p = lkAlign)) ∧
    (let s : State := wOn.put Obj.pathAState 6;
        let p : Path := .a;
        (s.rst.coreOn = true) ∧ (s.linkState p = lkFailed) ∧ ((s.link p).stepMismatch = false)) :=
  ⟨by decide, by decide, by decide, by decide, by decide, by decide, by decide, by decide, by decide⟩

theorem witness_LinkComesUp :
    (let s : State := (wOn.put Obj.pathAState 4).setLink .a { heard := true };
        let p : Path := .a;
        (s.rst.coreOn = true) ∧ (s.linkState p = lkCheck) ∧ ((s.link p).stepMismatch = false) ∧ (s.vgOpen = []) ∧ (s.ring.prove = none) ∧ (p = .a ∨ s.wrapped = false) ∧ (p = .a ∨ s.ring.freezeUntil = none) ∧ ((s.link p).heard = true) ∧ (s.neighbourGood p = true) ∧ (s.outUp .a = false ∨ s.hotB = true ∨ s.ringState ≠ 2 ∨ s.wrapped = true) ∧ ((s.link p).retrying = false)) ∧
    (let s : State := (wOn.put Obj.pathAState 4).setLink .a { retrying := true, heard := true };
        let p : Path := .a;
        (s.rst.coreOn = true) ∧ (s.linkState p = lkCheck) ∧ ((s.link p).stepMismatch = false) ∧ (s.vgOpen = []) ∧ (s.ring.prove = none) ∧ (p = .a ∨ s.wrapped = false) ∧ (p = .a ∨ s.ring.freezeUntil = none) ∧ ((s.link p).heard = true) ∧ (s.neighbourGood p = true) ∧ (s.outUp .a = false ∨ s.hotB = true ∨ s.ringState ≠ 2 ∨ s.wrapped = true) ∧ ((s.link p).retrying = true)) ∧
    (let s : State := { (wOn.put Obj.pathBState 4) with ring := { wOn.ring with wraps := [{ u := 8, d := 9, detection := 0 }] } };
        (s.rst.coreOn = true) ∧ (s.linkState .b = lkCheck) ∧ ((s.link .b).stepMismatch = false) ∧ (s.vgOpen = []) ∧ (s.ring.prove = none) ∧ (s.wrapped = true) ∧ ((s.link .b).retrying = false) ∧ (s.ring.freezeUntil = none)) ∧
    (let s : State := { (wOn.put Obj.pathBState 4) with ring := { wOn.ring with freezeUntil := some 9, wraps := [{ u := 8, d := 9, detection := 0 }] } };
        (s.rst.coreOn = true) ∧ (s.linkState .b = lkCheck) ∧ ((s.link .b).stepMismatch = false) ∧ (s.vgOpen = []) ∧ (s.ring.prove = none) ∧ (s.wrapped = true) ∧ ((s.link .b).retrying = false) ∧ (s.ring.freezeUntil.isSome = true) ∧ (s.ring.wraps.all (fun w => !w.isU && !w.isD) = true)) ∧
    (let s : State := wOn;
        let p : Path := .a;
        let h : Hello := { reverse := 5, stepping := wOn.obj Obj.stepping, effectiveId := 4, configuredId := 4, identity := 99 };
        (s.rst.coreOn = true) ∧ (s.hotB = true ∨ s.ringState ≠ 2 ∨ s.wrapped = true ∨ s.ring.prove.isSome = true) ∧ (h.stepping = s.obj Obj.stepping) ∧ (s.linkState p ≠ lkFailed ∨ (s.link p).stepMismatch = false)) ∧
    (let s : State := wOn.put Obj.pathAState 4;
        let p : Path := .a;
        let h : Hello := { reverse := 5, stepping := wOn.obj Obj.stepping + 1, effectiveId := 4, configuredId := 4, identity := 99 };
        (s.rst.coreOn = true) ∧ (s.hotB = true ∨ s.ringState ≠ 2 ∨ s.wrapped = true ∨ s.ring.prove.isSome = true) ∧ (h.stepping ≠ s.obj Obj.stepping) ∧ (s.linkState p = lkCheck ∨ s.linkState p = lkUp)) ∧
    (let s : State := (wOn.put Obj.pathAState 6).setLink .a { stepMismatch := true };
        let p : Path := .a;
        let h : Hello := { reverse := 5, stepping := wOn.obj Obj.stepping, effectiveId := 4, configuredId := 4, identity := 99 };
        (s.rst.coreOn = true) ∧ (s.hotB = true ∨ s.ringState ≠ 2 ∨ s.wrapped = true ∨ s.ring.prove.isSome = true) ∧ (h.stepping = s.obj Obj.stepping) ∧ (s.linkState p = lkFailed) ∧ ((s.link p).stepMismatch = true)) :=
  ⟨by decide, by decide, by decide, by decide, by decide, by decide, by decide⟩

theorem witness_LinkLoss :
    (let s : State := wOn.put Obj.pathAState 5;
        let p : Path := .a;
        (s.rst.coreOn = true) ∧ (s.linkState p = lkAlign ∨ s.linkState p = lkCheck ∨ s.linkState p = lkUp) ∧ (¬ (p = .a ∧ s.linkState p = lkUp ∧ s.ringFormed = true))) ∧
    (let s : State := wOn.put Obj.pathAState 5;
        let p : Path := .a;
        let lane : Fin 4 := 2;
        (s.rst.coreOn = true) ∧ (s.linkState p = lkAlign ∨ s.linkState p = lkCheck ∨ s.linkState p = lkUp) ∧ (¬ (p = .a ∧ s.linkState p = lkUp ∧ s.ringFormed = true))) ∧
    (let s : State := wOn.put Obj.pathAState 5;
        let p : Path := .a;
        (s.rst.coreOn = true) ∧ (s.linkState p = lkAlign ∨ s.linkState p = lkCheck ∨ s.linkState p = lkUp) ∧ (¬ (p = .a ∧ s.linkState p = lkUp ∧ s.ringFormed = true))) ∧
    (let s : State := wOn;
        (s.rst.coreOn = true)) ∧
    (let s : State := (wOn.put Obj.pathAState 5).put Obj.errBurstLimit 1;
        let p : Path := .a;
        let rows : List WireRow := [{ sync := [some true, none], bytes := [] }];
        let n : Nat := 1;
        (s.rst.coreOn = true) ∧ (s.linkState p = lkAlign ∨ s.linkState p = lkCheck ∨ s.linkState p = lkUp) ∧ (¬ (p = .a ∧ s.linkState p = lkUp ∧ s.ringFormed = true)) ∧ (n = (rows.filter WireRow.isError).length) ∧ (0 < n) ∧ (s.obj Obj.errBurstLimit ≤ ((s.link p).errors.filter (fun t => s.now < t + ms)).length + min n 4096)) ∧
    (let s : State := (wOn.put Obj.pathAState 5).put Obj.errBurstLimit 100;
        let p : Path := .a;
        let rows : List WireRow := [{ sync := [some true, none], bytes := [] }];
        let n : Nat := 1;
        (s.rst.coreOn = true) ∧ (s.linkState p = lkAlign ∨ s.linkState p = lkCheck ∨ s.linkState p = lkUp) ∧ (n = (rows.filter WireRow.isError).length) ∧ (0 < n) ∧ (((s.link p).errors.filter (fun t => s.now < t + ms)).length + min n 4096 < s.obj Obj.errBurstLimit)) ∧
    (let s : State := (((wOn.put Obj.pathAState 5).put Obj.ringState 2).put Obj.pathBState 1).setLink .a { neighbour := 4 };
        (s.rst.coreOn = true) ∧ (s.linkState .a = lkUp) ∧ (s.ringState = 2) ∧ (s.ring.wraps = []) ∧ (s.ring.prove = none) ∧ (s.ring.revert = none)) :=
  ⟨by decide, by decide, by decide, by decide, by decide, by decide, by decide⟩

theorem witness_BreakAndWrap :
    (let s : State := ((wOn.put Obj.ringState 2).put Obj.pathBState 1).put Obj.bOutState 5;
        let p : Path := .a;
        let n : Notice := { kind := 1, origin := 9, u := 8, d := 9, time := 4, seq := 3 };
        (s.rst.coreOn = true) ∧ (s.hasSeen n = false) ∧ (s.ring.prove = none) ∧ (s.ring.revert = none) ∧ (s.linkState .b ≠ lkUp)) ∧
    (let s : State := { wOn with ring := { wOn.ring with seen := [(9, 3)] } };
        let p : Path := .a;
        let n : Notice := { kind := 1, origin := 9, u := 8, d := 9, time := 4, seq := 3 };
        (s.rst.coreOn = true) ∧ (s.hasSeen n = true)) ∧
    (let s : State := { (wOn.put Obj.pathBState 5) with time := 2 ^ 60, ring := { wOn.ring with wraps := [{ u := 8, d := 9, detection := 0 }, { u := 4, d := 5, detection := 0, isD := true }], freezeUntil := some 5 } };
        let w : WrapState := { u := 4, d := 5, detection := 0, isD := true };
        (s.rst.coreOn = true) ∧ (s.wrapAsD = some w) ∧ (s.linkState .b = lkUp)) ∧
    (let s : State := { (wOn.put Obj.bOutState 5) with time := 2 ^ 60, ring := { wOn.ring with wraps := [{ u := 5, d := 6, detection := 0, isU := true }] } };
        let w : WrapState := { u := 5, d := 6, detection := 0, isU := true };
        (s.rst.coreOn = true) ∧ (s.wrapAsU = some w) ∧ (s.outUp .b = true) ∧ (s.ring.dark = false)) ∧
    (let s : State := { (((wOn.put Obj.pathBState 2).put Obj.ringState 3).put Obj.faultSummary 4) with ring := { wOn.ring with wraps := [{ u := 8, d := 9, detection := 0 }] } };
        (s.rst.coreOn = true) ∧ (s.wrapped = true) ∧ (s.ring.prove = none) ∧ (s.ring.revert = none) ∧ (s.linkState .b = lkTrain) ∧ (s.ring.wraps.any (fun w => w.isU && w.d == s.downId) = false)) :=
  ⟨by decide, by decide, by decide, by decide, by decide⟩

theorem witness_Revert :
    (let s : State := { ((wOn.put Obj.pathBState 5).put Obj.aOutState 5) with ring := { wOn.ring with wraps := [{ u := 5, d := 6, detection := 0, isU := true, turned := true }] } };
        let w : WrapState := { u := 5, d := 6, detection := 0, isU := true, turned := true };
        (s.rst.coreOn = true) ∧ (s.madeAsU = some w) ∧ (s.segmentUp = true) ∧ (s.ring.revert = none) ∧ (s.outWaits 1 = false)) ∧
    (let s : State := { wOn with ring := { wOn.ring with wraps := [{ u := 4, d := 5, detection := 0, isD := true, turned := true }] } };
        let p : Path := .a;
        let n : Notice := { kind := 3, origin := 4, u := 4, d := 5, time := 4, seq := 3 };
        (s.rst.coreOn = true) ∧ (s.isRevertD n = true)) ∧
    (let s : State := wOn;
        let p : Path := .a;
        let n : Notice := { kind := 3, origin := 4, u := 7, d := 8, time := 4, seq := 3 };
        (s.rst.coreOn = true) ∧ (s.isRevertD n = false) ∧ (n.d ≠ s.ownId) ∧ (s.outPath p = .b ∨ s.ring.outFault = false)) ∧
    (let s : State := { (((wOn.put Obj.ringState 5).put Obj.wrapSegment 0x405).put Obj.faultSummary 4) with ring := { wOn.ring with wraps := [{ u := 4, d := 5, detection := 0, isD := true, turned := true }], revert := some { asD := true, u := 4, d := 5, start := 0 } } };
        let p : Path := .b;
        let n : Notice := { kind := 8, origin := 4, u := 4, d := 5, time := 4, seq := 3 };
        let w : WrapState := { u := 4, d := 5, detection := 0, isD := true, turned := true };
        let r : RevertState := { asD := true, u := 4, d := 5, start := 0 };
        (s.rst.coreOn = true) ∧ (s.ring.wraps = [w]) ∧ (s.ring.revert = some r) ∧ (s.isRevertD n = true) ∧ (r.asD = true) ∧ (s.acc.joining = false) ∧ (r.dark = false) ∧ (w.u = r.u ∨ w.d = r.d) ∧ (r.stored = []) ∧ (s.acc.splice = none)) ∧
    (let s : State := { (((wOn.put Obj.ringState 5).put Obj.wrapSegment 0x405).put Obj.faultSummary 4) with ring := { wOn.ring with wraps := [{ u := 4, d := 5, detection := 0, isD := true, turned := true }], revert := some { asD := true, u := 4, d := 5, start := 0 } } };
        let lost : Nat := 2;
        let w : WrapState := { u := 4, d := 5, detection := 0, isD := true, turned := true };
        let r : RevertState := { asD := true, u := 4, d := 5, start := 0 };
        (s.rst.coreOn = true) ∧ (s.ring.wraps = [w]) ∧ (s.ring.revert = some r) ∧ (r.asD = true) ∧ (s.acc.joining = false) ∧ (r.dark = false) ∧ (w.u = r.u ∨ w.d = r.d) ∧ (r.stored = []) ∧ (s.acc.splice = none)) ∧
    (let s : State := { (((wOn.put Obj.ringState 3).put Obj.wrapSegment 0x809).put Obj.faultSummary 4) with ring := { wOn.ring with wraps := [{ u := 8, d := 9, detection := 0 }] } };
        let p : Path := .a;
        let n : Notice := { kind := 4, origin := 9, u := 8, d := 9, time := 4, seq := 3 };
        (s.rst.coreOn = true) ∧ (s.hasSeen n = false) ∧ (s.acc.joining = false) ∧ (s.acc.splice = none) ∧ (s.ring.wraps.all (fun w => w.u == n.u || w.d == n.d) = true)) ∧
    (let s : State := { (((wOn.put Obj.ringState 3).put Obj.wrapSegment 0x809).put Obj.faultSummary 4) with ring := { wOn.ring with wraps := [{ u := 8, d := 9, detection := 0 }, { u := 2, d := 3, detection := 0 }] } };
        let p : Path := .a;
        let n : Notice := { kind := 4, origin := 9, u := 8, d := 9, time := 4, seq := 3 };
        let w : WrapState := { u := 2, d := 3, detection := 0 };
        (s.rst.coreOn = true) ∧ (s.hasSeen n = false) ∧ (s.acc.joining = false) ∧ (s.acc.splice = none) ∧ (s.ring.wraps.filter (fun w => !(w.u == n.u || w.d == n.d)) = [w])) ∧
    (let s : State := wOn;
        let p : Path := .a;
        let n : Notice := { kind := 0x40, origin := 9, u := 8, d := 9, time := 4, seq := 3 };
        (s.rst.coreOn = true) ∧ (n.kind ≠ 0x03) ∧ (n.kind ≠ 0x08) ∧ (s.hasSeen n = false)) :=
  ⟨by decide, by decide, by decide, by decide, by decide, by decide, by decide, by decide⟩

theorem witness_Proving :
    (let s : State := ((wOn.put Obj.ringState 2).put Obj.coordinator 5);
        (s.rst.coreOn = true) ∧ (s.isCoordinator = true) ∧ (s.ringWhole = true) ∧ (s.ring.prove = none) ∧ (s.obj Obj.proveInterval ≠ 0 ∨ s.obj Obj.bSavedValid = 0 ∨ s.tb.loopProve = true)) ∧
    (let s : State := wOn;
        let p : Path := .a;
        let n : Notice := { kind := 5, origin := 4, time := 400, seq := 3 };
        (s.rst.coreOn = true) ∧ (s.hasSeen n = false)) ∧
    (let s : State := { (wOn.put Obj.pathBState 1) with ring := { wOn.ring with prove := some { start := 400 } } };
        let r : ProveRun := { start := 400 };
        (s.rst.coreOn = true) ∧ (s.ring.prove = some r) ∧ (r.phase = .scheduled) ∧ (s.linkState .b = lkCold ∨ s.linkState .b = lkOff)) ∧
    (let s : State := { (wOn.put Obj.pathBState 5) with ring := { wOn.ring with prove := some { start := 400 } } };
        let r : ProveRun := { start := 400 };
        (s.rst.coreOn = true) ∧ (s.ring.prove = some r) ∧ (r.phase = .scheduled) ∧ (s.linkState .b = lkUp)) ∧
    (let s : State := { ((wOn.put Obj.pathBState 2).setLink .b { locked := true }) with ring := { (wOn.setLink .b { locked := true }).ring with prove := some { start := 400, phase := .dwell } } };
        let e : LaneCounts := { lane0 := 0, lane1 := 3, lane2 := 0, lane3 := 0 };
        let r : ProveRun := { start := 400, phase := .dwell };
        (s.rst.coreOn = true) ∧ (s.ring.prove = some r) ∧ (r.phase = .dwell) ∧ (r.ownOnly = false) ∧ (s.linkState .b = lkTrain) ∧ ((s.link .b).locked = true)) ∧
    (let s : State := { (wOn.put Obj.pathBState 2) with ring := { wOn.ring with prove := some { start := 400, phase := .dwell } } };
        let e : LaneCounts := { lane0 := 0, lane1 := 3, lane2 := 0, lane3 := 0 };
        let r : ProveRun := { start := 400, phase := .dwell };
        (s.rst.coreOn = true) ∧ (s.ring.prove = some r) ∧ (r.phase = .dwell) ∧ (r.ownOnly = false) ∧ (s.linkState .b = lkTrain) ∧ ((s.link .b).locked = false)) ∧
    (let s : State := { (wOn.put Obj.pathBState 5) with ring := { wOn.ring with prove := some { start := 400, phase := .dwell, coordinator := true } } };
        let e : LaneCounts := { lane0 := 0, lane1 := 3, lane2 := 0, lane3 := 0 };
        let r : ProveRun := { start := 400, phase := .dwell, coordinator := true };
        (s.rst.coreOn = true) ∧ (s.ring.prove = some r) ∧ (r.phase = .dwell) ∧ (r.ownOnly = false) ∧ (s.linkState .b = lkUp) ∧ (r.coordinator = true)) ∧
    (let s : State := { (wOn.put Obj.pathBState 2) with ring := { wOn.ring with prove := some { start := 400, phase := .dwell, attempt := 2, ownOnly := true } } };
        let e : LaneCounts := { lane0 := 0, lane1 := 3, lane2 := 0, lane3 := 0 };
        let r : ProveRun := { start := 400, phase := .dwell, attempt := 2, ownOnly := true };
        (s.rst.coreOn = true) ∧ (s.ring.prove = some r) ∧ (r.phase = .dwell) ∧ (r.ownOnly = true) ∧ (e.lane0 ≠ 0 ∨ e.lane1 ≠ 0 ∨ e.lane2 ≠ 0 ∨ e.lane3 ≠ 0)) ∧
    (let s : State := { (wOn.put Obj.pathBState 2) with ring := { wOn.ring with sendB := true, prove := some { start := 400, phase := .loop, coordinator := true, attempt := 2 } } };
        let r : ProveRun := { start := 400, phase := .loop, coordinator := true, attempt := 2 };
        (s.rst.coreOn = true) ∧ (s.ring.prove = some r) ∧ (r.coordinator = true) ∧ (r.phase = .loop) ∧ (r.attempt = 2) ∧ (s.linkState .b ≠ lkUp)) ∧
    (let s : State := { (wOn.put Obj.pathBState 5) with ring := { wOn.ring with bSaved := true, prove := some { start := 400, phase := .loop, coordinator := true } } };
        let r : ProveRun := { start := 400, phase := .loop, coordinator := true };
        (s.rst.coreOn = true) ∧ (s.ring.prove = some r) ∧ (r.coordinator = true) ∧ (r.phase = .loop) ∧ (r.attempt = 1)) ∧
    (let s : State := wOn;
        let p : Path := .a;
        let n : Notice := { kind := 6, origin := 4, u := 1, time := 400, seq := 3 };
        let result : Fin 5 := 1;
        (s.rst.coreOn = true) ∧ (s.hasSeen n = false) ∧ (s.ring.prove = none)) ∧
    (let s : State := { ((wOn.put Obj.pathBState 3).put Obj.bSavedValid 1) with ring := { wOn.ring with prove := some { start := 400, phase := .rising } } };
        let p : Path := .a;
        let n : Notice := { kind := 6, origin := 4, u := 3, time := 400, seq := 3 };
        let r : ProveRun := { start := 400, phase := .rising };
        (s.rst.coreOn = true) ∧ (s.hasSeen n = false) ∧ (s.ring.prove = some r) ∧ (s.linkState .b ≠ lkUp)) ∧
    (let s : State := { (wOn.put Obj.pathBState 5) with ring := { wOn.ring with prove := some { start := 400, phase := .loop, carried := true } } };
        let p : Path := .a;
        let n : Notice := { kind := 6, origin := 4, u := 1, time := 400, seq := 3 };
        let r : ProveRun := { start := 400, phase := .loop, carried := true };
        (s.rst.coreOn = true) ∧ (s.hasSeen n = false) ∧ (s.ring.prove = some r) ∧ (s.ownLinkPassed r = true) ∧ (r.lateLock = false) ∧ (s.vgOpen = []) ∧ (s.hotB = false)) :=
  ⟨by decide, by decide, by decide, by decide, by decide, by decide, by decide, by decide, by decide, by decide, by decide, by decide, by decide⟩

theorem witness_Claims :
    (let s : State := { wOn with time := 2 ^ 50 };
        let f : Frame := { type := 4, src := 7, dst := 0xFF, commander := 2, seq := 31 };
        (s.rst.coreOn = true) ∧ (1 ≤ f.commander) ∧ (f.commander ≤ 8) ∧ (s.ring.leaseAt ≠ some s.now) ∧ (s.obj (Obj.cmdrNode (f.commander - 1)) = 0 ∨ s.obj (Obj.cmdrNode (f.commander - 1)) = f.src) ∧ (f.seq ≠ 0)) ∧
    (let s : State := wOn;
        let f : Frame := { type := 4, src := 7, dst := 0xFF, commander := 0, seq := 31 };
        (s.rst.coreOn = true) ∧ (f.commander = 0 ∨ 8 < f.commander ∨ (s.obj (Obj.cmdrNode (f.commander - 1)) ≠ 0 ∧ s.obj (Obj.cmdrNode (f.commander - 1)) ≠ f.src))) ∧
    (let s : State := { ((wOn.put (Obj.cmdrLive 2) 1).put Obj.claimLease 3) with ring := { wOn.ring with claimAge := [(3, 4)] } };
        let c : Fin 9 := 3;
        (s.rst.coreOn = true) ∧ (1 ≤ c.val) ∧ (s.obj (Obj.cmdrLive (c.val - 1)) = 1) ∧ (s.frozen = false) ∧ (s.obj Obj.claimLease ≤ sparseGet (fun _ => 0) s.ring.claimAge c.val)) ∧
    (let s : State := { (((((wOn.put Obj.claimUdpEnable 1).put (Obj.ethMode 0) 1).put (Obj.ipv4Addr 0) 5).put (Obj.allowMask 0) 255).put (Obj.allowAddr 0) 5) with time := 2 ^ 50 };
        let port : Fin 4 := 0;
        let address : BitVec 32 := 5;
        let b : List Byte := [0x4B, 0x43, 1, 3, 31, 0, 0, 0, 7, 0, 0, 0];
        let c : Nat := 3;
        let number : Nat := 31;
        let dst : Nat := 7;
        (s.rst.coreOn = true) ∧ ((s.obj Obj.claimUdpEnable).testBit port.val = true) ∧ (s.obj (Obj.ipv4Addr (s.addressPort port.val)) ≠ 0) ∧ (s.ethDeaf port.val = false) ∧ (s.allowed address.toNat = true) ∧ (b.length = 12) ∧ (leAt b 0 2 = 0x434B) ∧ (leAt b 2 1 = 0x01) ∧ (leAt b 9 3 = 0) ∧ (leAt b 3 1 = c) ∧ (1 ≤ c) ∧ (c ≤ 8) ∧ (leAt b 4 4 = number) ∧ (s.ownId ≠ 0) ∧ (leAt b 8 1 = dst) ∧ (dst ≤ 0x60)) ∧
    (let s : State := { (((((wOn.put Obj.claimUdpEnable 1).put (Obj.ethMode 0) 1).put (Obj.ipv4Addr 0) 5).put (Obj.allowMask 0) 255).put (Obj.allowAddr 0) 5) with time := 2 ^ 50 };
        let port : Fin 4 := 0;
        let address : BitVec 32 := 5;
        let b : List Byte := [0x4B, 0x43, 1, 3, 31, 0, 0, 0, 255, 0, 0, 0];
        let c : Nat := 3;
        let number : Nat := 31;
        (s.rst.coreOn = true) ∧ ((s.obj Obj.claimUdpEnable).testBit port.val = true) ∧ (s.obj (Obj.ipv4Addr (s.addressPort port.val)) ≠ 0) ∧ (s.ethDeaf port.val = false) ∧ (s.allowed address.toNat = true) ∧ (b.length = 12) ∧ (leAt b 0 2 = 0x434B) ∧ (leAt b 2 1 = 0x01) ∧ (leAt b 9 3 = 0) ∧ (leAt b 3 1 = c) ∧ (1 ≤ c) ∧ (c ≤ 8) ∧ (leAt b 4 4 = number) ∧ (s.ownId ≠ 0) ∧ (leAt b 8 1 = 0xFF) ∧ (number ≠ 0) ∧ (s.ring.leaseAt ≠ some s.now) ∧ (s.obj (Obj.cmdrNode (c - 1)) = 0)) ∧
    (let s : State := { ((((((wOn.put Obj.effectiveId 0).put Obj.claimUdpEnable 1).put (Obj.ethMode 0) 1).put (Obj.ipv4Addr 0) 5).put (Obj.allowMask 0) 255).put (Obj.allowAddr 0) 5) with time := 2 ^ 50 };
        let port : Fin 4 := 0;
        let address : BitVec 32 := 5;
        let b : List Byte := [0x4B, 0x43, 1, 3, 31, 0, 0, 0, 0, 0, 0, 0];
        let c : Nat := 3;
        let number : Nat := 31;
        (s.rst.coreOn = true) ∧ ((s.obj Obj.claimUdpEnable).testBit port.val = true) ∧ (s.obj (Obj.ipv4Addr (s.addressPort port.val)) ≠ 0) ∧ (s.ethDeaf port.val = false) ∧ (s.allowed address.toNat = true) ∧ (b.length = 12) ∧ (leAt b 0 2 = 0x434B) ∧ (leAt b 2 1 = 0x01) ∧ (leAt b 9 3 = 0) ∧ (leAt b 3 1 = c) ∧ (1 ≤ c) ∧ (c ≤ 8) ∧ (leAt b 4 4 = number) ∧ (s.ownId = 0) ∧ (leAt b 8 1 = 0) ∧ (number ≠ 0) ∧ (s.ring.leaseAt ≠ some s.now)) ∧
    (let s : State := { wOn with ring := { wOn.ring with c0BytesA := 7000 } };
        (s.rst.coreOn = true) ∧ (6060 < s.ring.c0BytesA) ∧ (s.ring.c0BytesB ≤ 6060)) ∧
    (let s : State := { wOn with ring := { wOn.ring with c0BytesA := 700 } };
        (s.rst.coreOn = true) ∧ (s.ring.c0BytesA ≤ 6060) ∧ (s.ring.c0BytesB ≤ 6060)) :=
  ⟨by decide, by decide, by decide, by decide, by decide, by decide, by decide, by decide⟩

theorem witness_RingFrames :
    (let s : State := (wOn.put Obj.pathAState 5).put Obj.errBurstLimit 100;
        let p : Path := .a;
        let w : RingWire := { header := [], payload := [], rows := 0, fcrc := 0 };
        (s.rst.coreOn = true) ∧ (s.linkState p = lkUp) ∧ (headerGood w.header = false) ∧ (((s.link p).errors.filter (fun t => s.now < t + ms)).length + 1 < s.obj Obj.errBurstLimit)) :=
  by decide

theorem witness_RingCommands :
    (let s : State := (wRun.put Obj.ringState 2).put Obj.coordinator 5;
        let snd : Sender := wSnd;
        let value : Byte := 1;
        admitsB s snd.who (writeReq snd 0x2011 0 [value]) = true ∧ (value = 1) ∧ (s.ringWhole = true) ∧ (s.isCoordinator = true)) ∧
    (let s : State := { (((wRun.put Obj.wrapSegment 0x506).put Obj.aOutState 5).put Obj.pathBState 5) with ring := { wRun.ring with wraps := [{ u := 5, d := 6, detection := 0, isU := true, turned := true }] } };
        let snd : Sender := wSnd;
        let value : Byte := 1;
        let w : WrapState := { u := 5, d := 6, detection := 0, isU := true, turned := true };
        admitsB s snd.who (writeReq snd 0x2012 0 [value]) = true ∧ (value = 1) ∧ (s.ownId ≠ 0) ∧ (s.obj Obj.wrapSegment ≠ 0) ∧ (s.madeAsU = some w) ∧ (s.segmentUp = true) ∧ (s.ring.revert = none) ∧ (s.outWaits 1 = false)) ∧
    (let s : State := wOn;
        let snd : Sender := wSnd;
        let value : Byte := 9;
        admitsB s snd.who (writeReq snd 0x2002 1 [value]) = true ∧ (snd.who = .mailbox ∨ snd.who = .farif) ∧ (s.node = stHeld) ∧ (1 ≤ value.toNat) ∧ (value.toNat ≤ 96) ∧ (s.ringState = 0) ∧ (s.upSegment = false) ∧ (s.downSegment = false)) ∧
    (let s : State := wOn.put Obj.ringState 2;
        let snd : Sender := wSnd;
        let value : Byte := 9;
        admitsB s snd.who (writeReq snd 0x2002 1 [value]) = true ∧ (snd.who = .mailbox ∨ snd.who = .farif) ∧ (s.node = stHeld) ∧ (value.toNat ≤ 96) ∧ (s.ringState ≠ 0) ∧ (s.ownId ≠ 0)) ∧
    (let s : State := (wRun.put 0x202001 5).put 0x20200E 7;
        let snd : Sender := wSnd;
        let p : Path := .a;
        admitsB s snd.who (writeReq snd (0x2020 + linkIdx p) 15 [0]) = true) :=
  ⟨by decide, by decide, by decide, by decide, by decide⟩

theorem witness_TimingRowsSent :
    (let s : State := (((wOn.put Obj.gmId 5).put Obj.ringNodes 2).put Obj.gmPriority 1);
        (s.rst.coreOn = true) ∧ (s.isGm = true) ∧ (1 < s.obj Obj.ringNodes)) ∧
    (let s : State := (((wOn.put Obj.gmId 5).put Obj.ringNodes 2).put Obj.gmPriority 1);
        (s.rst.coreOn = true) ∧ (s.isGm = true)) ∧
    (let s : State := (wOn.put Obj.pathBState 5).put Obj.aOutState 5;
        let p : Path := .a;
        (s.rst.coreOn = true) ∧ (s.linkState (otherPath p) = lkUp) ∧ (s.outUp p = true)) ∧
    (let s : State := wOn.put Obj.gmId 5;
        let p : Path := .a;
        let row : TimingRow := { content := leBytes 1 2 ++ leBytes 1 3 ++ List.replicate 22 1, arrival := 2000 };
        (s.rst.coreOn = true)) :=
  ⟨by decide, by decide, by decide, by decide⟩

theorem witness_TimingRowsReceived :
    (let s : State := { wOn with tb := { wOn.tb with lastSync := 1 }, acc := { wOn.acc with members := wOn.acc.members ++ [{ id := 3, identity := 9 }] } };
        let p : Path := .a;
        let row : TimingRow := { content := leBytes 1 1 ++ leBytes 1 3 ++ leBytes 1 2 ++ List.replicate 20 1 ++ leBytes 1 0, arrival := 2000 };
        let residence : Nat := 4;
        (s.rst.coreOn = true) ∧ (leAt row.content 1 1 ≠ s.ownId) ∧ (s.tb.lastSync ≠ 0) ∧ ((s.rankSync row.content).obj Obj.gmId = leAt row.content 1 1)) ∧
    (let s : State := (wOn.put Obj.gmPriority 1).put Obj.gmId 5;
        let p : Path := .a;
        let row : TimingRow := { content := leBytes 1 1 ++ leBytes 1 3 ++ List.replicate 22 1, arrival := 2000 };
        let residence : Nat := 4;
        (s.rst.coreOn = true) ∧ (leAt row.content 1 1 ≠ s.ownId) ∧ ((s.rankSync row.content).obj Obj.gmId ≠ leAt row.content 1 1)) ∧
    (let s : State := { wOn with tb := { wOn.tb with locked := true } };
        (s.rst.coreOn = true) ∧ (s.isGm = false)) ∧
    (let s : State := { ((wOn.put Obj.pathAState 5).put Obj.bOutState 5) with tb := { wOn.tb with hopA := { t1 := some 4, reqSeq := 1 } } };
        let p : Path := .a;
        let row : TimingRow := { content := leBytes 1 3 ++ leBytes 1 3 ++ List.replicate 22 1, arrival := 2000 };
        let t1 : Nat := 4;
        (s.rst.coreOn = true) ∧ ((s.hop p).t1 = some t1) ∧ (s.linkState p = lkUp) ∧ (s.outUp (otherPath p) = true) ∧ (leAt row.content 2 1 = (s.hop p).reqSeq) ∧ ((s.hop p).count < 15)) ∧
    (let s : State := { ((wOn.put Obj.pathAState 5).put Obj.bOutState 5) with tb := { wOn.tb with hopA := { t1 := some 4, reqSeq := 1, count := 15 } } };
        let p : Path := .a;
        let row : TimingRow := { content := leBytes 1 3 ++ leBytes 1 3 ++ List.replicate 22 1, arrival := 2000 };
        let t1 : Nat := 4;
        (s.rst.coreOn = true) ∧ ((s.hop p).t1 = some t1) ∧ (s.linkState p = lkUp) ∧ (s.outUp (otherPath p) = true) ∧ (leAt row.content 2 1 = (s.hop p).reqSeq) ∧ ((s.hop p).count = 15)) ∧
    (let s : State := { wOn with tb := { wOn.tb with hopB := { fast := true, measured := true } } };
        (s.rst.coreOn = true) ∧ (s.tb.hopB.fast = true) ∧ (s.tb.hopB.measured = true)) ∧
    (let s : State := wOn;
        let p : Path := .a;
        let row : TimingRow := { content := leBytes 1 4 ++ leBytes 1 3 ++ List.replicate 22 1, arrival := 2000 };
        (s.rst.coreOn = true) ∧ (leAt row.content 1 1 ≠ s.ownId)) ∧
    (let s : State := wOn;
        let p : Path := .a;
        let row : TimingRow := { content := leBytes 1 5 ++ leBytes 1 3 ++ List.replicate 22 1, arrival := 2000 };
        (s.rst.coreOn = true) ∧ (leAt row.content 1 1 ≠ s.ownId)) ∧
    (let s : State := { wOn with tb := { wOn.tb with paramsNext := some (⟨500, 250, 3⟩, 77) }, lake := { wOn.lake with nextSample := 4 } };
        let q : EpochParams := ⟨500, 250, 3⟩;
        let changeAt : Nat := 77;
        (s.rst.coreOn = true) ∧ (s.tb.paramsNext = some (q, changeAt)) ∧ (s.lake.inFlight = [])) ∧
    (let s : State := wOn;
        let p : Path := .a;
        let row : TimingRow := { content := leBytes 1 6 ++ leBytes 1 3 ++ List.replicate 22 1, arrival := 2000 };
        (s.rst.coreOn = true) ∧ (leAt row.content 1 1 ≠ s.ownId)) ∧
    (let s : State := { wOn with tb := { wOn.tb with step := some (77, 1000) } };
        let at' : Nat := 77;
        let d : Int := 1000;
        (s.rst.coreOn = true) ∧ (s.tb.step = some (at', d)) ∧ (0 ≤ d) ∧ (s.time ≤ at' * 2 ^ 40)) ∧
    (let s : State := wOn;
        let row : TimingRow := { content := leBytes 1 9 ++ leBytes 1 3 ++ List.replicate 22 1, arrival := 2000 };
        (s.rst.coreOn = true) ∧ (leAt row.content 0 1 = 0 ∨ 6 < leAt row.content 0 1)) :=
  ⟨by decide, by decide, by decide, by decide, by decide, by decide, by decide, by decide, by decide, by decide, by decide, by decide⟩

theorem witness_TimeSources :
    (let s : State := (((((wOn.put Obj.gmId 5).put Obj.timeSource 1).put (Obj.ethMode 2) 1).put (Obj.ptpRole 2) 1).put Obj.ptpPort 2).put (Obj.linkState 2) 1;
        let port : Fin 4 := 2;
        let m : PtpSync := { origin := 1000, arrival := 1045, peerDelay := 50 };
        let offset : Int := -5;
        (s.rst.coreOn = true) ∧ (s.obj (Obj.ptpRole port.val) = 1) ∧ (s.obj Obj.timeSource = 1) ∧ (s.obj Obj.ptpPort = port.val) ∧ (m.domain = s.obj (Obj.ptpDomain port.val)) ∧ (s.ethDeaf port.val = false) ∧ (s.isGm = true) ∧ (s.otherMaster m = false) ∧ (s.betterMaster port.val m = true) ∧ (m.utcOffset = none) ∧ (offset = (m.arrival : Int) - roundHalfAway (s.corrected (0x420 + port.val) 0) 1000 - m.origin - m.peerDelay) ∧ (offset.natAbs ≤ 100) ∧ (s.tb.ptpGood < 15)) ∧
    (let s : State := { ((((((wOn.put Obj.gmId 5).put Obj.timeSource 1).put (Obj.ethMode 2) 1).put (Obj.ptpRole 2) 1).put Obj.ptpPort 2).put (Obj.linkState 2) 1) with tb := { wOn.tb with ptpGood := 15 } };
        let port : Fin 4 := 2;
        let m : PtpSync := { origin := 1000, arrival := 1045, peerDelay := 50 };
        let offset : Int := -5;
        (s.rst.coreOn = true) ∧ (s.obj (Obj.ptpRole port.val) = 1) ∧ (s.obj Obj.timeSource = 1) ∧ (s.obj Obj.ptpPort = port.val) ∧ (m.domain = s.obj (Obj.ptpDomain port.val)) ∧ (s.ethDeaf port.val = false) ∧ (s.isGm = true) ∧ (s.otherMaster m = false) ∧ (s.betterMaster port.val m = true) ∧ (m.utcOffset = none) ∧ (offset = (m.arrival : Int) - roundHalfAway (s.corrected (0x420 + port.val) 0) 1000 - m.origin - m.peerDelay) ∧ (offset.natAbs ≤ 100) ∧ (15 ≤ s.tb.ptpGood) ∧ ((({ s with tb := { s.tb with source := 2 } } : State).rankedGm = s.obj Obj.gmId))) ∧
    (let s : State := wOn;
        let port : Fin 4 := 2;
        let m : PtpSync := { origin := 1000, arrival := 1045 };
        (s.rst.coreOn = true) ∧ (s.obj (Obj.ptpRole port.val) = 0 ∨ m.domain ≠ s.obj (Obj.ptpDomain port.val) ∨ s.ethDeaf port.val = true)) ∧
    (let s : State := wOn.put Obj.timeSource 2;
        let time : Nat := 5000;
        let e : Nat := 4992;
        (s.rst.coreOn = true) ∧ (s.obj Obj.timeSource = 2) ∧ (s.tb.ppsEdge = none) ∧ (s.tb.irigMark = none) ∧ (e = ((time : Int) - (s.waitUntil256 time).delay256 0x430).toNat / 64 * 64)) ∧
    (let s : State := wOn.put Obj.timeSource 2;
        let f : IrigFrame := { form := 4, mark := 700, year := 26, day := 40, hour := 3, minute := 2, second := 1 };
        (s.rst.coreOn = true) ∧ (s.obj Obj.timeSource = 2) ∧ (s.tb.ppsEdge = none) ∧ (s.tb.irigMark = none) ∧ (f.good = true) ∧ (s.obj Obj.irigExt = 0) ∧ (4 ≤ f.form)) ∧
    (let s : State := { wOn with tb := { wOn.tb with source := 1 } };
        (s.rst.coreOn = true) ∧ (s.tb.source = 1)) ∧
    (let s : State := { (wOn.put Obj.ppsMode 1) with time := 5 * 2 ^ 40 };
        (s.rst.coreOn = true) ∧ (s.obj Obj.ppsMode = 1) ∧ (s.time ≤ ceilDiv s.now sec * sec * 2 ^ 40)) ∧
    (let s : State := (wOn.put Obj.timeFlags 3);
        (s.rst.coreOn = true) ∧ (s.traceable = true)) ∧
    (let s : State := ((((wOn.put Obj.timeFlags 3).put (Obj.ethMode 1) 1).put (Obj.linkState 1) 1).put (Obj.ptpRole 1) 2);
        let port : Fin 4 := 1;
        (s.rst.coreOn = true) ∧ (s.obj (Obj.ptpRole port.val) ≠ 0) ∧ (s.ethDark port.val = false) ∧ (s.isGm = false ∨ s.takesFrom port.val = false ∨ s.obj (Obj.portState port.val) ≠ 9) ∧ (s.traceable = true) ∧ (s.takesFrom port.val = false)) ∧
    (let s : State := wOn;
        let port : Fin 4 := 1;
        (s.rst.coreOn = true) ∧ (s.obj (Obj.ptpRole port.val) = 0 ∨ s.ethDark port.val = true)) :=
  ⟨by decide, by decide, by decide, by decide, by decide, by decide, by decide, by decide, by decide, by decide⟩

theorem witness_Lake :
    (let s : State := { (((((wOn.put (Obj.cellMode 3) 1).put (Obj.bankVolt 0) 3).put (Obj.cellReaders 3) 1).put Obj.soeCapacity 100).put (Obj.chatterLimit 3) 0) with fc := { wOn.fc with loaded := true } };
        let n : Fin 320 := 3;
        let level : Bool := true;
        let time : Nat := 50000;
        (s.rst.coreOn = true) ∧ ((s.cell n.val).ball ≠ level) ∧ (s.captures n.val = true) ∧ (s.obj (Obj.chatterLimit n.val) = 0) ∧ (s.obj (Obj.cellFilter n.val) = 0) ∧ (s.soeReads n.val = true) ∧ (s.engineReads n.val = false) ∧ ((s.cell n.val).lastCross = none) ∧ ((s.cell n.val).queue = []) ∧ (s.cellFlag n.val csChatter = false)) ∧
    (let s : State := wOn;
        let t : State := wOn.waitUntil (wOn.sampleOf wOn.nextEpoch);
        let k : Nat := (wOn.waitUntil (wOn.sampleOf wOn.nextEpoch)).nextEpoch;
        (s.rst.coreOn = true) ∧ (t = s.waitUntil (s.sampleOf s.nextEpoch)) ∧ (s.tb.paramsWaiting = none) ∧ (t.sampleFrom t.now = t.now) ∧ (k = t.nextEpoch) ∧ (s.obj Obj.pubCount = 0) ∧ (s.lake.loutPending = []) ∧ (s.fc.cells = []) ∧ (s.acc.splice = none) ∧ (s.isGm = false)) ∧
    (let s : State := { wOn with lake := { wOn.lake with nextSample := 5 } };
        let f : Frame := { cls := 1, type := tyLake, src := 7, dst := 0xFF, seq := 1, address := mkAddr 7 1 (7 * 2 ^ 15), param := 5, payload := [1, 2, 3, 4, 5, 6, 7, 8] };
        let k : Nat := 5;
        (s.rst.coreOn = true) ∧ (k = s.fullEpoch f.param) ∧ (s.lake.nextSample = k) ∧ (s.lake.received = []) ∧ (bits f.address 14 3 = 0) ∧ (f.payload.length = 8)) ∧
    (let s : State := { wOn with time := 2 ^ 70, lake := { wOn.lake with nextSample := 9999999 } };
        let f : Frame := { cls := 1, type := tyLake, src := 7, dst := 0xFF, seq := 1, address := mkAddr 7 1 (7 * 2 ^ 15), param := 5, payload := [1, 2, 3, 4, 5, 6, 7, 8] };
        let k : Nat := ({ wOn with time := 2 ^ 70 } : State).fullEpoch 5;
        (s.rst.coreOn = true) ∧ (k = s.fullEpoch f.param) ∧ (s.lake.nextSample ≠ k) ∧ (s.lake.inFlight = []) ∧ (s.sampleOf k + s.applyNs ≤ s.now)) ∧
    (let s : State := { (((wOn.put Obj.smeState smeOut).put Obj.subCount 1).put (Obj.subEntry 0 0) (7 * 2 ^ 24)) with sme := { (wOn.put Obj.smeState smeOut).sme with agreed := true }, lake := { (wOn.put Obj.smeState smeOut).lake with inFlight := [(5, 100)], received := [{ publisher := 7, epoch := 5, count := 1, slots := [(0, 77)] }] } };
        let k : Nat := 5;
        let at' : Nat := 100;
        let key : Nat := 7 * 4096;
        let v : Nat := 77;
        let q : PendingSlots := { publisher := 7, epoch := 5, count := 1, slots := [(0, 77)] };
        (s.rst.coreOn = true) ∧ (s.lake.inFlight = [(k, at')]) ∧ (s.holding = false) ∧ (s.storedSlots = [key]) ∧ (s.lake.received = [q]) ∧ (q.publisher = key / 4096) ∧ (q.epoch = k) ∧ (q.slots = [(key % 4096, v)]) ∧ (s.node = stHeld) ∧ (s.ring.freezeUntil = none) ∧ (s.liveCommanders = []) ∧ (s.mapTableNow = []) ∧ (s.obj Obj.smeState = smeOut)) ∧
    (let s : State := (wRun.put Obj.pubCount 8).put (Obj.pubSource 0 3) (2 * 2 ^ 28);
        let who : Requester := .mailbox;
        let slot : Fin 4096 := 3;
        let value : BitVec 64 := 99;
        let commander : Fin 9 := 1;
        let tag : BitVec 16 := 4;
        let r : ObjReq := { opcode := 2, commander := 1, index := 0xA000 + 4 * 64, sub := 4, tag := 4, length := 8, data := leBytes 8 99 };
        admitsB s who (r) = true ∧ (r = { opcode := 2, commander := commander.val, index := 0xA000 + (s.ownId - 1) * 64 + slot.val / 64, sub := 1 + slot.val % 64, tag := tag.toNat, length := 8, data := leBytes 8 value.toNat }) ∧ (1 ≤ s.ownId) ∧ (s.ownId ≤ 96) ∧ (s.isLoutSlot slot.val = true)) ∧
    (let s : State := { (wOn.put Obj.nodeState 4) with ring := { wOn.ring with sinceNoClaim := 100000 }, lake := { wOn.lake with lout := [(3, { value := 7, latched := true })] } };
        let i : Nat := 3;
        let l : LoutSlot := { value := 7, latched := true };
        (s.rst.coreOn = true) ∧ (s.serving = true) ∧ (s.holding = false) ∧ (s.liveCommanders = []) ∧ (s.frozen = false) ∧ (s.obj Obj.loutMissed ≤ s.ring.sinceNoClaim) ∧ (s.lake.loutHeld = false) ∧ (s.lout i = l) ∧ (l.latched = true) ∧ (s.obj Obj.loutHold = 0)) ∧
    (let s : State := wRun.put Obj.lateFrames 4;
        let snd : Sender := wSnd;
        admitsB s snd.who (writeReq snd 0x2250 8 [0]) = true) :=
  ⟨by decide, by decide, by decide, by decide, by decide, by decide, by decide, by decide⟩

theorem witness_SwitchAdmission :
    (let s : State := { wOn with sw := { wOn.sw with entering := [{ port := 6, cls := 2, packet := .eth { dst := 1, etherType := 5 }, outs := [8] }], stored := [{ no := 0, offered := { port := 6, cls := 2, packet := .eth { dst := 1, etherType := 5 }, outs := [8] }, outs := [], busy := [8], cells := 0, stored := 0 }], storedCount := 1, sending := [(8, 0)] } };
        let o : Offered := { port := 6, cls := 2, packet := .eth { dst := 1, etherType := 5 }, outs := [8] };
        let r : List Offered := [];
        let p : Nat := 8;
        let f : EthFrame := { dst := 1, etherType := 5 };
        (s.rst.coreOn = true) ∧ (s.sw.entering = o :: r) ∧ (portInputs o.port o.cls = true) ∧ (s.obj (Obj.inLimit o.port o.cls) ≠ 0) ∧ (o.outs = [p]) ∧ (o.packet = .eth f) ∧ (s.obj Obj.tapDest = 0) ∧ (s.obj Obj.sampleRatio = 0) ∧ (5 < p) ∧ (p < 15) ∧ (s.cutsThrough o [p] = false) ∧ (s.sw.held.all (fun h => h.offered.port != o.port || h.offered.cls != o.cls) = true) ∧ (s.inUsedNow o.port o.cls + packetCells o.packet ≤ s.obj (Obj.inLimit o.port o.cls)) ∧ (packetCells o.packet ≤ s.cellsFreeNow) ∧ (s.outUsedNow p o.cls + packetCells o.packet ≤ s.obj (Obj.outLimit p o.cls)) ∧ (o.engine = none)) ∧
    (let s : State := { wOn with sw := { wOn.sw with entering := [{ port := 6, cls := 1, packet := .eth {}, outs := [8] }] } };
        let o : Offered := { port := 6, cls := 1, packet := .eth {}, outs := [8] };
        let r : List Offered := [];
        (s.rst.coreOn = true) ∧ (s.sw.entering = o :: r) ∧ (portInputs o.port o.cls = false) ∧ (o.engine = none) ∧ (o.port < 6 ∨ (s.obj Obj.tapDest = 0 ∧ s.obj Obj.sampleRatio = 0))) ∧
    (let s : State := { (wOn.put (Obj.inLimit 6 2) 1) with sw := { wOn.sw with entering := [{ port := 6, cls := 2, packet := .eth { dst := 1, etherType := 5 }, outs := [8] }], stored := [{ no := 0, offered := { port := 6, cls := 2, packet := .eth { dst := 1, etherType := 5 }, outs := [8] }, outs := [9], cells := 1, stored := 0 }], storedCount := 1 } };
        let o : Offered := { port := 6, cls := 2, packet := .eth { dst := 1, etherType := 5 }, outs := [8] };
        let r : List Offered := [];
        let p : Nat := 8;
        let f : EthFrame := { dst := 1, etherType := 5 };
        (s.rst.coreOn = true) ∧ (s.sw.entering = o :: r) ∧ (portInputs o.port o.cls = true) ∧ (s.obj (Obj.inLimit o.port o.cls) ≠ 0) ∧ (o.outs = [p]) ∧ (o.packet = .eth f) ∧ (s.obj Obj.tapDest = 0) ∧ (s.obj Obj.sampleRatio = 0) ∧ (5 < p) ∧ (p < 15) ∧ (s.obj (Obj.outLimit p o.cls) ≠ 0) ∧ (backPressure o.port = true) ∧ (s.cutsThrough o [p] = false) ∧ (s.obj (Obj.inLimit o.port o.cls) < s.inUsedNow o.port o.cls + packetCells o.packet)) ∧
    (let s : State := { wOn with time := 2 ^ 55, sw := { wOn.sw with held := [{ offered := { port := 6, cls := 2, packet := .eth { dst := 1, etherType := 5 }, outs := [8] }, since := 4 }], stored := [{ no := 0, offered := { port := 6, cls := 2, packet := .eth { dst := 1, etherType := 5 }, outs := [8] }, outs := [], busy := [8], cells := 0, stored := 0 }], storedCount := 1, sending := [(8, 0)] } };
        let port : Fin 16 := 6;
        let h : HeldFrame := { offered := { port := 6, cls := 2, packet := .eth { dst := 1, etherType := 5 }, outs := [8] }, since := 4 };
        let p : Nat := 8;
        let f : EthFrame := { dst := 1, etherType := 5 };
        (s.rst.coreOn = true) ∧ (s.heldHeads port.val = [h]) ∧ (h ∈ s.sw.held) ∧ (h.offered.port = port.val) ∧ (5 < port.val) ∧ (h.offered.cls < 4) ∧ (portInputs port.val h.offered.cls = true) ∧ (s.obj (Obj.inLimit port.val h.offered.cls) ≠ 0) ∧ (h.offered.outs = [p]) ∧ (h.offered.packet = .eth f) ∧ (5 < p) ∧ (p < 15) ∧ (s.obj Obj.tapDest = 0) ∧ (s.obj Obj.sampleRatio = 0) ∧ (s.cutsThrough h.offered [p] = false) ∧ (h.offered.engine = none) ∧ (s.inUsedNow port.val h.offered.cls + packetCells h.offered.packet ≤ s.obj (Obj.inLimit port.val h.offered.cls)) ∧ (packetCells h.offered.packet ≤ s.cellsFreeNow) ∧ (s.outUsedNow p h.offered.cls + packetCells h.offered.packet ≤ s.obj (Obj.outLimit p h.offered.cls))) ∧
    (let s : State := wOn;
        let port : Fin 16 := 6;
        (s.rst.coreOn = true) ∧ (s.heldHeads port.val = [])) ∧
    (let s : State := (wOn.put (Obj.ethMode 2) 1);
        let port : Fin 4 := 2;
        let frame : EthFrame := { fcsGood := false };
        (s.rst.coreOn = true) ∧ (s.obj (Obj.ethMode port.val) ≠ 0) ∧ (s.obj Obj.tapDest ≠ port.val + 1) ∧ (frame.fcsGood = false)) ∧
    (let s : State := (wOn.put (Obj.ethMode 2) 1);
        let port : Fin 4 := 2;
        let frame : EthFrame := { length := 60 };
        (s.rst.coreOn = true) ∧ (s.obj (Obj.ethMode port.val) ≠ 0) ∧ (s.obj Obj.tapDest ≠ port.val + 1) ∧ (frame.fcsGood = true) ∧ (frame.length < 64)) ∧
    (let s : State := (wOn.put (Obj.ethMode 2) 1);
        let port : Fin 4 := 2;
        let frame : EthFrame := { length := 1600 };
        (s.rst.coreOn = true) ∧ (s.obj (Obj.ethMode port.val) ≠ 0) ∧ (s.obj Obj.tapDest ≠ port.val + 1) ∧ (frame.fcsGood = true) ∧ (1536 < frame.length)) ∧
    (let s : State := (wOn.put (Obj.ethMode 2) 1);
        let port : Fin 4 := 2;
        let frame : EthFrame := { dst := 4, etherType := 9 };
        (s.rst.coreOn = true) ∧ (s.obj (Obj.ethMode port.val) ≠ 0) ∧ (s.obj Obj.tapDest ≠ port.val + 1) ∧ (frame.fcsGood = true) ∧ (64 ≤ frame.length) ∧ (frame.length ≤ 1536) ∧ (s.obj (Obj.redMode (port.val / 2)) = 0) ∧ (s.builtIn port.val frame = none) ∧ (s.flowMatch 1 (ethKey (port.val + 2) frame) = none)) ∧
    (let s : State := { ((wOn.put (Obj.ethMode 2) 1).put (Obj.redMode 1) 1) with sw := { wOn.sw with dup1 := [{ source := 6, seq := 3, made := 0, port := 3 }] } };
        let port : Fin 4 := 2;
        let frame : EthFrame := { src := 6, red := some (3, 10) };
        let seq : Nat := 3;
        (s.rst.coreOn = true) ∧ (s.obj (Obj.ethMode port.val) ≠ 0) ∧ (s.obj Obj.tapDest ≠ port.val + 1) ∧ (frame.fcsGood = true) ∧ (64 ≤ frame.length) ∧ (frame.length ≤ 1536) ∧ (s.obj (Obj.redMode (port.val / 2)) = 1) ∧ (frame.red = some (seq, if port.val % 2 = 0 then 10 else 11)) ∧ (s.isDup (port.val / 2) frame.src seq = true)) :=
  ⟨by decide, by decide, by decide, by decide, by decide, by decide, by decide, by decide, by decide, by decide⟩

theorem witness_SwitchOutputs :
    (let s : State := { (wOn.put Obj.maxResidence 0) with sw := { wOn.sw with stored := [{ no := 3, offered := { port := 0, cls := 0, packet := .ring { cls := 0, payload := [1] }, outs := [6] }, outs := [6], cells := 1, stored := 0 }] } };
        let port : Fin 16 := 6;
        let q : Stored := { no := 3, offered := { port := 0, cls := 0, packet := .ring { cls := 0, payload := [1] }, outs := [6] }, outs := [6], cells := 1, stored := 0 };
        let f : Frame := { cls := 0, payload := [1] };
        (s.rst.coreOn = true) ∧ (s.sw.sending = []) ∧ (s.sw.suspended = []) ∧ (s.sw.stored = [q]) ∧ (q.offered.packet = .ring f) ∧ (q.outs = [port.val]) ∧ (q.busy = []) ∧ (6 ≤ port.val) ∧ (port.val ≤ 14) ∧ (q.offered.cls = 0) ∧ (q.offered.port = 0) ∧ (s.sw.rounds = []) ∧ (s.sw.deficit = []) ∧ (s.sw.firstGroup = []) ∧ (s.obj Obj.maxResidence = 0) ∧ (s.obj Obj.mirrorOut = 0) ∧ (s.ring.marker = none) ∧ (f.payload.length ≤ 2048)) ∧
    (let s : State := { (wOn.put Obj.maxResidence 0) with sw := { wOn.sw with stored := [{ no := 3, offered := { port := 0, cls := 0, packet := .ring { cls := 0, payload := [1] }, outs := [6] }, outs := [6], cells := 1, stored := 0 }] } };
        let port : Fin 16 := 6;
        let t : State := (({ (wOn.put Obj.maxResidence 0) with sw := { wOn.sw with stored := [{ no := 3, offered := { port := 0, cls := 0, packet := .ring { cls := 0, payload := [1] }, outs := [6] }, outs := [6], cells := 1, stored := 0 }] } } : State).finish 6 |>.pickNext 6).1;
        let q : Stored := { no := 3, offered := { port := 0, cls := 0, packet := .ring { cls := 0, payload := [1] }, outs := [6] }, outs := [6], cells := 1, stored := 0 };
        (s.rst.coreOn = true) ∧ (s.suspendedOn port.val = none) ∧ (6 ≤ port.val) ∧ (port.val ≤ 14) ∧ ((s.finish port.val).pickNext port.val = (t, some q)) ∧ (s.obj Obj.maxResidence = 0 ∨ s.now ≤ q.stored + s.obj Obj.maxResidence * ms) ∧ (s.obj Obj.mirrorOut = 0) ∧ (s.ring.marker = none)) ∧
    (let s : State := { wOn with sw := { wOn.sw with dup0 := [{ source := 6, seq := 3, made := 0, port := 1 }] } };
        let pair : Fin 2 := 0;
        let e : DupEntry := { source := 6, seq := 3, made := 0, port := 1 };
        let r : List DupEntry := [];
        (s.rst.coreOn = true) ∧ (s.dups pair.val = e :: r)) ∧
    (let s : State := wOn.put (Obj.redMode 1) 1;
        let pair : Fin 2 := 1;
        (s.rst.coreOn = true) ∧ (s.obj (Obj.redMode pair.val) ≠ 0)) ∧
    (let s : State := wOn;
        let port : Fin 4 := 3;
        let up : Bool := true;
        let speed : Nat := 2;
        (s.rst.coreOn = true)) ∧
    (let s : State := wRun;
        let snd : Sender := wSnd;
        let value : Byte := 1;
        admitsB s snd.who (writeReq snd 0x2468 4 [value]) = true ∧ (value.toNat ≤ 1)) ∧
    (let s : State := wRun.put (Obj.flowCounter 7) 9;
        let snd : Sender := wSnd;
        admitsB s snd.who (writeReq snd 0x2440 65 [0]) = true) ∧
    (let s : State := (wRun.put 0x248302 5).put 0x264302 7;
        let snd : Sender := wSnd;
        let port : Fin 16 := 3;
        admitsB s snd.who (writeReq snd (0x2480 + port.val) 24 [0]) = true) ∧
    (let s : State := (wRun.put 0x248302 5).put 0x264302 7;
        let snd : Sender := wSnd;
        let port : Fin 4 := 3;
        admitsB s snd.who (writeReq snd (0x2640 + port.val) 8 [0]) = true) ∧
    (let s : State := (wRun.put 0x248302 5).put 0x264302 7;
        let snd : Sender := wSnd;
        let pair : Fin 2 := 1;
        admitsB s snd.who (writeReq snd (0x2618 + pair.val) 6 [0]) = true) :=
  ⟨by decide, by decide, by decide, by decide, by decide, by decide, by decide, by decide, by decide, by decide⟩

theorem witness_SessionSource :
    (let s : State := { (wOn.put Obj.windowC2 8) with acc := { wOn.acc with sessions := [{ role := 1, peer := 7, cls2 := true, incarnation := 3, waiting := [(4, { cls := 2, type := tyEvent, src := 5, dst := 7, tag := 9, commander := 1, address := mkAddr 7 0 0x62C000, payload := [1] }, .object .mailbox 9)] }] } };
        let peer : Fin 97 := 7;
        let class2 : Bool := true;
        let e : Session := { role := 1, peer := 7, cls2 := true, incarnation := 3, waiting := [(4, { cls := 2, type := tyEvent, src := 5, dst := 7, tag := 9, commander := 1, address := mkAddr 7 0 0x62C000, payload := [1] }, .object .mailbox 9)] };
        let no : Nat := 4;
        let f : Frame := { cls := 2, type := tyEvent, src := 5, dst := 7, tag := 9, commander := 1, address := mkAddr 7 0 0x62C000, payload := [1] };
        let i : Issuer := .object .mailbox 9;
        let r : List (Nat × Frame × Issuer) := [];
        (s.rst.coreOn = true) ∧ (s.outSession peer.val class2 = some e) ∧ (e.waiting = (no, f, i) :: r) ∧ (s.issuedBefore no f i = false) ∧ (e.state ≠ 0) ∧ (f.type ≠ tyWrite) ∧ (seqSub e.next e.acked ≤ s.window class2) ∧ (seqSub e.next e.exec ≤ 256) ∧ (s.copyRoom f = true)) ∧
    (let s : State := { wOn with acc := { wOn.acc with sessions := [{ role := 1, peer := 7, cls2 := true, incarnation := 3, next := 2, copies := [{ seq := 1, frame := { cls := 2, type := tyEvent, src := 5, dst := 7, tag := 9, commander := 1, address := mkAddr 7 0 0x62C000, payload := [1] }, issuer := .object .mailbox 9, nonPosted := false, sentAt := 6 }] }] } };
        let peer : Fin 97 := 7;
        let class2 : Bool := true;
        let e : Session := { role := 1, peer := 7, cls2 := true, incarnation := 3, next := 2, copies := [{ seq := 1, frame := { cls := 2, type := tyEvent, src := 5, dst := 7, tag := 9, commander := 1, address := mkAddr 7 0 0x62C000, payload := [1] }, issuer := .object .mailbox 9, nonPosted := false, sentAt := 6 }] };
        let c : SentCopy := { seq := 1, frame := { cls := 2, type := tyEvent, src := 5, dst := 7, tag := 9, commander := 1, address := mkAddr 7 0 0x62C000, payload := [1] }, issuer := .object .mailbox 9, nonPosted := false, sentAt := 6 };
        let l : List SentCopy := [{ seq := 1, frame := { cls := 2, type := tyEvent, src := 5, dst := 7, tag := 9, commander := 1, address := mkAddr 7 0 0x62C000, payload := [1] }, issuer := .object .mailbox 9, nonPosted := false, sentAt := 6 }];
        (s.rst.coreOn = true) ∧ (s.outSession peer.val class2 = some e) ∧ (e.copies.find? (fun c => e.sentPast e.acked c.seq) = some c) ∧ (l = e.copies.filter (fun c => e.sentPast e.acked c.seq))) ∧
    (let s : State := { wOn with acc := { wOn.acc with sessions := [{ role := 1, peer := 7, cls2 := true, incarnation := 3, next := 2, acked := 1, copies := [{ seq := 1, frame := { cls := 2, type := tyEvent, src := 5, dst := 7, tag := 9, commander := 1, address := mkAddr 7 0 0x62C000, payload := [1] }, issuer := .object .mailbox 9, nonPosted := true, sentAt := 6 }] }] } };
        let peer : Fin 97 := 7;
        let seq : BitVec 32 := 1;
        let e : Session := { role := 1, peer := 7, cls2 := true, incarnation := 3, next := 2, acked := 1, copies := [{ seq := 1, frame := { cls := 2, type := tyEvent, src := 5, dst := 7, tag := 9, commander := 1, address := mkAddr 7 0 0x62C000, payload := [1] }, issuer := .object .mailbox 9, nonPosted := true, sentAt := 6 }] };
        let c : SentCopy := { seq := 1, frame := { cls := 2, type := tyEvent, src := 5, dst := 7, tag := 9, commander := 1, address := mkAddr 7 0 0x62C000, payload := [1] }, issuer := .object .mailbox 9, nonPosted := true, sentAt := 6 };
        let l : List SentCopy := [{ seq := 1, frame := { cls := 2, type := tyEvent, src := 5, dst := 7, tag := 9, commander := 1, address := mkAddr 7 0 0x62C000, payload := [1] }, issuer := .object .mailbox 9, nonPosted := true, sentAt := 6 }];
        (s.rst.coreOn = true) ∧ (s.outSession peer.val true = some e) ∧ (e.copies.find? (fun c => c.seq == seq.toNat && c.nonPosted && !c.execAcked && !e.sentPast e.acked c.seq) = some c) ∧ (l = e.copies.filter (fun c => c.seq == seq.toNat))) ∧
    (let s : State := { wOn with acc := { wOn.acc with sessions := [{ role := 1, peer := 7, cls2 := true, incarnation := 3, next := 2, copies := [{ seq := 1, frame := { cls := 2, type := tyEvent, src := 5, dst := 7, tag := 9, commander := 1, address := mkAddr 7 0 0x62C000, payload := [1] }, issuer := .object .mailbox 9, nonPosted := false, sentAt := 6 }] }] } };
        let frame : Frame := { cls := 2, type := tyAck, src := 7, dst := 5, session := sessionField true 3, seq := 1 };
        let e : Session := { role := 1, peer := 7, cls2 := true, incarnation := 3, next := 2, copies := [{ seq := 1, frame := { cls := 2, type := tyEvent, src := 5, dst := 7, tag := 9, commander := 1, address := mkAddr 7 0 0x62C000, payload := [1] }, issuer := .object .mailbox 9, nonPosted := false, sentAt := 6 }] };
        let c : SentCopy := { seq := 1, frame := { cls := 2, type := tyEvent, src := 5, dst := 7, tag := 9, commander := 1, address := mkAddr 7 0 0x62C000, payload := [1] }, issuer := .object .mailbox 9, nonPosted := false, sentAt := 6 };
        (s.rst.coreOn = true) ∧ (s.sw.inbox = []) ∧ (frame.session.testBit 14 = false) ∧ (s.outSession frame.src (frame.session.testBit 15) = some e) ∧ (e.state ≠ 0) ∧ (e.incarnation = frame.session % 2 ^ 14) ∧ (frame.status = stDone) ∧ (e.sentPast e.acked frame.seq = true) ∧ (e.copies = [c]) ∧ (c.seq = frame.seq) ∧ (c.nonPosted = false) ∧ (c.completed = false) ∧ (c.frame.type = tyEvent)) :=
  ⟨by decide, by decide, by decide, by decide⟩

theorem witness_SessionDestination :
    (let s : State := { wOn with acc := { wOn.acc with sessions := [{ role := 2, peer := 7, cls2 := true, incarnation := 3, ring := 4, openSeq := 1 }], mram0 := { inService := true }, mram1 := { inService := true } } };
        let frame : Frame := { cls := 2, type := tyLateErr, src := 7, dst := 5, session := sessionField true 3, seq := 1, payload := [0, 0] ++ List.replicate 22 2 };
        let e : Session := { role := 2, peer := 7, cls2 := true, incarnation := 3, ring := 4, openSeq := 1 };
        (s.rst.coreOn = true) ∧ (s.sw.inbox = []) ∧ (badSessionFrame frame = false) ∧ (isWork frame = true) ∧ (s.inSession frame.src (frame.cls == 2) = some e) ∧ (e.incarnation = frame.session % 2 ^ 14) ∧ (frame.seq = e.next) ∧ (s.takesNoWork = false) ∧ (s.mramsUp ≠ []) ∧ (s.acceptRefusal frame = none)) ∧
    (let s : State := wOn;
        let frame : Frame := { cls := 2, type := tyEvent, src := 7, dst := 5 };
        (s.rst.coreOn = true) ∧ (badSessionFrame frame = true)) ∧
    (let s : State := { wOn with acc := { wOn.acc with sessions := [{ role := 2, peer := 7, cls2 := true, incarnation := 3, ring := 4, openSeq := 1, next := 2, work := [{ record := { seq := 1, session := sessionField true 3, src := 7, type := tyEvent, state := 1, posted := false, commander := 1, length := 1, address := 0, payloadCrc := 0, tag := 0 }, frame := some { cls := 2, type := tyEvent, src := 7, dst := 5, session := sessionField true 3, seq := 1, address := mkAddr 5 0 0x300014 } }] }], writes := [{ ring := 4, record := { seq := 1, session := sessionField true 3, src := 7, type := tyEvent, state := 1, posted := false, commander := 1, length := 1, address := 0, payloadCrc := 0, tag := 0 }, acceptance := true }], mram0 := { inService := true }, mram1 := { inService := true } } };
        let ns : Nat := 700;
        let t : State := (({ wOn with acc := { wOn.acc with sessions := [{ role := 2, peer := 7, cls2 := true, incarnation := 3, ring := 4, openSeq := 1, next := 2, work := [{ record := { seq := 1, session := sessionField true 3, src := 7, type := tyEvent, state := 1, posted := false, commander := 1, length := 1, address := 0, payloadCrc := 0, tag := 0 }, frame := some { cls := 2, type := tyEvent, src := 7, dst := 5, session := sessionField true 3, seq := 1, address := mkAddr 5 0 0x300014 } }] }], writes := [{ ring := 4, record := { seq := 1, session := sessionField true 3, src := 7, type := tyEvent, state := 1, posted := false, commander := 1, length := 1, address := 0, payloadCrc := 0, tag := 0 }, acceptance := true }], mram0 := { inService := true }, mram1 := { inService := true } } } : State).writeEnds 700).elim wOn (·.1);
        let w : JWrite := ({ ({ ring := 4, record := { seq := 1, session := sessionField true 3, src := 7, type := tyEvent, state := 1, posted := false, commander := 1, length := 1, address := 0, payloadCrc := 0, tag := 0 }, acceptance := true } : JWrite) with start := some 0 });
        let e : Session := { role := 2, peer := 7, cls2 := true, incarnation := 3, ring := 4, openSeq := 1, next := 2, work := [{ record := { seq := 1, session := sessionField true 3, src := 7, type := tyEvent, state := 1, posted := false, commander := 1, length := 1, address := 0, payloadCrc := 0, tag := 0 }, frame := some { cls := 2, type := tyEvent, src := 7, dst := 5, session := sessionField true 3, seq := 1, address := mkAddr 5 0 0x300014 } }] };
        let x : Work := { record := { seq := 1, session := sessionField true 3, src := 7, type := tyEvent, state := 1, posted := false, commander := 1, length := 1, address := 0, payloadCrc := 0, tag := 0 }, frame := some { cls := 2, type := tyEvent, src := 7, dst := 5, session := sessionField true 3, seq := 1, address := mkAddr 5 0 0x300014 } };
        let f : Frame := { cls := 2, type := tyEvent, src := 7, dst := 5, session := sessionField true 3, seq := 1, address := mkAddr 5 0 0x300014 };
        (s.rst.coreOn = true) ∧ (s.writeEnds ns = some (t, w)) ∧ (w.acceptance = true) ∧ (w.record.state = 1) ∧ (s.mramsUp ≠ []) ∧ (s.entryOf w = some e) ∧ (e.work.find? (fun x => x.record.seq == w.record.seq) = some x) ∧ (x.frame = some f) ∧ (releasePort f = none)) ∧
    (let s : State := { wOn with acc := { wOn.acc with writes := [{ ring := 4, record := { seq := 1, session := sessionField true 3, src := 7, type := tyEvent, state := 1, posted := false, commander := 1, length := 1, address := 0, payloadCrc := 0, tag := 0 }, acceptance := false }], mram0 := { inService := true }, mram1 := { inService := true } } };
        let first0 : Bool := false;
        let first1 : Bool := true;
        let again0 : Bool := true;
        let again1 : Bool := true;
        let w : JWrite := { ring := 4, record := { seq := 1, session := sessionField true 3, src := 7, type := tyEvent, state := 1, posted := false, commander := 1, length := 1, address := 0, payloadCrc := 0, tag := 0 }, acceptance := false };
        (s.rst.coreOn = true) ∧ (s.acc.writes = [w]) ∧ (w.acceptance = false) ∧ (s.mramsUp = [0, 1]) ∧ (first0 = false) ∧ (again0 = true) ∧ (first1 = true) ∧ (s.vgOpen = [])) ∧
    (let s : State := { wOn with acc := { wOn.acc with writes := [{ ring := 4, record := { seq := 1, session := sessionField true 3, src := 7, type := tyEvent, state := 1, posted := false, commander := 1, length := 1, address := 0, payloadCrc := 0, tag := 0 }, acceptance := false }], mram0 := { inService := true }, mram1 := { inService := true } } };
        let first0 : Bool := false;
        let first1 : Bool := true;
        let again0 : Bool := false;
        let again1 : Bool := false;
        let w : JWrite := { ring := 4, record := { seq := 1, session := sessionField true 3, src := 7, type := tyEvent, state := 1, posted := false, commander := 1, length := 1, address := 0, payloadCrc := 0, tag := 0 }, acceptance := false };
        (s.rst.coreOn = true) ∧ (s.acc.writes = [w]) ∧ (w.acceptance = false) ∧ (s.mramsUp = [0, 1]) ∧ (first0 = false) ∧ (again0 = false) ∧ (first1 = true)) ∧
    (let s : State := { wOn with acc := { wOn.acc with sessions := [{ role := 2, peer := 7, cls2 := true, incarnation := 3, ring := 4, openSeq := 1, next := 2, work := [{ record := { seq := 1, session := sessionField true 3, src := 7, type := tyLateErr, state := 1, posted := false, commander := 1, length := 1, address := 0, payloadCrc := 0, tag := 0 }, frame := some { cls := 2, type := tyLateErr, src := 7, dst := 5, session := sessionField true 3, seq := 1, payload := [0, 0] ++ List.replicate 22 2 }, stands := true }] }] } };
        let peer : Fin 97 := 7;
        let class2 : Bool := true;
        let e : Session := { role := 2, peer := 7, cls2 := true, incarnation := 3, ring := 4, openSeq := 1, next := 2, work := [{ record := { seq := 1, session := sessionField true 3, src := 7, type := tyLateErr, state := 1, posted := false, commander := 1, length := 1, address := 0, payloadCrc := 0, tag := 0 }, frame := some { cls := 2, type := tyLateErr, src := 7, dst := 5, session := sessionField true 3, seq := 1, payload := [0, 0] ++ List.replicate 22 2 }, stands := true }] };
        let w : Work := { record := { seq := 1, session := sessionField true 3, src := 7, type := tyLateErr, state := 1, posted := false, commander := 1, length := 1, address := 0, payloadCrc := 0, tag := 0 }, frame := some { cls := 2, type := tyLateErr, src := 7, dst := 5, session := sessionField true 3, seq := 1, payload := [0, 0] ++ List.replicate 22 2 }, stands := true };
        let f : Frame := { cls := 2, type := tyLateErr, src := 7, dst := 5, session := sessionField true 3, seq := 1, payload := [0, 0] ++ List.replicate 22 2 };
        (s.rst.coreOn = true) ∧ (s.acc.sessions = [e]) ∧ (e.work = [w]) ∧ (e.role = 2) ∧ (e.peer = peer.val) ∧ (e.state ≠ 4) ∧ (e.exec ≠ seqPrev e.next) ∧ (w.record.seq = seqNext e.exec) ∧ (w.record.seq ≠ e.next) ∧ (w.record.state = 1) ∧ (w.stands = true) ∧ (e.cls2 = class2) ∧ (w.released = false) ∧ (w.recovered = false) ∧ (w.frame = some f) ∧ (f.type = tyLateErr) ∧ (lateErrorGood f.payload = true) ∧ (w.record.type = tyLateErr) ∧ (peer.val ≠ s.ownId) ∧ (s.quiet = false) ∧ (s.sw.inbox = []) ∧ (s.inSwitch f = false) ∧ (s.acc.leq.length < 256) ∧ ((lateErrorOf f.payload).cls ≠ 3)) ∧
    (let s : State := { wOn with acc := { wOn.acc with sessions := [{ role := 2, peer := 7, cls2 := true, incarnation := 3, ring := 4, openSeq := 1, next := 2, work := [{ record := { seq := 1, session := sessionField true 3, src := 7, type := tyEvent, state := 1, posted := false, commander := 1, length := 1, address := 0, payloadCrc := 0, tag := 0 }, recovered := true, stands := true }] }] } };
        let l : List Session := [{ role := 2, peer := 7, cls2 := true, incarnation := 3, ring := 4, openSeq := 1, next := 2, work := [{ record := { seq := 1, session := sessionField true 3, src := 7, type := tyEvent, state := 1, posted := false, commander := 1, length := 1, address := 0, payloadCrc := 0, tag := 0 }, recovered := true, stands := true }] }];
        (s.rst.coreOn = true) ∧ (s.onRing = true) ∧ (s.ownId ≠ 0) ∧ (l = s.acc.sessions.filter (fun e => e.role == 2 && e.state ≠ 4 && e.awaiting))) ∧
    (let s : State := { wOn with acc := { wOn.acc with sessions := [{ role := 2, peer := 7, cls2 := true, incarnation := 3, ring := 4, openSeq := 1, next := 2, work := [{ record := { seq := 1, session := sessionField true 3, src := 7, type := tyEvent, state := 1, posted := false, commander := 1, length := 1, address := 0, payloadCrc := 0, tag := 0 }, recovered := true, stands := true }] }] } };
        let peer : Fin 97 := 7;
        let class2 : Bool := true;
        let l : List Session := [{ role := 2, peer := 7, cls2 := true, incarnation := 3, ring := 4, openSeq := 1, next := 2, work := [{ record := { seq := 1, session := sessionField true 3, src := 7, type := tyEvent, state := 1, posted := false, commander := 1, length := 1, address := 0, payloadCrc := 0, tag := 0 }, recovered := true, stands := true }] }];
        let e : Session := { role := 2, peer := 7, cls2 := true, incarnation := 3, ring := 4, openSeq := 1, next := 2, work := [{ record := { seq := 1, session := sessionField true 3, src := 7, type := tyEvent, state := 1, posted := false, commander := 1, length := 1, address := 0, payloadCrc := 0, tag := 0 }, recovered := true, stands := true }] };
        let r : List Session := [];
        (s.rst.coreOn = true) ∧ (l = s.acc.sessions.filter (fun e => e.role == 2 && e.peer == peer.val && e.cls2 == class2 && e.state ≠ 4 && e.awaiting)) ∧ (l = e :: r)) ∧
    (let s : State := { wOn with acc := { wOn.acc with sessions := [{ role := 2, peer := 7, cls2 := true, incarnation := 3, ring := 4, openSeq := 1, next := 2, work := [{ record := { seq := 1, session := sessionField true 3, src := 7, type := tyObjectReq, state := 1, posted := false, commander := 1, length := 1, address := 0, payloadCrc := 0, tag := 0 }, frame := some { cls := 2, type := tyObjectReq, src := 7, dst := 5, payload := [2, 1, 0, 0, 0x00, 0x30, 0x14, 0, 0, 0, 0, 0, 0, 0, 0, 0] }, stands := true, recovered := true }] }] } };
        let peer : Fin 97 := 7;
        let class2 : Bool := true;
        let e : Session := { role := 2, peer := 7, cls2 := true, incarnation := 3, ring := 4, openSeq := 1, next := 2, work := [{ record := { seq := 1, session := sessionField true 3, src := 7, type := tyObjectReq, state := 1, posted := false, commander := 1, length := 1, address := 0, payloadCrc := 0, tag := 0 }, frame := some { cls := 2, type := tyObjectReq, src := 7, dst := 5, payload := [2, 1, 0, 0, 0x00, 0x30, 0x14, 0, 0, 0, 0, 0, 0, 0, 0, 0] }, stands := true, recovered := true }] };
        let w : Work := { record := { seq := 1, session := sessionField true 3, src := 7, type := tyObjectReq, state := 1, posted := false, commander := 1, length := 1, address := 0, payloadCrc := 0, tag := 0 }, frame := some { cls := 2, type := tyObjectReq, src := 7, dst := 5, payload := [2, 1, 0, 0, 0x00, 0x30, 0x14, 0, 0, 0, 0, 0, 0, 0, 0, 0] }, stands := true, recovered := true };
        let f : Frame := { cls := 2, type := tyObjectReq, src := 7, dst := 5, payload := [2, 1, 0, 0, 0x00, 0x30, 0x14, 0, 0, 0, 0, 0, 0, 0, 0, 0] };
        (s.rst.coreOn = true) ∧ (s.acc.sessions = [e]) ∧ (e.work = [w]) ∧ (e.role = 2) ∧ (e.peer = peer.val) ∧ (e.state ≠ 4) ∧ (e.exec ≠ seqPrev e.next) ∧ (w.record.seq = seqNext e.exec) ∧ (w.record.seq ≠ e.next) ∧ (w.record.state = 1) ∧ (w.stands = true) ∧ (e.cls2 = class2) ∧ (w.released = false) ∧ (w.recovered = true) ∧ (w.frame = some f) ∧ (drivesOutput f = true) ∧ (s.serving = false) ∧ (w.record.type = tyObjectReq)) ∧
    (let s : State := { wOn with acc := { wOn.acc with sessions := [{ role := 2, peer := 7, cls2 := true, incarnation := 3, ring := 4, openSeq := 1, next := 2, work := [{ record := { seq := 1, session := sessionField true 3, src := 7, type := tyWrite, state := 1, posted := false, commander := 1, length := 0, address := 0, payloadCrc := 0, tag := 0 }, released := true, stands := true }] }] } };
        let peer : Fin 97 := 7;
        let e : Session := { role := 2, peer := 7, cls2 := true, incarnation := 3, ring := 4, openSeq := 1, next := 2, work := [{ record := { seq := 1, session := sessionField true 3, src := 7, type := tyWrite, state := 1, posted := false, commander := 1, length := 0, address := 0, payloadCrc := 0, tag := 0 }, released := true, stands := true }] };
        let w : Work := { record := { seq := 1, session := sessionField true 3, src := 7, type := tyWrite, state := 1, posted := false, commander := 1, length := 0, address := 0, payloadCrc := 0, tag := 0 }, released := true, stands := true };
        (s.rst.coreOn = true) ∧ (s.acc.sessions = [e]) ∧ (e.work = [w]) ∧ (e.role = 2) ∧ (e.peer = peer.val) ∧ (e.state ≠ 4) ∧ (e.exec ≠ seqPrev e.next) ∧ (w.record.seq = seqNext e.exec) ∧ (w.record.seq ≠ e.next) ∧ (w.record.state = 1) ∧ (w.stands = true) ∧ (e.cls2 = true) ∧ (w.released = true) ∧ (w.record.type = tyWrite) ∧ (w.record.length = 0)) ∧
    (let s : State := { wRun with acc := { wOn.acc with leq := [{ time := 1, address := 2, seq := 3, tag := 4, status := 5, node := 6, type := 7, cls := 2, isLocal := false }, { time := 2, address := 2, seq := 3, tag := 4, status := 5, node := 6, type := 7, cls := 2, isLocal := false }] } };
        let snd : Sender := wSnd;
        let l : LateError := { time := 1, address := 2, seq := 3, tag := 4, status := 5, node := 6, type := 7, cls := 2, isLocal := false };
        let q : List LateError := [{ time := 2, address := 2, seq := 3, tag := 4, status := 5, node := 6, type := 7, cls := 2, isLocal := false }];
        admitsB s snd.who (writeReq snd 0x2880 3 [1]) = true ∧ (s.acc.leq = l :: q) ∧ (q ≠ [])) ∧
    (let s : State := wRun.put 0x280003 4;
        let snd : Sender := wSnd;
        admitsB s snd.who (writeReq snd 0x2800 8 [0]) = true) ∧
    (let s : State := wRun.put Obj.badSession 4;
        let snd : Sender := wSnd;
        admitsB s snd.who (writeReq snd 0x28D0 10 [0]) = true) :=
  ⟨by decide, by decide, by decide, by decide, by decide, by decide, by decide, by decide, by decide, by decide, by decide, by decide, by decide⟩

theorem witness_Membership :
    (let s : State := { (wOn.put Obj.coordinator 5) with acc := { wOn.acc with absent := [(7, 4)] } };
        let node : Fin 97 := 7;
        let since : Nat := 4;
        (s.rst.coreOn = true) ∧ (s.acc.absent = [(node.val, since)]) ∧ (s.isCoordinator = true) ∧ (s.acc.census = none)) ∧
    (let s : State := wOn;
        let notice : Notice := { kind := 7, origin := 9, u := 8, d := 9, time := 4000, seq := 3 };
        (s.rst.coreOn = true) ∧ (s.ring.outFault = false) ∧ (s.hasSeen notice = false) ∧ (s.acc.census = none) ∧ (s.onRing = true) ∧ (s.acc.joining = false) ∧ (s.acc.unweld = none)) ∧
    (let s : State := { wOn with acc := { wOn.acc with census := some { origin := 5, seq := 3, time := 4 } } };
        let notice : Notice := { kind := 11, origin := 9, u := 8, d := 9, time := 4000, seq := 3 };
        let c : Census := { origin := 5, seq := 3, time := 4 };
        (s.rst.coreOn = true) ∧ (s.ring.outFault = false) ∧ (s.acc.census = some c) ∧ (c.seq = notice.seq) ∧ (c.answers.any (fun a => a.identity == notice.time) = false)) ∧
    (let s : State := { (wOn.put Obj.ringState 2) with acc := { wOn.acc with members := [{ id := 5, identity := 0 }, { id := 7, identity := 2 }], census := some { origin := 5, seq := 3, time := 4, answers := [{ id := 5, identity := 0 }, { id := 7, identity := 2 }] } } };
        let c : Census := { origin := 5, seq := 3, time := 4, answers := [{ id := 5, identity := 0 }, { id := 7, identity := 2 }] };
        (s.rst.coreOn = true) ∧ (s.acc.census = some c) ∧ (s.acc.joining = false) ∧ (s.acc.unweld = none) ∧ (s.acc.leaving = none) ∧ (s.acc.absent = []) ∧ (s.wrapped = false) ∧ (s.ringState = 2) ∧ (newMembers s.acc.members c.answers = s.acc.members)) ∧
    (let s : State := ((((wOn.put Obj.effectiveId 0).put Obj.pathAState 5).put Obj.pathBState 5).put Obj.aOutState 5).put Obj.bOutState 5;
        (s.rst.coreOn = true) ∧ (s.ring.outFault = false) ∧ ((s.node = stLoading ∧ s.rst.loaded = true) ∨ (s.node ≠ stLoading ∧ s.ownId = 0)) ∧ (s.upSegment = true) ∧ (s.downSegment = true)) ∧
    (let s : State := ((wOn.put Obj.effectiveId 0).put Obj.pathBState 5).put Obj.aOutState 5;
        (s.rst.coreOn = true) ∧ (s.ring.outFault = false) ∧ ((s.node = stLoading ∧ s.rst.loaded = true) ∨ (s.node ≠ stLoading ∧ s.ownId = 0)) ∧ (s.upSegment ≠ s.downSegment)) ∧
    (let s : State := (wOn.put Obj.coordinator 5);
        let notice : Notice := { kind := 2, origin := 9, u := 8, d := 9, time := 4000, seq := 3 };
        (s.rst.coreOn = true) ∧ (s.hasSeen notice = false) ∧ (s.isCoordinator = true) ∧ (s.acc.census = none)) ∧
    (let s : State := wRun;
        let snd : Sender := wSnd;
        admitsB s snd.who (writeReq snd 0x28C0 1 [1]) = true ∧ (s.wrapActive = false) ∧ (s.ringState ≠ 3) ∧ (s.ringState ≠ 4) ∧ (s.acc.unweld = none) ∧ (s.ownId ≠ 0) ∧ (∀ e ∈ s.acc.sessions, e.role ≠ 2)) ∧
    (let s : State := { wOn with acc := { wOn.acc with unweld := some { start := 4 } } };
        let w : Unweld := { start := 4 };
        (s.rst.coreOn = true) ∧ (s.ring.outFault = false) ∧ (s.acc.unweld = some w) ∧ (w.requested = false) ∧ (s.isCoordinator = false) ∧ (s.ownId ≠ 0)) ∧
    (let s : State := wOn;
        let notice : Notice := { kind := 9, origin := 9, u := 8, d := 9, time := 4000, seq := 3 };
        (s.rst.coreOn = true) ∧ (s.ring.outFault = false) ∧ (s.hasSeen notice = false) ∧ (s.isCoordinator = false)) ∧
    (let s : State := (wOn.put Obj.coordinator 5);
        let notice : Notice := { kind := 9, origin := 9, u := 8, d := 9, time := 4000, seq := 3 };
        (s.rst.coreOn = true) ∧ (s.hasSeen notice = false) ∧ (s.isCoordinator = true) ∧ (s.acc.census = none)) ∧
    (let s : State := { ((wOn.put Obj.nodeState stLoading).put Obj.nodeId 5) with rst := { wOn.rst with loaded := true } };
        (s.rst.coreOn = true) ∧ (s.node = stLoading) ∧ (s.rst.loaded = true) ∧ (s.upSegment = false) ∧ (s.downSegment = false)) :=
  ⟨by decide, by decide, by decide, by decide, by decide, by decide, by decide, by decide, by decide, by decide, by decide, by decide⟩

theorem witness_CaptureFilters :
    (let s : State := { (((((wOn.put (Obj.cellMode 3) 1).put (Obj.bankVolt 0) 3).put (Obj.cellReaders 3) 1).put Obj.soeCapacity 100)) with fc := { wOn.fc with loaded := true, cells := [(3, { waiting := some (5000, true) })] } };
        let cell : Fin 320 := 3;
        let t0 : Nat := 5000;
        let l : Bool := true;
        (s.rst.coreOn = true) ∧ ((s.cell cell.val).waiting = some (t0, l)) ∧ ((s.cell cell.val).lastCross = none) ∧ ((s.cell cell.val).queue = []) ∧ (s.soeReads cell.val = true) ∧ (s.engineReads cell.val = false)) ∧
    (let s : State := { (((((wOn.put (Obj.cellMode 3) 1).put (Obj.bankVolt 0) 3).put (Obj.cellReaders 3) 1).put Obj.soeCapacity 100)) with fc := { wOn.fc with loaded := true, cells := [(3, { burst := some (5000, 9000, true) })] } };
        let cell : Fin 320 := 3;
        let first : Nat := 5000;
        let last : Nat := 9000;
        let l : Bool := true;
        (s.rst.coreOn = true) ∧ ((s.cell cell.val).burst = some (first, last, l)) ∧ (l ≠ (s.cell cell.val).lastLevel.getD (s.cell cell.val).burstFrom) ∧ ((s.cell cell.val).lastCross = none) ∧ ((s.cell cell.val).queue = []) ∧ (s.soeReads cell.val = true) ∧ (s.engineReads cell.val = false)) ∧
    (let s : State := { (((((wOn.put (Obj.cellMode 3) 1).put (Obj.bankVolt 0) 3).put (Obj.cellReaders 3) 1).put Obj.soeCapacity 100)) with fc := { wOn.fc with loaded := true, cells := [(3, { burst := some (5000, 9000, false) })] } };
        let cell : Fin 320 := 3;
        let first : Nat := 5000;
        let last : Nat := 9000;
        let l : Bool := false;
        (s.rst.coreOn = true) ∧ ((s.cell cell.val).burst = some (first, last, l)) ∧ (l = (s.cell cell.val).lastLevel.getD (s.cell cell.val).burstFrom)) ∧
    (let s : State := { ((((((wOn.put (Obj.cellMode 3) 1).put (Obj.bankVolt 0) 3).put (Obj.cellReaders 3) 1).put Obj.soeCapacity 100).put (Obj.chatterLimit 3) 5).put (Obj.cellState 3) 64) with fc := { wOn.fc with loaded := true, cells := [(3, { rawEdges := 2, second := 4 })] } };
        let cell : Fin 320 := 3;
        (s.rst.coreOn = true) ∧ (s.cellFlag cell.val csChatter = true) ∧ ((s.cell cell.val).rawEdges < s.obj (Obj.chatterLimit cell.val))) ∧
    (let s : State := { (((((wOn.put (Obj.cellMode 3) 1).put (Obj.bankVolt 0) 3).put (Obj.cellReaders 3) 1).put Obj.soeCapacity 100)) with fc := { wOn.fc with loaded := true, cells := [(3, { queue := [{ time := 77, level := true, notAgreed := false, notTraceable := false, edgeSeq := 6, soe := true }] })] } };
        let cell : Fin 320 := 3;
        let r : Capture := { time := 77, level := true, notAgreed := false, notTraceable := false, edgeSeq := 6, soe := true };
        (s.rst.coreOn = true) ∧ ((s.cell cell.val).queue = [r]) ∧ (r.soe = true) ∧ (r.engine = false) ∧ (s.fc.soe.queue.length < 4096)) ∧
    (let s : State := { ((((((wOn.put (Obj.cellMode 3) 1).put (Obj.bankVolt 0) 3).put (Obj.cellReaders 3) 1).put Obj.soeCapacity 100).put Obj.soeWritten 203).put Obj.soeBase 0x18400000) with fc := { wOn.fc with soe := { queue := [(3, 0x123456789ABCDEF0123456789ABCDEF)] } } };
        let cell : Nat := 3;
        let v : Nat := 0x123456789ABCDEF0123456789ABCDEF;
        let rest : List (Nat × Nat) := [];
        let a : Nat := 0x18400000 + 16 * 3;
        (s.rst.coreOn = true) ∧ (s.fc.soe.queue = (cell, v) :: rest) ∧ (s.obj Obj.soeCapacity ≠ 0) ∧ (s.obj Obj.soeFullMode = 0) ∧ (s.fc.soe.wasFull = false) ∧ (a = s.obj Obj.soeBase + 16 * (s.obj Obj.soeWritten % s.obj Obj.soeCapacity))) ∧
    (let s : State := ((wRun.put Obj.soeWritten 203).put Obj.soeCapacity 65536);
        let snd : Sender := wSnd;
        let value : BitVec 64 := 105;
        admitsB s snd.who (writeReq snd 0x3210 6 (leBytes 8 value.toNat)) = true ∧ (value.toNat ≤ s.obj Obj.soeWritten) ∧ (s.obj Obj.soeWritten ≤ value.toNat + s.obj Obj.soeCapacity)) ∧
    (let s : State := wRun.put (Obj.edges 3) 7;
        let snd : Sender := wSnd;
        let cell : Fin 320 := 3;
        admitsB s snd.who (writeReq snd (0x3000 + cell.val) 33 [0]) = true) :=
  ⟨by decide, by decide, by decide, by decide, by decide, by decide, by decide, by decide⟩

theorem witness_OutputCommands :
    (let s : State := ((wRun.put (Obj.cellMode 3) 2).put (Obj.cellOwner 3) 0xFF);
        let snd : Sender := wSnd;
        let cell : Fin 320 := 3;
        let instant : BitVec 64 := 0x9000000;
        let fraction : Byte := 64;
        admitsB s snd.who (writeReq snd (0x3000 + cell.val) 20 (outRecord instant.toNat fraction 0 0)) = true ∧ (s.cellRefusal cell.val (outRecord instant.toNat fraction 0 0) snd.commander none = none) ∧ ((s.cell cell.val).placements.length < 4) ∧ (s.now256 ≤ s.ballInstant cell.val (s.commandInstant (outRecord instant.toNat fraction 0 0) none))) ∧
    (let s : State := ((wRun.put (Obj.cellMode 3) 2).put (Obj.cellOwner 3) 0xFF);
        let snd : Sender := wSnd;
        let cell : Fin 320 := 3;
        let instant : BitVec 64 := 0x9000000;
        let fraction : Byte := 64;
        admitsB s snd.who (writeReq snd (0x3000 + cell.val) 20 (outRecord instant.toNat fraction 1 0)) = true ∧ (s.cellRefusal cell.val (outRecord instant.toNat fraction 1 0) snd.commander none = none) ∧ ((s.cell cell.val).placements.length < 4) ∧ (s.now256 ≤ s.ballInstant cell.val (s.commandInstant (outRecord instant.toNat fraction 1 0) none))) ∧
    (let s : State := ((wRun.put (Obj.cellMode 3) 2).put (Obj.cellOwner 3) 0xFF);
        let snd : Sender := wSnd;
        let cell : Fin 320 := 3;
        let instant : BitVec 64 := 0x9000000;
        let fraction : Byte := 64;
        let width : BitVec 32 := 700;
        admitsB s snd.who (writeReq snd (0x3000 + cell.val) 20 (outRecord instant.toNat fraction 2 width.toNat)) = true ∧ (s.cellRefusal cell.val (outRecord instant.toNat fraction 2 width.toNat) snd.commander none = none) ∧ ((s.cell cell.val).placements.length < 4) ∧ (s.now256 ≤ s.ballInstant cell.val (s.commandInstant (outRecord instant.toNat fraction 2 width.toNat) none))) ∧
    (let s : State := ((wRun.put (Obj.cellMode 3) 2).put (Obj.cellOwner 3) 0xFF);
        let snd : Sender := wSnd;
        let cell : Fin 320 := 3;
        let instant : BitVec 64 := 0x9000000;
        let fraction : Byte := 64;
        let width : BitVec 32 := 700;
        admitsB s snd.who (writeReq snd (0x3000 + cell.val) 20 (outRecord instant.toNat fraction 3 width.toNat)) = true ∧ (s.cellRefusal cell.val (outRecord instant.toNat fraction 3 width.toNat) snd.commander none = none) ∧ ((s.cell cell.val).placements.length < 4) ∧ (s.now256 ≤ s.ballInstant cell.val (s.commandInstant (outRecord instant.toNat fraction 3 width.toNat) none))) ∧
    (let s : State := ((wRun.put (Obj.cellMode 3) 2).put (Obj.cellOwner 3) 0xFF);
        let snd : Sender := wSnd;
        let cell : Fin 320 := 3;
        let instant : BitVec 64 := 0x9000000;
        let fraction : Byte := 64;
        admitsB s snd.who (writeReq snd (0x3000 + cell.val) 20 (outRecord instant.toNat fraction 4 0)) = true ∧ (s.cellRefusal cell.val (outRecord instant.toNat fraction 4 0) snd.commander none = none) ∧ ((s.cell cell.val).placements.length < 4) ∧ (s.now256 ≤ s.ballInstant cell.val (s.commandInstant (outRecord instant.toNat fraction 4 0) none))) ∧
    (let s : State := { (((wRun.put (Obj.cellMode 3) 2).put (Obj.cellOwner 3) 0xFF)) with fc := { wOn.fc with loaded := true, cells := [(3, { placements := [{ action := 1, ball := 9999999, commander := 1, origin := .object }] })] } };
        let snd : Sender := wSnd;
        let cell : Fin 320 := 3;
        let instant : BitVec 64 := 0;
        let fraction : Byte := 64;
        let p : Placement := { action := 1, ball := 9999999, commander := 1, origin := .object };
        admitsB s snd.who (writeReq snd (0x3000 + cell.val) 20 (outRecord instant.toNat fraction 5 0)) = true ∧ (s.cellRefusal cell.val (outRecord instant.toNat fraction 5 0) snd.commander none = none) ∧ ((s.cell cell.val).placements = [p]) ∧ (p.origin = .object)) ∧
    (let s : State := { (((wRun.put (Obj.cellMode 3) 2).put (Obj.cellOwner 3) 0xFF)) with fc := { wOn.fc with loaded := true, cells := [(3, { placements := [{ action := 1, ball := 999936, commander := 1, origin := .object }] })] } };
        let cell : Fin 320 := 3;
        let p : Placement := { action := 1, ball := 999936, commander := 1, origin := .object };
        (s.rst.coreOn = true) ∧ ((s.cell cell.val).placements = [p]) ∧ (p.trailing = none) ∧ (p.action < 2) ∧ (p.origin = .object) ∧ (p.commander = s.holderNow) ∧ (s.holderNow ≠ 0) ∧ (s.governed cell.val = false) ∧ (s.cellFlag cell.val csBankFault = false)) ∧
    (let s : State := { (((wRun.put (Obj.cellMode 3) 2).put (Obj.cellOwner 3) 0xFF)) with fc := { wOn.fc with loaded := true, cells := [(3, { driven := some true, ball := true, placements := [{ action := 2, ball := 99968, width := 512, commander := 1, origin := .object, trailing := some 100480 }] })] } };
        let cell : Fin 320 := 3;
        let p : Placement := { action := 2, ball := 99968, width := 512, commander := 1, origin := .object, trailing := some 100480 };
        let t : Nat := 100480;
        (s.rst.coreOn = true) ∧ ((s.cell cell.val).placements = [p]) ∧ (p.trailing = some t) ∧ (p.origin = .object) ∧ (p.cut = false) ∧ (s.governed cell.val = false) ∧ (s.cellFlag cell.val csBankFault = false)) :=
  ⟨by decide, by decide, by decide, by decide, by decide, by decide, by decide, by decide⟩

theorem witness_OutputsAndBanks :
    (let s : State := { (((wRun.put (Obj.cellMode 3) 2).put (Obj.cellOwner 3) 0xFF)) with fc := { wOn.fc with loaded := true, cells := [(3, { driven := some true, lastTransition := some 700 })] } };
        let cell : Fin 320 := 3;
        let l : Bool := true;
        (s.rst.coreOn = true) ∧ ((s.cell cell.val).driven = some l) ∧ (s.obj (Obj.cellMode cell.val) = 2) ∧ (s.cellFlag cell.val csMismatch = false) ∧ (s.levelNow cell.val = !l)) ∧
    (let s : State := { (((wRun.put (Obj.cellMode 3) 2).put (Obj.cellOwner 3) 0xFF).put (Obj.bankVolt 0) 0) with fc := { wOn.fc with loaded := true, cells := [(3, { driven := some true, ball := true })] } };
        let cell : Fin 320 := 3;
        let l : Bool := true;
        (s.rst.coreOn = true) ∧ ((s.cell cell.val).driven = some l) ∧ (s.obj (Obj.cellMode cell.val) = 2) ∧ (s.cellFlag cell.val csMismatch = false) ∧ (s.levelNow cell.val = l) ∧ (s.captures cell.val = false)) ∧
    (let s : State := { (((wRun.put (Obj.cellMode 3) 2).put (Obj.cellOwner 3) 0xFF).put (Obj.cellState 3) (2 ^ csMismatch)) with fc := { wOn.fc with loaded := true, cells := [(3, { driven := some true })] } };
        let cell : Fin 320 := 3;
        let l : Bool := true;
        (s.rst.coreOn = true) ∧ ((s.cell cell.val).driven = some l) ∧ (s.obj (Obj.cellMode cell.val) = 2) ∧ (s.cellFlag cell.val csMismatch = true)) ∧
    (let s : State := { (((wRun.put (Obj.cellMode 3) 2).put (Obj.cellOwner 3) 0xFF).put (Obj.bankVolt 0) 3) with fc := { wOn.fc with loaded := true, cells := [(3, { driven := some true, ball := true })] } };
        let bank : Fin 8 := 0;
        let mv : BitVec 16 := 2900;
        (s.rst.coreOn = true) ∧ (s.obj (Obj.bankVolt bank.val) ≠ 0) ∧ (s.obj (Obj.bankState bank.val) < 2) ∧ (s.inBand bank.val mv.toNat = false)) ∧
    (let s : State := wOn.put (Obj.bankState 2) 2;
        let bank : Fin 8 := 2;
        (s.rst.coreOn = true) ∧ (s.obj (Obj.bankState bank.val) = 2)) ∧
    (let s : State := { (((((wRun.put (Obj.cellMode 3) 2).put (Obj.cellOwner 3) 0xFF).put (Obj.bankVolt 0) 3).put (Obj.bankState 0) 2).put (Obj.cellState 3) 128) with fc := { wOn.fc with loaded := true, cells := [(3, { })] } };
        let bank : Fin 8 := 0;
        let mv : BitVec 16 := 3300;
        (s.rst.coreOn = true) ∧ (s.obj (Obj.bankState bank.val) = 2) ∧ (s.inBand bank.val mv.toNat = true) ∧ (s.now ≤ sparseGet (fun _ => 0) s.fc.bankSince bank.val + sec)) ∧
    (let s : State := { ((((wOn.put Obj.nodeState 4).put (Obj.cellMode 3) 2).put (Obj.cellOwner 3) 0xFF).put (Obj.holdPolicy 3) 0) with ring := { wOn.ring with sinceNoClaim := 100000 } };
        let cell : Fin 320 := 3;
        (s.rst.coreOn = true) ∧ (s.serving = true) ∧ (s.holding = false) ∧ (s.fabricOutput cell.val = true) ∧ (s.liveCommanders = []) ∧ (s.frozen = false) ∧ (s.obj (Obj.cellMissed cell.val) ≤ s.ring.sinceNoClaim) ∧ (s.obj (Obj.holdPolicy cell.val) = 0)) ∧
    (let s : State := { (((((wRun.put (Obj.cellMode 3) 2).put (Obj.cellOwner 3) 0xFF).put (Obj.drivePower 3) 500).put (Obj.eventBudget 3) 9)) with fc := { wOn.fc with loaded := true, cells := [(3, { driven := some (((((wRun.put (Obj.cellMode 3) 2).put (Obj.cellOwner 3) 0xFF).put (Obj.drivePower 3) 500).put (Obj.eventBudget 3) 9).activeLevel 3), eventPj := 10 ^ 10 })] } };
        let cell : Fin 320 := 3;
        let c : Cell := { driven := some (((((wRun.put (Obj.cellMode 3) 2).put (Obj.cellOwner 3) 0xFF).put (Obj.drivePower 3) 500).put (Obj.eventBudget 3) 9).activeLevel 3), eventPj := 10 ^ 10 };
        (s.rst.coreOn = true) ∧ (s.fc.cells = [(cell.val, c)]) ∧ (s.governed cell.val = true) ∧ (c.driven = some (s.activeLevel cell.val)) ∧ (s.cellFlag cell.val csBankFault = false) ∧ (s.obj (Obj.eventBudget cell.val) ≠ 0) ∧ (s.obj (Obj.eventBudget cell.val) * 1000 < c.eventPj / 1000)) ∧
    (let s : State := { ((((((wRun.put (Obj.cellMode 3) 2).put (Obj.cellOwner 3) 0xFF).put (Obj.drivePower 3) 500).put (Obj.eventBudget 3) 9).put (Obj.windowBudget 3) 4).put (Obj.windowLength 3) 1000) with fc := { wOn.fc with loaded := true, cells := [(3, { buckets := [(0, 10 ^ 10)] })] } };
        let cell : Fin 320 := 3;
        (s.rst.coreOn = true) ∧ (s.governed cell.val = true) ∧ ((s.cell cell.val).driven ≠ some (s.activeLevel cell.val))) ∧
    (let s : State := ((wRun.put (Obj.cellMode 3) 2).put (Obj.cellOwner 3) 0xFF).put (Obj.cellState 3) 0xFF;
        let snd : Sender := wSnd;
        let cell : Fin 320 := 3;
        admitsB s snd.who (writeReq snd (0x3000 + cell.val) 21 [1]) = true) :=
  ⟨by decide, by decide, by decide, by decide, by decide, by decide, by decide, by decide, by decide, by decide⟩

theorem witness_EngineClock :
    (let s : State := (wEng (wProg 0 0xFFF 0 8 [2 ^ 56, 0] [2 ^ 39] []) { running := true } {});
        let engine : Fin 64 := 4;
        let w : Nat := 2 ^ 39;
        let sw : Nat := 2 ^ 56;
        let t : State := (({ (wEng (wProg 0 0xFFF 0 8 [2 ^ 56, 0] [2 ^ 39] []) { running := true } {}) with time := (wEng (wProg 0 0xFFF 0 8 [2 ^ 56, 0] [2 ^ 39] []) { running := true } {}).time + 5 * 2 ^ 39 } : State).setEngine 4 { (wEng (wProg 0 0xFFF 0 8 [2 ^ 56, 0] [2 ^ 39] []) { running := true } {}).engine 4 with wake := false });
        (s.rst.coreOn = true) ∧ (s.engClocked engine.val = true) ∧ (sw = stateWord (s.prog engine.val) (s.obj (Obj.curState engine.val))) ∧ (t = ({ s with time := s.time + 5 * 2 ^ 39 } : State).setEngine engine.val { s.engine engine.val with wake := false }) ∧ (((List.range (bits sw 59 56)).map (fun i => slotWord (s.prog engine.val) (bits sw 40 32 + i))).find? (t.slotTrue engine.val) = some w) ∧ (bits w 35 32 = 0)) ∧
    (let s : State := (wEng (wProg 0 0xFFF 0 8 [2 ^ 56, 0] [2 ^ 39 + 2 ^ 32] [0x2C * 2 ^ 58 + 2 * 2 ^ 32]) { running := true } {});
        let engine : Fin 64 := 4;
        let w : Nat := 2 ^ 39 + 2 ^ 32;
        let sw : Nat := 2 ^ 56;
        let t : State := (({ (wEng (wProg 0 0xFFF 0 8 [2 ^ 56, 0] [2 ^ 39 + 2 ^ 32] [0x2C * 2 ^ 58 + 2 * 2 ^ 32]) { running := true } {}) with time := (wEng (wProg 0 0xFFF 0 8 [2 ^ 56, 0] [2 ^ 39 + 2 ^ 32] [0x2C * 2 ^ 58 + 2 * 2 ^ 32]) { running := true } {}).time + 5 * 2 ^ 39 } : State).setEngine 4 { (wEng (wProg 0 0xFFF 0 8 [2 ^ 56, 0] [2 ^ 39 + 2 ^ 32] [0x2C * 2 ^ 58 + 2 * 2 ^ 32]) { running := true } {}).engine 4 with wake := false });
        let x : Nat := 0x2C * 2 ^ 58 + 2 * 2 ^ 32;
        (s.rst.coreOn = true) ∧ (s.engClocked engine.val = true) ∧ (sw = stateWord (s.prog engine.val) (s.obj (Obj.curState engine.val))) ∧ (t = ({ s with time := s.time + 5 * 2 ^ 39 } : State).setEngine engine.val { s.engine engine.val with wake := false }) ∧ (((List.range (bits sw 59 56)).map (fun i => slotWord (s.prog engine.val) (bits sw 40 32 + i))).find? (t.slotTrue engine.val) = some w) ∧ (bits w 35 32 = 1) ∧ (x = actionWord (s.prog engine.val) (bits w 31 22)) ∧ (actOp x = 0x2C) ∧ (actBase x = 0) ∧ (actOffset x = 0)) ∧
    (let s : State := (wEng (wProg 0 0xFFF 0 8 [2 ^ 62, 0] [] []) { running := true } {});
        let engine : Fin 64 := 4;
        let sw : Nat := 2 ^ 62;
        (s.rst.coreOn = true) ∧ (s.engClocked engine.val = true) ∧ (sw = stateWord (s.prog engine.val) (s.obj (Obj.curState engine.val))) ∧ (bits sw 59 56 = 0) ∧ ((s.engine engine.val).queue = [])) ∧
    (let s : State := { ((((wEng (wProg 0 0xFFF 0 8 [2 ^ 62, 0] [] []) { running := true, queue := [(999936, 0x2 * 2 ^ 58 + 1 * 2 ^ 32)] } {}).put (Obj.cellOwner 3) 4).put (Obj.cellMode 3) 2).put (Obj.bankVolt 0) 3).putBlob (Obj.pinMap 4) (wMap [9, 3]) with fc := { wOn.fc with loaded := true } };
        let engine : Fin 64 := 4;
        let tm : Nat := 999936;
        let w : Nat := 0x2 * 2 ^ 58 + 1 * 2 ^ 32;
        let c : Nat := 3;
        (s.rst.coreOn = true) ∧ (s.engMay engine.val = true) ∧ ((s.engine engine.val).running = true) ∧ (s.obj (Obj.stallReason engine.val) = 0) ∧ ((s.engine engine.val).queue = [(tm, w)]) ∧ (actOp w = 2) ∧ (c = s.pinCell engine.val (actArg w)) ∧ (c < 320) ∧ (s.obj (Obj.cellMode c) = 2) ∧ (s.governed c = false) ∧ (s.cellFlag c csBankFault = false)) ∧
    (let s : State := (wEng (wProg 0 0xFFF 0 8 [2 ^ 62, 0] [] []) { running := true, tc0 := { time := 77000, armed := true }, tc1 := { time := 77000, armed := true } } {});
        let engine : Fin 64 := 4;
        let compare : Fin 2 := 1;
        let c : Compare := { time := 77000, armed := true };
        (s.rst.coreOn = true) ∧ (s.engMay engine.val = true) ∧ ((s.engine engine.val).running = true) ∧ (s.obj (Obj.stallReason engine.val) = 0) ∧ (c = (if compare.val = 0 then (s.engine engine.val).tc0 else (s.engine engine.val).tc1)) ∧ (c.armed = true) ∧ (c.fired = false)) ∧
    (let s : State := (wEng (wProg 0 0xFFF 0 8 [2 ^ 62, 0] [] []) { running := true, asleep := true, wake := true } {});
        let engine : Fin 64 := 4;
        (s.rst.coreOn = true) ∧ ((s.engine engine.val).running = true) ∧ ((s.engine engine.val).asleep = true) ∧ ((s.engine engine.val).wake = true)) ∧
    (let s : State := ((wEng (wProg 0 0xFFF 0 8 [2 ^ 62, 0] [] []) { running := true, stallEnded := true } { rx := [5] }).put (Obj.stallReason 4) 3);
        let engine : Fin 64 := 4;
        (s.rst.coreOn = true) ∧ (s.obj (Obj.stallReason engine.val) ≠ 0) ∧ ((s.engine engine.val).stallEnded = true)) ∧
    (let s : State := (((wEng (wProg 0 0xFFF 0 8 [2 ^ 62, 0] [] []) { running := true } {}).put (Obj.stallReason 4) 3).put (Obj.stallLimit 4) 60);
        let engine : Fin 64 := 4;
        (s.rst.coreOn = true) ∧ (s.obj (Obj.stallReason engine.val) ≠ 0) ∧ (s.obj (Obj.stallLimit engine.val) ≠ 0) ∧ ((s.engine engine.val).longCounted = false)) :=
  ⟨by decide, by decide, by decide, by decide, by decide, by decide, by decide, by decide⟩

theorem witness_Shifter :
    (let s : State := ((wEng (wProg 400 0xFFF 4 8 [0] [] []) { running := true, shift := some { start := 70000, left := 1, done := 7 } } {}).put (Obj.shOut 4) 0x81).put (Obj.shIn 4) 0x55;
        let engine : Fin 64 := 4;
        let sampled : BitVec 32 := 1;
        let h : Shift := { start := 70000, left := 1, done := 7 };
        (s.rst.coreOn = true) ∧ (s.engMay engine.val = true) ∧ ((s.engine engine.val).shift = some h) ∧ (h.left = 1) ∧ (h.stalled = false) ∧ (progAuto (s.prog engine.val) = false) ∧ (progMsb (s.prog engine.val) = true) ∧ (progOutPin (s.prog engine.val) = 15) ∧ (progClkPin (s.prog engine.val) = 15)) ∧
    (let s : State := ((wEng (wProg 400 0xFFF 12 8 [0] [] []) { running := true, shift := some { start := 70000, left := 9, done := 7 } } { rx := [0x1234] }).put (Obj.shOut 4) 0x81).put (Obj.shIn 4) 0x55;
        let engine : Fin 64 := 4;
        let sampled : BitVec 32 := 1;
        let h : Shift := { start := 70000, left := 9, done := 7 };
        let x : Nat := 0x1234;
        let r : List Nat := [];
        (s.rst.coreOn = true) ∧ (s.engMay engine.val = true) ∧ ((s.engine engine.val).shift = some h) ∧ (1 < h.left) ∧ (progWidth (s.prog engine.val) - h.done % progWidth (s.prog engine.val) = 1) ∧ (h.stalled = false) ∧ (progAuto (s.prog engine.val) = true) ∧ (progMsb (s.prog engine.val) = true) ∧ (progOutPin (s.prog engine.val) = 15) ∧ (progClkPin (s.prog engine.val) = 15) ∧ ((s.fifo engine.val).rx = x :: r) ∧ ((s.fifo engine.val).opened.length < 511) ∧ (1 ≤ (s.fifo engine.val).txCredit) ∧ (s.obj (Obj.txHwm engine.val) = 0) ∧ (s.obj (Obj.rxHwm engine.val) = 0) ∧ (s.obj (Obj.fifoFlags engine.val) % 4 = 0)) ∧
    (let s : State := ((wEng (wProg 400 0xFFF 12 8 [0] [] []) { running := true, shift := some { start := 70000, left := 0, done := 8, stalled := true } } {}).put (Obj.shIn 4) 0x55);
        let engine : Fin 64 := 4;
        let h : Shift := { start := 70000, left := 0, done := 8, stalled := true };
        (s.rst.coreOn = true) ∧ (s.engMay engine.val = true) ∧ ((s.engine engine.val).shift = some h) ∧ (h.left = 0) ∧ (h.stalled = true) ∧ (progAuto (s.prog engine.val) = true) ∧ ((s.fifo engine.val).opened.length < 511) ∧ (1 ≤ (s.fifo engine.val).txCredit) ∧ (s.obj (Obj.txHwm engine.val) = 0) ∧ (s.obj (Obj.rxHwm engine.val) = 0) ∧ (s.obj (Obj.fifoFlags engine.val) % 4 = 0)) ∧
    (let s : State := (wEng (wProg 400 0xFFF 12 8 [0] [] []) { running := true, shift := some { start := 70000, left := 8, done := 8, stalled := true } } { opened := List.replicate 512 1, closed := [{ words := List.replicate 512 1, closedAt := 0, commander := 0 }] });
        let engine : Fin 64 := 4;
        let h : Shift := { start := 70000, left := 8, done := 8, stalled := true };
        (s.rst.coreOn = true) ∧ (s.engMay engine.val = true) ∧ ((s.engine engine.val).shift = some h) ∧ (h.left ≠ 0) ∧ (h.stalled = true) ∧ (progAuto (s.prog engine.val) = true) ∧ ((s.fifo engine.val).txCredit < 1)) :=
  ⟨by decide, by decide, by decide, by decide⟩

theorem witness_EngineStartsAndSwaps :
    (let s : State := { (((((wEng (wProg 0 0xFFF 0 8 [2 ^ 56, 0] [2 ^ 39] []) {} {}).put (Obj.engFlags 4) 9).put (Obj.cellOwner 3) 4).put (Obj.cellMode 3) 2).put (Obj.bankVolt 0) 3).putBlob (Obj.pinMap 4) (wMap [9, 3]) with fc := { wOn.fc with loaded := true } };
        let engine : Fin 64 := 4;
        (s.rst.coreOn = true) ∧ (s.engMay engine.val = true) ∧ ((s.engine engine.val).running = false)) ∧
    (let s : State := { (((((wEng (wProg 0 0xFFF 0 8 [2 ^ 56, 0] [2 ^ 39] []) { running := true, queue := [(999936, 0x2 * 2 ^ 58 + 1 * 2 ^ 32)], shift := some { start := 7, left := 3 } } {}).put (Obj.runEnable 4) 0).put (Obj.cellOwner 3) 4).put (Obj.cellMode 3) 2).put (Obj.bankVolt 0) 3).putBlob (Obj.pinMap 4) (wMap [9, 3]) with fc := { wOn.fc with loaded := true } };
        let engine : Fin 64 := 4;
        (s.rst.coreOn = true) ∧ (s.engMay engine.val = false) ∧ ((s.engine engine.val).running = true) ∧ (s.swapArmed engine.val = false) ∧ (s.obj Obj.powerState ≠ 2)) ∧
    (let s : State := { (wEng (wProg 0 0xFFF 0 8 [2 ^ 56, 0] [2 ^ 39] []) {} {}) with dict := { wOn.dict with waiting := [(Obj.engProgram 4, (wProg 0 0xFFF 0 8 [2 ^ 62, 0] [] []))] } };
        let engine : Fin 64 := 4;
        let p : List Byte := (wProg 0 0xFFF 0 8 [2 ^ 62, 0] [] []);
        (s.rst.coreOn = true) ∧ (s.dict.waiting = [(Obj.engProgram engine.val, p)]) ∧ ((s.engine engine.val).running = false)) ∧
    (let s : State := { ({ ((((wEng (wProg 0 0xFFF 0 8 [2 ^ 56, 0] [2 ^ 39] []) { running := true, queue := [(999936, 0x2 * 2 ^ 58 + 1 * 2 ^ 32)], shift := some { start := 7, left := 3 } } {}).put (Obj.cellOwner 3) 4).put (Obj.cellMode 3) 2).put (Obj.bankVolt 0) 3).putBlob (Obj.pinMap 4) (wMap [9, 3]) with fc := { wOn.fc with loaded := true } } : State).put (Obj.swapMode 4) 1 with dict := { wOn.dict with waiting := [(Obj.engProgram 4, (wProg 0 0xFFF 0 8 [2 ^ 62, 0] [] []))] } };
        let engine : Fin 64 := 4;
        let p : List Byte := (wProg 0 0xFFF 0 8 [2 ^ 62, 0] [] []);
        (s.rst.coreOn = true) ∧ (s.dict.waiting = [(Obj.engProgram engine.val, p)]) ∧ (p ≠ []) ∧ ((s.engine engine.val).running = true) ∧ (s.obj (Obj.swapMode engine.val) = 1) ∧ (s.atMordant engine.val = false)) ∧
    (let s : State := { { ((((wEng (wProg 0 0xFFF 0 8 [2 ^ 56, 0] [2 ^ 39] []) { running := true, queue := [(999936, 0x2 * 2 ^ 58 + 1 * 2 ^ 32)], shift := some { start := 7, left := 3 } } {}).put (Obj.cellOwner 3) 4).put (Obj.cellMode 3) 2).put (Obj.bankVolt 0) 3).putBlob (Obj.pinMap 4) (wMap [9, 3]) with fc := { wOn.fc with loaded := true } } with dict := { wOn.dict with waiting := [(Obj.engProgram 4, (wProg 0 0xFFF 0 8 [2 ^ 62, 0] [] []))] } };
        let snd : Sender := wSnd;
        let engine : Fin 64 := 4;
        let p : List Byte := (wProg 0 0xFFF 0 8 [2 ^ 62, 0] [] []);
        admitsB s snd.who (writeReq snd (0x4100 + engine.val) 5 [1]) = true ∧ (s.dict.waiting = [(Obj.engProgram engine.val, p)]) ∧ (p ≠ []) ∧ ((s.engine engine.val).running = true)) ∧
    (let s : State := { ((((wEng (wProg 0 0xFFF 0 8 [2 ^ 56, 0] [2 ^ 39] []) { running := true, queue := [(999936, 0x2 * 2 ^ 58 + 1 * 2 ^ 32)], shift := some { start := 7, left := 3 } } {}).put (Obj.cellOwner 3) 4).put (Obj.cellMode 3) 2).put (Obj.bankVolt 0) 3).putBlob (Obj.pinMap 4) (wMap [9, 3]) with fc := { wOn.fc with loaded := true } };
        let snd : Sender := wSnd;
        let engine : Fin 64 := 4;
        admitsB s snd.who (writeReq snd (0x4100 + engine.val) 5 [2]) = true ∧ (s.engMay engine.val = true) ∧ ((s.fifo engine.val).opened = [])) ∧
    (let s : State := wRun.put (Obj.stalls 4) 3;
        let snd : Sender := wSnd;
        let engine : Fin 64 := 4;
        admitsB s snd.who (writeReq snd (0x4100 + engine.val) 28 [0]) = true) :=
  ⟨by decide, by decide, by decide, by decide, by decide, by decide, by decide⟩

theorem witness_EngineFifos :
    (let s : State := { ((wRun.put (Obj.txClass 4) 3).put (Obj.txDest 4) (mkAddr 7 3 0x100)) with eng := { engines := [], fifos := [(4, { closed := [{ words := [5, 6], closedAt := 4, commander := 1 }] })] } };
        let engine : Fin 64 := 4;
        let selfCheck : Fin 3 := 0;
        let m : TxMessage := { words := [5, 6], closedAt := 4, commander := 1 };
        let fr : Frame := ({ ((wRun.put (Obj.txClass 4) 3).put (Obj.txDest 4) (mkAddr 7 3 0x100)) with eng := { engines := [], fifos := [(4, { closed := [{ words := [5, 6], closedAt := 4, commander := 1 }] })] } } : State).txFrame 4 { words := [5, 6], closedAt := 4, commander := 1 };
        (s.rst.coreOn = true) ∧ (s.obj (Obj.txMode engine.val) = 0) ∧ ((s.fifo engine.val).closed = [m]) ∧ (m.offered = false) ∧ (s.streamOf 4 engine.val 0 = none) ∧ (fr = s.txFrame engine.val m) ∧ (fr.cls = 3) ∧ (fr.dst ≠ s.ownId) ∧ (s.reaches fr.dst = true) ∧ (s.obj (Obj.txHwm engine.val) = 0) ∧ (s.obj (Obj.rxHwm engine.val) = 0) ∧ (s.obj (Obj.fifoFlags engine.val) % 4 = 0)) ∧
    (let s : State := { (wRun.put (Obj.txMode 4) 1) with eng := { engines := [], fifos := [(4, { closed := [{ words := [5], closedAt := 4, commander := 1 }, { words := [5, 6], closedAt := 4, commander := 1 }] })] } };
        let snd : Sender := wSnd;
        let engine : Fin 64 := 4;
        let m : TxMessage := { words := [5], closedAt := 4, commander := 1 };
        let q : List TxMessage := [{ words := [5, 6], closedAt := 4, commander := 1 }];
        let w : Nat := 5;
        let v : Nat := 5 + 2 * 2 ^ 32 + 2 ^ 48 + 2 ^ 49;
        admitsB s snd.who (readReq snd (0x4200 + engine.val) 20) = true ∧ (s.obj (Obj.txMode engine.val) ≠ 0) ∧ ((s.fifo engine.val).closed = m :: q) ∧ (m.words = [w]) ∧ (v = w + sumOf (q.map (·.words.length)) * 2 ^ 32 + 2 ^ 48 + 2 ^ 49) ∧ (s.obj (Obj.txHwm engine.val) = 0) ∧ (s.obj (Obj.rxHwm engine.val) = 0) ∧ (s.obj (Obj.fifoFlags engine.val) % 4 = 0)) ∧
    (let s : State := { { wRun with sw := { wRun.sw with entering := [blockOffer (.window 3) { type := tyWrite, cls := 2, src := 5, dst := 5, address := mkAddr 5 4 0x400, payload := [1, 0, 0, 0] } 0 [portEngines] true] } } with eng := { engines := [], fifos := [(4, { requests := [{ source := .block (.window 3) { type := tyWrite, cls := 2, src := 5, dst := 5, address := mkAddr 5 4 0x400, payload := [1, 0, 0, 0] }, words := [1] }] })] } };
        let engine : Fin 64 := 4;
        let w : FifoWrite := { source := .block (.window 3) { type := tyWrite, cls := 2, src := 5, dst := 5, address := mkAddr 5 4 0x400, payload := [1, 0, 0, 0] }, words := [1] };
        let r : List FifoWrite := [];
        let t : Nat := 3;
        let fr : Frame := { type := tyWrite, cls := 2, src := 5, dst := 5, address := mkAddr 5 4 0x400, payload := [1, 0, 0, 0] };
        let o : Offered := blockOffer (.window 3) { type := tyWrite, cls := 2, src := 5, dst := 5, address := mkAddr 5 4 0x400, payload := [1, 0, 0, 0] } 0 [portEngines] true;
        let q : List Offered := [];
        (s.rst.coreOn = true) ∧ ((s.fifo engine.val).requests = w :: r) ∧ (w.source = .block (.window t) fr) ∧ (w.words.length ≤ (s.fifo engine.val).rxFree) ∧ (s.sw.held = []) ∧ (s.sw.entering = o :: q) ∧ (o.unreserved = true) ∧ (o.packet = .ring fr) ∧ (s.obj (Obj.txHwm engine.val) = 0) ∧ (s.obj (Obj.rxHwm engine.val) = 0) ∧ (s.obj (Obj.fifoFlags engine.val) % 4 = 0)) ∧
    (let s : State := { wRun with eng := { engines := [], fifos := [(4, { granted := [{ source := .block (.window 3) { type := tyWrite, cls := 2, src := 5, dst := 5, address := mkAddr 5 4 0x400, payload := [1, 0, 0, 0] }, words := [1] }] })] } };
        let engine : Fin 64 := 4;
        let w : FifoWrite := { source := .block (.window 3) { type := tyWrite, cls := 2, src := 5, dst := 5, address := mkAddr 5 4 0x400, payload := [1, 0, 0, 0] }, words := [1] };
        let r : List FifoWrite := [];
        let i : Issuer := .window 3;
        let fr : Frame := { type := tyWrite, cls := 2, src := 5, dst := 5, address := mkAddr 5 4 0x400, payload := [1, 0, 0, 0] };
        (s.rst.coreOn = true) ∧ ((s.fifo engine.val).granted = w :: r) ∧ (w.source = .block i fr) ∧ (s.inSwitch fr = false) ∧ (s.sw.inbox = []) ∧ (s.obj (Obj.txHwm engine.val) = 0) ∧ (s.obj (Obj.rxHwm engine.val) = 0) ∧ (s.obj (Obj.fifoFlags engine.val) % 4 = 0)) ∧
    (let s : State := { wRun with eng := { engines := [], fifos := [(4, { opened := [9], rx := [7, 8], closed := [{ words := [5, 6], closedAt := 4, commander := 1 }] })] } };
        let snd : Sender := wSnd;
        let engine : Fin 64 := 4;
        admitsB s snd.who (writeReq snd (0x4200 + engine.val) 21 [1]) = true ∧ (s.obj (Obj.txHwm engine.val) = 0) ∧ (s.obj (Obj.rxHwm engine.val) = 0) ∧ (s.obj (Obj.fifoFlags engine.val) % 4 = 0)) ∧
    (let s : State := { wRun with eng := { engines := [], fifos := [(4, { opened := [9], rx := [7, 8], closed := [{ words := [5, 6], closedAt := 4, commander := 1 }] })] } };
        let snd : Sender := wSnd;
        let engine : Fin 64 := 4;
        admitsB s snd.who (writeReq snd (0x4200 + engine.val) 21 [2]) = true ∧ ((s.fifo engine.val).opened ≠ []) ∧ (s.obj (Obj.txHwm engine.val) = 0) ∧ (s.obj (Obj.rxHwm engine.val) = 0) ∧ (s.obj (Obj.fifoFlags engine.val) % 4 = 0)) ∧
    (let s : State := { wRun with eng := { engines := [], fifos := [(4, { opened := [9], rx := [7, 8], closed := [{ words := [5, 6], closedAt := 4, commander := 1 }] })] } };
        let snd : Sender := wSnd;
        let engine : Fin 64 := 4;
        admitsB s snd.who (writeReq snd (0x4200 + engine.val) 21 [3]) = true ∧ ((s.fifo engine.val).opened ≠ []) ∧ (s.obj (Obj.txHwm engine.val) = 0) ∧ (s.obj (Obj.rxHwm engine.val) = 0) ∧ (s.obj (Obj.fifoFlags engine.val) % 4 = 0)) ∧
    (let s : State := wRun.put (Obj.txFails 4) 3;
        let snd : Sender := wSnd;
        let engine : Fin 64 := 4;
        admitsB s snd.who (writeReq snd (0x4200 + engine.val) 26 [0]) = true) :=
  ⟨by decide, by decide, by decide, by decide, by decide, by decide, by decide, by decide⟩

theorem witness_CanTransmit :
    (let s : State := ((wRun.put (Obj.busState 2) 2).put (Obj.canMode 2) 1);
        let snd : Sender := wSnd;
        let controller : Fin 16 := 2;
        let record : List Byte := (leBytes 16 (0x123 * 2 ^ 64 + 2 * 2 ^ 104) ++ [0xAA, 0xBB] ++ List.replicate 62 0);
        admitsB s snd.who (writeReq snd (0x5100 + controller.val) 20 record) = true ∧ (s.canRefusal controller.val record snd.commander none = none) ∧ (recTime record ≤ s.now) ∧ (s.canRoom controller.val (recUrgent record) = true)) ∧
    (let s : State := { (((wRun.put (Obj.busState 2) 2).put (Obj.canMode 2) 1)) with can := [(2, { schedule := [{ record := (leBytes 16 (0x123 * 2 ^ 64 + 2 * 2 ^ 104) ++ [0xAA, 0xBB] ++ List.replicate 62 0), time := 50, commander := 1, origin := .object }] })]  };
        let controller : Fin 16 := 2;
        let e : CanEntry := { record := (leBytes 16 (0x123 * 2 ^ 64 + 2 * 2 ^ 104) ++ [0xAA, 0xBB] ++ List.replicate 62 0), time := 50, commander := 1, origin := .object };
        (s.rst.coreOn = true) ∧ ((s.canCtl controller.val).schedule = [e]) ∧ (e.origin = .object) ∧ (e.commander = s.holderNow) ∧ (s.holderNow ≠ 0) ∧ (s.canRoom controller.val (recUrgent e.record) = true)) ∧
    (let s : State := { (((wRun.put (Obj.busState 2) 2).put (Obj.canMode 2) 1)) with can := [(2, { urgent := [{ record := (leBytes 16 (0x123 * 2 ^ 64 + 2 * 2 ^ 104) ++ [0xAA, 0xBB] ++ List.replicate 62 0), time := 0, commander := 1, origin := .object }], normal := [{ record := (leBytes 16 (0x123 * 2 ^ 64 + 2 * 2 ^ 104) ++ [0xAA, 0xBB] ++ List.replicate 62 0), time := 0, commander := 1, origin := .object }] })]  };
        let controller : Fin 16 := 2;
        (s.rst.coreOn = true) ∧ (s.canOn controller.val = true) ∧ ((s.canCtl controller.val).sending = none) ∧ (s.obj (Obj.canMode controller.val) = 1) ∧ ((s.canCtl controller.val).urgent ≠ [])) ∧
    (let s : State := { (((wRun.put (Obj.busState 2) 2).put (Obj.canMode 2) 1)) with can := [(2, { normal := [{ record := (leBytes 16 (0x123 * 2 ^ 64 + 2 * 2 ^ 104) ++ [0xAA, 0xBB] ++ List.replicate 62 0), time := 0, commander := 1, origin := .object }] })]  };
        let controller : Fin 16 := 2;
        (s.rst.coreOn = true) ∧ (s.canOn controller.val = true) ∧ ((s.canCtl controller.val).sending = none) ∧ (s.obj (Obj.canMode controller.val) = 1) ∧ ((s.canCtl controller.val).urgent = []) ∧ ((s.canCtl controller.val).normal ≠ [])) ∧
    (let s : State := { (((wRun.put (Obj.busState 2) 2).put (Obj.canMode 2) 1)) with can := [(2, { normal := [{ record := (leBytes 16 (0x123 * 2 ^ 64 + 2 * 2 ^ 104) ++ [0xAA, 0xBB] ++ List.replicate 62 0), time := 0, commander := 1, origin := .object }], sending := some false })]  };
        let controller : Fin 16 := 2;
        let sof : Nat := 900;
        let loopDelay : Nat := 5;
        let b : Bool := false;
        let e : CanEntry := { record := (leBytes 16 (0x123 * 2 ^ 64 + 2 * 2 ^ 104) ++ [0xAA, 0xBB] ++ List.replicate 62 0), time := 0, commander := 1, origin := .object };
        let r : List CanEntry := [];
        (s.rst.coreOn = true) ∧ ((s.canCtl controller.val).sending = some b) ∧ (s.canFifo controller.val b = e :: r) ∧ (recFdf e.record = false) ∧ ((s.canCtl controller.val).offOpen = false) ∧ (s.obj (Obj.canMode controller.val) = 1)) ∧
    (let s : State := { (((wRun.put (Obj.busState 2) 2).put (Obj.canMode 2) 1)) with can := [(2, { normal := [{ record := (leBytes 16 (0x123 * 2 ^ 64 + 2 * 2 ^ 104) ++ [0xAA, 0xBB] ++ List.replicate 62 0), time := 0, commander := 1, origin := .object }], sending := some false })]  };
        let controller : Fin 16 := 2;
        let error : CanError := { kind := 0 };
        let b : Bool := false;
        (s.rst.coreOn = true) ∧ ((s.canCtl controller.val).sending = some b) ∧ ((s.canCtl controller.val).abortHead = false) ∧ (error.kind = 0)) ∧
    (let s : State := { { ((((wOn.put Obj.nodeState 4).put (Obj.canTxMissed 2) 3).put (Obj.canTxHold 2) 1)) with can := [(2, { normal := [{ record := (leBytes 16 (0x123 * 2 ^ 64 + 2 * 2 ^ 104) ++ [0xAA, 0xBB] ++ List.replicate 62 0), time := 0, commander := 1, origin := .object }], schedule := [{ record := (leBytes 16 (0x123 * 2 ^ 64 + 2 * 2 ^ 104) ++ [0xAA, 0xBB] ++ List.replicate 62 0), time := 50, commander := 1, origin := .object }] })]  } with ring := { wOn.ring with sinceNoClaim := 9 } };
        let controller : Fin 16 := 2;
        (s.rst.coreOn = true) ∧ (s.serving = true) ∧ (s.holding = false) ∧ (s.liveCommanders = []) ∧ (s.frozen = false) ∧ (s.obj (Obj.canTxMissed controller.val) ≤ s.ring.sinceNoClaim) ∧ (s.obj (Obj.canTxHold controller.val) = 1) ∧ (∀ e ∈ (s.canCtl controller.val).schedule, e.origin = .object)) ∧
    (let s : State := { (((wRun.put (Obj.busState 2) 2).put (Obj.canMode 2) 1)) with can := [(2, { urgent := [{ record := (leBytes 16 (0x123 * 2 ^ 64 + 2 * 2 ^ 104) ++ [0xAA, 0xBB] ++ List.replicate 62 0), time := 0, commander := 1, origin := .object }], normal := [{ record := (leBytes 16 (0x123 * 2 ^ 64 + 2 * 2 ^ 104) ++ [0xAA, 0xBB] ++ List.replicate 62 0), time := 0, commander := 1, origin := .object }, { record := (leBytes 16 (0x123 * 2 ^ 64 + 2 * 2 ^ 104) ++ [0xAA, 0xBB] ++ List.replicate 62 0), time := 3, commander := 1, origin := .object }] })]  };
        let snd : Sender := wSnd;
        let controller : Fin 16 := 2;
        admitsB s snd.who (writeReq snd (0x5100 + controller.val) 21 [1]) = true ∧ ((s.canCtl controller.val).sending ≠ some true)) ∧
    (let s : State := { (((wRun.put (Obj.busState 2) 2).put (Obj.canMode 2) 1)) with can := [(2, { urgent := [{ record := (leBytes 16 (0x123 * 2 ^ 64 + 2 * 2 ^ 104) ++ [0xAA, 0xBB] ++ List.replicate 62 0), time := 0, commander := 1, origin := .object }], normal := [{ record := (leBytes 16 (0x123 * 2 ^ 64 + 2 * 2 ^ 104) ++ [0xAA, 0xBB] ++ List.replicate 62 0), time := 0, commander := 1, origin := .object }, { record := (leBytes 16 (0x123 * 2 ^ 64 + 2 * 2 ^ 104) ++ [0xAA, 0xBB] ++ List.replicate 62 0), time := 3, commander := 1, origin := .object }] })]  };
        let snd : Sender := wSnd;
        let controller : Fin 16 := 2;
        admitsB s snd.who (writeReq snd (0x5100 + controller.val) 21 [2]) = true ∧ ((s.canCtl controller.val).sending ≠ some false)) ∧
    (let s : State := { (((wRun.put (Obj.busState 2) 2).put (Obj.canMode 2) 1)) with can := [(2, { schedule := [{ record := (leBytes 16 (0x123 * 2 ^ 64 + 2 * 2 ^ 104) ++ [0xAA, 0xBB] ++ List.replicate 62 0), time := 60, commander := 1, origin := .object }], normal := [{ record := (leBytes 16 (0x123 * 2 ^ 64 + 2 * 2 ^ 104) ++ [0xAA, 0xBB] ++ List.replicate 62 0), time := 3, commander := 1, origin := .object }] })]  };
        let snd : Sender := wSnd;
        let controller : Fin 16 := 2;
        admitsB s snd.who (writeReq snd (0x5100 + controller.val) 21 [4]) = true ∧ (∀ e ∈ (s.canCtl controller.val).schedule, e.origin = .object)) :=
  ⟨by decide, by decide, by decide, by decide, by decide, by decide, by decide, by decide, by decide, by decide⟩

theorem witness_CanBus :
    (let s : State := (((wRun.put (Obj.busState 2) 2).put (Obj.canMode 2) 1).putBlob (Obj.filters 2) (leBytes 8 (1 * 2 ^ 62 + 2 * 2 ^ 60 + 1 * 2 ^ 58 + 0x123 * 2 ^ 29 + 0x7FF)));
        let controller : Fin 16 := 2;
        let frame : CanFrame := { id := 0x123, dlc := 2, data := [1, 2], sof := 99 };
        let i : Nat := 0;
        (s.rst.coreOn = true) ∧ (s.canOn controller.val = true) ∧ (frame.fdf = false) ∧ ((s.canCtl controller.val).offOpen = false) ∧ (s.obj (Obj.canMode controller.val) = 1) ∧ (s.obj (Obj.canRec controller.val) ≤ 127) ∧ ((filterEntries (s.blob (Obj.filters controller.val))).findIdx? (fun w => filterTakes w frame) = some i) ∧ (bits ((filterEntries (s.blob (Obj.filters controller.val))).getD i 0) 59 58 = 1) ∧ ((s.canCtl controller.val).rx.length < 128)) ∧
    (let s : State := { (((wRun.put (Obj.busState 2) 2).put (Obj.canMode 2) 1)) with can := [(2, { rx := [rxRecord { id := 0x123, dlc := 2, data := [1, 2], sof := 99 } 0 false false] })]  };
        let snd : Sender := wSnd;
        let controller : Fin 16 := 2;
        let b : List Byte := rxRecord { id := 0x123, dlc := 2, data := [1, 2], sof := 99 } 0 false false;
        let q : List (List Byte) := [];
        admitsB s snd.who (readReq snd (0x5300 + controller.val) 12) = true ∧ ((s.canCtl controller.val).rx = b :: q)) ∧
    (let s : State := ((wRun.put (Obj.busState 2) 2).put (Obj.canMode 2) 1);
        let controller : Fin 16 := 2;
        let error : CanError := { kind := 1 };
        (s.rst.coreOn = true) ∧ (s.canOn controller.val = true) ∧ (error.kind = 1) ∧ (s.obj (Obj.canMode controller.val) ≠ 2)) ∧
    (let s : State := ((wRun.put (Obj.busState 2) 2).put (Obj.canMode 2) 1).put (Obj.canTec 2) 256;
        let controller : Fin 16 := 2;
        (s.rst.coreOn = true) ∧ (s.obj (Obj.busState controller.val) = 2 ∨ s.obj (Obj.busState controller.val) = 3) ∧ (255 < s.obj (Obj.canTec controller.val)) ∧ ((s.canCtl controller.val).offOpen = false)) ∧
    (let s : State := ((wRun.put (Obj.canTec 2) 256).put (Obj.busState 2) 5).put (Obj.canRec 2) 9;
        let controller : Fin 16 := 2;
        (s.rst.coreOn = true) ∧ (s.obj (Obj.busState controller.val) = 5)) ∧
    (let s : State := { ((((wRun.put (Obj.busState 2) 2).put (Obj.canMode 2) 1).put (Obj.stuckLimit 2) 3)) with can := [(2, { normal := [{ record := (leBytes 16 (0x123 * 2 ^ 64 + 2 * 2 ^ 104) ++ [0xAA, 0xBB] ++ List.replicate 62 0), time := 0, commander := 1, origin := .object }] })]  };
        let controller : Fin 16 := 2;
        let urgent : Bool := false;
        let e : CanEntry := { record := (leBytes 16 (0x123 * 2 ^ 64 + 2 * 2 ^ 104) ++ [0xAA, 0xBB] ++ List.replicate 62 0), time := 0, commander := 1, origin := .object };
        let r : List CanEntry := [];
        (s.rst.coreOn = true) ∧ (s.canFifo controller.val urgent = e :: r) ∧ (s.obj (Obj.stuckLimit controller.val) ≠ 0) ∧ ((if urgent then (s.canCtl controller.val).urgentStuck else (s.canCtl controller.val).normalStuck) = false)) ∧
    (let s : State := (((wRun.put (Obj.busState 2) 2).put (Obj.canMode 2) 1).put (Obj.fdMode 2) 1);
        let controller : Fin 16 := 2;
        (s.rst.coreOn = true) ∧ (s.canOn controller.val = true) ∧ (s.obj (Obj.fdMode controller.val) ≠ 0)) ∧
    (let s : State := wRun.put (Obj.busState 2) 1;
        let controller : Fin 16 := 2;
        (s.rst.coreOn = true) ∧ (s.obj (Obj.busState controller.val) = 1)) ∧
    (let s : State := { ((((wRun.put (Obj.busState 2) 2).put (Obj.canMode 2) 1).put (Obj.canTec 2) 90)) with can := [(2, { normal := [{ record := (leBytes 16 (0x123 * 2 ^ 64 + 2 * 2 ^ 104) ++ [0xAA, 0xBB] ++ List.replicate 62 0), time := 0, commander := 1, origin := .object }], schedule := [{ record := (leBytes 16 (0x123 * 2 ^ 64 + 2 * 2 ^ 104) ++ [0xAA, 0xBB] ++ List.replicate 62 0), time := 50, commander := 1, origin := .object }], rx := [[1]] })]  };
        let snd : Sender := wSnd;
        let controller : Fin 16 := 2;
        admitsB s snd.who (writeReq snd (0x5100 + controller.val) 22 [1]) = true ∧ (∀ e ∈ (s.canCtl controller.val).schedule, e.origin = .object)) ∧
    (let s : State := (((wRun.put (Obj.busState 2) 2).put (Obj.canMode 2) 1).put (Obj.canFlags 2) 7);
        let snd : Sender := wSnd;
        let controller : Fin 16 := 2;
        admitsB s snd.who (writeReq snd (0x5100 + controller.val) 22 [2]) = true) ∧
    (let s : State := wRun.put (Obj.txOk 2) 7;
        let snd : Sender := wSnd;
        let controller : Fin 16 := 2;
        admitsB s snd.who (writeReq snd (0x5300 + controller.val) 29 [0]) = true) :=
  ⟨by decide, by decide, by decide, by decide, by decide, by decide, by decide, by decide, by decide, by decide, by decide⟩

theorem witness_UartReceive_1 :
    let s : State := { ((((((wRun.put (Obj.lineState 2) 1).put (Obj.uartMode 2) 1).put (Obj.rxMax 2) 256).put (Obj.rxDest 2) 1).put (Obj.dataBits 2) 8)) with uart := [(2, { message := some { first := 7, data := [9] } })]  };
        let channel : Fin 32 := 2;
        let char : UartChar := { start := 99, bits := [⟨false, false, false⟩, ⟨true, true, true⟩, ⟨false, false, false⟩, ⟨false, false, false⟩, ⟨false, false, false⟩, ⟨false, false, false⟩, ⟨false, false, false⟩, ⟨true, true, true⟩, ⟨false, false, false⟩, ⟨true, true, true⟩] };
        let ch : UartHeard := { value := 0x41, start := 99 };
        let m : UartOpen := { first := 7, data := [9] };
        (s.rst.coreOn = true) ∧ (s.chanOn channel.val = true) ∧ (s.obj (Obj.uartMode channel.val) ≠ 3) ∧ ((s.chan channel.val).breakFrom = none) ∧ (s.deAsserted channel.val = false) ∧ ((s.chan channel.val).sending = none) ∧ (ch = s.sampled channel.val char) ∧ (ch.falseStart = false) ∧ (ch.low = false) ∧ ((s.chan channel.val).lastTx ≤ char.start) ∧ ((s.chan channel.val).rxBefore = []) ∧ (ch.parityBad = false) ∧ (ch.framingBad = false) ∧ (ch.noise = false) ∧ (s.flag (Obj.uartFlags channel.val) ufStuck = false) ∧ ((s.chan channel.val).message = some m) ∧ (m.data.length + s.charBytes channel.val < s.obj (Obj.rxMax channel.val)) := by decide

theorem witness_UartReceive_2 :
    let s : State := { (((((((wRun.put (Obj.lineState 2) 1).put (Obj.uartMode 2) 1).put (Obj.rxMax 2) 256).put (Obj.rxDest 2) 1).put (Obj.uartParity 2) 1).put (Obj.dataBits 2) 7)) with uart := [(2, { message := some { first := 7, data := [9] } })]  };
        let channel : Fin 32 := 2;
        let char : UartChar := { start := 99, bits := [⟨false, false, false⟩, ⟨true, true, true⟩, ⟨false, false, false⟩, ⟨false, false, false⟩, ⟨false, false, false⟩, ⟨false, false, false⟩, ⟨false, false, false⟩, ⟨true, true, true⟩, ⟨true, true, true⟩, ⟨true, true, true⟩] };
        let ch : UartHeard := { value := 0x41, start := 99, parityBad := true };
        let m : UartOpen := { first := 7, data := [9] };
        (s.rst.coreOn = true) ∧ (s.chanOn channel.val = true) ∧ (s.obj (Obj.uartMode channel.val) ≠ 3) ∧ ((s.chan channel.val).breakFrom = none) ∧ (s.deAsserted channel.val = false) ∧ ((s.chan channel.val).sending = none) ∧ (ch = s.sampled channel.val char) ∧ (ch.falseStart = false) ∧ (ch.low = false) ∧ ((s.chan channel.val).lastTx ≤ char.start) ∧ ((s.chan channel.val).rxBefore = []) ∧ (ch.parityBad = true) ∧ (ch.framingBad = false) ∧ ((s.chan channel.val).message = some m) ∧ (m.firstErr = none) ∧ (m.data.length + s.charBytes channel.val < s.obj (Obj.rxMax channel.val)) := by decide

theorem witness_UartReceive_3 :
    let s : State := ((((wRun.put (Obj.lineState 2) 1).put (Obj.uartMode 2) 1).put (Obj.rxMax 2) 256).put (Obj.rxDest 2) 1);
        let channel : Fin 32 := 2;
        let char : UartChar := { start := 99 };
        let ch : UartHeard := { value := 255, start := 99, falseStart := true };
        (s.rst.coreOn = true) ∧ (s.chanOn channel.val = true) ∧ (s.obj (Obj.uartMode channel.val) ≠ 3) ∧ ((s.chan channel.val).breakFrom = none) ∧ (s.deAsserted channel.val = false) ∧ ((s.chan channel.val).sending = none) ∧ (ch = s.sampled channel.val char) ∧ (ch.falseStart = true) := by decide

theorem witness_UartReceive_4 :
    let s : State := (((((wRun.put (Obj.lineState 2) 1).put (Obj.uartMode 2) 1).put (Obj.rxMax 2) 256).put (Obj.rxDest 2) 1).put (Obj.dataBits 2) 8);
        let channel : Fin 32 := 2;
        let char : UartChar := { start := 99, bits := [⟨false, false, false⟩, ⟨true, true, true⟩, ⟨false, false, false⟩, ⟨false, false, false⟩, ⟨false, false, false⟩, ⟨false, false, false⟩, ⟨false, false, false⟩, ⟨true, true, true⟩, ⟨false, false, false⟩, ⟨true, true, true⟩] };
        let ch : UartHeard := { value := 0x41, start := 99 };
        (s.rst.coreOn = true) ∧ (s.chanOn channel.val = true) ∧ (s.obj (Obj.uartMode channel.val) ≠ 3) ∧ ((s.chan channel.val).breakFrom = none) ∧ (s.deAsserted channel.val = false) ∧ ((s.chan channel.val).sending = none) ∧ (ch = s.sampled channel.val char) ∧ (ch.falseStart = false) ∧ (ch.low = false) ∧ ((s.chan channel.val).lastTx ≤ char.start) ∧ ((s.chan channel.val).rxBefore = []) ∧ (ch.parityBad = false) ∧ (ch.framingBad = false) ∧ (ch.noise = false) ∧ (s.flag (Obj.uartFlags channel.val) ufStuck = false) ∧ ((s.chan channel.val).message = none) ∧ (s.charBytes channel.val < s.obj (Obj.rxMax channel.val)) := by decide

theorem witness_UartReceive_5 :
    5 < 2 ^ (wOn.put (Obj.dataBits 2) 8).obj (Obj.dataBits 2) := by decide

theorem witness_UartReceive_6 :
    let s : State := { (((((((wRun.put (Obj.lineState 2) 1).put (Obj.uartMode 2) 1).put (Obj.rxMax 2) 256).put (Obj.rxDest 2) 1).put (Obj.gapUnit 2) 2).put (Obj.gapValue 2) 8)) with uart := [(2, { message := some { first := 7, data := [9] } })]  };
        let channel : Fin 32 := 2;
        let m : UartOpen := { first := 7, data := [9] };
        (s.rst.coreOn = true) ∧ ((s.chan channel.val).message = some m) ∧ (s.chanOn channel.val = true) ∧ (s.obj (Obj.gapUnit channel.val) ≠ 0) ∧ ((s.chan channel.val).rxBefore = []) ∧ ((s.chan channel.val).sending = none) ∧ ((s.chan channel.val).breakFrom = none) ∧ (s.obj (Obj.rxDest channel.val) = 1) ∧ ((s.chan channel.val).rx.length < 64) := by decide

theorem witness_UartReceive_7 :
    let s : State := { (((((wRun.put (Obj.lineState 2) 1).put (Obj.uartMode 2) 1).put (Obj.rxMax 2) 256).put (Obj.rxDest 2) 1)) with uart := [(2, { rx := [uartRecord { first := 7, data := [9] } 0 false false] })]  };
        let snd : Sender := wSnd;
        let channel : Fin 32 := 2;
        let b : List Byte := uartRecord { first := 7, data := [9] } 0 false false;
        let q : List (List Byte) := [];
        admitsB s snd.who (readReq snd (0x5880 + channel.val) 8) = true ∧ ((s.chan channel.val).rx = b :: q) := by decide

theorem witness_UartReceive_8 :
    let s : State := ((((wRun.put (Obj.lineState 2) 1).put (Obj.uartMode 2) 1).put (Obj.rxMax 2) 256).put (Obj.rxDest 2) 1);
        let channel : Fin 32 := 2;
        let start : Nat := 70;
        (s.rst.coreOn = true) ∧ (s.chanOn channel.val = true) ∧ (s.obj (Obj.uartMode channel.val) ≠ 3) ∧ (s.deAsserted channel.val = false) ∧ ((s.chan channel.val).sending = none) ∧ (s.flag (Obj.uartFlags channel.val) ufStuck = false) ∧ ((s.chan channel.val).rxBefore = []) ∧ ((s.chan channel.val).breakFrom = none) ∧ ((s.chan channel.val).message = none) ∧ (s.obj (Obj.rxDest channel.val) = 1) ∧ ((s.chan channel.val).rx.length < 64) := by decide

theorem witness_UartReceive_9 :
    let s : State := { (((((wRun.put (Obj.lineState 2) 1).put (Obj.uartMode 2) 1).put (Obj.rxMax 2) 256).put (Obj.rxDest 2) 1)) with uart := [(2, { breakFrom := some 5 })]  };
        let channel : Fin 32 := 2;
        let b : Nat := 5;
        (s.rst.coreOn = true) ∧ ((s.chan channel.val).breakFrom = some b) ∧ ((s.chan channel.val).sending = none) ∧ ((s.chan channel.val).message = none) ∧ (s.obj (Obj.lineState channel.val) ≠ 0) ∧ (s.obj (Obj.lineLimit channel.val) = 0 ∨ s.now ≤ b + s.obj (Obj.lineLimit channel.val) * ms) := by decide

theorem witness_UartReceive_10 :
    let s : State := { ((((((wRun.put (Obj.lineState 2) 1).put (Obj.uartMode 2) 1).put (Obj.rxMax 2) 256).put (Obj.rxDest 2) 1).put (Obj.lineLimit 2) 9)) with uart := [(2, { breakFrom := some 5 })]  };
        let channel : Fin 32 := 2;
        let b : Nat := 5;
        (s.rst.coreOn = true) ∧ ((s.chan channel.val).breakFrom = some b) ∧ (s.obj (Obj.lineState channel.val) ≠ 0) ∧ (s.obj (Obj.lineLimit channel.val) ≠ 0) ∧ (s.flag (Obj.uartFlags channel.val) ufStuck = false) := by decide

theorem witness_UartTransmit :
    (let s : State := ((((((wRun.put (Obj.lineState 2) 1).put (Obj.uartMode 2) 1).put (Obj.rxMax 2) 256).put (Obj.rxDest 2) 1).put (Obj.dataBits 2) 8).put (Obj.uartBaud 2) 9600);
        let snd : Sender := wSnd;
        let channel : Fin 32 := 2;
        let record : List Byte := (leBytes 16 (3 * 2 ^ 80) ++ [1, 2, 3] ++ List.replicate 253 0);
        admitsB s snd.who (writeReq snd (0x5800 + channel.val) 22 record) = true ∧ (s.uartRefusal channel.val record snd.commander none = none) ∧ (recTime record ≤ s.now) ∧ ((s.chan channel.val).queue.length < 16)) ∧
    (let s : State := { (((((wRun.put (Obj.lineState 2) 1).put (Obj.uartMode 2) 1).put (Obj.rxMax 2) 256).put (Obj.rxDest 2) 1)) with uart := [(2, { schedule := [{ record := (leBytes 16 (3 * 2 ^ 80) ++ [1, 2, 3] ++ List.replicate 253 0), time := 50, commander := 1, origin := .object }] })]  };
        let channel : Fin 32 := 2;
        let e : CanEntry := { record := (leBytes 16 (3 * 2 ^ 80) ++ [1, 2, 3] ++ List.replicate 253 0), time := 50, commander := 1, origin := .object };
        (s.rst.coreOn = true) ∧ ((s.chan channel.val).schedule = [e]) ∧ (e.origin = .object) ∧ (e.commander = s.holderNow) ∧ (s.holderNow ≠ 0) ∧ ((s.chan channel.val).queue.length < 16)) ∧
    (let s : State := { (((((((wRun.put (Obj.lineState 2) 1).put (Obj.uartMode 2) 1).put (Obj.rxMax 2) 256).put (Obj.rxDest 2) 1).put (Obj.deMode 2) 1).put (Obj.deLead 2) 70)) with uart := [(2, { queue := [{ record := (leBytes 16 (3 * 2 ^ 80) ++ [1, 2, 3] ++ List.replicate 253 0), time := 0, commander := 1, origin := .object }] })]  };
        let channel : Fin 32 := 2;
        let e : CanEntry := { record := (leBytes 16 (3 * 2 ^ 80) ++ [1, 2, 3] ++ List.replicate 253 0), time := 0, commander := 1, origin := .object };
        let r : List CanEntry := [];
        (s.rst.coreOn = true) ∧ ((s.chan channel.val).queue = e :: r) ∧ (s.chanOn channel.val = true) ∧ (s.obj (Obj.uartMode channel.val) = 1) ∧ ((s.chan channel.val).sending = none) ∧ ((s.chan channel.val).lagFrom = none) ∧ (uRecLen e.record ≠ 0) ∧ (s.obj (Obj.deMode channel.val) = 1) ∧ ((s.chan channel.val).breakFrom = none)) ∧
    (let s : State := { (((((((wRun.put (Obj.lineState 2) 1).put (Obj.uartMode 2) 1).put (Obj.rxMax 2) 256).put (Obj.rxDest 2) 1).put (Obj.dataBits 2) 8).put (Obj.uartBaud 2) 9600)) with uart := [(2, { queue := [{ record := (leBytes 16 (3 * 2 ^ 80) ++ [1, 2, 3] ++ List.replicate 253 0), time := 0, commander := 1, origin := .object }], sending := some { entry := { record := (leBytes 16 (3 * 2 ^ 80) ++ [1, 2, 3] ++ List.replicate 253 0), time := 0, commander := 1, origin := .object }, start := 700 } })]  };
        let channel : Fin 32 := 2;
        let x : UartTx := { entry := { record := (leBytes 16 (3 * 2 ^ 80) ++ [1, 2, 3] ++ List.replicate 253 0), time := 0, commander := 1, origin := .object }, start := 700 };
        (s.rst.coreOn = true) ∧ ((s.chan channel.val).sending = some x) ∧ (uRecBreak x.entry.record = false) ∧ (s.obj (Obj.uartMode channel.val) = 1) ∧ (s.obj (Obj.lineState channel.val) ≠ 0) ∧ (s.uRecChars channel.val x.entry.record ≠ 0) ∧ ((s.chan channel.val).breakFrom = none) ∧ ((s.chan channel.val).message = none)) ∧
    (let s : State := { ((((((wRun.put (Obj.lineState 2) 1).put (Obj.uartMode 2) 1).put (Obj.rxMax 2) 256).put (Obj.rxDest 2) 1).put (Obj.deLag 2) 9)) with uart := [(2, { lagFrom := some 70 })]  };
        let channel : Fin 32 := 2;
        let e : Nat := 70;
        (s.rst.coreOn = true) ∧ ((s.chan channel.val).lagFrom = some e) ∧ ((s.chan channel.val).txBefore = [])) ∧
    (let s : State := { { ((((wOn.put Obj.nodeState 4).put (Obj.uartTxMissed 2) 3).put (Obj.uartTxHold 2) 1)) with uart := [(2, { queue := [{ record := (leBytes 16 (3 * 2 ^ 80) ++ [1, 2, 3] ++ List.replicate 253 0), time := 0, commander := 1, origin := .object }], schedule := [{ record := (leBytes 16 (3 * 2 ^ 80) ++ [1, 2, 3] ++ List.replicate 253 0), time := 50, commander := 1, origin := .object }] })]  } with ring := { wOn.ring with sinceNoClaim := 9 } };
        let channel : Fin 32 := 2;
        (s.rst.coreOn = true) ∧ (s.serving = true) ∧ (s.holding = false) ∧ (s.liveCommanders = []) ∧ (s.frozen = false) ∧ (s.obj (Obj.uartTxMissed channel.val) ≤ s.ring.sinceNoClaim) ∧ (s.obj (Obj.uartTxHold channel.val) = 1) ∧ ((s.chan channel.val).sending = none) ∧ (∀ e ∈ (s.chan channel.val).schedule, e.origin = .object)) ∧
    (let s : State := { (((((wRun.put (Obj.lineState 2) 1).put (Obj.uartMode 2) 1).put (Obj.rxMax 2) 256).put (Obj.rxDest 2) 1)) with uart := [(2, { queue := [{ record := (leBytes 16 (3 * 2 ^ 80) ++ [1, 2, 3] ++ List.replicate 253 0), time := 0, commander := 1, origin := .object }] })]  };
        let snd : Sender := wSnd;
        let channel : Fin 32 := 2;
        admitsB s snd.who (writeReq snd (0x5800 + channel.val) 23 [1]) = true ∧ ((s.chan channel.val).sending = none) ∧ ((s.chan channel.val).queue ≠ [])) ∧
    (let s : State := { (((((wRun.put (Obj.lineState 2) 1).put (Obj.uartMode 2) 1).put (Obj.rxMax 2) 256).put (Obj.rxDest 2) 1)) with uart := [(2, { queue := [{ record := (leBytes 16 (3 * 2 ^ 80) ++ [1, 2, 3] ++ List.replicate 253 0), time := 0, commander := 1, origin := .object }], schedule := [{ record := (leBytes 16 (3 * 2 ^ 80) ++ [1, 2, 3] ++ List.replicate 253 0), time := 50, commander := 1, origin := .object }] })]  };
        let snd : Sender := wSnd;
        let channel : Fin 32 := 2;
        admitsB s snd.who (writeReq snd (0x5800 + channel.val) 23 [2]) = true ∧ (∀ e ∈ (s.chan channel.val).schedule, e.origin = .object)) ∧
    (let s : State := { (((((wRun.put (Obj.lineState 2) 1).put (Obj.uartMode 2) 1).put (Obj.rxMax 2) 256).put (Obj.rxDest 2) 1)) with uart := [(2, { rx := [[1]], schedule := [{ record := (leBytes 16 (3 * 2 ^ 80) ++ [1, 2, 3] ++ List.replicate 253 0), time := 50, commander := 1, origin := .object }] })]  };
        let snd : Sender := wSnd;
        let channel : Fin 32 := 2;
        admitsB s snd.who (writeReq snd (0x5800 + channel.val) 24 [1]) = true ∧ ((s.chan channel.val).message = none) ∧ ((s.chan channel.val).sending = none) ∧ ((s.chan channel.val).queue = []) ∧ (∀ e ∈ (s.chan channel.val).schedule, e.origin = .object)) ∧
    (let s : State := (((((wRun.put (Obj.lineState 2) 1).put (Obj.uartMode 2) 1).put (Obj.rxMax 2) 256).put (Obj.rxDest 2) 1).put (Obj.uartFlags 2) 3);
        let snd : Sender := wSnd;
        let channel : Fin 32 := 2;
        admitsB s snd.who (writeReq snd (0x5800 + channel.val) 24 [2]) = true) ∧
    (let s : State := wRun.put (Obj.rxMessages 2) 7;
        let snd : Sender := wSnd;
        let channel : Fin 32 := 2;
        admitsB s snd.who (writeReq snd (0x5880 + channel.val) 21 [0]) = true) :=
  ⟨by decide, by decide, by decide, by decide, by decide, by decide, by decide, by decide, by decide, by decide, by decide⟩

theorem witness_HostBusTarget :
    (let s : State := (wRun.put Obj.hbEnable 3);
        let cycle : HostCycle := { address := (wRun.put Obj.hbEnable 3).obj Obj.mboxBase + 0x800, beats := [(15, 0)] };
        (s.rst.coreOn = true) ∧ ((s.obj Obj.hbEnable).testBit 0 = true) ∧ (s.bridge.granted = false) ∧ (cycGood cycle = true) ∧ (cycle.write = false) ∧ (s.obj Obj.mboxBase ≤ cycOffset cycle) ∧ (cycOffset cycle < s.obj Obj.mboxBase + 0x1000)) ∧
    (let s : State := (wRun.put Obj.hbEnable 3);
        let cycle : HostCycle := { address := (wRun.put Obj.hbEnable 3).obj Obj.mboxBase + 0x1004, beats := [(15, 0)] };
        let b : Nat × Nat := (15, 0);
        (s.rst.coreOn = true) ∧ ((s.obj Obj.hbEnable).testBit 0 = true) ∧ (s.bridge.granted = false) ∧ (cycGood cycle = true) ∧ (cycle.write = false) ∧ (cycle.beats = [b]) ∧ (s.obj Obj.mboxBase + 0x1000 ≤ cycOffset cycle) ∧ (cycOffset cycle < s.obj Obj.mboxBase + 0x1040)) ∧
    (let s : State := { ((wRun.put Obj.hbEnable 3)) with bridge := { wRun.bridge with intStatus := 0xFF } };
        let value : BitVec 32 := 5;
        (s.rst.coreOn = true) ∧ (s.answersHost = true)) ∧
    (let s : State := (wRun.put Obj.hbEnable 3);
        let value : BitVec 32 := 77;
        (s.rst.coreOn = true) ∧ (s.answersHost = true)) ∧
    (let s : State := { ((wRun.put Obj.hbEnable 3)) with bridge := { wRun.bridge with claimLo := 9 } };
        let value : BitVec 32 := 0x701;
        (s.rst.coreOn = true) ∧ (s.answersHost = true) ∧ (bits value.toNat 7 4 = 0) ∧ (bits value.toNat 31 16 = 0) ∧ (1 ≤ bits value.toNat 3 0) ∧ (bits value.toNat 3 0 ≤ 8) ∧ (1 ≤ bits value.toNat 15 8) ∧ (bits value.toNat 15 8 ≤ 0x60) ∧ (s.ownId ≠ 0) ∧ (bits value.toNat 15 8 ≠ s.ownId)) ∧
    (let s : State := { ((wRun.put Obj.hbEnable 3)) with bridge := { wRun.bridge with pending := some { cycle := { address := 0x100000, beats := [(15, 0)] }, tag := 9, node := 7 } } };
        let value : BitVec 32 := 1;
        (s.rst.coreOn = true) ∧ (s.answersHost = true) ∧ (value = 1)) ∧
    (let s : State := { (wRun) with bridge := { wRun.bridge with claimLo := 9 } };
        let value : BitVec 32 := 1;
        (s.rst.coreOn = true) ∧ ((s.obj Obj.hbEnable).testBit 0 = false)) ∧
    (let s : State := { (wRun) with bridge := { wRun.bridge with claimLo := 9 } };
        let value : BitVec 32 := 1;
        (s.rst.coreOn = true) ∧ ((s.obj Obj.hbEnable).testBit 0 = false)) ∧
    (let s : State := { (wRun) with bridge := { wRun.bridge with claimLo := 9 } };
        let value : BitVec 32 := 1;
        (s.rst.coreOn = true) ∧ ((s.obj Obj.hbEnable).testBit 0 = false)) ∧
    (let s : State := { (wRun) with bridge := { wRun.bridge with claimLo := 9 } };
        let value : BitVec 32 := 1;
        (s.rst.coreOn = true) ∧ ((s.obj Obj.hbEnable).testBit 0 = false)) ∧
    (let s : State := (((wRun.put Obj.hbEnable 3).put (Obj.fwBase 0) (mkAddr 0 3 0x18400000)).put Obj.dramSize 16384);
        let cycle : HostCycle := { address := 0x100004, beats := [(15, 0)] };
        let a : Nat := mkAddr 0 3 0x18400004;
        (s.rst.coreOn = true) ∧ ((s.obj Obj.hbEnable).testBit 0 = true) ∧ (s.bridge.granted = false) ∧ (cycGood cycle = true) ∧ (cycle.write = false) ∧ (s.bridge.pending = none) ∧ (¬ (s.obj Obj.mboxBase ≤ cycOffset cycle ∧ cycOffset cycle < s.obj Obj.mboxBase + 0x1040)) ∧ (0x100000 ≤ cycOffset cycle) ∧ (cycOffset cycle < 0x500000) ∧ (a = s.windowAddress cycle) ∧ (addrNode a = 0 ∨ addrNode a = s.ownId) ∧ (s.accessRefusal a (cycBytes cycle).length false (s.obj Obj.fwCommander) = none) ∧ (addrSpace a = 3)) ∧
    (let s : State := ((((wRun.put Obj.hbEnable 3).put Obj.tgtHold 64).put (Obj.fwBase 0) (mkAddr 7 3 0x18400000)).put Obj.dramSize 16384);
        let cycle : HostCycle := { address := 0x100004, beats := [(15, 0)] };
        let a : Nat := mkAddr 7 3 0x18400004;
        (s.rst.coreOn = true) ∧ ((s.obj Obj.hbEnable).testBit 0 = true) ∧ (s.bridge.granted = false) ∧ (cycGood cycle = true) ∧ (cycle.write = false) ∧ (s.bridge.pending = none) ∧ (¬ (s.obj Obj.mboxBase ≤ cycOffset cycle ∧ cycOffset cycle < s.obj Obj.mboxBase + 0x1040)) ∧ (0x100000 ≤ cycOffset cycle) ∧ (cycOffset cycle < 0x500000) ∧ (a = s.windowAddress cycle) ∧ (addrNode a ≠ 0) ∧ (addrNode a ≠ s.ownId) ∧ (s.reaches (addrNode a) = true) ∧ (s.obj Obj.tgtHold ≠ 0)) ∧
    (let s : State := { (wRun) with bridge := { wRun.bridge with pending := some { cycle := { address := 0x100000, beats := [(15, 0)] }, tag := 9, node := 7, held := true } } };
        let p : PendingCycle := { cycle := { address := 0x100000, beats := [(15, 0)] }, tag := 9, node := 7, held := true };
        (s.rst.coreOn = true) ∧ (s.bridge.pending = some p) ∧ (p.held = true)) ∧
    (let s : State := { (wRun) with bridge := { wRun.bridge with pending := some { cycle := { address := 0x100000, beats := [(15, 0)] }, tag := 9, node := 7, held := false, arrived := some (0, [1]) } } };
        let p : PendingCycle := { cycle := { address := 0x100000, beats := [(15, 0)] }, tag := 9, node := 7, held := false, arrived := some (0, [1]) };
        let d : List Byte := [1];
        (s.rst.coreOn = true) ∧ (s.bridge.pending = some p) ∧ (p.arrived = some (stDone, d)) ∧ (p.ready = false) ∧ (p.held = false)) ∧
    (let s : State := { (wRun) with bridge := { wRun.bridge with pending := some { cycle := { address := 0x100000, beats := [(15, 0)] }, tag := 9, node := 7, held := true, arrived := some (0, [1]) } } };
        let p : PendingCycle := { cycle := { address := 0x100000, beats := [(15, 0)] }, tag := 9, node := 7, held := true, arrived := some (0, [1]) };
        let d : List Byte := [1];
        (s.rst.coreOn = true) ∧ (s.bridge.pending = some p) ∧ (p.arrived = some (stDone, d)) ∧ (p.ready = false) ∧ (p.held = true)) ∧
    (let s : State := { ((wRun.put Obj.hbEnable 3)) with bridge := { wRun.bridge with pending := some { cycle := { address := 0x100000, beats := [(15, 0)] }, tag := 9, node := 4, held := true }, queue := [{ origin := .work ⟨4, true, 3, 1⟩, write := false, address := 0x40, length := 8 }] } };
        let node : Fin 97 := 4;
        let p : PendingCycle := { cycle := { address := 0x100000, beats := [(15, 0)] }, tag := 9, node := 4, held := true };
        let r : MasterReq := { origin := .work ⟨4, true, 3, 1⟩, write := false, address := 0x40, length := 8 };
        (s.rst.coreOn = true) ∧ (s.bridge.pending = some p) ∧ (p.held = true) ∧ (p.arrived = none) ∧ (p.node = node.val) ∧ (node.val ≠ 0) ∧ (node.val < s.ownId) ∧ (s.bridge.queue = [r]) ∧ (r.source = some node.val) ∧ (r.length ≠ 0) ∧ (s.bridge.requesting = false) ∧ ((s.obj Obj.hbEnable).testBit 1 = true)) :=
  ⟨by decide, by decide, by decide, by decide, by decide, by decide, by decide, by decide, by decide, by decide, by decide, by decide, by decide, by decide, by decide, by decide⟩

theorem witness_HostBusMaster :
    (let s : State := { ((wRun.put Obj.hbEnable 3)) with bridge := { wRun.bridge with queue := [{ origin := .block (.window 3) { cls := 2, type := tyWrite, src := 5, dst := 5, address := mkAddr 5 2 0x40, payload := [1, 2, 3, 4] }, write := true, address := 0x40, length := 4, data := [1, 2, 3, 4] }] } };
        let r : MasterReq := { origin := .block (.window 3) { cls := 2, type := tyWrite, src := 5, dst := 5, address := mkAddr 5 2 0x40, payload := [1, 2, 3, 4] }, write := true, address := 0x40, length := 4, data := [1, 2, 3, 4] };
        let q : List MasterReq := [];
        (s.rst.coreOn = true) ∧ (s.bridge.queue = r :: q) ∧ (s.bridge.requesting = false) ∧ ((s.obj Obj.hbEnable).testBit 1 = true) ∧ (r.length ≠ 0) ∧ (s.bridge.pending = none)) ∧
    (let s : State := { ((wRun.put Obj.hbEnable 3)) with bridge := { wRun.bridge with requesting := true, queue := [{ origin := .block (.window 3) { cls := 2, type := tyWrite, src := 5, dst := 5, address := mkAddr 5 2 0x40, payload := [1, 2, 3, 4] }, write := true, address := 0x40, length := 4, data := [1, 2, 3, 4] }] } };
        let cycles : Nat := 1;
        let data : List Byte := [];
        let r : MasterReq := { origin := .block (.window 3) { cls := 2, type := tyWrite, src := 5, dst := 5, address := mkAddr 5 2 0x40, payload := [1, 2, 3, 4] }, write := true, address := 0x40, length := 4, data := [1, 2, 3, 4] };
        let q : List MasterReq := [];
        let t : Nat := 3;
        let f : Frame := { cls := 2, type := tyWrite, src := 5, dst := 5, address := mkAddr 5 2 0x40, payload := [1, 2, 3, 4] };
        (s.rst.coreOn = true) ∧ (s.bridge.requesting = true) ∧ (1 ≤ cycles) ∧ (s.bridge.queue = r :: q) ∧ (r.origin = .block (.window t) f) ∧ (r.pos = 0) ∧ (0 < r.length) ∧ (r.write = true) ∧ (r.length ≤ 64 - r.address % 64)) ∧
    (let s : State := { ((wRun.put Obj.hbEnable 3)) with bridge := { wRun.bridge with requesting := true, queue := [{ origin := .block (.window 3) { cls := 2, type := tyWrite, src := 5, dst := 5, address := mkAddr 5 2 0x40, payload := [1, 2, 3, 4] }, write := true, address := 0x40, length := 4, data := [1, 2, 3, 4] }] } };
        let data : List Byte := [];
        let r : MasterReq := { origin := .block (.window 3) { cls := 2, type := tyWrite, src := 5, dst := 5, address := mkAddr 5 2 0x40, payload := [1, 2, 3, 4] }, write := true, address := 0x40, length := 4, data := [1, 2, 3, 4] };
        let q : List MasterReq := [];
        (s.rst.coreOn = true) ∧ (s.bridge.requesting = true) ∧ (s.bridge.queue = r :: q) ∧ (r.pos < r.length) ∧ (s.obj Obj.mstRetryLimit = 0 ∨ r.retries < s.obj Obj.mstRetryLimit)) ∧
    (let s : State := { ((wRun.put Obj.hbEnable 3)) with bridge := { wRun.bridge with requesting := true, queue := [{ origin := .block (.window 3) { cls := 2, type := tyWrite, src := 5, dst := 5, address := mkAddr 5 2 0x40, payload := [1, 2, 3, 4] }, write := true, address := 0x40, length := 4, data := [1, 2, 3, 4] }] } };
        let data : List Byte := [];
        let r : MasterReq := { origin := .block (.window 3) { cls := 2, type := tyWrite, src := 5, dst := 5, address := mkAddr 5 2 0x40, payload := [1, 2, 3, 4] }, write := true, address := 0x40, length := 4, data := [1, 2, 3, 4] };
        let q : List MasterReq := [];
        let t : Nat := 3;
        let f : Frame := { cls := 2, type := tyWrite, src := 5, dst := 5, address := mkAddr 5 2 0x40, payload := [1, 2, 3, 4] };
        (s.rst.coreOn = true) ∧ (s.bridge.requesting = true) ∧ (s.bridge.queue = r :: q) ∧ (r.origin = .block (.window t) f) ∧ (r.pos = 0) ∧ (0 < r.length)) ∧
    (let s : State := wRun.put Obj.mstRetries 4;
        let snd : Sender := wSnd;
        admitsB s snd.who (writeReq snd 0x6001 6 [0]) = true) :=
  ⟨by decide, by decide, by decide, by decide, by decide⟩

theorem witness_GooseAndMap :
    (let s : State := (((((((((wRun.put (Obj.subEnable 2) 1).putBlob (Obj.subMac 2) [1, 0x0C, 0xCD, 1, 0, 1]).put (Obj.subAppid 2) 7).put (Obj.subPort 2) 1).putBlob (Obj.subGocbref 2) [0x61]).putBlob (Obj.subDatset 2) [0x62]).put (Obj.subConfrev 2) 3).put (Obj.subMembers 2) 1).put (Obj.subState 2) 1);
        let port : Fin 4 := 1;
        let frame : EthFrame := { dst := 0x010CCD010001, etherType := 0x88B8, payload := beBytes 2 7 ++ beBytes 2 (8 + ((berValue 0x61 (berValue 0x80 [0x61] ++ berValue 0x81 [2] ++ berValue 0x82 [0x62] ++ berValue 0x84 (List.replicate 8 0) ++ berValue 0x85 [4] ++ berValue 0x86 [0] ++ berValue 0x88 [3] ++ berValue 0x8A [1] ++ berValue 0xAB (berValue 0x83 [1])))).length) ++ beBytes 4 0 ++ (berValue 0x61 (berValue 0x80 [0x61] ++ berValue 0x81 [2] ++ berValue 0x82 [0x62] ++ berValue 0x84 (List.replicate 8 0) ++ berValue 0x85 [4] ++ berValue 0x86 [0] ++ berValue 0x88 [3] ++ berValue 0x8A [1] ++ berValue 0xAB (berValue 0x83 [1]))) };
        let n : Nat := 2;
        let p : GoosePdu := { gocbRef := [0x61], tal := 2, datSet := [0x62], time := List.replicate 8 0, stNum := 4, sqNum := 0, simulation := false, confRev := 3, ndsCom := false, entries := 1, members := [(0x83, [1])] };
        (s.rst.coreOn = true) ∧ (s.sw.inbox = []) ∧ (s.gooseMatch port.val frame = some n) ∧ (gooseOf frame.payload = some p) ∧ (p.gocbRef = s.blob (Obj.subGocbref n)) ∧ (p.datSet = s.blob (Obj.subDatset n)) ∧ (p.simulation = false) ∧ (p.confRev = s.obj (Obj.subConfrev n)) ∧ (p.ndsCom = false) ∧ (p.entries = s.obj (Obj.subMembers n)) ∧ ((p.stNum + 2 ^ 32 - s.obj (Obj.stNum n)) % 2 ^ 32 < 2 ^ 31) ∧ (p.stNum ≠ s.obj (Obj.stNum n) ∨ s.obj (Obj.subState n) ≠ 2) ∧ (s.quiet = false)) ∧
    (let s : State := wRun.put (Obj.subState 2) 2;
        let subscription : Fin 128 := 2;
        (s.rst.coreOn = true) ∧ (s.obj (Obj.subState subscription.val) = 2)) ∧
    (let s : State := (wRun.put (Obj.subState 2) 3).put (Obj.subInvalidMs 2) 40;
        let subscription : Fin 128 := 2;
        (s.rst.coreOn = true) ∧ (s.obj (Obj.subState subscription.val) = 3) ∧ (s.obj (Obj.subInvalidMs subscription.val) ≠ 0)) ∧
    (let s : State := { (wRun.put (Obj.pubEnable 2) 1) with sme := { wRun.sme with pubs := [(2, { time := 5, interval := some 70, next := 900 })] } };
        let publication : Fin 32 := 2;
        let i : Nat := 70;
        (s.rst.coreOn = true) ∧ ((s.goosePub publication.val).interval = some i) ∧ (s.onRing = true) ∧ (s.paused = false) ∧ (s.obj (Obj.pubEnable publication.val) ≠ 0)) ∧
    (let s : State := { (wRun.put Obj.smeState smeRunning) with sme := { wRun.sme with waiting := [{ cls := 0, kind := 5, index := 3, data := [1], time := 4 }] } };
        let selfCheck : Fin 3 := 0;
        let i : MapInput := { cls := 0, kind := 5, index := 3, data := [1], time := 4 };
        let t : State := { (wRun.put Obj.smeState smeRunning) with sme := { wRun.sme with waiting := [] } };
        let snap : MapSnapshot := ({ (wRun.put Obj.smeState smeRunning) with sme := { wRun.sme with waiting := [] } } : State).snapshot (some { cls := 0, kind := 5, index := 3, data := [1], time := 4 });
        let p : MapPass := (({ (wRun.put Obj.smeState smeRunning) with sme := { wRun.sme with waiting := [] } } : State).attempt {} (({ (wRun.put Obj.smeState smeRunning) with sme := { wRun.sme with waiting := [] } } : State).snapshot (some { cls := 0, kind := 5, index := 3, data := [1], time := 4 })) none).1;
        (s.rst.coreOn = true) ∧ (s.smeOn = true) ∧ (t.attempt t.sme.map snap none = (p, none)) ∧ (p.cells = []) ∧ (t.runBuffers t.sme.map p = []) ∧ (changedPubs p.groups = []) ∧ (p.oos = false) ∧ (s.sme.kept = []) ∧ (s.nextInput = some i) ∧ (t = { s with sme := { s.sme with waiting := s.sme.waiting.erase i } }) ∧ (snap = t.snapshot (some (t.inputNow i))) ∧ (i.work = none) ∧ (i.block = none) ∧ (s.sme.logBytes ≤ 384 * 1024)) ∧
    (let s : State := { (wRun.put Obj.smeState smeRunning) with sme := { wRun.sme with cyclic := some 7 } };
        let selfCheck : Fin 3 := 0;
        let k : Nat := 7;
        let snap : MapSnapshot := {  ({ (wRun.put Obj.smeState smeRunning) with sme := { wRun.sme with cyclic := some 7 } } : State).snapshot none with lake :=  ({ (wRun.put Obj.smeState smeRunning) with sme := { wRun.sme with cyclic := some 7 } } : State).slotsNamed, blocks :=  ({ (wRun.put Obj.smeState smeRunning) with sme := { wRun.sme with cyclic := some 7 } } : State).sme.blocks, epoch := 7, applyAt :=  ({ (wRun.put Obj.smeState smeRunning) with sme := { wRun.sme with cyclic := some 7 } } : State).sampleOf 7 +  ({ (wRun.put Obj.smeState smeRunning) with sme := { wRun.sme with cyclic := some 7 } } : State).applyNs, sampleAt :=  ({ (wRun.put Obj.smeState smeRunning) with sme := { wRun.sme with cyclic := some 7 } } : State).sampleOf (7 - 1) };
        let p : MapPass := (({ (wRun.put Obj.smeState smeRunning) with sme := { wRun.sme with cyclic := some 7 } } : State).attempt {} ({  ({ (wRun.put Obj.smeState smeRunning) with sme := { wRun.sme with cyclic := some 7 } } : State).snapshot none with lake :=  ({ (wRun.put Obj.smeState smeRunning) with sme := { wRun.sme with cyclic := some 7 } } : State).slotsNamed, blocks :=  ({ (wRun.put Obj.smeState smeRunning) with sme := { wRun.sme with cyclic := some 7 } } : State).sme.blocks, epoch := 7, applyAt :=  ({ (wRun.put Obj.smeState smeRunning) with sme := { wRun.sme with cyclic := some 7 } } : State).sampleOf 7 +  ({ (wRun.put Obj.smeState smeRunning) with sme := { wRun.sme with cyclic := some 7 } } : State).applyNs, sampleAt :=  ({ (wRun.put Obj.smeState smeRunning) with sme := { wRun.sme with cyclic := some 7 } } : State).sampleOf (7 - 1) }) none).1;
        (s.rst.coreOn = true) ∧ (s.smeOn = true) ∧ (s.attempt s.sme.map snap none = (p, none)) ∧ (p.cells = []) ∧ (s.runBuffers s.sme.map p = []) ∧ (changedPubs p.groups = []) ∧ (p.oos = false) ∧ (s.sme.kept = []) ∧ (s.sme.cyclic = some k) ∧ (s.blocksPending = false) ∧ (snap = { s.snapshot none with lake := s.slotsNamed, blocks := s.sme.blocks, epoch := k, applyAt := s.sampleOf k + s.applyNs, sampleAt := s.sampleOf (k - 1) })) ∧
    (let s : State := wRun;
        let snd : Sender := wSnd;
        let input : Fin 64 := 3;
        let data : List Byte := List.replicate 256 1;
        admitsB s snd.who (writeReq snd (0x62C0 + input.val) 0 data) = true ∧ (data.length = 256) ∧ (s.flag Obj.smeOosMap 4 = false)) ∧
    (let s : State := wRun.put Obj.gooseTx 4;
        let snd : Sender := wSnd;
        admitsB s snd.who (writeReq snd 0x6100 3 [0]) = true) ∧
    (let s : State := wRun.put Obj.mapRuns 4;
        let snd : Sender := wSnd;
        admitsB s snd.who (writeReq snd 0x6203 7 [0]) = true) :=
  ⟨by decide, by decide, by decide, by decide, by decide, by decide, by decide, by decide, by decide⟩

theorem witness_CheckUnits :
    (let s : State := (((wRun.put (Obj.jobAddr 4) (mkAddr 0 3 0x18400000)).put (Obj.jobLen 4) 8).put (Obj.jobCtx 4) 2).put Obj.dramSize 16384;
        let snd : Sender := wSnd;
        let unit : Fin 24 := 4;
        admitsB s snd.who (writeReq snd (0x7080 + unit.val) 4 [1]) = true ∧ (s.ckJob unit.val = none) ∧ (s.ckOos unit.val = false) ∧ (stKind (s.streamEntry unit.val (s.obj (Obj.jobCtx unit.val))) = 0) ∧ (s.jobRange (s.obj (Obj.jobAddr unit.val) % 2 ^ 48) (s.obj (Obj.jobLen unit.val)) = true) ∧ (s.obj (Obj.jobLen unit.val) ≠ 0)) ∧
    (let s : State := (((wRun.put (Obj.jobAddr 4) (mkAddr 0 3 0x18400000)).put (Obj.jobLen 4) 8).put (Obj.jobCtx 4) 2).put Obj.dramSize 16384;
        let snd : Sender := wSnd;
        let unit : Fin 24 := 4;
        admitsB s snd.who (writeReq snd (0x7080 + unit.val) 4 [2]) = true ∧ (s.ckJob unit.val = none) ∧ (s.ckOos unit.val = false) ∧ (stKind (s.streamEntry unit.val (s.obj (Obj.jobCtx unit.val))) = 0) ∧ (s.jobRange (s.obj (Obj.jobAddr unit.val) % 2 ^ 48) (s.obj (Obj.jobLen unit.val)) = true) ∧ (s.obj (Obj.jobLen unit.val) ≠ 0)) ∧
    (let s : State := { (wRun.put Obj.dramSize 16384) with ck := { wRun.ck with jobs := [(4, some { params := { width := 8, poly := 7, init := 0, xorout := 0, refin := false, refout := false }, addr := mkAddr 0 3 0x18400000, len := 4, ctx := 2, reg := 0 })] } };
        let snd : Sender := wSnd;
        let unit : Fin 24 := 4;
        let j : CkJob := { params := { width := 8, poly := 7, init := 0, xorout := 0, refin := false, refout := false }, addr := mkAddr 0 3 0x18400000, len := 4, ctx := 2, reg := 0 };
        admitsB s snd.who (writeReq snd (0x7080 + unit.val) 4 [3]) = true ∧ (s.ckJob unit.val = some j) ∧ (j.written = none)) ∧
    (let s : State := { (wRun.put Obj.dramSize 16384) with ck := { wRun.ck with jobs := [(4, some { params := { width := 8, poly := 7, init := 0, xorout := 0, refin := false, refout := false }, addr := mkAddr 0 3 0x18400000, len := 4, ctx := 2, reg := 0 })] } };
        let unit : Fin 24 := 4;
        let status : Byte := 0;
        let host : List Byte := [];
        let j : CkJob := { params := { width := 8, poly := 7, init := 0, xorout := 0, refin := false, refout := false }, addr := mkAddr 0 3 0x18400000, len := 4, ctx := 2, reg := 0 };
        (s.rst.coreOn = true) ∧ (s.ckJob unit.val = some j) ∧ (j.written = none) ∧ (s.ckOos unit.val = false) ∧ (addrSpace j.addr = 3)) ∧
    (let s : State := { ((wRun.put Obj.hbEnable 3).put Obj.dramSize 16384) with ck := { wRun.ck with jobs := [(4, some { params := { width := 8, poly := 7, init := 0, xorout := 0, refin := false, refout := false }, addr := mkAddr 0 2 0x40, len := 4, ctx := 2, reg := 0 })] } };
        let unit : Fin 24 := 4;
        let status : Byte := 0;
        let host : List Byte := [1, 2, 3, 4];
        let j : CkJob := { params := { width := 8, poly := 7, init := 0, xorout := 0, refin := false, refout := false }, addr := mkAddr 0 2 0x40, len := 4, ctx := 2, reg := 0 };
        (s.rst.coreOn = true) ∧ (s.ckJob unit.val = some j) ∧ (j.written = none) ∧ (s.ckOos unit.val = false) ∧ (addrSpace j.addr = 2) ∧ (s.flag Obj.hbEnable 1 = true) ∧ (status = 0) ∧ (host.length = j.len)) ∧
    (let s : State := wRun.put (Obj.ctxSelect 4) 3;
        let snd : Sender := wSnd;
        let unit : Fin 24 := 4;
        let value : BitVec 32 := 77;
        admitsB s snd.who (writeReq snd (0x70A0 + unit.val) 2 (leBytes 4 value.toNat)) = true ∧ (s.ckJob unit.val = none) ∧ (value.toNat < 2 ^ s.obj (Obj.ckWidth unit.val))) ∧
    (let s : State := (wRun.put (Obj.ctxSelect 4) 0).putBlob (Obj.streams 4) (leBytes 16 (2 ^ 124 + 4 * 2 ^ 64));
        let snd : Sender := wSnd;
        let unit : Fin 24 := 4;
        let value : Byte := 7;
        admitsB s snd.who (writeReq snd (0x70A0 + unit.val) 3 [value]) = true ∧ (value.toNat < 2 ^ stAliveWidth (s.streamEntry unit.val (s.obj (Obj.ctxSelect unit.val))))) ∧
    (let s : State := { wRun with ck := { wRun.ck with contexts := [(3 * 64 + 5, { alive := 4 }), (4 * 64 + 3, { alive := 7 })] } };
        let snd : Sender := wSnd;
        let unit : Fin 24 := 4;
        admitsB s snd.who (writeReq snd (0x7060 + unit.val) 9 [1]) = true ∧ (s.ckJob unit.val = none)) ∧
    (let s : State := wRun.put (Obj.ckGaps 4) 4;
        let snd : Sender := wSnd;
        let unit : Fin 24 := 4;
        admitsB s snd.who (writeReq snd (0x7060 + unit.val) 10 [0]) = true) :=
  ⟨by decide, by decide, by decide, by decide, by decide, by decide, by decide, by decide, by decide⟩

theorem witness_SmeTests :
    (let s : State := wRun.put Obj.smeState smeRunning;
        (s.rst.coreOn = true) ∧ (s.smeOn = true)) ∧
    (let s : State := (wRun.put Obj.smeState smeRunning).put Obj.selftestInterval 3;
        (s.rst.coreOn = true) ∧ (s.smeOn = true) ∧ (s.obj Obj.selftestInterval ≠ 0)) ∧
    (let s : State := wRun.put Obj.smeState smeRunning;
        let snd : Sender := wSnd;
        admitsB s snd.who (writeReq snd 0x7410 2 [1]) = true ∧ (s.obj Obj.smeState = smeRunning)) ∧
    (let s : State := wRun.put Obj.smeState smeTesting;
        (s.rst.coreOn = true) ∧ (s.obj Obj.smeState = smeTesting) ∧ (s.sme.failed = none) ∧ (s.sme.escalated = false)) ∧
    (let s : State := wRun.put Obj.smeState smeRunning;
        let snd : Sender := { wSnd with who := .farif };
        admitsB s snd.who (writeReq snd 0x7410 4 [1]) = true ∧ (snd.who = .farif) ∧ (s.obj Obj.smeState ≠ smeHalted) ∧ (s.sme.failed = none)) ∧
    (let s : State := { (wRun.put Obj.smeState smeHalted) with sme := { wRun.sme with map := { results := [(3, default)] } } };
        let snd : Sender := { wSnd with who := .farif };
        admitsB s snd.who (writeReq snd 0x7410 4 [2]) = true ∧ (snd.who = .farif) ∧ (s.obj Obj.smeState = smeHalted) ∧ (s.flag Obj.smeOosMap 4 = false) ∧ (s.sme.log = [])) ∧
    (let s : State := wRun.put Obj.selftests 4;
        let snd : Sender := wSnd;
        admitsB s snd.who (writeReq snd 0x7410 6 [0]) = true) :=
  ⟨by decide, by decide, by decide, by decide, by decide, by decide, by decide⟩

theorem witness_PowerEntryStates :
    (let s : State := { (State.reset) with rst := { State.reset.rst with coreOn := false, starting := none }, pe := { State.reset.pe with goneSince := some 5, pgood := false, retryCount := 2 } };
        let q : Nat := 5;
        (s.pe.goneSince = some q) ∧ (s.pe.removed = false) ∧ (s.pe.alive = true) ∧ (s.pe.pgood = false) ∧ (s.rst.coreOn = false) ∧ (s.pe.test = none)) ∧
    (let s : State := { (State.reset) with rst := { State.reset.rst with coreOn := false, starting := none }, pe := { State.reset.pe with state := peRamp, pgood := false, feed1 := { mv := 48, up := true }, feed2 := { mv := 48, up := true },  } };
        (s.pe.alive = true) ∧ (s.pe.pgood = false) ∧ (s.pe.state ≠ peHold) ∧ (s.pe.state ≠ peDisabled) ∧ (s.pe.state ≠ peLimit) ∧ (s.pe.state ≤ 10) ∧ (s.pe.enLow = none) ∧ (s.feedGood 1 = true) ∧ (s.rst.coreOn = false) ∧ (s.pe.test = none)) ∧
    (let s : State := { (State.reset) with rst := { State.reset.rst with coreOn := false, starting := none }, pe := { State.reset.pe with state := peDisabled, pgood := false, latched := true, enLow := some 3 } };
        let lowNs : Nat := 20000;
        (s.pe.alive = true) ∧ (s.pe.state = peDisabled) ∧ (10000 ≤ lowNs)) ∧
    (let s : State := { (State.reset) with rst := { State.reset.rst with coreOn := false, starting := none }, pe := { State.reset.pe with copy := [(Obj.combine, 0), (Obj.prioFeed, 1), (Obj.warnMv, 20), (Obj.uvMv, 10), (Obj.ovMv, 100), (Obj.ilim, 100), (Obj.senseUohm, 10), (Obj.retryLimit, 2), (Obj.retryTime, 7), (Obj.insertDelay, 3), (Obj.rampLimit, 9), (Obj.prioReturn, 4), (Obj.testTime, 6), (Obj.bbmUs, 15), (Obj.busUvMv, 5), (Obj.settleTime, 2), (Obj.faultTime, 8)], state := peInsert, pgood := false, gateFull := false, feed1 := { mv := 48, up := true, goodSince := some 4 }, feed2 := { up := false } } };
        let q : Nat := 4;
        (s.rst.coreOn = false) ∧ (s.pe.state = peInsert) ∧ (s.feedGood 1 = true) ∧ (s.feedGood 2 = false) ∧ (s.pe.feed1.goodSince = some q)) ∧
    (let s : State := { (State.reset) with rst := { State.reset.rst with coreOn := false, starting := none }, pe := { State.reset.pe with copy := [(Obj.combine, 0), (Obj.prioFeed, 1), (Obj.warnMv, 20), (Obj.uvMv, 10), (Obj.ovMv, 100), (Obj.ilim, 100), (Obj.senseUohm, 10), (Obj.retryLimit, 2), (Obj.retryTime, 7), (Obj.insertDelay, 3), (Obj.rampLimit, 9), (Obj.prioReturn, 4), (Obj.testTime, 6), (Obj.bbmUs, 15), (Obj.busUvMv, 5), (Obj.settleTime, 2), (Obj.faultTime, 8)], state := peTripped, retryAt := some 44, pgood := false, gateFull := false, feed1 := { mv := 48, up := true, goodSince := some 4 }, feed2 := { up := false } } };
        let q : Nat := 44;
        (s.rst.coreOn = false) ∧ (s.pe.state = peTripped) ∧ (s.pe.retryAt = some q) ∧ (s.feedGood 1 = true) ∧ (s.feedGood 2 = false)) ∧
    (let s : State := { (State.reset) with rst := { State.reset.rst with coreOn := false, starting := none }, pe := { State.reset.pe with state := peRamp, pgood := false, gateFull := false, tick := 40, ramp := some { path := 1, start := 3, whole := some 30 } } };
        let p : Ramp := { path := 1, start := 3, whole := some 30 };
        (s.pe.state = peRamp) ∧ (s.pe.ramp = some p) ∧ (p.whole.isSome = true)) ∧
    (let s : State := { (State.reset) with rst := { State.reset.rst with coreOn := false, starting := none }, pe := { State.reset.pe with state := peRamp, pgood := false, gateFull := false, tick := 40, ramp := some { path := 1, start := 3, charge := 7000, energy := 9000000000 } } };
        let p : Ramp := { path := 1, start := 3, charge := 7000, energy := 9000000000 };
        (s.pe.state = peRamp) ∧ (s.pe.ramp = some p) ∧ (p.whole = none)) ∧
    (let s : State := { (wOn.put Obj.retryCount 2) with pe := { wOn.pe with retryCount := 2 } };
        (s.pe.pgood = true)) ∧
    (let s : State := { (State.reset) with rst := { State.reset.rst with coreOn := false, starting := none }, pe := { State.reset.pe with pgood := false, retryCount := 2, copied := true } };
        (s.pe.pgood = false) ∧ (s.rst.coreOn = false) ∧ (s.pe.test = none)) ∧
    (let s : State := { (State.reset) with rst := { State.reset.rst with coreOn := false, onVbat := true }, pe := { State.reset.pe with alive := false, pgood := false, state := peHold } };
        let rtcPeriods : Nat := 65536;
        (s.pe.alive = false)) :=
  ⟨by decide, by decide, by decide, by decide, by decide, by decide, by decide, by decide, by decide, by decide⟩

theorem witness_PowerEntryTrips :
    (let s : State := { (State.reset) with rst := { State.reset.rst with coreOn := false, starting := none }, pe := { State.reset.pe with copy := [(Obj.combine, 0), (Obj.prioFeed, 1), (Obj.warnMv, 20), (Obj.uvMv, 10), (Obj.ovMv, 100), (Obj.ilim, 100), (Obj.senseUohm, 10), (Obj.retryLimit, 2), (Obj.retryTime, 7), (Obj.insertDelay, 3), (Obj.rampLimit, 9), (Obj.prioReturn, 4), (Obj.testTime, 6), (Obj.bbmUs, 15), (Obj.busUvMv, 5), (Obj.settleTime, 2), (Obj.faultTime, 8)], state := peRamp, pgood := false, tick := 9, feed1 := { mv := 48, up := true }, feed2 := { mv := 48, up := true },  } };
        (s.rst.coreOn = false) ∧ (s.pe.pgood = false) ∧ (s.pe.state ≠ peLimit) ∧ (s.pe.test = none) ∧ (peConducts s.pe.state = true) ∧ (s.peCfg Obj.retryLimit = 255 ∨ s.pe.retryCount + 1 ≤ s.peCfg Obj.retryLimit)) ∧
    (let s : State := { (State.reset) with rst := { State.reset.rst with coreOn := false, starting := none }, pe := { State.reset.pe with copy := [(Obj.combine, 0), (Obj.prioFeed, 1), (Obj.warnMv, 20), (Obj.uvMv, 10), (Obj.ovMv, 100), (Obj.ilim, 100), (Obj.senseUohm, 10), (Obj.retryLimit, 2), (Obj.retryTime, 7), (Obj.insertDelay, 3), (Obj.rampLimit, 9), (Obj.prioReturn, 4), (Obj.testTime, 6), (Obj.bbmUs, 15), (Obj.busUvMv, 5), (Obj.settleTime, 2), (Obj.faultTime, 8)], state := peRamp, pgood := false, tick := 9, retryCount := 2, feed1 := { mv := 48, up := true }, feed2 := { mv := 48, up := true },  } };
        (s.rst.coreOn = false) ∧ (s.pe.pgood = false) ∧ (s.pe.state ≠ peLimit) ∧ (s.pe.test = none) ∧ (peConducts s.pe.state = true) ∧ (s.peCfg Obj.retryLimit ≠ 255) ∧ (s.peCfg Obj.retryLimit ≤ s.pe.retryCount)) ∧
    (let s : State := wRun;
        (s.pe.pgood = true) ∧ (s.rst.coreOn = true) ∧ (s.rst.standby = false) ∧ (s.pe.state = peOn)) ∧
    (let s : State := { (State.reset) with rst := { State.reset.rst with coreOn := false, starting := none }, pe := { State.reset.pe with copy := [(Obj.combine, 0), (Obj.prioFeed, 1), (Obj.warnMv, 20), (Obj.uvMv, 10), (Obj.ovMv, 100), (Obj.ilim, 100), (Obj.senseUohm, 10), (Obj.retryLimit, 2), (Obj.retryTime, 7), (Obj.insertDelay, 3), (Obj.rampLimit, 9), (Obj.prioReturn, 4), (Obj.testTime, 6), (Obj.bbmUs, 15), (Obj.busUvMv, 5), (Obj.settleTime, 2), (Obj.faultTime, 8)], state := peRamp, pgood := false, tick := 9, ramp := some { path := 1, start := 3 }, feed1 := { mv := 48, up := true }, feed2 := { mv := 48, up := true },  } };
        let p : Ramp := { path := 1, start := 3 };
        (s.rst.coreOn = false) ∧ (s.pe.pgood = false) ∧ (s.pe.state ≠ peLimit) ∧ (s.pe.test = none) ∧ (s.pe.state = peRamp) ∧ (s.pe.ramp = some p) ∧ (s.peCfg Obj.retryLimit = 255 ∨ s.pe.retryCount + 1 ≤ s.peCfg Obj.retryLimit)) ∧
    (let s : State := { (State.reset) with rst := { State.reset.rst with coreOn := false, starting := none }, pe := { State.reset.pe with copy := [(Obj.combine, 0), (Obj.prioFeed, 1), (Obj.warnMv, 20), (Obj.uvMv, 10), (Obj.ovMv, 100), (Obj.ilim, 100), (Obj.senseUohm, 10), (Obj.retryLimit, 2), (Obj.retryTime, 7), (Obj.insertDelay, 3), (Obj.rampLimit, 9), (Obj.prioReturn, 4), (Obj.testTime, 6), (Obj.bbmUs, 15), (Obj.busUvMv, 5), (Obj.settleTime, 2), (Obj.faultTime, 8)], state := peLimit, pgood := false, tick := 9, faultTimer := 3, limitEnergy := 5000000000, feed1 := { mv := 48, up := true }, feed2 := { mv := 48, up := true },  } };
        (s.rst.coreOn = false) ∧ (s.pe.pgood = false) ∧ (s.pe.state = peLimit) ∧ (s.pe.test = none) ∧ (s.peCfg Obj.retryLimit = 255 ∨ s.pe.retryCount + 1 ≤ s.peCfg Obj.retryLimit)) :=
  ⟨by decide, by decide, by decide, by decide, by decide⟩

theorem witness_PowerEntryPaths :
    (let s : State := { wOn with pe := { wOn.pe with copy := [(Obj.combine, 0), (Obj.prioFeed, 1), (Obj.warnMv, 20), (Obj.uvMv, 10), (Obj.ovMv, 60000), (Obj.ilim, 100), (Obj.senseUohm, 10), (Obj.retryLimit, 2), (Obj.retryTime, 7), (Obj.insertDelay, 3), (Obj.rampLimit, 9), (Obj.prioReturn, 4), (Obj.testTime, 6), (Obj.bbmUs, 15), (Obj.busUvMv, 5), (Obj.settleTime, 2), (Obj.faultTime, 8)], feed1 := { mv := 48, up := true }, feed2 := { mv := 48, up := true },  warn := true, pgood := true, tick := 5 } };
        let sample : PeSample := { feed1 := 48000, feed2 := 48000, vcom := 48000, bus := 48000, sense := 100 };
        let i : PeSample := { feed1 := 48000, feed2 := 48000, vcom := 48000, bus := 48000, sense := 100 };
        let a1 : Nat := s.peMeasure 0x440 48000;
        let a2 : Nat := s.peMeasure 0x441 48000;
        let ma : Nat := s.busCurrent 100;
        let l : List (Nat × Nat × Nat × Nat) := lastN 1000 (s.pe.samples ++ [(s.peMeasure 0x440 48000, s.peMeasure 0x441 48000, 48000, s.busCurrent 100)]);
        (i = sample) ∧ (s.pe.alive = true) ∧ (s.rst.coreOn = true) ∧ (s.rst.standby = false) ∧ (s.rst.onVbat = false) ∧ (s.pe.state = peOn) ∧ (s.pe.pgood = true) ∧ (s.pe.faultTimer = 0) ∧ (s.pe.ramp = none) ∧ (s.pe.transfer = none) ∧ (s.pe.test = none) ∧ (s.pe.retest = none) ∧ (s.pe.on1 = true) ∧ (s.pe.on2 = true) ∧ (s.pe.enLow = none) ∧ (s.peCfg Obj.combine = 0) ∧ (s.pe.tick + 1 < s.pe.pgoodSince + 10000000) ∧ (a1 = s.peMeasure 0x440 i.feed1) ∧ (s.pe.feed1.up = true) ∧ (s.pe.feed1.high = false) ∧ (s.pe.feed1.lasting = false) ∧ (s.pe.feed1.lostAt = none) ∧ (s.peCfg Obj.uvMv ≤ a1) ∧ (s.peCfg Obj.warnMv ≤ a1) ∧ (2000 ≤ a1) ∧ (a1 ≤ s.peCfg Obj.ovMv) ∧ (i.vcom ≤ a1 + 10) ∧ (a2 = s.peMeasure 0x441 i.feed2) ∧ (s.pe.feed2.up = true) ∧ (s.pe.feed2.high = false) ∧ (s.pe.feed2.lasting = false) ∧ (s.pe.feed2.lostAt = none) ∧ (s.peCfg Obj.uvMv ≤ a2) ∧ (s.peCfg Obj.warnMv ≤ a2) ∧ (2000 ≤ a2) ∧ (a2 ≤ s.peCfg Obj.ovMv) ∧ (i.vcom ≤ a2 + 10) ∧ (5000 ≤ i.feed1) ∧ (i.peEn = true) ∧ (s.peCfg Obj.busUvMv ≤ i.bus) ∧ (ma = s.busCurrent i.sense) ∧ (ma < s.peCfg Obj.ilim * 100000 / s.peCfg Obj.senseUohm) ∧ (i.sense < 2 * s.peCfg Obj.ilim * 100) ∧ (l = lastN 1000 (s.pe.samples ++ [(a1, a2, i.bus, ma)]))) ∧
    (let s : State := { (State.reset) with rst := { State.reset.rst with coreOn := false, starting := none }, pe := { State.reset.pe with copy := [(Obj.combine, 0), (Obj.prioFeed, 1), (Obj.warnMv, 20), (Obj.uvMv, 10), (Obj.ovMv, 100), (Obj.ilim, 100), (Obj.senseUohm, 10), (Obj.retryLimit, 2), (Obj.retryTime, 7), (Obj.insertDelay, 3), (Obj.rampLimit, 9), (Obj.prioReturn, 4), (Obj.testTime, 6), (Obj.bbmUs, 15), (Obj.busUvMv, 5), (Obj.settleTime, 2), (Obj.faultTime, 8)], state := peOn } };
        let path : Fin 2 := 0;
        (s.peCfg Obj.combine = 0) ∧ (pathOn s.pe (path.val + 1) = true)) ∧
    (let s : State := { (State.reset) with rst := { State.reset.rst with coreOn := false, starting := none }, pe := { State.reset.pe with copy := [(Obj.combine, 0), (Obj.prioFeed, 1), (Obj.warnMv, 20), (Obj.uvMv, 10), (Obj.ovMv, 100), (Obj.ilim, 100), (Obj.senseUohm, 10), (Obj.retryLimit, 2), (Obj.retryTime, 7), (Obj.insertDelay, 3), (Obj.rampLimit, 9), (Obj.prioReturn, 4), (Obj.testTime, 6), (Obj.bbmUs, 15), (Obj.busUvMv, 5), (Obj.settleTime, 2), (Obj.faultTime, 8)], state := peOn, on1 := false, on2 := false, transfer := some { outgoing := 1, incoming := 2, start := 9 } } };
        let x : Transfer := { outgoing := 1, incoming := 2, start := 9 };
        (s.pe.transfer = some x) ∧ (s.pe.test = none)) ∧
    (let s : State := { (State.reset) with rst := { State.reset.rst with coreOn := false, starting := none }, pe := { State.reset.pe with copy := [(Obj.combine, 1), (Obj.prioFeed, 1), (Obj.warnMv, 20), (Obj.uvMv, 10), (Obj.ovMv, 100), (Obj.ilim, 100), (Obj.senseUohm, 10), (Obj.retryLimit, 2), (Obj.retryTime, 7), (Obj.insertDelay, 3), (Obj.rampLimit, 9), (Obj.prioReturn, 4), (Obj.testTime, 6), (Obj.bbmUs, 15), (Obj.busUvMv, 5), (Obj.settleTime, 2), (Obj.faultTime, 8)], feed1 := { mv := 48, up := true }, feed2 := { mv := 48, up := true }, state := peOn, on1 := false } };
        let q : Nat := 0;
        (s.peCfg Obj.combine = 1) ∧ (s.pe.state = peOn) ∧ (s.pe.transfer = none) ∧ (s.pe.test = none) ∧ (s.carrier ≠ s.peCfg Obj.prioFeed) ∧ (s.feedStrong (s.peCfg Obj.prioFeed) = true) ∧ ((s.feed (s.peCfg Obj.prioFeed)).warnSince = some q) ∧ (s.peCfg Obj.prioReturn ≠ 0)) ∧
    (let s : State := { wRun with pe := { wRun.pe with copy := [(Obj.combine, 1), (Obj.prioFeed, 1), (Obj.warnMv, 20), (Obj.uvMv, 10), (Obj.ovMv, 100), (Obj.ilim, 100), (Obj.senseUohm, 10), (Obj.retryLimit, 2), (Obj.retryTime, 7), (Obj.insertDelay, 3), (Obj.rampLimit, 9), (Obj.prioReturn, 4), (Obj.testTime, 6), (Obj.bbmUs, 15), (Obj.busUvMv, 5), (Obj.settleTime, 2), (Obj.faultTime, 8)], feed1 := { mv := 48, up := true }, feed2 := { mv := 48, up := true }, state := peOn, on1 := false, tick := 5000 } };
        let snd : Sender := wSnd;
        let q : Nat := 0;
        admitsB s snd.who (writeReq snd 0x7830 0 [3]) = true ∧ (s.peCfg Obj.combine = 1) ∧ (s.pe.state = peOn) ∧ (s.pe.transfer = none) ∧ (s.pe.test = none) ∧ (s.carrier ≠ s.peCfg Obj.prioFeed) ∧ (s.feedStrong (s.peCfg Obj.prioFeed) = true) ∧ ((s.feed (s.peCfg Obj.prioFeed)).warnSince = some q) ∧ (q + s.peCfg Obj.prioReturn * 1000 ≤ s.pe.tick)) ∧
    (let s : State := { wRun with pe := { wRun.pe with copy := [(Obj.combine, 0), (Obj.prioFeed, 1), (Obj.warnMv, 20), (Obj.uvMv, 10), (Obj.ovMv, 100), (Obj.ilim, 100), (Obj.senseUohm, 10), (Obj.retryLimit, 2), (Obj.retryTime, 7), (Obj.insertDelay, 3), (Obj.rampLimit, 9), (Obj.prioReturn, 4), (Obj.testTime, 6), (Obj.bbmUs, 15), (Obj.busUvMv, 5), (Obj.settleTime, 2), (Obj.faultTime, 8)], feed1 := { mv := 48, up := true }, feed2 := { mv := 48, up := true },  tick := 5000 } };
        let snd : Sender := wSnd;
        admitsB s snd.who (writeReq snd 0x7830 0 [1]) = true ∧ (s.pe.test = none) ∧ (s.pe.state = peOn) ∧ (s.feedGood 2 = true) ∧ (s.pe.on2 = true)) ∧
    (let s : State := { wRun with pe := { wRun.pe with copy := [(Obj.combine, 0), (Obj.prioFeed, 1), (Obj.warnMv, 20), (Obj.uvMv, 10), (Obj.ovMv, 100), (Obj.ilim, 100), (Obj.senseUohm, 10), (Obj.retryLimit, 2), (Obj.retryTime, 7), (Obj.insertDelay, 3), (Obj.rampLimit, 9), (Obj.prioReturn, 4), (Obj.testTime, 6), (Obj.bbmUs, 15), (Obj.busUvMv, 5), (Obj.settleTime, 2), (Obj.faultTime, 8)], feed1 := { mv := 48, up := true }, feed2 := { mv := 48, up := true },  tick := 5000 } };
        let snd : Sender := wSnd;
        admitsB s snd.who (writeReq snd 0x7830 0 [2]) = true ∧ (s.single = false) ∧ (s.pe.test = none) ∧ (s.pe.state = peOn) ∧ (s.feedGood 1 = true) ∧ (s.pe.on1 = true)) ∧
    (let s : State := { (State.reset) with rst := { State.reset.rst with coreOn := false, starting := none }, pe := { State.reset.pe with copy := [(Obj.combine, 0), (Obj.prioFeed, 1), (Obj.warnMv, 20), (Obj.uvMv, 10), (Obj.ovMv, 100), (Obj.ilim, 100), (Obj.senseUohm, 10), (Obj.retryLimit, 2), (Obj.retryTime, 7), (Obj.insertDelay, 3), (Obj.rampLimit, 9), (Obj.prioReturn, 4), (Obj.testTime, 6), (Obj.bbmUs, 15), (Obj.busUvMv, 5), (Obj.settleTime, 2), (Obj.faultTime, 8)], feed1 := { mv := 48, up := true }, feed2 := { mv := 48, up := true }, test := some { feed := 1, start := 9, minMv := 48 } } };
        let e : FeedTest := { feed := 1, start := 9, minMv := 48 };
        (s.pe.test = some e) ∧ (s.pe.transfer = none) ∧ (e.second = false) ∧ (s.peCfg Obj.combine ≠ 1)) ∧
    (let s : State := { (State.reset) with rst := { State.reset.rst with coreOn := false, starting := none }, pe := { State.reset.pe with copy := [(Obj.combine, 0), (Obj.prioFeed, 1), (Obj.warnMv, 20), (Obj.uvMv, 10), (Obj.ovMv, 100), (Obj.ilim, 100), (Obj.senseUohm, 10), (Obj.retryLimit, 2), (Obj.retryTime, 7), (Obj.insertDelay, 3), (Obj.rampLimit, 9), (Obj.prioReturn, 4), (Obj.testTime, 6), (Obj.bbmUs, 15), (Obj.busUvMv, 5), (Obj.settleTime, 2), (Obj.faultTime, 8)], feed1 := { mv := 48, up := true }, feed2 := { mv := 48, up := true }, state := peOn, retest := some (1, 80) } };
        let n : Nat := 1;
        let q : Nat := 80;
        (s.pe.retest = some (n, q)) ∧ (n = 1 ∨ n = 2) ∧ (s.pe.state = peOn) ∧ (s.feedGood (otherFeed n) = true) ∧ (pathOn s.pe (otherFeed n) = true)) ∧
    (let s : State := { (State.reset) with rst := { State.reset.rst with coreOn := false, starting := none }, pe := { State.reset.pe with copy := [(Obj.combine, 0), (Obj.prioFeed, 1), (Obj.warnMv, 20), (Obj.uvMv, 10), (Obj.ovMv, 100), (Obj.ilim, 100), (Obj.senseUohm, 10), (Obj.retryLimit, 2), (Obj.retryTime, 7), (Obj.insertDelay, 3), (Obj.rampLimit, 9), (Obj.prioReturn, 4), (Obj.testTime, 6), (Obj.bbmUs, 15), (Obj.busUvMv, 5), (Obj.settleTime, 2), (Obj.faultTime, 8)], feed1 := { up := false, lostAt := some 7 } } };
        let feed : Fin 2 := 0;
        let q : Nat := 7;
        ((s.feed (feed.val + 1)).lostAt = some q) ∧ ((s.feed (feed.val + 1)).lasting = false) ∧ (s.feedUsed (feed.val + 1) = true) ∧ (s.faultOpen 0x7810 0x0D (feed.val + 1) = false)) ∧
    (let s : State := { (State.reset) with rst := { State.reset.rst with coreOn := false, starting := none }, pe := { State.reset.pe with copy := [(Obj.combine, 0), (Obj.prioFeed, 1), (Obj.warnMv, 20), (Obj.uvMv, 10), (Obj.ovMv, 100), (Obj.ilim, 100), (Obj.senseUohm, 10), (Obj.retryLimit, 2), (Obj.retryTime, 7), (Obj.insertDelay, 3), (Obj.rampLimit, 9), (Obj.prioReturn, 4), (Obj.testTime, 6), (Obj.bbmUs, 15), (Obj.busUvMv, 5), (Obj.settleTime, 2), (Obj.faultTime, 8)], feed1 := { goodSince := some 7, lasting := true } } };
        let feed : Fin 2 := 0;
        let q : Nat := 7;
        ((s.feed (feed.val + 1)).goodSince = some q) ∧ ((s.feed (feed.val + 1)).lasting = true) ∧ (s.faultOpen 0x7810 0x0D (feed.val + 1) = false)) ∧
    (let s : State := { { (State.reset) with rst := { State.reset.rst with coreOn := false, starting := none }, pe := { State.reset.pe with copy := [(Obj.combine, 0), (Obj.prioFeed, 1), (Obj.warnMv, 20), (Obj.uvMv, 10), (Obj.ovMv, 100), (Obj.ilim, 100), (Obj.senseUohm, 10), (Obj.retryLimit, 2), (Obj.retryTime, 7), (Obj.insertDelay, 3), (Obj.rampLimit, 9), (Obj.prioReturn, 4), (Obj.testTime, 6), (Obj.bbmUs, 15), (Obj.busUvMv, 5), (Obj.settleTime, 2), (Obj.faultTime, 8)], feed1 := { goodSince := some 7, lasting := true } } } with vgOpen := [{ entry := { index := 0x7810, sub := 0x0D, inst := 1, kind := 2 }, covered := true }] };
        let feed : Fin 2 := 0;
        let q : Nat := 7;
        let o : OpenFault := { entry := { index := 0x7810, sub := 0x0D, inst := 1, kind := 2 }, covered := true };
        ((s.feed (feed.val + 1)).goodSince = some q) ∧ ((s.feed (feed.val + 1)).lasting = true) ∧ (s.vgOpen = [o]) ∧ (o.entry.index = 0x7810) ∧ (o.entry.sub = 0x0D) ∧ (o.entry.inst = feed.val + 1)) ∧
    (let s : State := wRun.put Obj.peakMa 4;
        let snd : Sender := wSnd;
        admitsB s snd.who (writeReq snd 0x7820 12 [0]) = true) :=
  ⟨by decide, by decide, by decide, by decide, by decide, by decide, by decide, by decide, by decide, by decide, by decide, by decide, by decide⟩

theorem witness_ResetKinds :
    (let s : State := { wRun with time := 5 * 2 ^ 40 };
        (s.rst.vbatLow = false) ∧ (s.rst.coreOn = true) ∧ (s.onRing = true) ∧ (s.rst.starting ≠ some 0)) ∧
    (let s : State := { wRun with rst := { wRun.rst with starting := none } };
        let lowNs : Nat := 400;
        let taken : Bool := true;
        (s.rst.vbatLow = false) ∧ (s.rst.coreOn = true) ∧ (200 ≤ lowNs) ∧ (1000 ≤ lowNs ∨ taken = true) ∧ (s.rst.starting = none)) ∧
    (let s : State := { wRun with rst := { wRun.rst with starting := none } };
        (s.rst.vbatLow = false) ∧ (s.rst.coreOn = true) ∧ (s.node ≠ stLoading) ∧ (s.rst.starting = none)) ∧
    (let s : State := { wRun with rst := { wRun.rst with starting := none, due := some (5, 3, 90) } };
        let kind : Nat := 5;
        let origin : Nat := 3;
        let q : Nat := 90;
        (s.rst.vbatLow = false) ∧ (s.rst.coreOn = true) ∧ (s.rst.due = some (kind, origin, q)) ∧ (kind = 4 ∨ kind = 5) ∧ (s.rst.starting = none)) ∧
    (let s : State := { (State.reset.put Obj.trips 3) with pe := { State.reset.pe with pgood := false, state := peSettle, tick := 5, on2 := false }, rst := { State.reset.rst with coreOn := false } };
        let q : Nat := max 5 (State.reset.peCfg Obj.settleTime * 1000);
        (s.pe.pgood = false) ∧ (s.pe.state = peSettle) ∧ (s.pe.gateFull = true) ∧ (s.pe.faultTimer = 0) ∧ (s.pe.standby = false) ∧ (s.rst.coreOn = false) ∧ (s.rst.wokenBy = none) ∧ (s.rst.vbatLow = false) ∧ (q = max s.pe.tick (s.pe.settleFrom + s.peCfg Obj.settleTime * 1000))) ∧
    (let s : State := wRun;
        let snd : Sender := wSnd;
        admitsB s snd.who (writeReq snd 0x1200 1 [1]) = true ∧ (snd.who = .mailbox) ∧ (s.wrapActive = false)) ∧
    (let s : State := wRun;
        let snd : Sender := wSnd;
        admitsB s snd.who (writeReq snd 0x1200 1 [2]) = true ∧ (snd.who = .mailbox)) ∧
    (let s : State := wRun;
        let snd : Sender := { wSnd with who := .ring 7 2 };
        let n : Nat := 7;
        let port : Nat := 2;
        admitsB s snd.who (writeReq snd 0x1200 1 [2]) = true ∧ (snd.who = .ring n port) ∧ (snd.commander ≠ 0) ∧ (snd.commander = s.holderNow)) :=
  ⟨by decide, by decide, by decide, by decide, by decide, by decide, by decide, by decide⟩

theorem witness_Starts :
    (let s : State := { State.reset with fw := { State.reset.fw with boot0 := some { slot0 := 5, slot1 := 5 } } };
        let found : StartFound := { bootSel := 2, ns := 7 };
        (s.rst.coreOn = true) ∧ (s.node = stLoading) ∧ (s.rst.loaded = false) ∧ (s.fw.badStrap = none) ∧ (s.fw.boot0.isSome = true) ∧ (found.bootSel = 2)) ∧
    (let s : State := { State.reset with fw := { State.reset.fw with boot0 := some { slot0 := 5, slot1 := 5, failed := 3 } } };
        let found : StartFound := { ns := 7 };
        (s.rst.coreOn = true) ∧ (s.node = stLoading) ∧ (s.rst.loaded = false) ∧ (s.fw.badStrap = none) ∧ (s.fw.boot0.isSome = true) ∧ (found.bootSel = 0) ∧ (s.fw.boot1 = none) ∧ (3 ≤ s.boot.failed)) ∧
    (let s : State := { State.reset with fw := { State.reset.fw with boot0 := some { slot0 := 5, slot1 := 5 } } };
        let found : StartFound := { ns := 7 };
        let b : BootRecord := { slot0 := 5, slot1 := 5 };
        (s.rst.coreOn = true) ∧ (s.node = stLoading) ∧ (s.rst.loaded = false) ∧ (s.fw.badStrap = none) ∧ (s.fw.boot0 = some b) ∧ (s.fw.boot1 = none) ∧ (found.bootSel = 0) ∧ (b.failed = 0) ∧ (b.trial = false) ∧ (b.slot0 = 0 ∨ 4 ≤ b.slot0) ∧ (b.slot1 = 0 ∨ 4 ≤ b.slot1) ∧ (s.rst.vbatLow = false)) ∧
    (let s : State := State.reset;
        let rails : Fin 64 := 5;
        (s.rst.coreOn = true) ∧ (s.node = stLoading) ∧ (s.rst.loaded = false)) :=
  ⟨by decide, by decide, by decide, by decide⟩

theorem witness_PowerStates :
    (let s : State := wRun.put Obj.powerState 1;
        let snd : Sender := wSnd;
        admitsB s snd.who (writeReq snd 0x1210 1 [0]) = true ∧ (s.obj Obj.powerState ≠ 0)) ∧
    (let s : State := wRun;
        let snd : Sender := wSnd;
        admitsB s snd.who (writeReq snd 0x1210 1 [1]) = true ∧ (s.obj Obj.powerState = 0)) ∧
    (let s : State := wRun;
        let snd : Sender := wSnd;
        admitsB s snd.who (writeReq snd 0x1210 1 [2]) = true ∧ (s.obj Obj.powerState = 0) ∧ (s.fc.cells = []) ∧ (s.eng.engines = []) ∧ (s.can = []) ∧ (s.uart = []) ∧ (s.obj Obj.stageState ≠ 2) ∧ (s.obj Obj.stageState ≠ 3) ∧ (s.obj Obj.storeState ≠ 1) ∧ (s.obj Obj.smeState ≠ smeTesting)) ∧
    (let s : State := wRun.put Obj.wakePinEn 1;
        let snd : Sender := wSnd;
        admitsB s snd.who (writeReq snd 0x1210 1 [3]) = true ∧ (s.obj Obj.powerState = 0) ∧ (s.obj Obj.wakePinEn = 1) ∧ (s.wrapActive = false) ∧ (s.ringState ≠ 4) ∧ (s.acc.unweld = none) ∧ (∀ e ∈ s.acc.sessions, e.role ≠ 2) ∧ (s.obj Obj.stageState ≠ 2) ∧ (s.obj Obj.stageState ≠ 3) ∧ (s.obj Obj.storeState ≠ 1) ∧ (s.obj Obj.smeState ≠ smeTesting)) ∧
    (let s : State := { ((State.reset.put Obj.wakePinEn 1)) with rst := { State.reset.rst with coreOn := true }, pe := { State.reset.pe with alive := true }, acc := { State.reset.acc with unweld := some { start := 0, standby := true, requested := true } } };
        let x : Unweld := { start := 0, standby := true, requested := true };
        (s.acc.unweld = some x) ∧ (x.standby = true) ∧ (x.requested = true) ∧ (s.ownId = 0) ∧ (s.rst.coreOn = true) ∧ (s.rst.wakeWaiting = none)) ∧
    (let s : State := { (State.reset) with rst := { State.reset.rst with standby := true, starting := none, coreOn := false }, pe := { State.reset.pe with pgood := false, standby := true, tick := 10 ^ 9 }, acc := { State.reset.acc with unweld := none } };
        (s.rst.standby = true) ∧ (s.rst.starting = none) ∧ (s.rst.vbatLow = false) ∧ (s.rst.coreOn = false) ∧ (s.pe.state = peOn) ∧ (s.pe.gateFull = true) ∧ (s.pe.faultTimer = 0) ∧ (s.pe.settleFrom + s.peCfg Obj.settleTime * 1000 ≤ s.pe.tick) ∧ (s.rst.wakePin = true)) ∧
    (let s : State := { (State.reset) with rst := { State.reset.rst with standby := true, starting := none, coreOn := false, wakeAt := 44 }, pe := { State.reset.pe with pgood := false, standby := true, tick := 10 ^ 9 }, acc := { State.reset.acc with unweld := none } };
        (s.rst.standby = true) ∧ (s.rst.starting = none) ∧ (s.rst.vbatLow = false) ∧ (s.rst.coreOn = false) ∧ (s.pe.state = peOn) ∧ (s.pe.gateFull = true) ∧ (s.pe.faultTimer = 0) ∧ (s.pe.settleFrom + s.peCfg Obj.settleTime * 1000 ≤ s.pe.tick) ∧ (s.rst.wakeAt ≠ 0)) ∧
    (let s : State := { (wOn.put Obj.wakePinEn 1) with acc := { wOn.acc with unweld := some { start := 0, standby := true, requested := true } } };
        let x : Unweld := { start := 0, standby := true, requested := true };
        (s.rst.coreOn = true) ∧ (s.rst.standby = false) ∧ (s.acc.unweld = some x) ∧ (x.standby = true) ∧ (s.acc.census = none) ∧ (s.ownId ≠ 0) ∧ (s.obj Obj.wakePinEn = 1)) ∧
    (let s : State := { (wOn.put Obj.wakePinEn 1) with acc := { wOn.acc with unweld := some { start := 0, standby := true, requested := true }, census := some { origin := 5, seq := 1, time := 3 } } };
        let x : Unweld := { start := 0, standby := true, requested := true };
        (s.rst.coreOn = true) ∧ (s.rst.standby = false) ∧ (s.acc.unweld = some x) ∧ (x.standby = true) ∧ (s.acc.census.isSome = true) ∧ (s.obj Obj.wakePinEn = 1)) ∧
    (let s : State := { (State.reset) with rst := { State.reset.rst with coreOn := false }, pe := { State.reset.pe with pgood := false }, acc := { State.reset.acc with unweld := none } };
        (s.rst.onVbat = false) ∧ (s.pe.pgood = false) ∧ (s.rst.coreOn = false) ∧ (s.rst.standby = false)) ∧
    (let s : State := { (State.reset) with rst := { State.reset.rst with onVbat := true, coreOn := false }, pe := { State.reset.pe with alive := true }, acc := { State.reset.acc with unweld := none } };
        let mv : Nat := 1500;
        (s.rst.onVbat = true)) ∧
    (let s : State := wOn;
        let mv : Nat := 1500;
        (s.rst.onVbat = false)) ∧
    (let s : State := { wRun.put Obj.vgCapacity 1024 with vgHead := [{ index := 3, detail := 4 }] };
        let snd : Sender := wSnd;
        admitsB s snd.who (writeReq snd 0xF000 6 [1]) = true ∧ (1 ≤ s.obj Obj.vgCapacity)) :=
  ⟨by decide, by decide, by decide, by decide, by decide, by decide, by decide, by decide, by decide, by decide, by decide, by decide, by decide⟩

theorem witness_Downloads :
    (let s : State := { wRun with fw := { wRun.fw with linkRate := some 2, boot0 := some { slot0 := 5, slot1 := 4 } } };
        let slot : Byte := 1;
        let total : BitVec 32 := 5000;
        (s.rst.coreOn = true) ∧ (s.fw.linkRate.isSome = true) ∧ (s.node ≠ stLoading) ∧ (s.paused = false) ∧ (s.fw.download = none) ∧ (slot.toNat ≤ 1) ∧ (4352 ≤ total.toNat) ∧ (total.toNat ≤ 33554432) ∧ (s.node = stRecovery ∨ slot.toNat ≠ s.boot.active)) ∧
    (let s : State := { wRun with fw := { wRun.fw with linkRate := some 2, boot0 := some { slot0 := 5, slot1 := 4 }, download := some { slot := 1, total := 5000, last := 4 } } };
        let d : Download := { slot := 1, total := 5000, last := 4 };
        (s.rst.coreOn = true) ∧ (s.fw.download = some d) ∧ (d.erased = false) ∧ (d.slot ≤ 1)) ∧
    (let s : State := { wRun with fw := { wRun.fw with linkRate := some 2, boot0 := some { slot0 := 5, slot1 := 4 }, download := some { slot := 1, total := 5000, last := 4, erased := true } } };
        let offset : BitVec 32 := 0;
        let data : List Byte := [1, 2, 3];
        let d : Download := { slot := 1, total := 5000, last := 4, erased := true };
        (s.rst.coreOn = true) ∧ (s.fw.linkRate.isSome = true) ∧ (s.node ≠ stLoading) ∧ (s.paused = false) ∧ (s.fw.download = some d) ∧ (d.erased = true) ∧ (d.lastFrame.all (fun l => l.1 != offset.toNat) = true) ∧ (data ≠ []) ∧ (data.length ≤ 1024) ∧ (offset.toNat = s.obj Obj.dlReceived) ∧ (offset.toNat + data.length ≤ d.total) ∧ (d.slot ≤ 1)) ∧
    (let s : State := { (wRun.put Obj.dlReceived 5000) with fw := { (wRun.put Obj.dlReceived 5000).fw with linkRate := some 2, boot0 := some { slot0 := 5, slot1 := 4 }, download := some { slot := 1, total := 5000, last := 4, erased := true } } };
        let d : Download := { slot := 1, total := 5000, last := 4, erased := true };
        (s.rst.coreOn = true) ∧ (s.fw.linkRate.isSome = true) ∧ (s.node ≠ stLoading) ∧ (s.paused = false) ∧ (s.fw.download = some d) ∧ (d.total ≤ s.obj Obj.dlReceived) ∧ (d.slot ≤ 1)) ∧
    (let s : State := { wRun with fw := { wRun.fw with linkRate := some 2, boot0 := some { slot0 := 5, slot1 := 4 }, download := some { slot := 1, total := 5000, last := 4 } } };
        let d : Download := { slot := 1, total := 5000, last := 4 };
        (s.rst.coreOn = true) ∧ (s.fw.linkRate.isSome = true) ∧ (s.node ≠ stLoading) ∧ (s.paused = false) ∧ (s.fw.download = some d) ∧ (d.slot ≤ 1)) ∧
    (let s : State := { wRun with fw := { wRun.fw with linkRate := some 2, boot0 := some { slot0 := 5, slot1 := 4 }, download := some { slot := 1, total := 5000, last := 4 } } };
        let d : Download := { slot := 1, total := 5000, last := 4 };
        (s.rst.coreOn = true) ∧ (s.fw.download = some d) ∧ (d.slot ≤ 1)) ∧
    (let s : State := { wRun with fw := { wRun.fw with linkRate := some 2, boot0 := some { slot0 := 5, slot1 := 4 } } };
        (s.rst.coreOn = true) ∧ (s.fw.linkRate.isSome = true) ∧ (s.node ≠ stLoading) ∧ (s.paused = false) ∧ (s.fw.download = none)) ∧
    (let s : State := wRun;
        let rate : Fin 4 := 2;
        (s.rst.coreOn = true) ∧ (s.fw.linkRate = none)) ∧
    (let s : State := { wRun with fw := { wRun.fw with linkRate := some 2, boot0 := some { slot0 := 5, slot1 := 4 } } };
        (s.rst.coreOn = true)) :=
  ⟨by decide, by decide, by decide, by decide, by decide, by decide, by decide, by decide, by decide⟩

theorem witness_Activation :
    (let s : State := { wRun with fw := { wRun.fw with boot0 := some { slot0 := 5, slot1 := 5 } } };
        let snd : Sender := wSnd;
        let b : BootRecord := { slot0 := 5, slot1 := 5 };
        admitsB s snd.who (writeReq snd 0x1300 5 [1]) = true ∧ (s.boot = b) ∧ (b.active ≤ 1) ∧ (b.slotState (1 - b.active) = 5) ∧ (s.fw.download = none) ∧ (s.obj Obj.stageState ≠ 2) ∧ (s.obj Obj.stageState ≠ 3) ∧ (s.obj Obj.storeState ≠ 1) ∧ (s.obj Obj.smeState ≠ smeTesting) ∧ (s.fw.pauseAt = none) ∧ (s.holding = false)) ∧
    (let s : State := { wRun with fw := { wRun.fw with pauseAt := some 77, boot0 := some { slot0 := 5, slot1 := 5 } } };
        let q : Nat := 77;
        (s.rst.coreOn = true) ∧ (s.fw.pauseAt = some q) ∧ (s.eng.engines = []) ∧ (s.boot.active ≤ 1)) ∧
    (let s : State := { wRun with fw := { wRun.fw with boot0 := some { slot0 := 5, slot1 := 5, trial := true, active := 1 } } };
        let snd : Sender := wSnd;
        admitsB s snd.who (writeReq snd 0x1300 5 [2]) = true ∧ (s.boot.trial = true)) ∧
    (let s : State := { wRun with fw := { wRun.fw with trialFrom := some 3, boot0 := some { slot0 := 5, slot1 := 5, trial := true, active := 1 } } };
        let q : Nat := 3;
        (s.rst.coreOn = true) ∧ (s.fw.trialFrom = some q) ∧ (s.boot.trial = true) ∧ (s.onRing = true)) ∧
    (let s : State := wRun.put Obj.exportLength 9;
        let snd : Sender := wSnd;
        admitsB s snd.who (writeReq snd 0x1300 5 [3]) = true) ∧
    (let s : State := { (wRun.put Obj.nodeState stRecovery) with fw := { (wRun.put Obj.nodeState stRecovery).fw with linkRate := some 2, boot0 := some { slot0 := 5, slot1 := 4 } } };
        let slot : Byte := 0;
        (s.rst.coreOn = true) ∧ (s.fw.linkRate.isSome = true) ∧ (s.node ≠ stLoading) ∧ (s.paused = false) ∧ (s.fw.download = none) ∧ (s.node = stRecovery) ∧ (slot.toNat ≤ 1) ∧ (s.boot.slotState slot.toNat = 5)) :=
  ⟨by decide, by decide, by decide, by decide, by decide, by decide⟩

end Sys2Proof.Machine
end

section
/-! SUPPORT. The highest live claim (R101): the holder ranks above every live commander, and every command ends with HOLDER and NO_CLAIM
told afresh. -/
namespace Sys2Proof.Machine

/-! ## The commander that a search over claims ends with -/

/-- One step of the search of `State.holderNow`: the commander at hand gives way to one whose claim ranks above its own. -/
def State.preferClaim (s : State) (best i : Nat) : Nat := if best = 0 ∨ claimAbove s i best then i else best

theorem State.holderNow_eq_foldl (s : State) : s.holderNow = s.liveCommanders.foldl s.preferClaim 0 := rfl

/-- Commander `b` is of the list `l` and ranks highest there: no other has a greater claim number, and those with an equal one have no
lower ID. -/
def State.HighestOf (s : State) (l : List Nat) (b : Nat) : Prop :=
  b ∈ l ∧ ∀ c ∈ l, s.obj (Obj.cmdrClaim (c - 1)) < s.obj (Obj.cmdrClaim (b - 1)) ∨
    s.obj (Obj.cmdrClaim (c - 1)) = s.obj (Obj.cmdrClaim (b - 1)) ∧ b ≤ c

/-- The search keeps the highest commander when a later one joins the list. -/
theorem State.HighestOf.preferClaim {s : State} {l : List Nat} {b i : Nat} (h : s.HighestOf l b) (hb : 0 < b) (later : ∀ c ∈ l, c < i) :
    s.HighestOf (l ++ [i]) (s.preferClaim b i) := by
  obtain ⟨hmem, htop⟩ := h
  have hlt := later b hmem
  by_cases above : s.obj (Obj.cmdrClaim (b - 1)) < s.obj (Obj.cmdrClaim (i - 1))
  · have hpick : s.preferClaim b i = i := by simp [State.preferClaim, claimAbove, above]
    rw [hpick]
    refine ⟨by simp, fun c hc => ?_⟩
    obtain hc | rfl := List.mem_append.mp hc |>.imp_right List.mem_singleton.mp
    · exact .inl ((htop c hc).elim (·.trans above) (·.1.trans_lt above))
    · exact .inr ⟨rfl, le_rfl⟩
  · have hpick : s.preferClaim b i = b := by simp [State.preferClaim, claimAbove, above, hb.ne']
    rw [hpick]
    refine ⟨by simp [hmem], fun c hc => ?_⟩
    obtain hc | rfl := List.mem_append.mp hc |>.imp_right List.mem_singleton.mp
    · exact htop c hc
    · exact (not_lt.mp above).lt_or_eq.imp_right (⟨·, hlt.le⟩)

/-- Over commanders in ascending order the search ends with the highest one. -/
theorem State.highestOf_foldl (s : State) (l : List Nat) (hne : l ≠ []) (hpos : ∀ c ∈ l, 0 < c) (hasc : l.Pairwise (· < ·)) :
    s.HighestOf l (l.foldl s.preferClaim 0) := by
  induction l using List.reverseRecOn with
  | nil => exact absurd rfl hne
  | append_singleton l i ih =>
    obtain ⟨hl, -, hlater⟩ := List.pairwise_append.mp hasc
    rw [List.foldl_append]
    by_cases hnil : l = []
    · subst hnil
      simp [State.HighestOf, State.preferClaim]
    · have top := ih hnil (fun c hc => hpos c (by simp [hc])) hl
      exact top.preferClaim (hpos _ (by simp [top.1])) (fun c hc => hlater c hc i (by simp))

/-! ## The holder among the live commanders -/

theorem State.mem_liveCommanders {s : State} {c : Nat} :
    c ∈ s.liveCommanders ↔ (1 ≤ c ∧ c ≤ 8) ∧ s.obj (Obj.cmdrLive (c - 1)) = 1 := by
  have ids : c ∈ [1, 2, 3, 4, 5, 6, 7, 8] ↔ 1 ≤ c ∧ c ≤ 8 := by
    simp only [List.mem_cons, List.not_mem_nil, or_false]
    omega
  rw [State.liveCommanders, List.mem_filter, ids, beq_iff_eq]

theorem State.liveCommanders_ascending (s : State) : s.liveCommanders.Pairwise (· < ·) :=
  List.Pairwise.filter _ (by decide)

/-- Where a claim is live, the holder's is the highest one. -/
theorem State.holderNow_highest {s : State} (h : s.liveCommanders ≠ []) : s.HighestOf s.liveCommanders s.holderNow :=
  s.highestOf_foldl _ h (fun _ hc => (State.mem_liveCommanders.mp hc).1.1) s.liveCommanders_ascending

theorem State.holderNow_eq_zero {s : State} : s.holderNow = 0 ↔ s.liveCommanders = [] := by
  refine ⟨fun h0 => ?_, fun h => by rw [s.holderNow_eq_foldl, h]; rfl⟩
  by_contra h
  obtain ⟨⟨hpos, -⟩, -⟩ := State.mem_liveCommanders.mp (State.holderNow_highest h).1
  omega

/-! ## What the search reads -/

theorem State.liveCommanders_congr {s u : State} (hlive : ∀ c, u.obj (Obj.cmdrLive c) = s.obj (Obj.cmdrLive c)) :
    u.liveCommanders = s.liveCommanders := by
  simp only [State.liveCommanders, hlive]

theorem State.holderNow_congr {s u : State} (hlive : ∀ c, u.obj (Obj.cmdrLive c) = s.obj (Obj.cmdrLive c))
    (hclaim : ∀ c, u.obj (Obj.cmdrClaim c) = s.obj (Obj.cmdrClaim c)) : u.holderNow = s.holderNow := by
  have above : claimAbove u = claimAbove s := by
    funext a b
    simp only [claimAbove, hclaim]
  simp only [State.holderNow, State.liveCommanders_congr hlive, above]

/-! ## Objects that follow their sources -/

theorem State.follow_obj (s : State) (k v j : Nat) : (s.follow k v).obj j = if j = k then v else s.obj j := by
  by_cases h : s.obj k = v
  · by_cases hj : j = k <;> simp [State.follow, h, hj]
  · simp [State.follow, h, State.put_obj]

/-- CLAIM and LIVE are subindices 1 and 2 of their records, so an object with another subindex that follows its source leaves the holder. -/
theorem State.holderNow_follow (s : State) {k : Nat} (v : Nat) (h1 : k % 256 ≠ 1) (h2 : k % 256 ≠ 2) :
    (s.follow k v).holderNow = s.holderNow :=
  State.holderNow_congr (fun c => by rw [State.follow_obj, if_neg (by simp only [Obj.cmdrLive]; omega)])
    (fun c => by rw [State.follow_obj, if_neg (by simp only [Obj.cmdrClaim]; omega)])

/-- Bit 9 of FAULT_SUMMARY is NO_CLAIM: the sources of the bits below it add up to less than 512. -/
theorem State.faultSummaryNow_noClaim (s : State) : s.faultSummaryNow.testBit 9 = true ↔ s.holderNow = 0 := by
  have ofBool_le (b : Bool) : ofBool b ≤ 1 := by cases b <;> decide
  have stored : s.obj Obj.faultSummary &&& 0x116 ≤ 0x116 := Nat.and_le_right
  have faults := ofBool_le (s.vgOpen ≠ [])
  have config := ofBool_le (s.obj Obj.configValid = 0)
  have unlocked := ofBool_le (!s.timeLocked)
  have mrams := ofBool_le (s.rst.loaded && s.mramsUp.length < 2)
  have feeds := ofBool_le (s.pe.feed1.lasting || (s.pe.feed2.lasting && !s.single))
  rw [State.faultSummaryNow, Nat.add_comm, show 512 = 2 ^ 9 from rfl, Nat.testBit_two_pow_mul_add _ (by omega), State.holderNow_eq_zero]
  by_cases h : s.liveCommanders = [] <;> simp [h, ofBool]

/-! ## The end of every command -/

/-- HOLDER names the holder of the highest live claim, and NO_CLAIM is set just when HOLDER is 0. -/
def State.TellsHolder (s : State) : Prop :=
  s.obj Obj.holder = s.holderNow ∧ ((s.obj Obj.faultSummary).testBit 9 = true ↔ s.obj Obj.holder = 0)

theorem State.refreshStatus_tellsHolder (s : State) : s.refreshStatus.TellsHolder := by
  have told : s.refreshStatus.obj Obj.holder = s.refreshStatus.holderNow := by
    simp [State.refreshStatus, State.follow_obj, State.holderNow_follow]
  refine ⟨told, ?_⟩
  rw [told]
  simp [State.refreshStatus, State.follow_obj, State.holderNow_follow, State.faultSummaryNow_noClaim]

/-- HOLDER, NO_CLAIM and their sources are all objects. -/
theorem State.TellsHolder.ofObjs {s u : State} (h : s.TellsHolder) (ho : u.objs = s.objs) : u.TellsHolder := by
  have obj (k : Nat) : u.obj k = s.obj k := by rw [State.obj, State.obj, ho]
  rw [State.TellsHolder, obj, obj, State.holderNow_congr (fun _ => obj _) (fun _ => obj _)]
  exact h

theorem State.trackTimes_objs (s before : State) : (s.trackTimes before).objs = s.objs := rfl

theorem State.raiseAll_objs (s before : State) : (s.raiseAll before).objs = s.objs := rfl

/-- What settles with core power ends with a refresh of the status objects, the times of R119 and R130, and the interrupt sources. -/
theorem settle_refreshes (before : State) {s : State} (on : s.rst.coreOn = true) :
    ∃ u : State, settle before s = (u.refreshStatus.trackTimes before).raiseAll before := by
  rw [settle, if_neg (by simp [on])]
  exact ⟨_, rfl⟩

theorem settle_off (before : State) {s : State} (off : s.rst.coreOn = false) : settle before s = s := by simp [settle, off]

theorem settle_tellsHolder (before s : State) (h : (settle before s).rst.coreOn = true) : (settle before s).TellsHolder := by
  cases on : s.rst.coreOn with
  | true =>
    obtain ⟨u, hu⟩ := settle_refreshes before on
    rw [hu]
    exact u.refreshStatus_tellsHolder.ofObjs (by rw [State.raiseAll_objs, State.trackTimes_objs])
  | false => simp [settle_off before on, on] at h

/-- Every meaning ends in `settle`, also one that needs core power (`settleOn`). -/
theorem exec_settles (i : Instr) (s : State) : ∃ u, exec i s = .next (settle s u) := by
  cases i <;> exact ⟨_, rfl⟩

theorem step_tellsHolder {s t : State} (queued : s.pending ≠ []) (h : step s = .next t) (on : t.rst.coreOn = true) : t.TellsHolder := by
  obtain ⟨c, rest, hp⟩ := List.exists_cons_of_ne_nil queued
  obtain ⟨u, hu⟩ := exec_settles c { s with pending := rest }
  have hstep : step s = .next (settle { s with pending := rest } u) := by rw [← hu, step, hp]
  obtain rfl : settle { s with pending := rest } u = t := by simpa [hstep] using h
  exact settle_tellsHolder _ _ on

/-- Settles O4: the search of the holder ranks every live commander (`State.holderNow_highest`), and every command ends with HOLDER and
NO_CLAIM told afresh (`step_tellsHolder`). -/
theorem highestClaim : Obligations.HighestClaim := by
  unfold Obligations.HighestClaim
  refine ⟨fun s => ⟨fun h0 c h1 h8 hlive => ?_, fun h => ?_⟩, fun s t queued hstep on => step_tellsHolder queued hstep on⟩
  · have hc := State.mem_liveCommanders.mpr ⟨⟨h1, h8⟩, hlive⟩
    rw [State.holderNow_eq_zero.mp h0] at hc
    exact List.not_mem_nil hc
  · obtain ⟨hmem, htop⟩ := State.holderNow_highest (mt State.holderNow_eq_zero.mpr h)
    obtain ⟨⟨h1, h8⟩, hlive⟩ := State.mem_liveCommanders.mp hmem
    exact ⟨h1, h8, hlive, fun c hc1 hc8 hc => htop c (State.mem_liveCommanders.mpr ⟨⟨hc1, hc8⟩, hc⟩)⟩

end Sys2Proof.Machine
end

section
/-! SUPPORT. The running value of a check-value unit (R350, R351): what one byte, a list of bytes and the result come to, and the
value that a job starts from (R357, R358). -/
namespace Sys2Proof.Machine

/-! ## Bits and bytes into the register -/

/-- The bits of a byte in the order in which they enter the register: bit 0 first with REFIN, bit 7 first without. -/
theorem crcByte_eq_foldl_range (w poly : Nat) (refin : Bool) (reg : Nat) (b : Byte) :
    crcByte w poly refin reg b =
      (List.range 8).foldl (fun x i => crcBit w poly x (b.toNat.testBit (if refin then i else 7 - i))) reg := by
  have order : (if refin then bitsLsb b.toNat else bitsMsb b.toNat) =
      (List.range 8).map (fun i => b.toNat.testBit (if refin then i else 7 - i)) := by cases refin <;> rfl
  rw [crcByte, order, List.foldl_map]

/-- A bit leaves a register of `w` bits: the shift is cut to `w` bits and the polynomial has no more. -/
theorem crcBit_lt {w poly : Nat} (hpoly : poly < 2 ^ w) (reg : Nat) (b : Bool) : crcBit w poly reg b < 2 ^ w := by
  have shifted : reg * 2 % 2 ^ w < 2 ^ w := Nat.mod_lt _ (Nat.two_pow_pos w)
  unfold crcBit
  split
  · exact Nat.xor_lt_two_pow shifted hpoly
  · exact shifted

theorem crcByte_lt {w poly reg : Nat} (hpoly : poly < 2 ^ w) (refin : Bool) (b : Byte) (h : reg < 2 ^ w) :
    crcByte w poly refin reg b < 2 ^ w :=
  List.foldlRecOn (motive := (· < 2 ^ w)) _ _ h (fun x _ bit _ => crcBit_lt hpoly x bit)

theorem CkParams.good_iff {c : CkParams} : c.good = true ↔
    (1 ≤ c.width ∧ c.width ≤ 32) ∧ c.poly.testBit 0 = true ∧ c.poly < 2 ^ c.width ∧ c.init < 2 ^ c.width ∧ c.xorout < 2 ^ c.width := by
  simp [CkParams.good, and_assoc]

theorem CkParams.feed_append (c : CkParams) (reg : Nat) (l m : List Byte) : c.feed reg (l ++ m) = c.feed (c.feed reg l) m :=
  List.foldl_append

theorem CkParams.feed_lt {c : CkParams} {reg : Nat} (hc : c.good = true) (h : reg < 2 ^ c.width) (l : List Byte) :
    c.feed reg l < 2 ^ c.width := by
  obtain ⟨-, -, hpoly, -, -⟩ := CkParams.good_iff.mp hc
  exact List.foldlRecOn (motive := (· < 2 ^ c.width)) _ _ h (fun _ hx b _ => crcByte_lt hpoly c.refin b hx)

/-! ## The result -/

theorem reflect_lt (n v : Nat) : reflect n v < 2 ^ n := by
  induction n generalizing v with
  | zero => simp [reflect]
  | succ n ih =>
    have rest := ih (v / 2)
    obtain h | h := Nat.mod_two_eq_zero_or_one v <;> rw [reflect, h, Nat.pow_succ] <;> omega

/-- Bit `n - 1 - i` of a number becomes bit `i` of its reflection. -/
theorem reflect_testBit {n i : Nat} (v : Nat) (h : i < n) : (reflect n v).testBit i = v.testBit (n - 1 - i) := by
  induction n generalizing v with
  | zero => omega
  | succ n ih =>
    rw [reflect, Nat.mul_comm, Nat.testBit_two_pow_mul_add _ (reflect_lt n _)]
    by_cases top : i = n
    · simp [top]
    · have lower : i < n := by omega
      rw [if_pos lower, ih _ lower, Nat.testBit_div_two]
      congr 1
      omega

theorem CkParams.result_lt {c : CkParams} {reg : Nat} (hc : c.good = true) (h : reg < 2 ^ c.width) : c.result reg < 2 ^ c.width := by
  obtain ⟨-, -, -, -, hxorout⟩ := CkParams.good_iff.mp hc
  unfold CkParams.result crcEnd
  split
  · exact Nat.xor_lt_two_pow (reflect_lt _ _) hxorout
  · exact Nat.xor_lt_two_pow h hxorout

theorem CkParams.result_testBit (c : CkParams) (reg : Nat) {i : Nat} (h : i < c.width) :
    (c.result reg).testBit i = xor (reg.testBit (if c.refout then c.width - 1 - i else i)) (c.xorout.testBit i) := by
  rw [CkParams.result, crcEnd, Nat.testBit_xor]
  cases c.refout with
  | true => simp [reflect_testBit reg h]
  | false => simp

/-! ## The start of a job -/

@[simp] theorem State.setCkJob_ckJob_same (s : State) (u : Nat) (j : Option CkJob) : (s.setCkJob u j).ckJob u = j :=
  sparsePut_same _ s.ck.jobs u j

@[simp] theorem State.put_ckJob (s : State) (k v u : Nat) : (s.put k v).ckJob u = s.ckJob u := rfl

/-- A start of a job over some bytes that answers DONE leaves the unit with a job whose running value is INIT (R357): what refuses a start
answers another status. -/
theorem State.jobCommand_start {s t : State} {u : Nat} (h : s.jobCommand u 1 = (t, stDone)) (hlen : s.obj (Obj.jobLen u) ≠ 0) :
    ∃ j, t.ckJob u = some j ∧ j.reg = s.obj (Obj.ckInit u) := by
  have refused {x : Nat} (hx : x ≠ stDone) : (s, x) ≠ (t, stDone) := fun e => hx (congrArg Prod.snd e)
  rw [State.jobCommand, if_neg (by decide)] at h
  split at h
  case isTrue _running => exact absurd h (refused (by decide))
  split at h
  case isTrue _outOfService => exact absurd h (refused (by decide))
  simp only [hlen, if_false] at h
  split at h
  case isTrue _badRange => exact absurd h (refused (by decide))
  obtain rfl := congrArg Prod.fst h
  exact ⟨_, (State.put_ckJob ..).trans (State.setCkJob_ckJob_same ..), rfl⟩

/-- Settles O9: a byte enters bit by bit (`crcByte_eq_foldl_range`), the result is read bit by bit (`CkParams.result_testBit`), and a job
starts from INIT (`State.jobCommand_start`). -/
theorem runningValue : Obligations.RunningValue := by
  unfold Obligations.RunningValue
  refine ⟨fun c reg b l m hc hreg => ⟨rfl, c.feed_append reg l m, CkParams.feed_lt hc hreg l, ?_⟩,
    fun c reg hc hreg => ⟨CkParams.result_lt hc hreg, fun i hi => c.result_testBit reg hi⟩, fun s n c hnone => ?_,
    fun s t n h hlen => ?_⟩
  · exact crcByte_eq_foldl_range c.width c.poly c.refin reg b
  · simp [State.ctxValueNow, hnone]
  · obtain ⟨j, hjob, hreg⟩ := State.jobCommand_start h hlen
    simp [hjob, hreg]

end Sys2Proof.Machine
end

section
/-! SUPPORT. Fields in bytes: little-endian numbers read back, the header of a ring frame (R68, R69) and the bodies of object requests and
responses (R47, R48). -/
namespace Sys2Proof.Machine

/-! ## Little-endian bytes -/

@[simp] theorem leBytes_length (n v : Nat) : (leBytes n v).length = n := by
  induction n generalizing v with
  | zero => rfl
  | succ n ih => simp [leBytes, ih]

theorem leVal_leBytes (n v : Nat) : leVal (leBytes n v) = v % 256 ^ n := by
  induction n generalizing v with
  | zero => simp [leBytes, leVal, Nat.mod_one]
  | succ n ih => rw [leBytes, leVal, ih, BitVec.toNat_ofNat, Nat.pow_succ' (m := 256), Nat.mod_mul]

theorem leVal_append (a b : List Byte) : leVal (a ++ b) = leVal a + 256 ^ a.length * leVal b := by
  induction a with
  | nil => simp [leVal]
  | cons x a ih =>
    rw [List.cons_append, leVal, ih, leVal, List.length_cons, Nat.pow_succ']
    ring

/-- A field at the front of some bytes. -/
theorem leAt_front (n v : Nat) (l : List Byte) : leAt (leBytes n v ++ l) 0 n = v % 256 ^ n := by
  rw [leAt, slice, List.drop_zero, List.take_left' (leBytes_length n v)]
  simp [leVal_leBytes]

/-- A field behind another. -/
theorem leAt_behind {k o : Nat} (h : k ≤ o) (v n : Nat) (l : List Byte) : leAt (leBytes k v ++ l) o n = leAt l (o - k) n := by
  have skip : (leBytes k v ++ l).drop o = l.drop (o - k) := by
    rw [List.drop_append, leBytes_length, List.drop_of_length_le (by simpa using h), List.nil_append]
  rw [leAt, leAt, slice, slice, skip]

theorem leAt_whole {n : Nat} {l : List Byte} (h : l.length = n) : leAt l 0 n = leVal l := by
  rw [leAt, slice, List.drop_zero, List.take_of_length_le h.le]
  simp [h]

theorem drop_behind {k o : Nat} (h : k ≤ o) (v : Nat) (l : List Byte) : (leBytes k v ++ l).drop o = l.drop (o - k) := by
  rw [List.drop_append, leBytes_length, List.drop_of_length_le (by simpa using h), List.nil_append]

/-! ## Request and response bodies -/

theorem ObjReq.wf_iff {q : ObjReq} : q.wf = true ↔ q.opcode < 2 ^ 8 ∧ q.flags < 2 ^ 8 ∧ q.target < 2 ^ 8 ∧ q.commander < 2 ^ 8 ∧
    q.index < 2 ^ 16 ∧ q.sub < 2 ^ 8 ∧ q.reserved < 2 ^ 8 ∧ q.tag < 2 ^ 16 ∧ q.length < 2 ^ 16 ∧ q.segOffset < 2 ^ 32 := by
  simp [ObjReq.wf, fitsIn, and_assoc]

theorem reqOfBytes_reqBytes {q : ObjReq} (h : q.wf = true) : reqOfBytes (reqBytes q) = q := by
  obtain ⟨hopcode, hflags, htarget, hcommander, hindex, hsub, hreserved, htag, hlength, hoffset⟩ := ObjReq.wf_iff.mp h
  cases q
  simp_all [reqOfBytes, reqBytes, List.append_assoc, leAt_front, leAt_behind, drop_behind, Nat.mod_eq_of_lt]

theorem respOfBytes_respBytes {p : ObjResp} (hopcode : p.opcode < 2 ^ 8) (hstatus : p.status < 2 ^ 8) (hsource : p.source < 2 ^ 8)
    (hcommander : p.commander < 2 ^ 8) (hindex : p.index < 2 ^ 16) (hsub : p.sub < 2 ^ 8) (hflags : p.flags < 2 ^ 8)
    (htag : p.tag < 2 ^ 16) (hoffset : p.segOffset < 2 ^ 32) (hlength : p.data.length < 2 ^ 16) : respOfBytes (respBytes p) = p := by
  cases p
  simp_all [respOfBytes, respBytes, List.append_assoc, leAt_front, leAt_behind, drop_behind, Nat.mod_eq_of_lt]

/-- Settles O8: each field is read where it was written (`leAt_front`, `leAt_behind`), and the data are what follows. -/
theorem bodiesRoundTrip : Obligations.BodiesRoundTrip := by
  unfold Obligations.BodiesRoundTrip
  exact ⟨fun q h => reqOfBytes_reqBytes h, fun p hopcode hstatus hsource hcommander hindex hsub hflags htag hoffset hlength =>
    respOfBytes_respBytes hopcode hstatus hsource hcommander hindex hsub hflags htag hoffset hlength⟩

/-! ## The header of a ring frame -/

theorem hcrc_lt (l : List Byte) : hcrc l < 2 ^ 16 :=
  List.foldlRecOn (motive := (· < 2 ^ 16)) _ _ (by decide) (fun _ hx b _ => crcByte_lt (by decide) false b hx)

theorem ofBool_lt_two (b : Bool) : ofBool b < 2 := by cases b <;> decide

theorem Frame.wf_iff {f : Frame} : f.wf = true ↔ f.hops < 2 ^ 8 ∧ f.cls < 4 ∧ f.type < 2 ^ 4 ∧ 1 ≤ f.src ∧ f.src ≤ 96 ∧
    (f.dst = 255 ∨ 1 ≤ f.dst ∧ f.dst ≤ 96) ∧ f.status < 2 ^ 8 ∧ f.commander ≤ 8 ∧ f.tag < 2 ^ 16 ∧ f.session < 2 ^ 16 ∧
    f.seq < 2 ^ 32 ∧ f.address < 2 ^ 48 ∧ f.param < 2 ^ 48 ∧ f.payload.length ≤ 2048 := by
  simp [Frame.wf, fitsIn, and_assoc]

/-- The check that a frame carries (R69). -/
def headerCheck (f : Frame) : Nat := hcrc (leBytes 30 (headerNat (stillFrame f) f.payload.length))

theorem path_bit_lt_two (p : Path) : (if p = .b then 1 else 0) < 2 := by cases p <;> decide

theorem headerNat_lt {f : Frame} (h : f.wf = true) : headerNat f f.payload.length < 2 ^ 224 := by
  obtain ⟨hhops, hcls, htype, -, hsrc, hdst, hstatus, hcommander, htag, hsession, hseq, haddress, hparam, hlength⟩ := Frame.wf_iff.mp h
  have hwrapped := ofBool_lt_two f.wrapped
  have hretx := ofBool_lt_two f.retx
  have hposted := ofBool_lt_two f.posted
  have hpath := path_bit_lt_two f.path
  unfold headerNat
  omega

/-- The header bytes as one number: the fields, and the check above them. -/
theorem leAt_headerBytes {f : Frame} (h : f.wf = true) :
    leAt (headerBytes f) 0 32 = headerNat f f.payload.length + 2 ^ 240 * headerCheck f := by
  have fields := headerNat_lt h
  have check := hcrc_lt (leBytes 30 (headerNat (stillFrame f) f.payload.length))
  rw [leAt_whole (by simp [headerBytes]), headerBytes, leVal_append, leVal_leBytes, leVal_leBytes, leBytes_length,
    Nat.mod_eq_of_lt (by omega), Nat.mod_eq_of_lt (by omega), headerCheck, show 256 ^ 30 = 2 ^ 240 by norm_num]

theorem bit_of_ofBool {n i : Nat} {b : Bool} (h : bits n i i = ofBool b) : bit n i = b := by
  rw [bit, h]
  cases b <;> rfl

theorem frameOfHeader_headerBytes {f : Frame} (h : f.wf = true) (p : List Byte) :
    frameOfHeader (headerBytes f) p = { f with payload := p } := by
  obtain ⟨hhops, hcls, htype, -, hsrc, hdst, hstatus, hcommander, htag, hsession, hseq, haddress, hparam, hlength⟩ := Frame.wf_iff.mp h
  have hwrapped := ofBool_lt_two f.wrapped
  have hretx := ofBool_lt_two f.retx
  have hposted := ofBool_lt_two f.posted
  have hpath := path_bit_lt_two f.path
  have hn := leAt_headerBytes h
  unfold headerNat at hn
  generalize hN : leAt (headerBytes f) 0 32 = n at hn
  have wrapped : bit n 8 = f.wrapped := bit_of_ofBool (by unfold bits; omega)
  have retx : bit n 46 = f.retx := bit_of_ofBool (by unfold bits; omega)
  have posted : bit n 47 = f.posted := bit_of_ofBool (by unfold bits; omega)
  have path : bit n 9 = (f.path = .b : Bool) := by
    refine bit_of_ofBool ?_
    have : ofBool (f.path = .b : Bool) = if f.path = .b then 1 else 0 := by cases f.path <;> rfl
    rw [this]
    unfold bits
    omega
  have hops : bits n 7 0 = f.hops := by unfold bits; omega
  have cls : bits n 11 10 = f.cls := by unfold bits; omega
  have type : bits n 15 12 = f.type := by unfold bits; omega
  have src : bits n 23 16 = f.src := by unfold bits; omega
  have dst : bits n 31 24 = f.dst := by unfold bits; omega
  have status : bits n 39 32 = f.status := by unfold bits; omega
  have commander : bits n 51 48 = f.commander := by unfold bits; omega
  have tag : bits n 79 64 = f.tag := by unfold bits; omega
  have session : bits n 95 80 = f.session := by unfold bits; omega
  have seq : bits n 127 96 = f.seq := by unfold bits; omega
  have address : bits n 175 128 = f.address := by unfold bits; omega
  have param : bits n 223 176 = f.param := by unfold bits; omega
  rw [frameOfHeader, hN]
  have pathBack : (if bit n 9 then Path.b else Path.a) = f.path := by rw [path]; cases f.path <;> rfl
  simp only [wrapped, retx, posted, pathBack, hops, cls, type, src, dst, status, commander, tag, session, seq, address, param]

theorem headerLength_headerBytes {f : Frame} (h : f.wf = true) : headerLength (headerBytes f) = f.payload.length := by
  obtain ⟨hhops, hcls, htype, -, hsrc, hdst, hstatus, hcommander, htag, hsession, hseq, haddress, hparam, hlength⟩ := Frame.wf_iff.mp h
  have hwrapped := ofBool_lt_two f.wrapped
  have hretx := ofBool_lt_two f.retx
  have hposted := ofBool_lt_two f.posted
  have hpath := path_bit_lt_two f.path
  have hn := leAt_headerBytes h
  unfold headerNat at hn
  unfold headerLength bits
  omega

theorem headerBytes_length (f : Frame) : (headerBytes f).length = 32 := by simp [headerBytes]

/-- The bits of the header that are no field are 0, and the check stands above them. -/
theorem headerBytes_rest {f : Frame} (h : f.wf = true) : bits (leAt (headerBytes f) 0 32) 255 240 = headerCheck f ∧
    bits (leAt (headerBytes f) 0 32) 239 224 = 0 ∧ bits (leAt (headerBytes f) 0 32) 45 40 = 0 := by
  obtain ⟨hhops, hcls, htype, -, hsrc, hdst, hstatus, hcommander, htag, hsession, hseq, haddress, hparam, hlength⟩ := Frame.wf_iff.mp h
  have hwrapped := ofBool_lt_two f.wrapped
  have hretx := ofBool_lt_two f.retx
  have hposted := ofBool_lt_two f.posted
  have hpath := path_bit_lt_two f.path
  have hn := leAt_headerBytes h
  have hcheck : headerCheck f < 2 ^ 16 := hcrc_lt _
  unfold headerNat at hn
  unfold bits
  omega

theorem headerGood_headerBytes {f : Frame} (h : f.wf = true) : headerGood (headerBytes f) = true := by
  obtain ⟨-, -, -, hsrc, hsrc', hdst, -, hcommander, -, -, -, -, -, hlength⟩ := Frame.wf_iff.mp h
  obtain ⟨check, reserved, reserved'⟩ := headerBytes_rest h
  simp only [headerGood, frameOfHeader_headerBytes h, headerLength_headerBytes h, headerBytes_length, check, reserved, reserved']
  simp [hsrc, hsrc', hdst, hcommander, hlength, headerCheck, headerNat, stillFrame]

/-- Settles O7: the header is one number whose fields do not overlap (`leAt_headerBytes`), and both checks are computed with HOPS, PATH
and WRAPPED at 0. -/
theorem headerRoundTrip : Obligations.HeaderRoundTrip := by
  unfold Obligations.HeaderRoundTrip
  refine ⟨fun f h => ⟨frameOfHeader_headerBytes h _, headerBytes_length f, headerLength_headerBytes h, headerGood_headerBytes h⟩,
    fun f hops path wrapped h hhops => ⟨headerGood_headerBytes ?_, rfl⟩⟩
  exact Frame.wf_iff.mpr ⟨hhops, (Frame.wf_iff.mp h).2⟩

end Sys2Proof.Machine
end

section
/-! SUPPORT. The codes of pass T (R364): what a code decodes to, and pass T's rescaling (R343, R365) as the code of pass P's. -/
namespace Sys2Proof.Machine

/-! ## Signed readings -/

theorem toSigned_bounds {n : Nat} (hn : 0 < n) (v : Nat) : -(2 ^ (n - 1) : Int) ≤ toSigned n v ∧ toSigned n v < (2 ^ (n - 1) : Int) := by
  have double : 2 ^ n = 2 * 2 ^ (n - 1) := (Nat.two_pow_pred_mul_two hn).symm.trans (Nat.mul_comm ..)
  have cut : v % 2 ^ n < 2 ^ n := Nat.mod_lt _ (Nat.two_pow_pos n)
  have half : ((2 ^ (n - 1) : Nat) : Int) = (2 : Int) ^ (n - 1) := by push_cast; rfl
  unfold toSigned
  split <;> omega

/-- A number that is congruent to a signed value of `n` bits reads as it. -/
theorem toSigned_eq_of_modEq {n v : Nat} {x : Int} (hn : 0 < n) (h : (v : Int) ≡ x [ZMOD (2 ^ n : Nat)])
    (low : -(2 ^ (n - 1) : Int) ≤ x) (high : x < (2 ^ (n - 1) : Int)) : toSigned n v = x := by
  have double : 2 ^ n = 2 * 2 ^ (n - 1) := (Nat.two_pow_pred_mul_two hn).symm.trans (Nat.mul_comm ..)
  have half : ((2 ^ (n - 1) : Nat) : Int) = (2 : Int) ^ (n - 1) := by push_cast; rfl
  have pattern : ((v % 2 ^ n : Nat) : Int) = x % (2 ^ n : Nat) := by rw [Int.natCast_mod]; exact h
  unfold toSigned
  by_cases sign : 0 ≤ x
  · rw [Int.emod_eq_of_lt sign (by omega)] at pattern
    rw [if_pos (by omega), pattern]
  · rw [← Int.add_emod_right, Int.emod_eq_of_lt (by omega) (by omega)] at pattern
    rw [if_neg (by omega), pattern]
    omega

theorem ofSigned_modEq (n : Nat) (x : Int) : (ofSigned n x : Int) ≡ x [ZMOD (2 ^ n : Nat)] := by
  have : (2 ^ n : Nat) ≠ 0 := (Nat.two_pow_pos n).ne'
  rw [ofSigned, Int.toNat_of_nonneg (Int.emod_nonneg x (by exact_mod_cast this))]
  exact Int.mod_modEq x _

theorem ofSigned_lt (n : Nat) (x : Int) : ofSigned n x < 2 ^ n := by
  have : (2 ^ n : Nat) ≠ 0 := (Nat.two_pow_pos n).ne'
  have := Int.emod_lt_of_pos x (b := (2 ^ n : Nat)) (by exact_mod_cast Nat.two_pow_pos n)
  unfold ofSigned
  omega

theorem toSigned_ofSigned {n : Nat} {x : Int} (hn : 0 < n) (low : -(2 ^ (n - 1) : Int) ≤ x) (high : x < (2 ^ (n - 1) : Int)) :
    toSigned n (ofSigned n x) = x := toSigned_eq_of_modEq hn (ofSigned_modEq n x) low high

/-! ## Codes and what they decode to -/

theorem code40_lt (b u : Nat) : code40 b u < 2 ^ 40 := Nat.mod_lt _ (by decide)

/-- The multiplier and its inverse cancel modulo 2^40. -/
theorem decode40_code40 {b u : Nat} (hb : b < 2 ^ 16) (hu : u < 2 ^ 40) : decode40 b (code40 b u) = u := by
  have inverse : codeK * codeInv40 ≡ 1 [MOD 2 ^ 40] := by norm_num [Nat.ModEq, codeK, codeInv40]
  have shift : code40 b u + 2 ^ 40 - b + b = code40 b u + 2 ^ 40 := by omega
  have plain : code40 b u + 2 ^ 40 - b ≡ u * codeK [MOD 2 ^ 40] := by
    refine Nat.ModEq.add_right_cancel' b ?_
    rw [shift]
    exact (Nat.add_mod_right ..).trans (Nat.mod_modEq _ _)
  have product : (code40 b u + 2 ^ 40 - b) * codeInv40 ≡ u [MOD 2 ^ 40] := by
    have := inverse.mul_left u
    rw [← Nat.mul_assoc, Nat.mul_one] at this
    exact (plain.mul_right codeInv40).trans this
  rw [decode40, Nat.mod_eq_of_lt (show b < 2 ^ 40 by omega), product, Nat.mod_eq_of_lt hu]

theorem code80_modEq (b : Nat) (x : Int) : (code80 b x : Int) ≡ x * codeK + b [ZMOD (2 ^ 80 : Nat)] := ofSigned_modEq 80 _

theorem code80_lt (b : Nat) (x : Int) : code80 b x < 2 ^ 80 := ofSigned_lt 80 _

/-- A wide code is known by its residue: it decodes to the signed value whose multiple it is. -/
theorem decode80_of_modEq {b c : Nat} {x : Int} (hb : b < 2 ^ 16) (h : (c : Int) ≡ x * codeK + b [ZMOD (2 ^ 80 : Nat)])
    (low : -(2 ^ 79 : Int) ≤ x) (high : x < (2 ^ 79 : Int)) : decode80 b c = x := by
  have inverse : ((codeK * codeInv80 : Nat) : Int) ≡ 1 [ZMOD (2 ^ 80 : Nat)] := by norm_num [Int.ModEq, codeK, codeInv80]
  have difference : ((c + 2 ^ 80 - b : Nat) : Int) = (c : Int) - b + (2 ^ 80 : Nat) := by omega
  have plain : ((c + 2 ^ 80 - b : Nat) : Int) ≡ x * codeK [ZMOD (2 ^ 80 : Nat)] := by
    rw [difference]
    have := (h.sub_right (b : Int)).add_right ((2 ^ 80 : Nat) : Int)
    rw [Int.add_sub_cancel] at this
    exact this.trans Int.add_modEq_right
  have product : (((c + 2 ^ 80 - b) * codeInv80 : Nat) : Int) ≡ x [ZMOD (2 ^ 80 : Nat)] := by
    have := inverse.mul_left x
    rw [Int.natCast_mul, ← Int.mul_assoc, Int.mul_one] at this
    rw [Int.natCast_mul]
    exact (plain.mul_right (codeInv80 : Int)).trans this
  rw [decode80, Nat.mod_eq_of_lt (show b < 2 ^ 80 by omega)]
  exact toSigned_eq_of_modEq (by decide) product low high

/-- Settles O10: a multiplication modulo a power of two by an odd number is undone by its inverse (`decode40_code40`,
`decode80_of_modEq`). -/
theorem codesDecode : Obligations.CodesDecode := by
  unfold Obligations.CodesDecode
  refine ⟨fun b u v hb hu hv => ?_, fun b x hb low high => ⟨code80_lt b x, decode80_of_modEq hb (code80_modEq b x) low high⟩⟩
  have decodes {x : Nat} (hx : x < 2 ^ 32) : decode40 b (code40 b x) = x := decode40_code40 hb (by omega)
  refine ⟨code40_lt b u, decodes hu, fun same => ?_⟩
  rw [← decodes hu, same, decodes hv]

/-! ## The dual forms (R365) -/

/-- On the complement of the operand the dual shift gives the complement of the rounded quotient. -/
theorem roundShiftDual_compl (round sh : Nat) (y : Int) : roundShiftDual round sh (-y - 1) = -roundShift round sh y - 1 := by
  have pos : (0 : Int) < (2 ^ sh : Nat) := by exact_mod_cast Nat.two_pow_pos sh
  generalize hd : 2 ^ sh = d at pos
  have parts := Int.mul_ediv_add_emod y d
  have rem_nonneg := Int.emod_nonneg y pos.ne'
  have rem_lt := Int.emod_lt_of_pos y pos
  have quotient : (-y - 1) / (d : Int) = -(y / d) - 1 := by
    rw [Int.ediv_eq_iff_of_pos pos]
    constructor <;> linarith
  have remainder : (-y - 1) % (d : Int) = d - 1 - y % d := by
    rw [Int.emod_def, quotient]
    linarith
  have shifted : d - 1 - ((-y - 1) % (d : Int)).toNat = (y % (d : Int)).toNat := by omega
  simp only [roundShiftDual, roundShift, hd, quotient, shifted]
  rw [show -(-y - 1) - 1 = y by omega, show -(-(y / (d : Int)) - 1) - 1 = y / d by omega]
  omega

/-- On the complement the limit gives the complement of the limited value, with the same word on whether it was reached. -/
theorem limitDual_compl (lo hi v : Int) : limitDual lo hi (-v - 1) = (-(limitTo lo hi v).1 - 1, (limitTo lo hi v).2) := by
  unfold limitDual limitTo
  split_ifs <;> first | rfl | omega

/-- What is limited is one of the limits, or lies between them. -/
theorem limitTo_bounds {lo hi v a c : Int} (hlo : a ≤ lo ∧ lo < c) (hhi : a ≤ hi ∧ hi < c) :
    a ≤ (limitTo lo hi v).1 ∧ (limitTo lo hi v).1 < c := by
  unfold limitTo
  split_ifs <;> dsimp only <;> omega

/-- A rounded quotient is no farther from 0 than the dividend, but for the rounding. -/
theorem roundShift_bounds {n y : Int} (round sh : Nat) (hn : 0 ≤ n) (low : -n ≤ y) (high : y ≤ n) :
    -n ≤ roundShift round sh y ∧ roundShift round sh y ≤ n + 1 := by
  have one_le : (1 : Int) ≤ (2 ^ sh : Nat) := by exact_mod_cast Nat.one_le_two_pow
  have scaled : n ≤ n * (2 ^ sh : Nat) := by nlinarith
  have quotient_low : -n ≤ y / (2 ^ sh : Nat) := (Int.le_ediv_iff_mul_le (by omega)).mpr (by linarith)
  have quotient_high : y / (2 ^ sh : Nat) ≤ n := Int.ediv_le_of_le_mul (by omega) (by linarith)
  have inc (b : Bool) : ofBool b ≤ 1 := by cases b <;> decide
  have := inc (roundsUp round y (y / (2 ^ sh : Nat)) (y % (2 ^ sh : Nat)).toNat (2 ^ sh))
  unfold roundShift
  dsimp only
  omega

/-! ## The two passes of a rescaling -/

theorem meTconst_lt (w : Nat) : meTconst w < 2 ^ 16 := Nat.mod_lt _ (by decide)

/-- The product of a field value and a gain keeps far below the width of a wide code. -/
theorem gain_product_bounds {x g : Int} (hx : -(2 ^ 32 : Int) ≤ x ∧ x < (2 ^ 32 : Int)) (hg : -(2 ^ 31 : Int) ≤ g ∧ g < (2 ^ 31 : Int)) :
    -(2 ^ 63 : Int) ≤ x * g ∧ x * g ≤ (2 ^ 63 : Int) := by
  have product : |x * g| ≤ 2 ^ 32 * 2 ^ 31 := by
    rw [abs_mul]
    exact mul_le_mul (abs_le.mpr ⟨hx.1, hx.2.le⟩) (abs_le.mpr ⟨hg.1, hg.2.le⟩) (abs_nonneg g) (by norm_num)
  exact abs_le.mp (by norm_num at product ⊢; exact product)

/-- The product on codes decodes to the product. -/
theorem decode80_mul {b : Nat} (hb : b < 2 ^ 16) {x g : Int} (low : -(2 ^ 79 : Int) ≤ x * g) (high : x * g < (2 ^ 79 : Int)) :
    decode80 b ((((code80 b x : Int) - b) * g + b) % (2 ^ 80 : Nat)).toNat = x * g := by
  refine decode80_of_modEq hb ((ofSigned_modEq 80 _).trans ?_) low high
  have := (((code80_modEq b x).sub_right (b : Int)).mul_right g).add_right (b : Int)
  rwa [Int.add_sub_cancel, show x * codeK * g = x * g * codeK by ring] at this

/-- The sum on codes decodes to the sum. -/
theorem decode80_add {b : Nat} (hb : b < 2 ^ 16) {y o : Int} (low : -(2 ^ 79 : Int) ≤ y + o) (high : y + o < (2 ^ 79 : Int)) :
    decode80 b (((code80 b y : Int) + code80 b o - b) % (2 ^ 80 : Nat)).toNat = y + o := by
  refine decode80_of_modEq hb ((ofSigned_modEq 80 _).trans ?_) low high
  have := ((code80_modEq b y).add (code80_modEq b o)).sub_right (b : Int)
  rwa [show y * codeK + b + (o * codeK + b) - b = (y + o) * (codeK : Int) + b by ring] at this

theorem meGain_bounds (w : Nat) : -(2 ^ 31 : Int) ≤ meGain w ∧ meGain w < (2 ^ 31 : Int) := toSigned_bounds (n := 32) (by decide) _

theorem meOffset_bounds (w : Nat) : -(2 ^ 31 : Int) ≤ meOffset w ∧ meOffset w < (2 ^ 31 : Int) := toSigned_bounds (n := 32) (by decide) _

theorem meOutMin_bounds (w : Nat) : -(2 ^ 31 : Int) ≤ meOutMin w ∧ meOutMin w < (2 ^ 31 : Int) := toSigned_bounds (n := 32) (by decide) _

theorem meOutMax_bounds (w : Nat) : -(2 ^ 31 : Int) ≤ meOutMax w ∧ meOutMax w < (2 ^ 31 : Int) := toSigned_bounds (n := 32) (by decide) _

theorem scaleT_eq {w : Nat} {x : Int} (hx : -(2 ^ 32 : Int) ≤ x ∧ x < (2 ^ 32 : Int)) :
    scaleT w x = (code40 (meTconst w) (ofSigned 32 (scaleP w x).1), (scaleP w x).2) := by
  have product := gain_product_bounds hx (meGain_bounds w)
  have offset := meOffset_bounds w
  obtain ⟨low, high⟩ := roundShift_bounds (meRound w) (meGainShift w) (by norm_num) product.1 product.2
  have compl (v : Int) : -(-v - 1) - 1 = v := by omega
  have mul := decode80_mul (meTconst_lt w) (x := x) (g := meGain w) (by omega) (by omega)
  have add := decode80_add (meTconst_lt w) (y := roundShift (meRound w) (meGainShift w) (x * meGain w)) (o := meOffset w)
    (by omega) (by omega)
  -- Unfolding `scaleT` below its binders keeps the kernel from evaluating the limit on the way.
  refine (congrFun (congrFun (?unfolded : scaleT = ?body) w) x).trans ?_
  case unfolded => delta scaleT; exact rfl
  extract_lets b cy y cs
  have hy : y = roundShift (meRound w) (meGainShift w) (x * meGain w) := by
    rw [show y = -(roundShiftDual (meRound w) (meGainShift w) (-(decode80 b cy.toNat) - 1)) - 1 from rfl,
      show decode80 b cy.toNat = x * meGain w from mul, roundShiftDual_compl, compl]
  have hcs : decode80 b cs.toNat = y + meOffset w := by
    rw [show cs = ((code80 b y : Int) + code80 b (meOffset w) - b) % (2 ^ 80 : Nat) from rfl, hy]
    exact add
  rw [hcs, hy, limitDual_compl]
  show (code40 b (ofSigned 32 (-(-_ - 1) - 1)), _) = _
  rw [compl, scaleP]

/-- Settles O11: multiplication, rounding, sum and limit each agree with their dual form on codes, and a limited value is one of 32
bits, so its code decodes to it. -/
theorem passesAgree : Obligations.PassesAgree := by
  unfold Obligations.PassesAgree
  intro w x low high
  refine ⟨scaleT_eq ⟨low, high⟩, ?_⟩
  obtain ⟨fits_low, fits_high⟩ : -(2 ^ 31 : Int) ≤ (scaleP w x).1 ∧ (scaleP w x).1 < (2 ^ 31 : Int) :=
    limitTo_bounds (meOutMin_bounds w) (meOutMax_bounds w)
  have decoded : toSigned 32 (decode40 (meTconst w) (code40 (meTconst w) (ofSigned 32 (scaleP w x).1))) = (scaleP w x).1 := by
    rw [decode40_code40 (meTconst_lt w) ((ofSigned_lt 32 _).trans (by decide)), toSigned_ofSigned (by decide) fits_low fits_high]
  refine (congrFun (congrFun (congrFun (?unfolded : scaleBy = ?body) true) w) x).trans ?_
  case unfolded => delta scaleBy; exact rfl
  rw [if_pos rfl, scaleT_eq ⟨low, high⟩]
  show (toSigned 32 (decode40 _ (code40 _ _)), _) = scaleP w x
  rw [decoded]

end Sys2Proof.Machine
end

section
/-! SUPPORT. The step, the state after reset, a node without core power, and a write without the highest live claim. -/
set_option maxRecDepth 20000
namespace Sys2Proof.Machine

/-! ## The step -/

theorem step_of_pending {s : State} {c : Instr} {rest : List Instr} (h : s.pending = c :: rest) :
    step s = exec c { s with pending := rest } := by rw [step, h]

theorem step_idle {s : State} (h : s.pending = []) : step s = .next (tick s) := by rw [step, h]

/-- Settles O1: a step is a match on the queue, every meaning settles (`exec_settles`), and no word spells a command. -/
theorem stepTakesFront : Obligations.StepTakesFront := by
  unfold Obligations.StepTakesFront
  refine ⟨fun s c rest h => step_of_pending h, fun i s => ?_, fun s h => step_idle h, fun s nbits w => ⟨rfl, rfl⟩⟩
  obtain ⟨u, hu⟩ := exec_settles i s
  exact ⟨_, hu⟩

/-! ## The state after reset -/

theorem reset_obj (k : Nat) : State.reset.obj k = scalarDefault k := rfl

/-- Refutes O2: LAST_RESET is one of the objects that nothing has written after reset, so it reads its default 0, not the 1 of a POR. -/
theorem not_resetHolds : ¬ Obligations.ResetHolds := by
  unfold Obligations.ResetHolds
  rintro ⟨-, -, -, lastReset, -⟩
  rw [reset_obj] at lastReset
  exact absurd lastReset (by decide)

/-! ## Without core power -/

/-- A meaning either works without core power or ends in `settleOn`. -/
theorem exec_settlesOn (i : Instr) (s : State) : worksWithoutCore i = true ∨ ∃ u, exec i s = .next (settleOn s u) := by
  cases i <;> first | exact .inl rfl | exact .inr ⟨_, rfl⟩

/-- Settles O6: what ends in `settleOn` leaves a node without core power as it is (`settleOn_off`). -/
theorem noCoreNoEffect : Obligations.NoCoreNoEffect := by
  unfold Obligations.NoCoreNoEffect
  intro i s off needsCore
  obtain works | ⟨u, hu⟩ := exec_settlesOn i s
  · rw [needsCore] at works
    exact absurd works Bool.false_ne_true
  · rw [hu, settleOn_off u off]

/-! ## A write without the claim (R33, R470) -/

/-- A serving node refuses a write of a commander that does not hold the highest live claim, but for output commands and the log. -/
theorem State.claimRefusal_lost {s : State} {r : ObjReq} (write : isWriteOp r.opcode = true) (serving : s.serving = true)
    (notLog : ¬ (0xF000 ≤ r.index ∧ r.index ≤ 0xF0FF)) (notOutput : s.isOutputCommand r.index r.sub = false)
    (noClaim : r.commander = 0 ∨ r.commander ≠ s.holderNow) : s.claimRefusal r = some stClaimLost := by
  have notHeld : s.node ≠ stHeld := by
    intro held
    rw [State.serving, held] at serving
    exact absurd serving (by decide)
  simpa [State.claimRefusal, write, serving, notLog, notOutput, notHeld, or_iff_not_imp_left] using noClaim

/-- A refusal at the claim is the answer of this node. -/
theorem State.handleHere_claim {s : State} {who : Requester} {r : ObjReq} {row : Row} {st : Nat} {work : Option WorkRef}
    (h1 : s.stateRefusal r = none) (h2 : s.lookup r.index r.sub = .ok row) (h3 : s.claimRefusal r = some st) :
    s.handleHere who r work = (s, .now st 0 []) := by
  simp only [State.handleHere, State.objectRefusal, h1, h2, h3, firstRefusal]

theorem lookup_ok {s : State} {ix sub : Nat} {row : Row} (h : (s.lookup ix sub).toOption = some row) : s.lookup ix sub = .ok row := by
  cases hl : s.lookup ix sub with
  | error e => simp [hl, Except.toOption] at h
  | ok r => simpa [hl, Except.toOption] using h

/-- A response names the node that sends it, and reads nothing else of the state. -/
theorem respTo_congr {s u : State} (h : u.ownId = s.ownId) (r : ObjReq) (st : Nat) (flags : Nat) (data : List Byte) :
    respTo u r st flags data = respTo s r st flags data := by simp only [respTo, h]

/-- Settles O5: the claim is the first check that refuses (`State.claimRefusal_lost`), and the refusal is counted. -/
theorem claimNeeded : Obligations.ClaimNeeded := by
  unfold Obligations.ClaimNeeded
  intro s who req row answers notPaused free noFrame body target state length found serving notLog notOutput noClaim
  have lost : s.claimRefusal { req with opcode := 2 } = some stClaimLost :=
    State.claimRefusal_lost rfl serving notLog notOutput noClaim
  have served : s.request who { req with opcode := 2 } =
      (s.bump Obj.claimRefusals).respond who (respTo s { req with opcode := 2 } stClaimLost) none := by
    rw [State.request_free free noFrame]
    have counted : s.countRefusal stClaimLost = s.bump Obj.claimRefusals := if_pos rfl
    rw [← counted]
    refine State.serve_now answers (mailboxData_same (r := { req with opcode := 2 }) (by simp [length])) ?_
    rw [State.handle_here notPaused body target, State.handleHere_claim state (lookup_ok found) lost]
  refine ⟨s.bump Obj.claimRefusals, ?_, State.put_obj_same .., OnlyChanges.bump s [] (by simp)⟩
  have ownId : respTo s { req with opcode := 2 } stClaimLost = respTo (s.bump Obj.claimRefusals) { req with opcode := 2 } stClaimLost :=
    (respTo_congr (State.put_obj_other s _ (by decide)) ..).symm
  show Host.Outcome.next (settleOn s _) = _
  rw [served, ownId, settleOn_on _ (State.answers_on answers)]

end Sys2Proof.Machine
end

section
/-! SUPPORT. The status objects tell their sources (R57, R101, R118): what the sources read, and that every command ends with them told. -/
namespace Sys2Proof.Machine

/-! ## What the sources read -/

/-- The objects that `State.refreshStatus` writes. -/
def statusKeys : List Nat := [Obj.timeState, Obj.timeFlags, Obj.holder, Obj.holderClaim, Obj.soeFlags, Obj.faultSummary]

/-- Two states agree on what the status objects are told from: every object that is no status object, and the parts beside them. -/
structure State.SameSources (s u : State) : Prop where
  obj : ∀ k, k ∉ statusKeys → u.obj k = s.obj k
  tb : u.tb = s.tb
  acc : u.acc = s.acc
  pe : u.pe = s.pe
  loaded : u.rst.loaded = s.rst.loaded
  vgOpen : u.vgOpen = s.vgOpen

theorem State.SameSources.trans {s t u : State} (h : s.SameSources t) (g : t.SameSources u) : s.SameSources u where
  obj k hk := (g.obj k hk).trans (h.obj k hk)
  tb := g.tb.trans h.tb
  acc := g.acc.trans h.acc
  pe := g.pe.trans h.pe
  loaded := g.loaded.trans h.loaded
  vgOpen := g.vgOpen.trans h.vgOpen

theorem State.follow_same (s : State) (k v : Nat) : (s.follow k v).obj k = v := by rw [State.follow_obj, if_pos rfl]

theorem State.follow_other (s : State) {k j : Nat} (v : Nat) (h : j ≠ k) : (s.follow k v).obj j = s.obj j := by
  rw [State.follow_obj, if_neg h]

theorem State.follow_sameSources (s : State) {k : Nat} (v : Nat) (hk : k ∈ statusKeys) : s.SameSources (s.follow k v) := by
  have obj (j : Nat) (hj : j ∉ statusKeys) : (s.follow k v).obj j = s.obj j := by
    rw [State.follow_obj, if_neg (fun e : j = k => hj (e ▸ hk))]
  unfold State.follow at obj ⊢
  split
  · exact ⟨fun _ _ => rfl, rfl, rfl, rfl, rfl, rfl⟩
  · next h => exact ⟨by simpa [h] using obj, rfl, rfl, rfl, rfl, rfl⟩

/-- The eight commanders' entries are no status objects. -/
theorem cmdrLive_not_status {c : Nat} (hc : c < 8) : Obj.cmdrLive c ∉ statusKeys := by
  simp only [statusKeys, List.mem_cons, List.not_mem_nil, or_false, Obj.cmdrLive, Obj.timeState, Obj.timeFlags, Obj.holder,
    Obj.holderClaim, Obj.soeFlags, Obj.faultSummary]
  omega

theorem cmdrClaim_not_status {c : Nat} (hc : c < 8) : Obj.cmdrClaim c ∉ statusKeys := by
  simp only [statusKeys, List.mem_cons, List.not_mem_nil, or_false, Obj.cmdrClaim, Obj.timeState, Obj.timeFlags, Obj.holder,
    Obj.holderClaim, Obj.soeFlags, Obj.faultSummary]
  omega

/-- The choice between two commanders, one step of the search of `State.holderNow`. -/
theorem higher_claim_congr {s u : State} (hclaim : ∀ c, c < 8 → u.obj (Obj.cmdrClaim c) = s.obj (Obj.cmdrClaim c)) :
    ∀ (l : List Nat) (best : Nat), (∀ i ∈ l, i ≤ 8) → best ≤ 8 →
      l.foldl (fun best i => if best = 0 ∨ claimAbove u i best then i else best) best =
      l.foldl (fun best i => if best = 0 ∨ claimAbove s i best then i else best) best
  | [], _, _, _ => rfl
  | i :: l, best, hl, hbest => by
    have hi : i ≤ 8 := hl i (List.mem_cons_self ..)
    have above : claimAbove u i best = claimAbove s i best := by
      rw [claimAbove, claimAbove, hclaim _ (by omega), hclaim _ (by omega)]
    rw [List.foldl_cons, List.foldl_cons, above]
    exact higher_claim_congr hclaim l _ (fun j hj => hl j (List.mem_cons_of_mem _ hj)) (by split <;> assumption)

namespace State.SameSources
variable {s u : State} (h : s.SameSources u)
include h

theorem isGm : u.isGm = s.isGm := by
  rw [State.isGm, State.isGm, State.ownId, State.ownId, h.obj Obj.gmId (by decide), h.obj Obj.effectiveId (by decide)]

theorem gmValid : u.gmValid = s.gmValid := by
  simp [State.gmValid, State.ownSource, State.isCandidate, h.isGm, h.tb, h.obj Obj.gmPriority (by decide),
    h.obj Obj.timeSource (by decide), h.obj Obj.freeRunOk (by decide)]

theorem timeLocked : u.timeLocked = s.timeLocked := by
  simp [State.timeLocked, h.isGm, h.gmValid, h.tb]

theorem timeFlagsNow : u.timeFlagsNow = s.timeFlagsNow := by
  have inbound : u.inboundProven = s.inboundProven := by
    simp [State.inboundProven, State.linkState, linkKey, h.tb, h.obj Obj.inboundPath (by decide), h.obj Obj.bSavedValid (by decide),
      h.obj Obj.pathAState (by decide)]
  have traceable : u.gmTraceable = s.gmTraceable := by
    simp [State.gmTraceable, State.ownSource, State.isCandidate, h.isGm, h.tb, h.obj Obj.gmPriority (by decide),
      h.obj Obj.timeSource (by decide), h.obj Obj.freeRunOk (by decide)]
  have mismatch : u.epochMismatch = s.epochMismatch := by
    simp [State.epochMismatch, h.tb, h.obj Obj.epochLength (by decide), h.obj Obj.ringEpoch (by decide),
      h.obj Obj.applyDelay (by decide), h.obj Obj.ringApply (by decide), h.obj Obj.epochPhase (by decide)]
  simp [State.timeFlagsNow, h.isGm, h.gmValid, h.tb, inbound, traceable, mismatch]

theorem liveCommanders : u.liveCommanders = s.liveCommanders :=
  List.filter_congr (fun i hi => by rw [h.obj _ (cmdrLive_not_status (by simp at hi; omega))])

theorem holderNow : u.holderNow = s.holderNow :=
  (congrArg (List.foldl _ 0) h.liveCommanders).trans
    (higher_claim_congr (fun _ hc => h.obj _ (cmdrClaim_not_status hc)) _ 0 (fun _ hi => (State.mem_liveCommanders.mp hi).1.2) (by decide))

/-- Beside its sources FAULT_SUMMARY keeps the bits that are stored. -/
theorem faultSummaryNow (stored : u.obj Obj.faultSummary &&& 0x116 = s.obj Obj.faultSummary &&& 0x116) :
    u.faultSummaryNow = s.faultSummaryNow := by
  have mrams : u.mramsUp = s.mramsUp := by simp [State.mramsUp, State.mram, h.acc]
  have single : u.single = s.single := by simp [State.single, State.peCfg, h.pe]
  simp [State.faultSummaryNow, stored, h.vgOpen, h.obj Obj.configValid (by decide), h.timeLocked, h.loaded, mrams, h.pe, single,
    h.liveCommanders]

theorem holderClaimNow : (if u.holderNow = 0 then 0 else u.obj (Obj.cmdrClaim (u.holderNow - 1))) =
    if s.holderNow = 0 then 0 else s.obj (Obj.cmdrClaim (s.holderNow - 1)) := by
  rw [h.holderNow]
  split
  · rfl
  · next some_holder =>
    obtain ⟨live, -⟩ := State.holderNow_highest (mt State.holderNow_eq_zero.mpr some_holder)
    have := (State.mem_liveCommanders.mp live).1
    exact h.obj _ (cmdrClaim_not_status (by omega))

end State.SameSources

/-! ## The end of every command -/

/-- The bits of FAULT_SUMMARY that are told from elsewhere are none of the stored bits 1, 2, 4 and 8. -/
theorem told_bits_apart (a b c d e f : Bool) : (ofBool a + 8 * ofBool b + 32 * ofBool c + 64 * ofBool d + 128 * ofBool e + 512 * ofBool f) &&& 0x116 = 0 := by
  revert a b c d e f
  decide

/-- Numbers without a common bit add up to their union. -/
theorem add_eq_or_of_and_eq_zero (x y : Nat) (h : x &&& y = 0) : x + y = x ||| y := by
  induction x using Nat.strongRecOn generalizing y with
  | ind x ih =>
    obtain rfl | pos := Nat.eq_zero_or_pos x
    · simp
    · have halves := ih (x / 2) (by omega) (y / 2) (by rw [← Nat.and_div_two, h])
      rw [← Nat.or_div_two] at halves
      have low := Nat.and_mod_two_eq_one (a := x) (b := y)
      have union := Nat.or_mod_two_eq_one (a := x) (b := y)
      rw [h] at low
      omega

/-- Of a sum of bits that are stored and bits that are not, the stored ones are left. -/
theorem stored_of_sum {x y : Nat} (h : y &&& 0x116 = 0) : ((x &&& 0x116) + y) &&& 0x116 = x &&& 0x116 := by
  have apart : (x &&& 0x116) &&& y = 0 := by rw [Nat.and_assoc, Nat.and_comm 0x116 y, h, Nat.and_zero]
  rw [add_eq_or_of_and_eq_zero _ _ apart, Nat.and_or_distrib_right, h, Nat.and_assoc, Nat.and_self, Nat.or_zero]

theorem State.faultSummaryNow_stored (s : State) : s.faultSummaryNow &&& 0x116 = s.obj Obj.faultSummary &&& 0x116 := by
  simp only [State.faultSummaryNow, Nat.add_assoc]
  exact stored_of_sum (by simpa only [Nat.add_assoc] using told_bits_apart ..)

/-- The status objects tell their sources, whether or not the core has power. -/
def State.Told (s : State) : Prop :=
  s.obj Obj.timeFlags = s.timeFlagsNow ∧ s.obj Obj.holder = s.holderNow ∧
    s.obj Obj.holderClaim = (if s.holderNow = 0 then 0 else s.obj (Obj.cmdrClaim (s.holderNow - 1))) ∧
    s.obj Obj.faultSummary = s.faultSummaryNow

/-- The refresh step by step: the time, the holder, its claim, the log of events, and the fault summary. -/
theorem State.refreshStatus_steps (s : State) : ∃ t1 t2 t3 t4 : State,
    t1 = (s.follow Obj.timeState s.timeStateNow).follow Obj.timeFlags s.timeFlagsNow ∧ t2 = t1.follow Obj.holder t1.holderNow ∧
    t3 = t2.follow Obj.holderClaim (if t1.holderNow = 0 then 0 else t1.obj (Obj.cmdrClaim (t1.holderNow - 1))) ∧
    t4 = t3.follow Obj.soeFlags (ofBool t3.soeStops) ∧ s.refreshStatus = t4.follow Obj.faultSummary t3.faultSummaryNow :=
  ⟨_, _, _, _, rfl, rfl, rfl, rfl, by rw [State.refreshStatus]⟩

theorem State.refreshStatus_told (s : State) : s.refreshStatus.Told := by
  obtain ⟨t1, t2, t3, t4, e1, e2, e3, e4, e5⟩ := s.refreshStatus_steps
  have h1 : s.SameSources t1 := e1 ▸ (s.follow_sameSources _ (by decide)).trans (State.follow_sameSources _ _ (by decide))
  have h2 : t1.SameSources t2 := e2 ▸ t1.follow_sameSources _ (by decide)
  have h3 : t2.SameSources t3 := e3 ▸ t2.follow_sameSources _ (by decide)
  have h4 : t3.SameSources t4 := e4 ▸ t3.follow_sameSources _ (by decide)
  have h5 : t4.SameSources s.refreshStatus := e5 ▸ t4.follow_sameSources _ (by decide)
  refine ⟨?_, ?_, ?_, ?_⟩
  · rw [(h1.trans (h2.trans (h3.trans (h4.trans h5)))).timeFlagsNow, e5, State.follow_other _ _ (by decide), e4,
      State.follow_other _ _ (by decide), e3, State.follow_other _ _ (by decide), e2, State.follow_other _ _ (by decide), e1,
      State.follow_same]
  · rw [(h2.trans (h3.trans (h4.trans h5))).holderNow, e5, State.follow_other _ _ (by decide), e4, State.follow_other _ _ (by decide), e3,
      State.follow_other _ _ (by decide), e2, State.follow_same]
  · rw [(h2.trans (h3.trans (h4.trans h5))).holderClaimNow, e5, State.follow_other _ _ (by decide), e4,
      State.follow_other _ _ (by decide), e3, State.follow_same]
  · have stored : s.refreshStatus.obj Obj.faultSummary = t3.faultSummaryNow := by rw [e5, State.follow_same]
    rw [(h4.trans h5).faultSummaryNow (by rw [stored, t3.faultSummaryNow_stored]), stored]

/-- What the status objects and their sources read is unchanged. -/
theorem State.Told.congr {s u : State} (h : s.Told) (same : s.SameSources u) (status : ∀ k ∈ statusKeys, u.obj k = s.obj k) : u.Told := by
  obtain ⟨flags, holder, claim, summary⟩ := h
  refine ⟨?_, ?_, ?_, ?_⟩
  · rw [status _ (by decide), same.timeFlagsNow, flags]
  · rw [status _ (by decide), same.holderNow, holder]
  · rw [status _ (by decide), same.holderClaimNow, claim]
  · rw [status _ (by decide), same.faultSummaryNow (by rw [status _ (by decide)]), summary]

/-- The times and the interrupt sources set after the refresh are no status objects and no sources of one. -/
theorem State.Told.trackRaise {s : State} (h : s.Told) (before : State) : ((s.trackTimes before).raiseAll before).Told :=
  h.congr ⟨fun _ _ => rfl, rfl, rfl, rfl, rfl, rfl⟩ (fun _ _ => rfl)

theorem settle_told (before s : State) (h : (settle before s).rst.coreOn = true) : (settle before s).Told := by
  cases on : s.rst.coreOn with
  | true =>
    obtain ⟨u, hu⟩ := settle_refreshes before on
    rw [hu]
    exact u.refreshStatus_told.trackRaise before
  | false => simp [settle_off before on, on] at h

theorem State.Told.setTime {s : State} (h : s.Told) (t : Nat) : ({ s with time := t } : State).Told :=
  h.congr ⟨fun _ _ => rfl, rfl, rfl, rfl, rfl, rfl⟩ (fun _ _ => rfl)


/-- A tick moves the counter alone. -/
theorem tick_eq (s : State) : ∃ t, tick s = { s with time := t } := by
  unfold tick
  split
  · exact ⟨_, rfl⟩
  · exact ⟨s.time, rfl⟩

/-- Settles O3: every command ends in a refresh of the status objects (`settle_told`), and no source reads the counter. -/
theorem statusTold : Obligations.StatusTold := by
  unfold Obligations.StatusTold
  refine ⟨fun s t queued hstep on => ?_, fun s t idle told hstep => ?_⟩
  · obtain ⟨c, rest, hp⟩ := List.exists_cons_of_ne_nil queued
    obtain ⟨u, hu⟩ := exec_settles c { s with pending := rest }
    rw [step_of_pending hp, hu] at hstep
    obtain rfl := Host.Outcome.next.inj hstep
    exact settle_told _ _ on
  · obtain ⟨time, ht⟩ := tick_eq s
    rw [step_idle idle, ht] at hstep
    obtain rfl := Host.Outcome.next.inj hstep
    exact fun on => State.Told.setTime (told on) time

end Sys2Proof.Machine
end

section
/-! SUPPORT. Changes of one part of the state as `OnlyChanges`, flags, and outputs that are only added to. -/
namespace Sys2Proof.Machine

/-! ## One part alone -/

section Parts
variable {ks : List Nat} {ps : List Part}

/-- An update that leaves the numbers of the dictionary and every part outside `ps` alone. -/
theorem OnlyChanges.ofParts {s u : State} (objs : u.objs = s.objs) (parts : ∀ p, p ∉ ps → p.same s u) : OnlyChanges ks ps s u :=
  ⟨fun k _ => congrArg (fun o => sparseGet scalarDefault o k) objs, parts⟩

theorem OnlyChanges.setRing (s : State) (x : RingState) (h : Part.ring ∈ ps) : OnlyChanges ks ps s { s with ring := x } :=
  .ofParts rfl fun p hp => by cases p <;> first | rfl | exact absurd h hp

theorem OnlyChanges.setTb (s : State) (x : TimeState) (h : Part.tb ∈ ps) : OnlyChanges ks ps s { s with tb := x } :=
  .ofParts rfl fun p hp => by cases p <;> first | rfl | exact absurd h hp

theorem OnlyChanges.setAcc (s : State) (x : AcceptState) (h : Part.acc ∈ ps) : OnlyChanges ks ps s { s with acc := x } :=
  .ofParts rfl fun p hp => by cases p <;> first | rfl | exact absurd h hp

theorem OnlyChanges.setSw (s : State) (x : SwitchState) (h : Part.sw ∈ ps) : OnlyChanges ks ps s { s with sw := x } :=
  .ofParts rfl fun p hp => by cases p <;> first | rfl | exact absurd h hp

theorem OnlyChanges.ite {s t u : State} {c : Prop} [Decidable c] (h : OnlyChanges ks ps s t) (g : OnlyChanges ks ps s u) :
    OnlyChanges ks ps s (if c then t else u) := by split <;> assumption

end Parts

/-- What both branches of a choice give. -/
theorem ite_proj {α β : Type} (f : α → β) {c : Prop} [Decidable c] {x y : α} {v : β} (h : f x = v) (g : f y = v) :
    f (if c then x else y) = v := by split <;> assumption

/-- An object outside the keys that change. -/
theorem OnlyChanges.obj {ks : List Nat} {ps : List Part} {s u : State} (c : OnlyChanges ks ps s u) {k : Nat} (h : k ∉ ks) :
    u.obj k = s.obj k := c.1 k h

/-- A command whose meaning comes to `u`. -/
theorem Does.of {i : Instr} {s v u : State} {ks : List Nat} {ps : List Part} {post : State → Prop} (on : s.rst.coreOn = true)
    (h : exec i s = .next (settleOn s v)) (e : v = u) (p : post u) (c : OnlyChanges ks ps s u) : Does i s ks ps post :=
  Does.intro on (e ▸ h) p c

/-- After a wait the time has come. -/
theorem State.le_now_waitUntil (s : State) (t : Nat) : t ≤ (s.waitUntil t).now :=
  (Nat.le_div_iff_mul_le (by decide)).mpr (le_max_right _ _)

/-! ## Flags -/

theorem State.setFlag_flag (s : State) (k i : Nat) (b : Bool) (hi : i < 64) : (s.setFlag k i b).flag k i = b := by
  rw [State.flag, State.setFlag, State.put_obj_same]
  cases b with
  | true => simp [Nat.testBit_or]
  | false =>
    have : (2 ^ 64 - 1 - 2 ^ i).testBit i = false := by
      rw [show 2 ^ 64 - 1 - 2 ^ i = 2 ^ 64 - (2 ^ i + 1) by omega,
        Nat.testBit_two_pow_sub_succ (Nat.pow_lt_pow_right (by decide) hi)]
      simp
    rw [if_neg Bool.false_ne_true, Nat.testBit_and, this, Bool.and_false]

/-! ## Outputs -/

/-- Outputs are only added from `s` to `u`. -/
def State.OutGrows (s u : State) : Prop := ∃ l, u.out = s.out ++ l

theorem State.OutGrows.same {s u : State} (h : u.out = s.out) : s.OutGrows u := ⟨[], by simp [h]⟩

theorem State.OutGrows.trans {s t u : State} (h : s.OutGrows t) (g : t.OutGrows u) : s.OutGrows u := by
  obtain ⟨l, hl⟩ := h
  obtain ⟨m, hm⟩ := g
  exact ⟨l ++ m, by rw [hm, hl, List.append_assoc]⟩

theorem State.OutGrows.emit (s : State) (o : Out) : s.OutGrows (s.emit o) := ⟨[o], rfl⟩

theorem State.OutGrows.mem {s u : State} (h : s.OutGrows u) {o : Out} (ho : o ∈ s.out) : o ∈ u.out := by
  obtain ⟨l, hl⟩ := h
  rw [hl]
  exact List.mem_append_left l ho

end Sys2Proof.Machine
end

section
/-! SUPPORT. The operations of the ring paths: what a link that enters a state, a training, a heating and a cooling of the B links, a notice
and the end of a wrap set and leave alone. -/
namespace Sys2Proof.Machine

section Ring
variable {ks : List Nat} {ps : List Part}

/-! ## Links -/

theorem State.setLink_obj (s : State) (p : Path) (l : LinkState) (k : Nat) : (s.setLink p l).obj k = s.obj k := by cases p <;> rfl

@[simp] theorem State.setLink_link (s : State) (p : Path) (l : LinkState) : (s.setLink p l).link p = l := by cases p <;> rfl

@[simp] theorem State.setLink_linkState (s : State) (p : Path) (l : LinkState) (q : Path) : (s.setLink p l).linkState q = s.linkState q :=
  s.setLink_obj p l _

theorem OnlyChanges.setLink (s : State) (p : Path) (l : LinkState) (h : Part.ring ∈ ps) : OnlyChanges ks ps s (s.setLink p l) := by
  cases p
  · exact .setRing s _ h
  · exact .setRing s _ h

theorem OnlyChanges.setSends (s : State) (p : Path) (b : Bool) (h : Part.ring ∈ ps) : OnlyChanges ks ps s (s.setSends p b) := by
  cases p
  · exact .setRing s _ h
  · exact .setRing s _ h

theorem OnlyChanges.followHop (s : State) (p : Path) (st : Nat) (h : Part.tb ∈ ps) : OnlyChanges ks ps s (s.followHop p st) := by
  unfold State.followHop
  split
  · cases p
    · exact .setTb s _ h
    · exact .setTb s _ h
  · exact .ite (.setTb s _ h) (.refl ks ps s)

theorem OnlyChanges.followRate (s : State) (h : Obj.freqAdj ∈ ks) : OnlyChanges ks ps s s.followRate :=
  .ite (.refl ks ps s) (.put s _ ps h)

/-- The link has entered the state, and no HELLO row has told of it yet. -/
def State.entered (s : State) (p : Path) (st : Nat) : State :=
  (((s.put (linkKey p) st).setLink p { s.link p with since := s.now }).followHop p st).followRate

theorem State.linkEnter_cases (s : State) (p : Path) (st : Nat) :
    s.linkEnter p st = s.entered p st ∨ ∃ o, s.linkEnter p st = (s.entered p st).emit o :=
  if h : (s.entered p st).sends (otherPath p) then .inr ⟨_, if_pos h⟩ else .inl (if_neg h)

theorem OnlyChanges.linkEnter (s : State) (p : Path) (st : Nat) (hk : linkKey p ∈ ks) (hf : Obj.freqAdj ∈ ks) (hr : Part.ring ∈ ps)
    (ht : Part.tb ∈ ps) (ho : Part.out ∈ ps) : OnlyChanges ks ps s (s.linkEnter p st) := by
  have c : OnlyChanges ks ps s (s.entered p st) := ((OnlyChanges.put s st ps hk).trans (.setLink _ p _ hr)).trans
    ((OnlyChanges.followHop _ p st ht).trans (.followRate _ hf))
  obtain h | ⟨o, h⟩ := s.linkEnter_cases p st
  · exact h ▸ c
  · exact h ▸ c.trans (.emit _ o ks ho)

theorem OnlyChanges.train (s : State) (p : Path) (full : Bool) (hk : linkKey p ∈ ks) (hf : Obj.freqAdj ∈ ks) (hr : Part.ring ∈ ps)
    (ht : Part.tb ∈ ps) (ho : Part.out ∈ ps) : OnlyChanges ks ps s (s.train p full) :=
  (OnlyChanges.linkEnter s p lkTrain hk hf hr ht ho).trans (.setLink _ p _ hr)

/-! ## What the operations on links leave of the ring and the rate -/

/-- Of the ring, only the in links, the saved state of B-in and the transmitters differ between `s` and `u`. -/
def State.LinksOnly (s u : State) : Prop :=
  u.ring = { s.ring with aIn := u.ring.aIn, bIn := u.ring.bIn, bSaved := u.ring.bSaved, sendA := u.ring.sendA, sendB := u.ring.sendB }

theorem State.LinksOnly.same {s u : State} (h : u.ring = s.ring) : s.LinksOnly u := by rw [LinksOnly, h]

theorem State.LinksOnly.trans {s t u : State} (h : s.LinksOnly t) (g : t.LinksOnly u) : s.LinksOnly u := by
  rw [LinksOnly] at h g ⊢
  rw [g, h]

theorem State.LinksOnly.wraps {s u : State} (h : s.LinksOnly u) : u.ring.wraps = s.ring.wraps := by rw [h]

theorem State.LinksOnly.setLink (s : State) (p : Path) (l : LinkState) : s.LinksOnly (s.setLink p l) := by cases p <;> rfl

theorem State.LinksOnly.setSends (s : State) (p : Path) (b : Bool) : s.LinksOnly (s.setSends p b) := by cases p <;> rfl

/-- Between `s` and `u` the node's time base keeps its lock, and a node whose clock is locked keeps its rate (R65). -/
structure State.RateKept (s u : State) : Prop where
  locked : u.tb.locked = s.tb.locked
  own : u.obj Obj.effectiveId = s.obj Obj.effectiveId
  gm : u.obj Obj.gmId = s.obj Obj.gmId
  freq : s.clockLocked = true → u.obj Obj.freqAdj = s.obj Obj.freqAdj

theorem State.RateKept.clockLocked {s u : State} (h : s.RateKept u) : u.clockLocked = s.clockLocked := by
  rw [State.clockLocked, State.clockLocked, State.ownId, State.ownId, h.locked, h.own, h.gm]

theorem State.RateKept.trans {s t u : State} (h : s.RateKept t) (g : t.RateKept u) : s.RateKept u where
  locked := g.locked.trans h.locked
  own := g.own.trans h.own
  gm := g.gm.trans h.gm
  freq := fun on => (g.freq (h.clockLocked.trans on)).trans (h.freq on)

/-- An update that leaves the lock, the two IDs and FREQ_ADJ alone. -/
theorem State.RateKept.of {s u : State} {ks : List Nat} {ps : List Part} (c : OnlyChanges ks ps s u) (tb : u.tb.locked = s.tb.locked)
    (keys : ∀ k ∈ [Obj.effectiveId, Obj.gmId, Obj.freqAdj], k ∉ ks) : s.RateKept u where
  locked := tb
  own := c.obj (keys _ (by simp))
  gm := c.obj (keys _ (by simp))
  freq := fun _ => c.obj (keys _ (by simp))

theorem State.followHop_locked (s : State) (p : Path) (st : Nat) : (s.followHop p st).tb.locked = s.tb.locked := by
  cases p <;> (unfold State.followHop; split <;> [rfl; split <;> rfl])

theorem State.followRate_kept (s : State) : s.RateKept s.followRate where
  locked := by unfold State.followRate; split <;> rfl
  own := (OnlyChanges.followRate (ks := [Obj.freqAdj]) (ps := []) s (by decide)).obj (by decide)
  gm := (OnlyChanges.followRate (ks := [Obj.freqAdj]) (ps := []) s (by decide)).obj (by decide)
  freq := fun on => by rw [State.followRate, if_pos on]

theorem State.linkEnter_rate (s : State) (p : Path) (st : Nat) : s.RateKept (s.linkEnter p st) := by
  have put : s.RateKept ((s.put (linkKey p) st).setLink p { s.link p with since := s.now }) :=
    .of ((OnlyChanges.put (ks := [linkKey p]) s st [Part.ring] (by simp)).trans (.setLink _ p _ (by decide))) (by cases p <;> rfl)
      (by cases p <;> decide)
  have hop : ∀ t : State, t.RateKept (t.followHop p st) := fun t =>
    .of (OnlyChanges.followHop (ks := []) (ps := [.tb]) t p st (by decide)) (t.followHop_locked p st) (by decide)
  have steps : s.RateKept (s.entered p st) := (put.trans (hop _)).trans (State.followRate_kept _)
  obtain h | ⟨o, h⟩ := s.linkEnter_cases p st
  · exact h ▸ steps
  · exact h ▸ steps.trans (.of (OnlyChanges.emit (ps := [.out]) _ o [] (by decide)) rfl (by decide))

/-- Following the hop delay and the rate touches neither the links nor the outputs. -/
theorem State.entered_follow (s : State) (p : Path) (st : Nat) : OnlyChanges [Obj.freqAdj] [.tb]
    ((s.put (linkKey p) st).setLink p { s.link p with since := s.now }) (s.entered p st) :=
  (OnlyChanges.followHop _ p st (by decide)).trans (.followRate _ (by decide))

/-- The link that enters a state keeps everything but the time of entry. -/
theorem State.linkEnter_ring (s : State) (p : Path) (st : Nat) :
    (s.linkEnter p st).ring = (s.setLink p { s.link p with since := s.now }).ring := by
  have ring : (s.entered p st).ring = (s.setLink p { s.link p with since := s.now }).ring :=
    ((s.entered_follow p st).2 .ring (by decide)).trans (by cases p <;> rfl)
  obtain h | ⟨o, h⟩ := s.linkEnter_cases p st <;> exact h ▸ ring

@[simp] theorem State.linkEnter_link (s : State) (p : Path) (st : Nat) : (s.linkEnter p st).link p = { s.link p with since := s.now } := by
  have h := s.linkEnter_ring p st
  cases p <;> simp only [State.link, h] <;> rfl

theorem State.linkEnter_linksOnly (s : State) (p : Path) (st : Nat) : s.LinksOnly (s.linkEnter p st) := by
  have h := s.linkEnter_ring p st
  have g := LinksOnly.setLink s p { s.link p with since := s.now }
  rw [LinksOnly] at g ⊢
  rw [h]
  exact g

theorem linkKey_ne_freqAdj (p : Path) : linkKey p ≠ Obj.freqAdj := by cases p <;> decide

@[simp] theorem State.linkEnter_linkState (s : State) (p : Path) (st : Nat) : (s.linkEnter p st).linkState p = st := by
  have entered : (s.entered p st).linkState p = st := by
    rw [State.linkState, (s.entered_follow p st).obj (by simp [linkKey_ne_freqAdj p]), State.setLink_obj, State.put_obj_same]
  obtain h | ⟨o, h⟩ := s.linkEnter_cases p st <;> exact h ▸ entered

theorem State.linkEnter_out (s : State) (p : Path) (st : Nat) : s.OutGrows (s.linkEnter p st) := by
  have same : (s.entered p st).out = s.out := ((s.entered_follow p st).2 .out (by decide)).trans (by cases p <;> rfl)
  obtain h | ⟨o, h⟩ := s.linkEnter_cases p st
  · exact h ▸ .same same
  · exact h ▸ (State.OutGrows.same same).trans (.emit _ o)

/-! ## Training -/

@[simp] theorem State.train_linkState (s : State) (p : Path) (full : Bool) : (s.train p full).linkState p = lkTrain := by
  rw [State.train, State.setLink_linkState, State.linkEnter_linkState]

theorem State.train_link (s : State) (p : Path) (full : Bool) : (s.train p full).link p =
    { s.link p with since := s.now, full := full, locked := false, heard := false, heatedAt := (s.linkEnter p lkTrain).now } := by
  simp [State.train]

theorem State.train_now (s : State) (p : Path) (full : Bool) : (s.train p full).time = s.time :=
  (OnlyChanges.train (ks := [linkKey p, Obj.freqAdj]) (ps := [.ring, .tb, .out]) s p full (by simp) (by simp) (by decide) (by decide)
    (by decide)).2 .time (by decide)

theorem State.train_rate (s : State) (p : Path) (full : Bool) : s.RateKept (s.train p full) :=
  (s.linkEnter_rate p lkTrain).trans
    (.of (OnlyChanges.setLink (ks := []) (ps := [.ring]) _ p _ (by decide)) (by cases p <;> rfl) (by decide))

theorem State.train_linksOnly (s : State) (p : Path) (full : Bool) : s.LinksOnly (s.train p full) :=
  (s.linkEnter_linksOnly p lkTrain).trans (.setLink _ p _)

theorem State.train_out (s : State) (p : Path) (full : Bool) : s.OutGrows (s.train p full) :=
  (s.linkEnter_out p lkTrain).trans (.same (by cases p <;> rfl))

end Ring

end Sys2Proof.Machine
end

section
/-! SUPPORT. Losses of an in link, and the settlement of O26. -/
namespace Sys2Proof.Machine

section Loss
variable {ks : List Nat} {ps : List Part}

/-! ## Frames with errors (R83) -/

/-- The times of the frames with errors of the last 1 ms, with `n` more now. -/
def State.recentErrors (s : State) (p : Path) (n : Nat) : List Nat :=
  (s.link p).errors.filter (fun t => s.now < t + ms) ++ List.replicate (min n 4096) s.now

theorem State.recentErrors_length (s : State) (p : Path) (n : Nat) :
    (s.recentErrors p n).length = ((s.link p).errors.filter (fun t => s.now < t + ms)).length + min n 4096 := by
  simp [State.recentErrors]

theorem State.recentErrors_one (s : State) (p : Path) :
    s.recentErrors p 1 = (s.link p).errors.filter (fun t => s.now < t + ms) ++ [s.now] := by
  rw [State.recentErrors, show min 1 4096 = 1 by decide, List.replicate_one]

/-- The link with the frames with errors noted. -/
def State.noteErrors (s : State) (p : Path) (n : Nat) : State :=
  s.setLink p { s.link p with errors := lastN 4096 (s.recentErrors p n), cleanSince := s.now }

theorem State.frameErrors_eq (s : State) (p : Path) {n : Nat} (hn : n ≠ 0) : s.frameErrors p n =
    if s.obj Obj.errBurstLimit ≤ (s.recentErrors p n).length then (s.noteErrors p n).linkLost p 0 else s.noteErrors p n := by
  rw [State.frameErrors, if_neg hn]
  rfl

theorem lastN_getLast {n : Nat} (hn : 0 < n) (l : List Nat) (x : Nat) : (lastN n (l ++ [x])).getLast? = some x := by
  have : (l ++ [x]).length - n ≤ l.length := by simp; omega
  rw [lastN, List.drop_append_of_le_length this, List.getLast?_append, List.getLast?_singleton, Option.some_or]

end Loss

/-! ## O26 -/

/-- A frame with a bad header check is noted among the frames with errors. -/
theorem ringFrameRx_badHeader {s : State} {p : Path} {w : RingWire} (up : s.linkState p = lkUp) (bad : headerGood w.header = false) :
    ringFrameRx s p w = ((s.setLink p { s.link p with linkWord := w.linkWord }).bump (Obj.hcrcErrors (linkIdx p))).frameErrors p 1 := by
  simp [ringFrameRx, up, bad]

/-- Settles O26: the frame is noted among the frames with errors, which stay below the burst. -/
theorem ringFrames : Obligations.RingFrames := by
  intro s p w on up bad below
  have step := ringFrameRx_badHeader up bad
  generalize ht : (s.setLink p { s.link p with linkWord := w.linkWord }).bump (Obj.hcrcErrors (linkIdx p)) = t at step
  have limit : t.obj Obj.errBurstLimit = s.obj Obj.errBurstLimit := by
    rw [← ht, State.bump_obj, if_neg (by cases p <;> decide), State.setLink_obj]
  have link : t.link p = { s.link p with linkWord := w.linkWord } := by
    rw [← ht]
    cases p <;> rfl
  have now : t.now = s.now := by rw [← ht]; cases p <;> rfl
  have few : (t.recentErrors p 1).length < s.obj Obj.errBurstLimit := by
    rw [State.recentErrors_length, link, now]
    exact below
  rw [State.frameErrors_eq t p one_ne_zero, limit, if_neg (by omega)] at step
  have count : t.obj (Obj.hcrcErrors (linkIdx p)) = (s.obj (Obj.hcrcErrors (linkIdx p)) + 1) % 2 ^ 32 := by
    rw [← ht, State.bump_obj, if_pos rfl, State.setLink_obj]
  have state : t.linkState p = s.linkState p := by
    rw [← ht, State.linkState, State.bump_obj, if_neg (by cases p <;> decide), State.setLink_obj]
    rfl
  refine Does.of on rfl step ⟨?_, ?_, ?_, ?_⟩ ?_
  · rw [State.noteErrors, State.setLink_obj, count]
  · rw [State.noteErrors, State.setLink_link, State.recentErrors_one, ← now]
    simp only [lastN_getLast (show 0 < 4096 by decide)]
  · rw [State.noteErrors, State.setLink_link, link]
  · rw [State.noteErrors, State.setLink_linkState, state, up]
  · rw [← ht]
    exact ((OnlyChanges.setLink s p _ (by decide)).trans (.bump _ _ (by simp))).trans (.setLink _ p _ (by decide))

end Sys2Proof.Machine
end

section
/-! SUPPORT. What a lost link and a broken segment lead to, and the settlement of O21. -/
namespace Sys2Proof.Machine

section Loss
variable {ks : List Nat} {ps : List Part}

/-! ## The loss of a link -/

/-- The link trains again with the immediate retry of R96. -/
def State.retrain (s : State) (p : Path) : State :=
  let t := s.train p (if p = .b then !s.ring.bSaved else true)
  t.setLink p { t.link p with retrying := true, errors := [] }

/-- The states in which a link can be lost (R83). -/
def State.losable (s : State) (p : Path) : Prop := s.linkState p = lkAlign ∨ s.linkState p = lkCheck ∨ s.linkState p = lkUp

theorem State.linkLost_plain {s : State} {p : Path} (ago : Nat) (state : s.losable p)
    (inner : ¬ (p = .a ∧ s.linkState p = lkUp ∧ s.ringFormed = true)) : s.linkLost p ago = s.retrain p :=
  (if_pos state).trans (if_neg inner)

theorem State.linkLost_break {s : State} (ago : Nat) (up : s.linkState .a = lkUp) (formed : s.ringFormed = true) :
    s.linkLost .a ago = (s.retrain .a).breakAsD (s.now - ago) :=
  (if_pos (.inr (.inr up))).trans (if_pos ⟨rfl, up, formed⟩)

theorem State.retrain_eq (s : State) (p : Path) : ∃ full, s.retrain p =
    (s.train p full).setLink p { (s.train p full).link p with retrying := true, errors := [] } := ⟨_, rfl⟩

theorem OnlyChanges.retrain (s : State) (p : Path) (hk : linkKey p ∈ ks) (hf : Obj.freqAdj ∈ ks) (hr : Part.ring ∈ ps)
    (ht : Part.tb ∈ ps) (ho : Part.out ∈ ps) : OnlyChanges ks ps s (s.retrain p) :=
  (OnlyChanges.train s p _ hk hf hr ht ho).trans (.setLink _ p _ hr)

@[simp] theorem State.retrain_linkState (s : State) (p : Path) : (s.retrain p).linkState p = lkTrain := by
  rw [State.retrain, State.setLink_linkState, State.train_linkState]

theorem State.retrain_retrying (s : State) (p : Path) : ((s.retrain p).link p).retrying = true := by
  rw [State.retrain, State.setLink_link]

theorem State.retrain_linksOnly (s : State) (p : Path) : s.LinksOnly (s.retrain p) := (s.train_linksOnly p _).trans (.setLink _ p _)

theorem State.retrain_rate (s : State) (p : Path) : s.RateKept (s.retrain p) :=
  (s.train_rate p _).trans (.of (OnlyChanges.setLink (ks := []) (ps := [.ring]) _ p _ (by decide)) (by cases p <;> rfl) (by decide))

theorem State.retrain_out (s : State) (p : Path) : s.OutGrows (s.retrain p) := by
  obtain ⟨full, h⟩ := s.retrain_eq p
  exact h ▸ (s.train_out p full).trans (.same (by cases p <;> rfl))

theorem State.retrain_obj (s : State) (p : Path) {k : Nat} (h : k ∉ [linkKey p, Obj.freqAdj]) : (s.retrain p).obj k = s.obj k :=
  (OnlyChanges.retrain (ps := [.ring, .tb, .out]) s p (by simp) (by simp) (by decide) (by decide) (by decide)).obj h

/-- The neighbours stay the same. -/
theorem State.train_neighbour (s : State) (p : Path) (full : Bool) (q : Path) :
    ((s.train p full).link q).neighbour = (s.link q).neighbour := by
  have ring := s.linkEnter_ring p lkTrain
  cases p <;> cases q <;> simp only [State.train, State.setLink, State.link, ring]

theorem State.retrain_neighbours (s : State) (p : Path) : (s.retrain p).upId = s.upId ∧ (s.retrain p).downId = s.downId := by
  obtain ⟨full, h⟩ := s.retrain_eq p
  rw [h]
  cases p
  · exact ⟨s.train_neighbour .a full .a, s.train_neighbour .a full .b⟩
  · exact ⟨s.train_neighbour .b full .a, s.train_neighbour .b full .b⟩

/-! ## Heating -/

theorem State.heatB_cases (s : State) : s.heatB = s.setSends .b true ∨ ∃ full, s.heatB = (s.setSends .b true).train .b full := by
  unfold State.heatB
  dsimp only
  split
  · exact .inr ⟨_, rfl⟩
  · split
    · exact .inr ⟨_, rfl⟩
    · exact .inl rfl

theorem OnlyChanges.heatB (s : State) (hk : linkKey .b ∈ ks) (hf : Obj.freqAdj ∈ ks) (hr : Part.ring ∈ ps)
    (ht : Part.tb ∈ ps) (ho : Part.out ∈ ps) : OnlyChanges ks ps s s.heatB := by
  obtain h | ⟨full, h⟩ := s.heatB_cases
  · exact h ▸ .setSends s .b true hr
  · exact h ▸ (OnlyChanges.setSends s .b true hr).trans (.train _ .b full hk hf hr ht ho)

theorem State.heatB_linksOnly (s : State) : s.LinksOnly s.heatB := by
  obtain h | ⟨full, h⟩ := s.heatB_cases
  · exact h ▸ .setSends s .b true
  · exact h ▸ (State.LinksOnly.setSends s .b true).trans (State.train_linksOnly _ .b full)

theorem State.setSends_rate (s : State) (p : Path) (b : Bool) : s.RateKept (s.setSends p b) :=
  .of (OnlyChanges.setSends (ks := []) (ps := [.ring]) s p b (by decide)) (by cases p <;> rfl) (by decide)

theorem State.heatB_rate (s : State) : s.RateKept s.heatB := by
  obtain h | ⟨full, h⟩ := s.heatB_cases
  · exact h ▸ s.setSends_rate .b true
  · exact h ▸ (s.setSends_rate .b true).trans (State.train_rate _ .b full)

theorem State.heatB_out (s : State) : s.OutGrows s.heatB := by
  obtain h | ⟨full, h⟩ := s.heatB_cases
  · exact h ▸ .same rfl
  · exact h ▸ (State.OutGrows.same rfl).trans (State.train_out _ .b full)

/-! ## A broken segment (R84 to R86) -/

/-- SYNC rows that come on B-in are followed there. -/
def State.turnSync (s : State) : State := if s.syncTurned then s.put Obj.inboundPath 1 else s

theorem OnlyChanges.turnSync (s : State) (hk : Obj.inboundPath ∈ ks) : OnlyChanges ks ps s s.turnSync :=
  .ite (.put s 1 ps hk) (.refl ks ps s)

theorem OnlyChanges.followWrap (s : State) (hk : Obj.inboundPath ∈ ks) (ht : Part.tb ∈ ps) : OnlyChanges ks ps s s.followWrap :=
  .ite ((OnlyChanges.turnSync s hk).trans (.setTb _ _ ht)) (.turnSync s hk)

theorem State.followWrap_locked (s : State) : s.followWrap.tb.locked = s.tb.locked := by
  have turn : s.turnSync.tb = s.tb := (OnlyChanges.turnSync (ks := [Obj.inboundPath]) (ps := []) s (by decide)).2 .tb (by decide)
  have locked : s.turnSync.tb.locked = s.tb.locked := congrArg TimeState.locked turn
  exact ite_proj (fun t : State => t.tb.locked) locked locked

theorem State.followWrap_rate (s : State) : s.RateKept s.followWrap :=
  .of (OnlyChanges.followWrap (ks := [Obj.inboundPath]) (ps := [.tb]) s (by decide) (by decide)) s.followWrap_locked (by decide)

theorem OnlyChanges.showWraps (s : State) (h : Obj.ringState ∈ ks) (g : Obj.wrapSegment ∈ ks) : OnlyChanges ks ps s s.showWraps :=
  (OnlyChanges.put s _ ps h).trans (.put _ _ ps g)

theorem OnlyChanges.discardUnreached (s : State) (h : Part.sw ∈ ps) : OnlyChanges ks ps s s.discardUnreached :=
  .ite (.refl ks ps s) (.setSw s _ h)

/-- The broken segment is noted, with the node cut off by it, and shown. -/
def State.noteBreak (s : State) (u d detection : Nat) (absent : List (Nat × Nat)) : State :=
  (({ s with ring := { s.ring with wraps := s.withBreak u d detection }, acc := { s.acc with absent := absent } } : State).setFlag
    Obj.faultSummary fsWrapActive true).showWraps

/-- What follows a noted break: the hop delays, the heating, the coordinator and the frames for nodes out of reach. -/
def State.meetBreak (s : State) : State := s.followWrap.heatB.refreshCoordinator.discardUnreached

theorem State.breakSegment_eq {s : State} (u d detection : Nat) (prove : s.ring.prove = none) (revert : s.ring.revert = none) :
    ∃ absent, s.breakSegment u d detection = (s.noteBreak u d detection absent).meetBreak := by
  have h1 : s.abandonProve = s := by rw [State.abandonProve, prove]
  have h2 : s.breakMeetsRevert u d = s := by rw [State.breakMeetsRevert, revert]
  rw [State.breakSegment, h1, h2]
  exact ⟨_, rfl⟩

theorem OnlyChanges.noteBreak (s : State) (u d detection : Nat) (absent : List (Nat × Nat)) (h : Obj.faultSummary ∈ ks)
    (h1 : Obj.ringState ∈ ks) (h2 : Obj.wrapSegment ∈ ks) (hr : Part.ring ∈ ps) (ha : Part.acc ∈ ps) :
    OnlyChanges ks ps s (s.noteBreak u d detection absent) :=
  (((OnlyChanges.setRing s { s.ring with wraps := s.withBreak u d detection } hr).trans
    (.setAcc _ { s.acc with absent := absent } ha)).trans (.setFlag _ _ _ ps h)).trans (.showWraps _ h1 h2)

theorem OnlyChanges.meetBreak (s : State) (h : Obj.inboundPath ∈ ks) (h1 : Obj.coordinator ∈ ks) (hk : linkKey .b ∈ ks)
    (hf : Obj.freqAdj ∈ ks) (hr : Part.ring ∈ ps) (ht : Part.tb ∈ ps) (hs : Part.sw ∈ ps) (ho : Part.out ∈ ps) :
    OnlyChanges ks ps s s.meetBreak :=
  (((OnlyChanges.followWrap s h ht).trans (.heatB _ hk hf hr ht ho)).trans (.put _ _ ps h1)).trans (.discardUnreached _ hs)

theorem State.discardUnreached_sw (s : State) : OnlyChanges [] [.sw] s s.discardUnreached := .discardUnreached s (by decide)

/-- The objects and parts beside the links that a noted break leaves to what follows it. -/
theorem State.meetBreak_linksOnly (s : State) : s.LinksOnly s.meetBreak := by
  have follow : s.LinksOnly s.followWrap :=
    .same ((OnlyChanges.followWrap (ks := [Obj.inboundPath]) (ps := [.tb]) s (by decide) (by decide)).2 .ring (by decide))
  exact (follow.trans (State.heatB_linksOnly _)).trans (.same ((State.discardUnreached_sw _).2 .ring (by decide)))

theorem State.meetBreak_rate (s : State) : s.RateKept s.meetBreak :=
  ((s.followWrap_rate.trans (State.heatB_rate _)).trans
    (.of (OnlyChanges.put (ks := [Obj.coordinator]) _ (State.coordinatorNow _) [] (by decide)) rfl (by decide))).trans
    (.of (State.discardUnreached_sw _) (congrArg TimeState.locked ((State.discardUnreached_sw _).2 .tb (by decide))) (by decide))

theorem State.meetBreak_out (s : State) : s.OutGrows s.meetBreak := by
  have follow : s.OutGrows s.followWrap :=
    .same ((OnlyChanges.followWrap (ks := [Obj.inboundPath]) (ps := [.tb]) s (by decide) (by decide)).2 .out (by decide))
  exact (follow.trans (State.heatB_out _)).trans (.same ((State.discardUnreached_sw _).2 .out (by decide)))

theorem State.noteBreak_rate (s : State) (u d detection : Nat) (absent : List (Nat × Nat)) :
    s.RateKept (s.noteBreak u d detection absent) :=
  .of (OnlyChanges.noteBreak (ks := [Obj.faultSummary, Obj.ringState, Obj.wrapSegment]) (ps := [.ring, .acc]) s u d detection absent
    (by decide) (by decide) (by decide) (by decide) (by decide)) rfl (by decide)

theorem State.noteBreak_ring (s : State) (u d detection : Nat) (absent : List (Nat × Nat)) :
    (s.noteBreak u d detection absent).ring = { s.ring with wraps := s.withBreak u d detection } := rfl

theorem State.noteBreak_wrapActive (s : State) (u d detection : Nat) (absent : List (Nat × Nat)) :
    (s.noteBreak u d detection absent).wrapActive = true := by
  rw [State.wrapActive, State.flag, State.noteBreak,
    (OnlyChanges.showWraps (ks := [Obj.ringState, Obj.wrapSegment]) (ps := []) _ (by decide) (by decide)).obj (by decide)]
  exact State.setFlag_flag _ _ _ _ (by decide)

theorem State.showWraps_ringState (s : State) :
    s.showWraps.ringState = if s.ring.wraps = [] then 2 else if s.ring.wraps.length = 1 then 3 else 4 := by
  rw [State.ringState, State.showWraps]
  exact (State.put_obj_other _ _ (by decide)).trans (State.put_obj_same _ _ _)

theorem State.showWraps_wrapSegment (s : State) :
    s.showWraps.obj Obj.wrapSegment = match s.ring.wraps.getLast? with | some w => w.u * 256 + w.d | none => 0 := by
  rw [State.showWraps]
  exact State.put_obj_same _ _ _

theorem State.noteBreak_ringState (s : State) (u d detection : Nat) (absent : List (Nat × Nat)) :
    (s.noteBreak u d detection absent).ringState =
      if s.withBreak u d detection = [] then 2 else if (s.withBreak u d detection).length = 1 then 3 else 4 := State.showWraps_ringState _

theorem State.noteBreak_wrapSegment (s : State) (u d detection : Nat) (absent : List (Nat × Nat)) :
    (s.noteBreak u d detection absent).obj Obj.wrapSegment =
      match (s.withBreak u d detection).getLast? with | some w => w.u * 256 + w.d | none => 0 := State.showWraps_wrapSegment _

end Loss

/-! ## O21 -/

/-- What a loss that a node is not D of does, once it is counted at `k` in `t`. -/
theorem State.retrain_counted {s t : State} (p : Path) {k : Nat} {v : Nat} (hk : k ∉ [linkKey p, Obj.freqAdj]) (count : t.obj k = v)
    (rate : s.RateKept t) : (t.retrain p).linkState p = lkTrain ∧ ((t.retrain p).link p).retrying = true ∧ (t.retrain p).obj k = v ∧
      (s.clockLocked = true → (t.retrain p).obj Obj.freqAdj = s.obj Obj.freqAdj) :=
  ⟨t.retrain_linkState p, t.retrain_retrying p, (t.retrain_obj p hk).trans count, (rate.trans (t.retrain_rate p)).freq⟩

/-- The counters of a link in its record of R105 (R105). -/
def lossCounters (p : Path) : List Nat := [Obj.losEvents (linkIdx p), Obj.lockLosses (linkIdx p), Obj.rowCodeErrors (linkIdx p)]

/-- A counter is none of the objects that a link's loss reads. -/
theorem lossCounters_apart {p : Path} {k : Nat} (h : k ∈ lossCounters p) :
    k ∉ [linkKey p, Obj.freqAdj] ∧ linkKey p ≠ k ∧ Obj.ringState ≠ k ∧ Obj.errBurstLimit ≠ k ∧
      ∀ j ∈ [Obj.effectiveId, Obj.gmId, Obj.freqAdj], j ∉ [k] := by
  revert k
  cases p <;> decide

/-- A loss counted by one at a node that is not its D. -/
theorem does_loss {i : Instr} {s : State} {p : Path} {k ago : Nat} (on : s.rst.coreOn = true) (state : s.losable p)
    (inner : ¬ (p = .a ∧ s.linkState p = lkUp ∧ s.ringFormed = true)) (hk : k ∈ lossCounters p)
    (h : exec i s = .next (settleOn s ((s.bump k).linkLost p ago))) :
    Does i s [k, linkKey p, Obj.freqAdj] [.ring, .tb, .out] (fun u =>
      u.linkState p = lkTrain ∧ (u.link p).retrying = true ∧ u.obj k = (s.obj k + 1) % 2 ^ 32 ∧
        (s.clockLocked = true → u.obj Obj.freqAdj = s.obj Obj.freqAdj)) := by
  obtain ⟨apart, link, formed, -, rate⟩ := lossCounters_apart hk
  have hl : (s.bump k).linkState p = s.linkState p := State.put_obj_other _ _ link
  have hf : (s.bump k).ringFormed = s.ringFormed := by
    rw [State.ringFormed, State.ringFormed, State.ringState, State.ringState, State.bump_obj, if_neg formed]
  refine Does.of on h (State.linkLost_plain ago (by rw [State.losable, hl]; exact state) (by rw [hl, hf]; exact inner))
    (State.retrain_counted p apart ((s.bump_obj k k).trans (if_pos rfl))
      (.of (OnlyChanges.bump (ks := [k]) s [] (by simp)) rfl rate)) ?_
  exact (OnlyChanges.bump s _ (by simp)).trans (.retrain _ p (by simp) (by simp) (by decide) (by decide) (by decide))

theorem losAsserted_counts {s : State} {p : Path} (state : s.losable p) :
    losAsserted s p = (s.bump (Obj.losEvents (linkIdx p))).linkLost p 0 := if_pos state

theorem lockLoss_counts {s : State} {p : Path} (ago : Nat) (state : s.losable p) :
    lockLoss s p ago = (s.bump (Obj.lockLosses (linkIdx p))).linkLost p ago := if_pos state

/-- The rows received are counted, before they are noted as frames with errors. -/
def State.countRows (s : State) (p : Path) (rows : List WireRow) (n : Nat) : State :=
  (s.takeLinkWords p rows).bumpBy (Obj.rowCodeErrors (linkIdx p)) n

theorem errBurst_counts {s : State} {p : Path} (rows : List WireRow) (state : s.losable p) : errBurst s p rows =
    (s.countRows p rows (rows.filter WireRow.isError).length).frameErrors p (rows.filter WireRow.isError).length := if_pos state

theorem State.takeLinkWords_eq (s : State) (p : Path) (rows : List WireRow) :
    ∃ w, s.takeLinkWords p rows = s.setLink p { s.link p with linkWord := w } := by
  unfold State.takeLinkWords
  split
  · exact ⟨_, rfl⟩
  · exact ⟨(s.link p).linkWord, by cases p <;> rfl⟩

/-- Counting rows leaves the errors noted, the time, the link states and the objects beside the counter alone. -/
theorem State.countRows_spec (s : State) (p : Path) (rows : List WireRow) (n : Nat) :
    ((s.countRows p rows n).link p).errors = (s.link p).errors ∧ (s.countRows p rows n).now = s.now ∧
    (s.countRows p rows n).obj (Obj.rowCodeErrors (linkIdx p)) = (s.obj (Obj.rowCodeErrors (linkIdx p)) + n) % 2 ^ 32 ∧
    OnlyChanges [Obj.rowCodeErrors (linkIdx p)] [.ring] s (s.countRows p rows n) := by
  obtain ⟨w, h⟩ := s.takeLinkWords_eq p rows
  rw [State.countRows, h]
  refine ⟨by cases p <;> rfl, by cases p <;> rfl, ?_, (OnlyChanges.setLink s p _ (by decide)).trans (.bumpBy _ n _ (by simp))⟩
  rw [State.bumpBy, State.put_obj_same, State.setLink_obj]

/-- The rows with errors that reach the burst lose the link. -/
theorem does_burst (s : State) (p : Path) (rows : List WireRow) (n : Nat) (on : s.rst.coreOn = true) (state : s.losable p)
    (inner : ¬ (p = .a ∧ s.linkState p = lkUp ∧ s.ringFormed = true)) (hn : n = (rows.filter WireRow.isError).length) (pos : 0 < n)
    (limit : s.obj Obj.errBurstLimit ≤ ((s.link p).errors.filter (fun t => s.now < t + ms)).length + min n 4096) :
    Does (.errBurst p rows) s [Obj.rowCodeErrors (linkIdx p), linkKey p, Obj.freqAdj] [.ring, .tb, .out] (fun u =>
      u.linkState p = lkTrain ∧ (u.link p).retrying = true ∧
        u.obj (Obj.rowCodeErrors (linkIdx p)) = (s.obj (Obj.rowCodeErrors (linkIdx p)) + n) % 2 ^ 32 ∧ (s.clockLocked = true →
        u.obj Obj.freqAdj = s.obj Obj.freqAdj)) := by
  obtain ⟨apart, link, formed, burst, rate⟩ :=
    lossCounters_apart (show Obj.rowCodeErrors (linkIdx p) ∈ lossCounters p by simp [lossCounters])
  have step := errBurst_counts rows state
  rw [← hn] at step
  obtain ⟨errors, now, count, c⟩ := s.countRows_spec p rows n
  have many : (s.countRows p rows n).obj Obj.errBurstLimit ≤ ((s.countRows p rows n).recentErrors p n).length := by
    rw [State.recentErrors_length, errors, now, c.obj (by simpa using burst)]
    exact limit
  rw [State.frameErrors_eq _ p (by omega), if_pos many] at step
  have note : OnlyChanges [Obj.rowCodeErrors (linkIdx p)] [.ring] s ((s.countRows p rows n).noteErrors p n) :=
    c.trans (.setLink _ p _ (by decide))
  have hl : ((s.countRows p rows n).noteErrors p n).linkState p = s.linkState p := note.obj (by simpa using link)
  have hf : ((s.countRows p rows n).noteErrors p n).ringFormed = s.ringFormed := by
    rw [State.ringFormed, State.ringFormed, State.ringState, State.ringState, note.obj (by simpa using formed)]
  rw [State.linkLost_plain 0 (by rw [State.losable, hl]; exact state) (by rw [hl, hf]; exact inner)] at step
  refine Does.of on rfl step (State.retrain_counted p apart ((State.setLink_obj _ _ _ _).trans count)
    (.of note (congrArg TimeState.locked (note.2 .tb (by decide))) rate)) ?_
  exact (note.mono (by simp) (by simp)).trans (.retrain _ p (by simp) (by simp) (by decide) (by decide) (by decide))

/-- Fewer rows with errors leave the link as it is. -/
theorem does_rowErrors (s : State) (p : Path) (rows : List WireRow) (n : Nat) (on : s.rst.coreOn = true) (state : s.losable p)
    (hn : n = (rows.filter WireRow.isError).length) (pos : 0 < n)
    (limit : ((s.link p).errors.filter (fun t => s.now < t + ms)).length + min n 4096 < s.obj Obj.errBurstLimit) :
    Does (.errBurst p rows) s [Obj.rowCodeErrors (linkIdx p)] [.ring] (fun u =>
      u.linkState p = s.linkState p ∧ (u.link p).cleanSince = s.now ∧
        u.obj (Obj.rowCodeErrors (linkIdx p)) = (s.obj (Obj.rowCodeErrors (linkIdx p)) + n) % 2 ^ 32) := by
  obtain ⟨-, link, -, burst, -⟩ :=
    lossCounters_apart (show Obj.rowCodeErrors (linkIdx p) ∈ lossCounters p by simp [lossCounters])
  have step := errBurst_counts rows state
  rw [← hn] at step
  obtain ⟨errors, now, count, c⟩ := s.countRows_spec p rows n
  have few : ((s.countRows p rows n).recentErrors p n).length < (s.countRows p rows n).obj Obj.errBurstLimit := by
    rw [State.recentErrors_length, errors, now, c.obj (by simpa using burst)]
    exact limit
  rw [State.frameErrors_eq _ p (by omega), if_neg (by omega)] at step
  have note : OnlyChanges [Obj.rowCodeErrors (linkIdx p)] [.ring] s ((s.countRows p rows n).noteErrors p n) :=
    c.trans (.setLink _ p _ (by decide))
  refine Does.of on rfl step ⟨note.obj (by simpa using link), ?_, (State.setLink_obj _ _ _ _).trans count⟩ note
  rw [State.noteErrors, State.setLink_link, now]

/-- The notice of a break that a node finds as its D (R84). -/
def State.ownBreak (s : State) (detection : Nat) : Notice :=
  { kind := 0x01, origin := s.ownId, u := s.upId, d := s.ownId, time := detection, seq := s.nextNotice }

/-- Its notice is noted, and goes out on A-out. -/
def State.noticed (s : State) (detection : Nat) : State := (s.useNotice.noteSeen (s.ownBreak detection)).notify .a (s.ownBreak detection)

theorem State.notify_cases (s : State) (p : Path) (n : Notice) : s.notify p n = s ∨ s.notify p n = s.emit (.notice p n) :=
  if h : p = .a ∧ s.ring.outFault then .inl (if_pos h) else .inr (if_neg h)

theorem OnlyChanges.notify {ks : List Nat} {ps : List Part} (s : State) (p : Path) (n : Notice) (h : Part.out ∈ ps) :
    OnlyChanges ks ps s (s.notify p n) := by
  obtain e | e := s.notify_cases p n
  · rw [e]
    exact .refl ks ps s
  · rw [e]
    exact .emit s _ ks h

theorem State.notify_ring (s : State) (p : Path) (n : Notice) : (s.notify p n).ring = s.ring :=
  (OnlyChanges.notify (ks := []) (ps := [.out]) s p n (by decide)).2 .ring (by decide)

theorem State.notify_mem (s : State) (n : Notice) (fault : s.ring.outFault = false) : Out.notice .a n ∈ (s.notify .a n).out := by
  rw [State.notify, if_neg (by simp [fault])]
  simp [State.emit]

theorem State.noticed_changes (s : State) (detection : Nat) : OnlyChanges [] [.ring, .out] s (s.noticed detection) :=
  ((OnlyChanges.setRing s _ (by decide)).trans (.setRing _ _ (by decide))).trans (.notify _ _ _ (by decide))

theorem State.noticed_ring (s : State) (detection : Nat) : (s.noticed detection).ring =
    { s.ring with noticeSeq := s.nextNotice, seen := s.ring.seen ++ [(s.ownId, s.nextNotice)] } := State.notify_ring _ _ _

theorem State.noticed_mem (s : State) (detection : Nat) (fault : s.ring.outFault = false) :
    Out.notice .a (s.ownBreak detection) ∈ (s.noticed detection).out := State.notify_mem _ _ fault

/-- The break that a node finds as its D, shown at this node. -/
def State.foundBreak (s : State) (detection : Nat) (absent : List (Nat × Nat)) : State :=
  (s.noticed detection).noteBreak s.upId s.ownId detection absent

theorem State.breakAsD_eq {s : State} (detection : Nat) (prove : s.ring.prove = none) (revert : s.ring.revert = none) :
    ∃ absent, s.breakAsD detection = ((s.foundBreak detection absent).meetBreak.freeze detection).put Obj.inboundPath 1 := by
  have ring : (s.noticed detection).ring.prove = none ∧ (s.noticed detection).ring.revert = none := by
    rw [State.noticed_ring]
    exact ⟨prove, revert⟩
  obtain ⟨absent, h⟩ := State.breakSegment_eq s.upId s.ownId detection ring.1 ring.2
  exact ⟨absent, congrArg (fun t : State => (t.freeze detection).put Obj.inboundPath 1) h⟩

theorem OnlyChanges.breakAsD {s : State} {ks : List Nat} {ps : List Part} (detection : Nat) (prove : s.ring.prove = none)
    (revert : s.ring.revert = none)
    (hk : ∀ k ∈ [Obj.freqAdj, Obj.inboundPath, linkKey .b, Obj.faultSummary, Obj.ringState, Obj.wrapSegment, Obj.coordinator], k ∈ ks)
    (hp : ∀ p ∈ [Part.ring, .tb, .acc, .sw, .out], p ∈ ps) : OnlyChanges ks ps s (s.breakAsD detection) := by
  obtain ⟨absent, h⟩ := State.breakAsD_eq detection prove revert
  rw [h]
  exact ((((s.noticed_changes detection).mono (by simp) (by simpa using ⟨hp .ring (by decide), hp .out (by decide)⟩)).trans
    (.noteBreak _ _ _ _ absent (hk _ (by decide)) (hk _ (by decide)) (hk _ (by decide)) (hp _ (by decide)) (hp _ (by decide)))).trans
    (.meetBreak _ (hk _ (by decide)) (hk _ (by decide)) (hk _ (by decide)) (hk _ (by decide)) (hp _ (by decide)) (hp _ (by decide))
      (hp _ (by decide)) (hp _ (by decide)))).trans ((OnlyChanges.setRing _ _ (hp _ (by decide))).trans (.put _ 1 _ (hk _ (by decide))))

/-- The objects that show a break found as D, beside those that what follows it can change. -/
theorem State.breakAsD_obj {s : State} (detection : Nat) (prove : s.ring.prove = none) (revert : s.ring.revert = none) :
    ∃ absent, ∀ k ∉ [Obj.inboundPath, Obj.coordinator, linkKey .b, Obj.freqAdj],
      (s.breakAsD detection).obj k = (s.foundBreak detection absent).obj k := by
  obtain ⟨absent, h⟩ := State.breakAsD_eq detection prove revert
  refine ⟨absent, fun k hk => ?_⟩
  rw [h]
  have c : OnlyChanges [Obj.inboundPath, Obj.coordinator, linkKey .b, Obj.freqAdj] [.ring, .tb, .sw, .out] (s.foundBreak detection absent)
      (((s.foundBreak detection absent).meetBreak.freeze detection).put Obj.inboundPath 1) :=
    (OnlyChanges.meetBreak _ (by decide) (by decide) (by decide) (by decide) (by decide) (by decide) (by decide) (by decide)).trans
      ((OnlyChanges.setRing _ _ (by decide)).trans (.put _ 1 _ (by decide)))
  exact c.obj hk

/-- The first broken segment of a whole ring, found as D. -/
theorem State.noticed_withBreak {s : State} (detection : Nat) (whole : s.ring.wraps = []) :
    (s.noticed detection).withBreak s.upId s.ownId detection =
      [{ u := s.upId, d := s.ownId, detection := detection, isU := s.isUOf s.upId s.ownId, isD := true, start := s.now }] := by
  have ring := s.noticed_ring detection
  have c := s.noticed_changes detection
  have own : (s.noticed detection).ownId = s.ownId := c.obj (by decide)
  have now : (s.noticed detection).now = s.now := congrArg (· / 2 ^ 40) (c.2 .time (by decide))
  have up : (s.noticed detection).upId = s.upId := by rw [State.upId, ring]; rfl
  have down : (s.noticed detection).downId = s.downId := by rw [State.downId, ring]; rfl
  have wraps : (s.noticed detection).ring.wraps = [] := (congrArg RingState.wraps ring).trans whole
  rw [State.withBreak, wraps]
  simp [State.isUOf, State.isDOf, own, now, up, down]

/-- The break of a whole ring found as D: the wrap, its notice, the freeze and the way of the SYNC rows (R84, R89, R119). -/
theorem State.breakAsD_ring {s : State} (detection : Nat) (whole : s.ring.wraps = []) (prove : s.ring.prove = none)
    (revert : s.ring.revert = none) :
    (s.breakAsD detection).ring.wraps = [{ u := s.upId, d := s.ownId, detection := detection, isU := s.isUOf s.upId s.ownId, isD := true, start := s.now }] ∧ (s.breakAsD detection).ring.freezeUntil = some (detection + 100 * us) ∧
    (s.breakAsD detection).obj Obj.inboundPath = 1 ∧ (s.noticed detection).OutGrows (s.breakAsD detection) ∧
    s.RateKept (s.breakAsD detection) := by
  obtain ⟨absent, h⟩ := State.breakAsD_eq detection prove revert
  rw [h]
  generalize hm : (s.foundBreak detection absent).meetBreak = m
  have found : (s.foundBreak detection absent).LinksOnly m := hm ▸ State.meetBreak_linksOnly _
  have out : (s.noticed detection).OutGrows m := (State.OutGrows.same (u := s.foundBreak detection absent) rfl).trans (hm ▸ State.meetBreak_out _)
  have notice : s.RateKept (s.noticed detection) :=
    .of (s.noticed_changes detection) (congrArg TimeState.locked ((s.noticed_changes detection).2 .tb (by decide))) (by decide)
  have rate : s.RateKept m := (notice.trans (State.noteBreak_rate _ _ _ _ absent)).trans (hm ▸ State.meetBreak_rate _)
  refine ⟨found.wraps.trans (State.noticed_withBreak detection whole), rfl, State.put_obj_same _ _ _, out.trans (.same rfl),
    rate.trans (.of ((OnlyChanges.setRing (ks := [Obj.inboundPath]) (ps := [.ring]) m _ (by decide)).trans (.put _ 1 _ (by decide))) rfl
      (by decide))⟩

/-- The break of a whole ring as it is shown: RING_STATE 3, WRAP_ACTIVE and the segment (R84). -/
theorem State.breakAsD_shown {s : State} (detection : Nat) (whole : s.ring.wraps = []) (prove : s.ring.prove = none)
    (revert : s.ring.revert = none) :
    (s.breakAsD detection).ringState = 3 ∧ (s.breakAsD detection).wrapActive = true ∧
    (s.breakAsD detection).obj Obj.wrapSegment = s.upId * 256 + s.ownId := by
  obtain ⟨absent, h⟩ := State.breakAsD_obj detection prove revert
  have wraps := State.noticed_withBreak detection whole
  refine ⟨(h _ (by decide)).trans ?_, ?_, (h _ (by decide)).trans ?_⟩
  · refine (State.noteBreak_ringState _ _ _ _ absent).trans ?_
    rw [wraps]
    rfl
  · rw [State.wrapActive, State.flag, h _ (by decide)]
    exact State.noteBreak_wrapActive _ _ _ _ absent
  · refine (State.noteBreak_wrapSegment _ _ _ _ absent).trans ?_
    rw [wraps]
    rfl

/-- A-in lost while the ring is whole. -/
theorem does_break (s : State) (on : s.rst.coreOn = true) (up : s.linkState .a = lkUp) (state : s.ringState = 2)
    (whole : s.ring.wraps = []) (prove : s.ring.prove = none) (revert : s.ring.revert = none) :
    Does (.losAsserted .a) s [Obj.losEvents 0, Obj.freqAdj, Obj.inboundPath, linkKey .a, linkKey .b, Obj.faultSummary, Obj.ringState, Obj.wrapSegment, Obj.coordinator] [.ring, .tb, .acc, .sw, .out] (fun u =>
      u.ringState = 3 ∧ u.wrapActive = true ∧ u.obj Obj.wrapSegment = s.upId * 256 + s.ownId ∧
        u.ring.wraps = [{ u := s.upId, d := s.ownId, detection := s.now, isU := s.isUOf s.upId s.ownId, isD := true, start := s.now }] ∧
        u.ring.freezeUntil = some (s.now + 100 * us) ∧ u.obj Obj.inboundPath = 1 ∧ (s.ring.outFault = false →
        Out.notice .a { kind := 0x01, origin := s.ownId, u := s.upId, d := s.ownId, time := s.now, seq := s.nextNotice } ∈ u.out) ∧
        (s.clockLocked = true → u.obj Obj.freqAdj = s.obj Obj.freqAdj)) := by
  have count : (s.bump (Obj.losEvents 0)).linkState .a = lkUp := (State.put_obj_other _ _ (by decide)).trans up
  have formed : (s.bump (Obj.losEvents 0)).ringFormed = true := by
    have : (s.bump (Obj.losEvents 0)).ringState = 2 := (State.put_obj_other _ _ (by decide)).trans state
    rw [State.ringFormed, this]
    rfl
  have step : losAsserted s .a = ((s.bump (Obj.losEvents 0)).retrain .a).breakAsD (s.now - 0) :=
    (losAsserted_counts (.inr (.inr up))).trans (State.linkLost_break 0 count formed)
  generalize ht : (s.bump (Obj.losEvents 0)).retrain .a = t at step
  have links : s.LinksOnly t := ht ▸ (State.LinksOnly.same (s := s) rfl).trans (State.retrain_linksOnly _ .a)
  have train : OnlyChanges [Obj.losEvents 0, linkKey .a, Obj.freqAdj] [.ring, .tb, .out] s t :=
    ht ▸ (OnlyChanges.bump s _ (by simp)).trans (.retrain _ .a (by simp) (by simp) (by decide) (by decide) (by decide))
  have rate : s.RateKept t :=
    ht ▸ (State.RateKept.of (OnlyChanges.bump (ks := [Obj.losEvents 0]) s [] (by simp)) rfl (by decide)).trans (State.retrain_rate _ .a)
  have tup : t.upId = s.upId := ht ▸ (State.retrain_neighbours _ .a).1
  have tdown : t.downId = s.downId := ht ▸ (State.retrain_neighbours _ .a).2
  have tnow : t.now = s.now := congrArg (· / 2 ^ 40) (train.2 .time (by decide))
  have town : t.ownId = s.ownId := train.obj (by decide)
  have tprove : t.ring.prove = none := by rw [links]; exact prove
  have trevert : t.ring.revert = none := by rw [links]; exact revert
  have twhole : t.ring.wraps = [] := links.wraps.trans whole
  have tnotice : t.nextNotice = s.nextNotice := by rw [State.nextNotice, links]; rfl
  have tfault : t.ring.outFault = s.ring.outFault := by rw [links]
  obtain ⟨ringState, wrapActive, segment⟩ := State.breakAsD_shown (s.now - 0) twhole tprove trevert
  obtain ⟨wraps, freeze, inbound, out, kept⟩ := State.breakAsD_ring (s.now - 0) twhole tprove trevert
  refine Does.of on rfl step ⟨ringState, wrapActive, ?_, ?_, freeze, inbound, fun fault => out.mem ?_, (rate.trans kept).freq⟩ ?_
  · rw [segment, tup, town]
  · rw [wraps, State.isUOf, State.isUOf, tup, town, tdown, tnow, Nat.sub_zero]
  · have notice : t.ownBreak (s.now - 0) =
        { kind := 0x01, origin := s.ownId, u := s.upId, d := s.ownId, time := s.now, seq := s.nextNotice } := by
      rw [State.ownBreak, tup, town, tnotice, Nat.sub_zero]
    exact notice ▸ t.noticed_mem (s.now - 0) (tfault.trans fault)
  · exact (train.mono (by decide) (by decide)).trans (.breakAsD _ tprove trevert (by decide) (by decide))

/-- Settles O21: a counted loss trains the link anew; that of A-in of a whole ring breaks the segment above. -/
theorem linkLoss : Obligations.LinkLoss := by
  refine ⟨fun s p on state inner => ?_, fun s p lane on state inner => ?_, fun s p on state inner => ?_, fun s on => ?_, does_burst,
    does_rowErrors, does_break⟩
  · exact does_loss on state inner (by simp [lossCounters]) (congrArg (fun t => Host.Outcome.next (settleOn s t)) (losAsserted_counts state))
  · exact does_loss on state inner (by simp [lossCounters]) (congrArg (fun t => Host.Outcome.next (settleOn s t)) (lockLoss_counts 0 state))
  · exact does_loss on state inner (by simp [lossCounters]) (congrArg (fun t => Host.Outcome.next (settleOn s t)) (lockLoss_counts us state))
  · exact Does.of on rfl rfl rfl (.setRing s _ (by decide))

end Sys2Proof.Machine
end

section
/-! SUPPORT. The end of a wrap and of a revert, and the settlement of O23. -/
namespace Sys2Proof.Machine

section Revert
variable {ks : List Nat} {ps : List Part}

/-! ## Notices that go round -/

theorem OnlyChanges.sendBoth (s : State) (n : Notice) (hr : Part.ring ∈ ps) (ho : Part.out ∈ ps) : OnlyChanges ks ps s (s.sendBoth n) := by
  have c : OnlyChanges ks ps s ((s.noteSeen n).notify .a n) := (OnlyChanges.setRing s _ hr).trans (.notify _ _ _ ho)
  exact .ite (c.trans (.emit _ _ ks ho)) c

theorem State.sendBoth_ring (s : State) (n : Notice) : (s.sendBoth n).ring = { s.ring with seen := s.ring.seen ++ [(n.origin, n.seq)] } :=
  have ring := State.notify_ring (s.noteSeen n) .a n
  ite_proj State.ring ring ring

theorem State.sendBoth_hasSeen (s : State) (n : Notice) : (s.sendBoth n).hasSeen n = true := by
  rw [State.hasSeen, State.sendBoth_ring]
  simp

theorem State.sendBoth_mem (s : State) (n : Notice) (fault : s.ring.outFault = false) : Out.notice .a n ∈ (s.sendBoth n).out := by
  have mem := State.notify_mem (s.noteSeen n) n fault
  unfold State.sendBoth
  dsimp only
  split
  · exact (State.OutGrows.emit _ _).mem mem
  · exact mem

theorem OnlyChanges.originate (s : State) (n : Notice) (hr : Part.ring ∈ ps) (ho : Part.out ∈ ps) : OnlyChanges ks ps s (s.originate n) :=
  (OnlyChanges.setRing s _ hr).trans (.sendBoth _ _ hr ho)

/-- A notice of this node's own, on a transmitter without fault. -/
theorem State.originate_mem (s : State) (n : Notice) (own : n.origin = s.ownId) (fault : s.ring.outFault = false) :
    Out.notice .a { n with seq := s.nextNotice } ∈ (s.originate n).out := by
  have origin : (if n.origin = 0 then s.ownId else n.origin) = n.origin := by split <;> simp [own]
  have mem := State.sendBoth_mem s.useNotice { n with origin := if n.origin = 0 then s.ownId else n.origin, seq := s.nextNotice } fault
  rw [origin] at mem
  rw [State.originate, origin]
  exact mem

theorem State.originate_ring (s : State) (n : Notice) : ∃ seen, (s.originate n).ring = { s.ring with noticeSeq := s.nextNotice, seen := seen } :=
  ⟨_, State.sendBoth_ring _ _⟩

/-! ## Cooling (R81) -/

theorem OnlyChanges.saveB (s : State) (h : Obj.bSavedTime ∈ ks) (hr : Part.ring ∈ ps) : OnlyChanges ks ps s s.saveB :=
  .ite ((OnlyChanges.put s _ ps h).trans (.setRing _ _ hr)) (.refl ks ps s)

theorem State.saveB_linksOnly (s : State) : s.LinksOnly s.saveB := by
  unfold State.saveB
  split
  · rfl
  · exact .same rfl

theorem State.saveB_out (s : State) : s.saveB.out = s.out := ite_proj State.out rfl rfl

/-- The B-in link is left as it is, or enters a state. -/
theorem State.coolB_cases (s : State) (save : Bool) : ∃ t, (t = s ∨ t = s.saveB) ∧
    (s.coolB save = t ∨ s.coolB save = t.setSends .b false ∨ ∃ st, s.coolB save = (t.linkEnter .b st).setSends .b false) := by
  refine ⟨if save then s.saveB else s, by cases save <;> simp, ?_⟩
  generalize ht : (if save then s.saveB else s) = t
  have cool : s.coolB save = if t.hotB then t else
      (if t.linkState .b = lkFailed then t else t.linkEnter .b (if t.ring.bSaved then lkCold else lkOff)).setSends .b false := ht ▸ rfl
  rw [cool]
  split
  · exact .inl rfl
  · split
    · exact .inr (.inl rfl)
    · exact .inr (.inr ⟨_, rfl⟩)

theorem OnlyChanges.coolB (s : State) (save : Bool) (h : Obj.bSavedTime ∈ ks) (hk : linkKey .b ∈ ks) (hf : Obj.freqAdj ∈ ks)
    (hr : Part.ring ∈ ps) (ht : Part.tb ∈ ps) (ho : Part.out ∈ ps) : OnlyChanges ks ps s (s.coolB save) := by
  obtain ⟨t, saved, cool⟩ := s.coolB_cases save
  have c : OnlyChanges ks ps s t := by
    obtain e | e := saved
    · exact e ▸ .refl ks ps s
    · exact e ▸ .saveB s h hr
  obtain e | e | ⟨st, e⟩ := cool
  · exact e ▸ c
  · exact e ▸ c.trans (.setSends t .b false hr)
  · exact e ▸ (c.trans (.linkEnter t .b st hk hf hr ht ho)).trans (.setSends _ .b false hr)

/-- Cooling leaves the ring beside the links, adds outputs, and keeps the rate of a locked clock. -/
theorem State.coolB_kept (s : State) (save : Bool) : s.LinksOnly (s.coolB save) ∧ s.OutGrows (s.coolB save) ∧ s.RateKept (s.coolB save) := by
  obtain ⟨t, saved, cool⟩ := s.coolB_cases save
  have c : s.LinksOnly t ∧ s.OutGrows t ∧ s.RateKept t := by
    obtain e | e := saved
    · subst e
      exact ⟨.same rfl, .same rfl, .of (.refl [] [] t) rfl (by decide)⟩
    · have save := OnlyChanges.saveB (ks := [Obj.bSavedTime]) (ps := [.ring]) s (by decide) (by decide)
      subst e
      exact ⟨s.saveB_linksOnly, .same s.saveB_out, .of save (congrArg TimeState.locked (save.2 .tb (by decide))) (by decide)⟩
  obtain ⟨links, out, rate⟩ := c
  obtain e | e | ⟨st, e⟩ := cool
  · exact e ▸ ⟨links, out, rate⟩
  · exact e ▸ ⟨links.trans (.setSends t .b false), out.trans (.same rfl), rate.trans (t.setSends_rate .b false)⟩
  · exact e ▸ ⟨(links.trans (t.linkEnter_linksOnly .b st)).trans (.setSends _ .b false), (out.trans (t.linkEnter_out .b st)).trans (.same rfl),
      (rate.trans (t.linkEnter_rate .b st)).trans (State.setSends_rate _ .b false)⟩

/-! ## The end of a wrap (R92) -/

/-- The broken segments that a revert from `u` to `d` leaves. -/
def State.leftWraps (s : State) (u d : Nat) : List WrapState := s.ring.wraps.filter (fun w => !(w.u == u || w.d == d))

/-- The records of the repaired segments are dropped, outside a splice. -/
def State.dropWraps (s : State) (u d : Nat) : State :=
  ({ s with ring := { s.ring with wraps := s.leftWraps u d, revert := none, dark := false }
            acc := { s.acc with absent := s.acc.absent.filter (fun a => (s.leftWraps u d).any (·.d == a.1) && (s.leftWraps u d).any (·.u == a.1)), splice := none,
                                welding := if s.acc.splicesLeft = [] then [] else s.acc.splicesLeft.map (fun (x : Present) => x.id) } } : State).showWraps

/-- The ring is whole: WRAP_ACTIVE clears, and the B links are cooled. -/
def State.ringWholeAgain (s : State) (carried : Bool) : State :=
  ((({ s with ring := { s.ring with awaitsRevert := false, wholeSince := s.now } } : State).setFlag Obj.faultSummary fsWrapActive false).coolB
    carried).refreshCoordinator

theorem State.endWrap_eq {s : State} (u d : Nat) (splice : s.acc.splice = none) : ∃ carried, s.endWrap u d =
    if s.leftWraps u d = [] then (s.dropWraps u d).ringWholeAgain carried else (s.dropWraps u d).refreshCoordinator := by
  have none : s.acc.splice.isSome = false := by rw [splice]; rfl
  refine ⟨s.ring.wraps.any (fun w => (w.u == u || w.d == d) && w.start + sec ≤ s.now), ?_⟩
  simp only [State.endWrap, none, Bool.false_eq_true, if_false]
  rfl

theorem OnlyChanges.dropWraps (s : State) (u d : Nat) (h : Obj.ringState ∈ ks) (g : Obj.wrapSegment ∈ ks) (hr : Part.ring ∈ ps)
    (ha : Part.acc ∈ ps) : OnlyChanges ks ps s (s.dropWraps u d) :=
  ((OnlyChanges.setRing s _ hr).trans (.setAcc _ _ ha)).trans (.showWraps _ h g)

theorem OnlyChanges.ringWholeAgain (s : State) (carried : Bool)
    (hk : ∀ k ∈ [Obj.faultSummary, linkKey .b, Obj.freqAdj, Obj.bSavedTime, Obj.coordinator], k ∈ ks)
    (hp : ∀ p ∈ [Part.ring, .tb, .out], p ∈ ps) : OnlyChanges ks ps s (s.ringWholeAgain carried) :=
  (((OnlyChanges.setRing s _ (hp _ (by decide))).trans (.setFlag _ _ _ _ (hk _ (by decide)))).trans
    (.coolB _ carried (hk _ (by decide)) (hk _ (by decide)) (hk _ (by decide)) (hp _ (by decide)) (hp _ (by decide)) (hp _ (by decide)))).trans
    (.put _ _ _ (hk _ (by decide)))

/-- The objects that the closing of a ring sets. -/
def closeKeys : List Nat := [Obj.faultSummary, Obj.ringState, Obj.wrapSegment, linkKey .b, Obj.freqAdj, Obj.bSavedTime, Obj.coordinator]

/-- With no broken segment left the ring is closed (R92 step 5). -/
structure State.Closed (s t : State) : Prop where
  state : t.ringState = 2
  active : t.wrapActive = false
  segment : t.obj Obj.wrapSegment = 0
  wraps : t.ring.wraps = []
  revert : t.ring.revert = none
  fault : t.ring.outFault = s.ring.outFault
  notices : t.ring.noticeSeq = s.ring.noticeSeq
  joining : t.acc.joining = s.acc.joining
  rate : s.RateKept t
  changes : OnlyChanges closeKeys [.ring, .tb, .acc, .out] s t

theorem State.dropWraps_rate (s : State) (u d : Nat) : s.RateKept (s.dropWraps u d) :=
  .of (OnlyChanges.dropWraps (ks := [Obj.ringState, Obj.wrapSegment]) (ps := [.ring, .acc]) s u d (by decide) (by decide) (by decide) (by decide))
    rfl (by decide)

theorem State.endWrap_closed {s : State} {u d : Nat} (splice : s.acc.splice = none) (left : s.leftWraps u d = []) :
    s.Closed (s.endWrap u d) := by
  obtain ⟨carried, h⟩ := State.endWrap_eq u d splice
  rw [h, if_pos left]
  generalize ht : (({ s.dropWraps u d with ring := { (s.dropWraps u d).ring with awaitsRevert := false, wholeSince := s.now } } : State).setFlag
    Obj.faultSummary fsWrapActive false) = t
  have close : (s.dropWraps u d).ringWholeAgain carried = (t.coolB carried).refreshCoordinator := ht ▸ rfl
  rw [close]
  obtain ⟨links, -, rate⟩ := t.coolB_kept carried
  have cool : OnlyChanges [linkKey .b, Obj.freqAdj, Obj.bSavedTime, Obj.coordinator] [.ring, .tb, .out] t (t.coolB carried).refreshCoordinator :=
    (OnlyChanges.coolB t carried (by decide) (by decide) (by decide) (by decide) (by decide) (by decide)).trans (.put _ _ _ (by decide))
  have set : OnlyChanges [Obj.faultSummary] [.ring] (s.dropWraps u d) t :=
    ht ▸ (OnlyChanges.setRing _ _ (by decide)).trans (.setFlag _ _ _ _ (by decide))
  have keep : ∀ k ∉ [linkKey .b, Obj.freqAdj, Obj.bSavedTime, Obj.coordinator, Obj.faultSummary],
      ((t.coolB carried).refreshCoordinator).obj k = (s.dropWraps u d).obj k := fun k hk =>
    (cool.obj (fun m => hk (by simp at m ⊢; tauto))).trans (set.obj (fun m => hk (by simp at m ⊢; tauto)))
  have ring : (t.coolB carried).refreshCoordinator.ring = (t.coolB carried).ring := rfl
  have acc : (t.coolB carried).refreshCoordinator.acc = t.acc := cool.2 .acc (by decide)
  refine ⟨?_, ?_, ?_, ?_, ?_, ?_, ?_, ?_, ?_, ?_⟩
  · rw [State.ringState, keep _ (by decide)]
    refine (State.showWraps_ringState _).trans (if_pos left)
  · rw [State.wrapActive, State.flag, cool.obj (by decide), ← ht]
    exact State.setFlag_flag _ _ _ _ (by decide)
  · rw [keep _ (by decide)]
    refine (State.showWraps_wrapSegment _).trans ?_
    show (match (s.leftWraps u d).getLast? with | some w => w.u * 256 + w.d | none => 0) = 0
    rw [left]
    rfl
  · rw [ring, links, ← ht]
    exact left
  · rw [ring, links, ← ht]
    rfl
  · rw [ring, links, ← ht]
    rfl
  · rw [ring, links, ← ht]
    rfl
  · rw [acc, ← ht]
    rfl
  · refine ((s.dropWraps_rate u d).trans (.of set (ht ▸ rfl) (by decide))).trans (rate.trans ?_)
    exact .of (OnlyChanges.put (ks := [Obj.coordinator]) (t.coolB carried) _ [] (by decide)) rfl (by decide)
  · exact ((OnlyChanges.dropWraps s u d (by decide) (by decide) (by decide) (by decide)).trans (set.mono (by decide) (by decide))).trans
      (cool.mono (by decide) (by decide))

end Revert

end Sys2Proof.Machine
end

section
/-! SUPPORT. The settlement of O23. -/
namespace Sys2Proof.Machine

/-! ## The start of a revert (R92) -/

/-- The MARKER of a path whose output is free goes out at once. -/
theorem State.queueMarker_ring {s : State} (u d : Nat) (free : s.outWaits 1 = false) :
    (s.queueMarker .b u d).ring = { s.ring with noticeSeq := s.nextNotice, marker := none } :=
  (congrArg State.ring (if_neg (by rw [show pathPort .b = 1 from rfl]; exact Bool.eq_false_iff.mp free))).trans (State.notify_ring _ _ _)

theorem OnlyChanges.placeMarker {ks : List Nat} {ps : List Part} (s : State) (hr : Part.ring ∈ ps) (ho : Part.out ∈ ps) :
    OnlyChanges ks ps s s.placeMarker := by
  unfold State.placeMarker
  split
  · exact .ite (.refl _ _ _) ((OnlyChanges.setRing _ _ hr).trans (.notify _ _ _ ho))
  · exact .refl _ _ _

theorem OnlyChanges.queueMarker {ks : List Nat} {ps : List Part} (s : State) (p : Path) (u d : Nat) (hr : Part.ring ∈ ps) (ho : Part.out ∈ ps) :
    OnlyChanges ks ps s (s.queueMarker p u d) :=
  ((OnlyChanges.setRing s _ hr).trans (.setRing _ _ hr)).trans (.placeMarker _ hr ho)

/-- A revert that U has started, before its MARKER. -/
def State.announced (s : State) (w : WrapState) : State :=
  let t := s.useNotice.notify .a { kind := 0x03, origin := s.ownId, u := w.u, d := w.d, time := s.now, seq := s.nextNotice }
  let t := t.mapWrap w.u w.d (fun x => { x with turned := false })
  ({ t with ring := { t.ring with revert := some { asD := false, u := w.u, d := w.d, start := s.now } } } : State).put Obj.ringState 5

theorem OnlyChanges.announced {ks : List Nat} {ps : List Part} (s : State) (w : WrapState) (h : Obj.ringState ∈ ks) (hr : Part.ring ∈ ps)
    (ho : Part.out ∈ ps) : OnlyChanges ks ps s (s.announced w) :=
  (((OnlyChanges.setRing s _ hr).trans (.notify _ _ _ ho)).trans (.setRing _ _ hr)).trans ((OnlyChanges.setRing _ _ hr).trans (.put _ _ _ h))

theorem OnlyChanges.startRevert {ks : List Nat} {ps : List Part} (s : State) (w : WrapState) (h : Obj.ringState ∈ ks) (hr : Part.ring ∈ ps)
    (ho : Part.out ∈ ps) : OnlyChanges ks ps s (s.startRevert w) := (OnlyChanges.announced s w h hr ho).trans (.queueMarker _ .b _ _ hr ho)

theorem State.startRevert_spec {s : State} (w : WrapState) (free : s.outWaits 1 = false) :
    (s.startRevert w).ringState = 5 ∧
    (s.startRevert w).ring.wraps = s.ring.wraps.map (fun x => if x.u = w.u ∧ x.d = w.d then { x with turned := false } else x) ∧
    (s.startRevert w).ring.revert = some { asD := false, u := w.u, d := w.d, start := s.now } := by
  have told := State.notify_ring s.useNotice .a { kind := 0x03, origin := s.ownId, u := w.u, d := w.d, time := s.now, seq := s.nextNotice }
  have sw : (s.announced w).sw = s.sw := (OnlyChanges.announced (ks := [Obj.ringState]) (ps := [.ring, .out]) s w (by decide) (by decide)
    (by decide)).2 .sw (by decide)
  have ring : (s.startRevert w).ring = { (s.announced w).ring with noticeSeq := (s.announced w).nextNotice, marker := none } :=
    State.queueMarker_ring (s := s.announced w) w.u w.d (by rw [State.outWaits, sw]; exact free)
  have marker : OnlyChanges [] [.ring, .out] (s.announced w) (s.startRevert w) := .queueMarker _ .b w.u w.d (by decide) (by decide)
  refine ⟨(marker.obj (by decide)).trans (State.put_obj_same _ _ _), ?_, ?_⟩
  · rw [ring]
    exact congrArg (fun r : RingState => r.wraps.map (fun x => if x.u = w.u ∧ x.d = w.d then { x with turned := false } else x)) told
  · rw [ring]
    rfl

/-- U starts the revert once the hold-off has run. -/
theorem does_revertHoldoffExpiry (s : State) (w : WrapState) (on : s.rst.coreOn = true) (made : s.madeAsU = some w)
    (up : s.segmentUp = true) (idle : s.ring.revert = none) (free : s.outWaits 1 = false) :
    Does .revertHoldoffExpiry s [Obj.ringState] [.ring, .time, .out] (fun u =>
      u.ringState = 5 ∧ (u.ring.wraps = s.ring.wraps.map (fun x => if x.u = w.u ∧ x.d = w.d then { x with turned := false } else x)) ∧
        u.ring.revert = some { asD := false, u := w.u, d := w.d, start := u.now } ∧
        max (s.link .b).cleanSince s.ring.outSince + s.obj Obj.revertHoldoff * sec ≤ u.now) := by
  have step : revertHoldoffExpiry s =
      (s.waitUntil (max (s.link .b).cleanSince s.ring.outSince + s.obj Obj.revertHoldoff * sec)).startRevert w := by
    rw [revertHoldoffExpiry, made]
    exact if_pos ⟨up, by rw [idle]; rfl⟩
  generalize ht : s.waitUntil (max (s.link .b).cleanSince s.ring.outSince + s.obj Obj.revertHoldoff * sec) = t at step
  obtain ⟨ringState, wraps, revert⟩ := State.startRevert_spec (s := t) w (by rw [← ht]; exact free)
  have start : OnlyChanges [Obj.ringState] [.ring, .out] t (t.startRevert w) := .startRevert t w (by decide) (by decide) (by decide)
  have now : (t.startRevert w).now = t.now := congrArg (· / 2 ^ 40) (start.2 .time (by decide))
  refine Does.of on rfl step ⟨ringState, ?_, by rw [revert, now], ?_⟩ ?_
  · rw [wraps, ← ht]
    rfl
  · rw [now, ← ht]
    exact s.le_now_waitUntil _
  · exact (ht ▸ OnlyChanges.waitUntil s _ _ (by decide)).trans (start.mono (by decide) (by decide))

/-! ## The MARKER, its absence, and REVERT_DONE (R92) -/

/-- A revert with nothing stored at D of the only wrap, which closes the ring. -/
theorem State.completeRevert_closes {s : State} {u d : Nat} (joining : s.acc.joining = false) (splice : s.acc.splice = none)
    (left : s.leftWraps u d = []) : ∃ t, s.Closed t ∧ s.completeRevert u d [] =
      t.originate { kind := 0x04, origin := s.ownId, u := u, d := d, time := s.now } := by
  have closed := State.endWrap_closed splice left
  refine ⟨_, closed, ?_⟩
  have acc : ((s.endWrap u d).originate { kind := 0x04, origin := s.ownId, u := u, d := d, time := s.now }).acc = (s.endWrap u d).acc :=
    (OnlyChanges.originate (ks := []) (ps := [.ring, .out]) _ _ (by decide) (by decide)).2 .acc (by decide)
  have out : ¬ (((s.endWrap u d).originate { kind := 0x04, origin := s.ownId, u := u, d := d, time := s.now }).acc.joining ∧
      ((s.endWrap u d).originate { kind := 0x04, origin := s.ownId, u := u, d := d, time := s.now }).acc.census.isNone) := by
    rw [acc, closed.joining, joining]
    simp
  exact if_neg out

/-- What a node shows once a revert has closed the ring and its REVERT_DONE goes round. -/
theorem State.Closed.originate {s t : State} (h : s.Closed t) (n : Notice) (own : n.origin = s.ownId) :
    (t.originate n).ringState = 2 ∧ (t.originate n).wrapActive = false ∧ (t.originate n).ring.wraps = [] ∧
    (t.originate n).ring.revert = none ∧ (t.originate n).obj Obj.wrapSegment = 0 ∧
    (s.ring.outFault = false → Out.notice .a { n with seq := s.nextNotice } ∈ (t.originate n).out) ∧
    (s.clockLocked = true → (t.originate n).obj Obj.freqAdj = s.obj Obj.freqAdj) ∧
    (t.originate n).time = s.time ∧ OnlyChanges closeKeys [.ring, .tb, .acc, .out] s (t.originate n) := by
  have c : OnlyChanges [] [.ring, .out] t (t.originate n) := .originate t n (by decide) (by decide)
  obtain ⟨seen, ring⟩ := t.originate_ring n
  have seq : t.nextNotice = s.nextNotice := by rw [State.nextNotice, h.notices]; rfl
  refine ⟨(c.obj (by decide)).trans h.state, (congrArg (·.testBit fsWrapActive) (c.obj (by decide))).trans h.active, by rw [ring]; exact h.wraps,
    by rw [ring]; exact h.revert, (c.obj (by decide)).trans h.segment, fun fault => ?_, fun on => (c.obj (by decide)).trans (h.rate.freq on),
    (c.2 .time (by decide)).trans (h.changes.2 .time (by decide)), h.changes.trans (c.mono (by decide) (by decide))⟩
  rw [← seq]
  exact t.originate_mem n (own.trans (h.changes.obj (by decide)).symm) (h.fault.trans fault)

theorem State.leftWraps_single {s : State} {w : WrapState} {u d : Nat} (only : s.ring.wraps = [w]) (same : w.u = u ∨ w.d = d) :
    s.leftWraps u d = [] := by
  rw [State.leftWraps, only, List.filter_eq_nil_iff]
  simpa [or_iff_not_imp_left] using same

/-- The MARKER at a D that stores nothing closes the ring. -/
theorem does_markerRx (s : State) (p : Path) (n : Notice) (w : WrapState) (r : RevertState) (on : s.rst.coreOn = true)
    (only : s.ring.wraps = [w]) (revert : s.ring.revert = some r) (isD : s.isRevertD n = true) (asD : r.asD = true)
    (joining : s.acc.joining = false) (dark : r.dark = false) (same : w.u = r.u ∨ w.d = r.d) (stored : r.stored = [])
    (splice : s.acc.splice = none) :
    Does (.markerRx p n) s closeKeys [.ring, .tb, .acc, .out] (fun u =>
      u.ringState = 2 ∧ u.wrapActive = false ∧ u.ring.wraps = [] ∧ u.ring.revert = none ∧ u.obj Obj.wrapSegment = 0 ∧
        (s.ring.outFault = false →
        Out.notice .a { kind := 0x04, origin := s.ownId, u := r.u, d := r.d, time := u.now, seq := s.nextNotice } ∈ u.out) ∧
        (s.clockLocked = true → u.obj Obj.freqAdj = s.obj Obj.freqAdj)) := by
  have live : s.revertPaused r = false := by rw [State.revertPaused, splice, dark]; rfl
  have step : markerRx s p n = s.completeRevert r.u r.d [] := by
    simp [markerRx, isD, revert, asD, live, State.revertDone, dark, stored]
  obtain ⟨t, closed, done⟩ := State.completeRevert_closes joining splice (State.leftWraps_single only same)
  obtain ⟨state, active, wraps, none, segment, notice, rate, time, c⟩ :=
    closed.originate { kind := 0x04, origin := s.ownId, u := r.u, d := r.d, time := s.now } rfl
  have now : (t.originate { kind := 0x04, origin := s.ownId, u := r.u, d := r.d, time := s.now }).now = s.now := congrArg (· / 2 ^ 40) time
  refine Does.of on rfl (step.trans done) ⟨state, active, wraps, none, segment, ?_, rate⟩ c
  rw [now]
  exact notice

/-- The MARKER does not come: the frames lost are counted, and D switches all the same. -/
theorem does_markerTimeout (s : State) (lost : Nat) (w : WrapState) (r : RevertState) (on : s.rst.coreOn = true)
    (only : s.ring.wraps = [w]) (revert : s.ring.revert = some r) (asD : r.asD = true)
    (joining : s.acc.joining = false) (dark : r.dark = false) (same : w.u = r.u ∨ w.d = r.d) (stored : r.stored = [])
    (splice : s.acc.splice = none) :
    Does (.markerTimeout lost) s (Obj.revertDrops 0 :: closeKeys) [.ring, .tb, .acc, .out, .time] (fun u =>
      u.ringState = 2 ∧ u.wrapActive = false ∧ u.ring.wraps = [] ∧ r.start + 200 * us ≤ u.now ∧
        u.obj (Obj.revertDrops 0) = (s.obj (Obj.revertDrops 0) + lost) % 2 ^ 32 ∧ (s.ring.outFault = false →
        Out.notice .a { kind := 0x04, origin := s.ownId, u := r.u, d := r.d, time := u.now, seq := s.nextNotice } ∈ u.out) ∧
        (s.clockLocked = true → u.obj Obj.freqAdj = s.obj Obj.freqAdj)) := by
  have live : s.revertPaused r = false := by rw [State.revertPaused, splice, dark]; rfl
  have step : markerTimeout s lost = ((s.waitUntil (r.start + 200 * us)).bumpBy (Obj.revertDrops 0) lost).completeRevert r.u r.d [] := by
    simp [markerTimeout, revert, asD, live, State.revertDone, dark, stored]
  generalize hb : (s.waitUntil (r.start + 200 * us)).bumpBy (Obj.revertDrops 0) lost = b at step
  have count : OnlyChanges [Obj.revertDrops 0] [.time] s b :=
    hb ▸ (OnlyChanges.waitUntil s _ _ (by decide)).trans (.bumpBy _ _ _ (by decide))
  have parts : b.ring = s.ring ∧ b.acc = s.acc ∧ b.tb = s.tb := hb ▸ ⟨rfl, rfl, rfl⟩
  obtain ⟨ring, acc, tb⟩ := parts
  have own : b.ownId = s.ownId := count.obj (by decide)
  obtain ⟨t, closed, done⟩ := State.completeRevert_closes (s := b) (u := r.u) (d := r.d) (by rw [acc, joining]) (by rw [acc, splice])
    (State.leftWraps_single (by rw [ring, only]) same)
  obtain ⟨state, active, wraps, -, -, notice, rate, time, c⟩ :=
    closed.originate { kind := 0x04, origin := b.ownId, u := r.u, d := r.d, time := b.now } rfl
  have now : (t.originate { kind := 0x04, origin := b.ownId, u := r.u, d := r.d, time := b.now }).now = b.now := congrArg (· / 2 ^ 40) time
  have kept : s.RateKept b := .of count (by rw [tb]) (by decide)
  refine Does.of on rfl (step.trans done) ⟨state, active, wraps, ?_, ?_, ?_, fun locked => ?_⟩ ?_
  · rw [now, ← hb]
    exact s.le_now_waitUntil _
  · rw [c.obj (by decide), ← hb]
    exact State.put_obj_same _ _ _
  · have seq : b.nextNotice = s.nextNotice := by rw [State.nextNotice, ring]; rfl
    rw [now, ← own, ← seq]
    exact fun fault => notice (by rw [ring, fault])
  · exact (rate (kept.clockLocked.trans locked)).trans (kept.freq locked)
  · exact (count.mono (by decide) (by decide)).trans (c.mono (by decide) (by decide))

/-- A REVERT_DONE notice that is new is noted and passed on, and the wrap ends, at a node that is not joining. -/
theorem revertDoneRx_eq {s : State} {n : Notice} (new : s.hasSeen n = false) (joining : s.acc.joining = false)
    (kept : ((s.sendBoth n).endWrap n.u n.d).acc.joining = (s.sendBoth n).acc.joining) :
    revertDoneRx s n = (s.sendBoth n).endWrap n.u n.d := by
  have acc : (s.sendBoth n).acc = s.acc :=
    (OnlyChanges.sendBoth (ks := []) (ps := [.ring, .out]) s n (by decide) (by decide)).2 .acc (by decide)
  rw [revertDoneRx, if_neg (by simp [new]), State.weldWith, if_neg]
  rw [kept, acc, joining]
  simp

/-- Settles O23: the rules of the revert, step by step (R91, R92). -/
theorem revert : Obligations.Revert := by
  refine ⟨does_revertHoldoffExpiry, fun s p n on isD => ?_, fun s p n on notD other free => ?_, does_markerRx, does_markerTimeout,
    fun s p n on new joining splice all => ?_, fun s p n w on new joining splice left => ?_, fun s p n on not3 not8 new => ?_⟩
  · refine Does.of on rfl (if_pos isD) ⟨s.put_obj_same Obj.ringState 5, rfl⟩ ?_
    exact (OnlyChanges.put s _ _ (by decide)).trans (.setRing _ _ (by decide))
  · have stray : s.strayNotice p n = s.emit (.notice (s.outPath p) n) := by
      have notMine : s.isDOf n.u n.d = false := by simp [State.isDOf, other]
      rw [State.strayNotice, notMine, if_neg Bool.false_ne_true]
      refine if_neg (fun h => ?_)
      obtain h' | h' := free
      · exact absurd h.1 (by rw [h']; decide)
      · exact absurd h.2 (by rw [h']; decide)
    refine Does.of on rfl ((if_neg (by simp [notD])).trans stray) rfl ?_
    exact .emit s _ _ (by decide)
  · have c : OnlyChanges [] [.ring, .out] s (s.sendBoth n) := .sendBoth s n (by decide) (by decide)
    have closed := State.endWrap_closed (s := s.sendBoth n) (u := n.u) (d := n.d) (by rw [c.2 .acc (by decide)]; exact splice) (by
      rw [State.leftWraps, State.sendBoth_ring, List.filter_eq_nil_iff]
      simpa [or_iff_not_imp_left] using all)
    have rate : s.RateKept (s.sendBoth n) := .of c (congrArg TimeState.locked (c.2 .tb (by decide))) (by decide)
    refine Does.of on rfl (revertDoneRx_eq new joining closed.joining)
      ⟨closed.state, closed.active, closed.wraps, closed.segment, (rate.trans closed.rate).freq⟩ ?_
    exact (c.mono (by decide) (by decide)).trans closed.changes
  · have c : OnlyChanges [] [.ring, .out] s (s.sendBoth n) := .sendBoth s n (by decide) (by decide)
    have one : (s.sendBoth n).leftWraps n.u n.d = [w] := by rw [State.leftWraps, State.sendBoth_ring]; exact left
    obtain ⟨carried, h⟩ := State.endWrap_eq (s := s.sendBoth n) n.u n.d (by rw [c.2 .acc (by decide)]; exact splice)
    rw [one, if_neg (by simp)] at h
    have coordinator : OnlyChanges [Obj.coordinator] [] ((s.sendBoth n).dropWraps n.u n.d) ((s.sendBoth n).dropWraps n.u n.d).refreshCoordinator :=
      .put _ _ _ (by decide)
    refine Does.of on rfl ((revertDoneRx_eq new joining (by rw [h]; rfl)).trans h) ⟨?_, one, ?_⟩ ?_
    · refine (coordinator.obj (by decide)).trans ((State.showWraps_ringState _).trans ?_)
      exact (if_neg (by rw [show _ = _ from one]; simp)).trans (if_pos (congrArg List.length one))
    · refine (coordinator.obj (by decide)).trans ((State.showWraps_wrapSegment _).trans ?_)
      show (match ((s.sendBoth n).leftWraps n.u n.d).getLast? with | some w => w.u * 256 + w.d | none => 0) = _
      rw [one]
      rfl
    · exact (c.mono (by decide) (by decide)).trans ((OnlyChanges.dropWraps _ _ _ (by decide) (by decide) (by decide) (by decide)).trans
        (coordinator.mono (by decide) (by decide)))
  · have step : reservedNoticeRx s p n = (s.sendBoth n).bump Obj.noticeIgnored := by
      rw [reservedNoticeRx, if_neg (by simp [not3, not8]), if_neg (by simp [new])]
    have c : OnlyChanges [] [.ring, .out] s (s.sendBoth n) := .sendBoth s n (by decide) (by decide)
    refine Does.of on rfl step ⟨s.sendBoth_hasSeen n, ?_, s.sendBoth_mem n⟩ ?_
    · rw [State.bump_obj, if_pos rfl, c.obj (by decide)]
    · exact (c.mono (by decide) (by decide)).trans (.bump _ _ (by decide))

end Sys2Proof.Machine
end

section
/-! SUPPORT. Writes of command objects, and the settlement of O27. -/
namespace Sys2Proof.Machine

/-! ## Command objects -/

/-- A sender's write of a command object. -/
theorem Answers.command {i : Instr} {s t : State} {snd : Sender} {ix sub : Nat} {data : List Byte} {row : Row} {ks : List Nat}
    {ps : List Part} {post : State → Prop} (hi : exec i s = .next (settleOn s (s.senderWrite snd ix sub data)))
    (a : s.admits snd.who (writeReq snd ix sub data)) (look : s.lookup ix sub = .ok row) (acc : row.acc = .wo) (mask : maskedData row data = data)
    (form : formRefusal row (writeReq snd ix sub data) = none)
    (effect : s.commandWrite snd.who (writeReq snd ix sub data) none = (t, .now stDone 0 [])) (p : post t) (c : OnlyChanges ks ps s t) :
    Answers i s snd.who (writeReq snd ix sub data) stDone [] ks ps post := by
  refine Answers.write hi a look (by rw [acc]; rfl) form ?_ (by decide) p c
  have write : s.objectEffect snd.who (writeReq snd ix sub data) row none = s.commandWrite snd.who
      { writeReq snd ix sub data with data := maskedData row data, length := (maskedData row data).length } none := by
    show s.writeEffect snd.who (writeReq snd ix sub data) row none = _
    rw [State.writeEffect, acc]
    rfl
  rw [write, mask]
  exact effect

/-- Keys that are cleared are 0. -/
theorem State.clearKeys_obj : ∀ (l : List Nat) (s : State) (k : Nat), (s.clearKeys l).obj k = if k ∈ l then 0 else s.obj k
  | [], s, k => by simp [State.clearKeys]
  | j :: r, s, k => by
    rw [State.clearKeys, List.foldl_cons, ← State.clearKeys, State.clearKeys_obj r, State.put_obj]
    by_cases h : k ∈ r
    · simp [h]
    · by_cases g : k = j <;> simp [h, g]

theorem State.clearKeys_all (l : List Nat) (s : State) : l.all (fun k => (s.clearKeys l).obj k == 0) = true := by
  simp only [List.all_eq_true, beq_iff_eq]
  exact fun k hk => (State.clearKeys_obj l s k).trans (if_pos hk)

/-! ## The selection of a grandmaster -/

theorem OnlyChanges.setDict {ks : List Nat} {ps : List Part} (s : State) (x : DictState) (h : Part.dict ∈ ps) :
    OnlyChanges ks ps s { s with dict := x } :=
  .ofParts rfl fun p hp => by cases p <;> first | rfl | exact absurd h hp

theorem OnlyChanges.holdSource {ks : List Nat} {ps : List Part} (s : State) (h : Part.tb ∈ ps) : OnlyChanges ks ps s s.holdSource :=
  .ite (.setTb s _ h) (.refl ks ps s)

theorem OnlyChanges.releasePtp {ks : List Nat} {ps : List Part} (s : State) (h : Obj.portState (s.obj Obj.ptpPort) ∈ ks) (g : Part.tb ∈ ps) :
    OnlyChanges ks ps s s.releasePtp :=
  .ite (((OnlyChanges.put s _ ps h).trans (.holdSource _ g)).trans (.setTb _ _ g)) (.refl ks ps s)

/-- A new grandmaster, logged, before what the change does to the node's clock. -/
def State.namedGm (s : State) : State := (s.put Obj.gmId s.rankedGm).logEvent 0x2100 0x03 0xFFFF 0 s.rankedGm

theorem OnlyChanges.namedGm {ks : List Nat} {ps : List Part} (s : State) (h : Obj.gmId ∈ ks) (g : Obj.vgNextSeq ∈ ks)
    (h1 : Part.vgHead ∈ ps) (h2 : Part.vgMain ∈ ps) : OnlyChanges ks ps s s.namedGm :=
  (OnlyChanges.put s _ ps h).trans (.log _ _ g h1 h2)

theorem OnlyChanges.selectGm {ks : List Nat} {ps : List Part} (s : State) (h : Obj.gmId ∈ ks) (g : Obj.vgNextSeq ∈ ks)
    (hp : Obj.portState (s.obj Obj.ptpPort) ∈ ks) (h1 : Part.vgHead ∈ ps) (h2 : Part.vgMain ∈ ps) (h3 : Part.tb ∈ ps) :
    OnlyChanges ks ps s s.selectGm := by
  have named : OnlyChanges [Obj.gmId, Obj.vgNextSeq] [.vgHead, .vgMain] s s.namedGm :=
    .namedGm s (by decide) (by decide) (by decide) (by decide)
  have port : s.namedGm.obj Obj.ptpPort = s.obj Obj.ptpPort := named.obj (by decide)
  have c : OnlyChanges ks ps s s.namedGm := .namedGm s h g h1 h2
  have clock : OnlyChanges ks ps s (if s.isGm ∨ s.namedGm.isGm then
      { s.namedGm with tb := { s.namedGm.tb with locked := false, goodOffsets := 0, badOffsets := 0 } } else s.namedGm) :=
    .ite (c.trans (.setTb _ _ h3)) c
  have same : ∀ t : State, t = (if s.isGm ∨ s.namedGm.isGm then
      { s.namedGm with tb := { s.namedGm.tb with locked := false, goodOffsets := 0, badOffsets := 0 } } else s.namedGm) →
      t.obj Obj.ptpPort = s.obj Obj.ptpPort := fun t ht => ht ▸ ite_proj (fun t : State => t.obj Obj.ptpPort) port port
  refine .ite (.refl ks ps s) (.ite (.ite (clock.trans (.setTb _ _ h3)) clock) (clock.trans (.releasePtp _ ?_ h3)))
  rw [same _ rfl]
  exact hp

/-! ## O27 -/

set_option maxRecDepth 20000 in
theorem row_2020_15 (p : Path) : rowOf ((0x2020 + linkIdx p) * 256 + 15) =
    some { name := "CLEAR", ix := 0x2020, n := 2, lo := 15, hi := 15, ty := .u8, acc := .wo, kept := .v, range := [(0, 0)] } := by
  cases p <;> decide

theorem State.lookup_2020_15 (s : State) (p : Path) : s.lookup (0x2020 + linkIdx p) 15 =
    .ok { name := "CLEAR", ix := 0x2020, n := 2, lo := 15, hi := 15, ty := .u8, acc := .wo, kept := .v, range := [(0, 0)] } :=
  s.lookup_row (by cases p <;> decide) (row_2020_15 p)

/-- The value of a single byte. -/
theorem leVal_single (b : Byte) : leVal [b] = b.toNat := by simp [leVal]

/-- A new ID at a node that has no neighbours (R77). -/
def State.renamed (s : State) (v : Nat) : State :=
  let t := (((s.put Obj.nodeId v).put Obj.effectiveId v).put Obj.idState (if v = 0 then idUnassigned else idInUse)).put Obj.coordinator v
  { t with acc := { t.acc with members := [{ id := v, identity := t.identity }] } }

theorem OnlyChanges.renamed (s : State) (v : Nat) :
    OnlyChanges [Obj.nodeId, Obj.effectiveId, Obj.idState, Obj.coordinator] [.acc] s (s.renamed v) :=
  ((((OnlyChanges.put s _ _ (by decide)).trans (.put _ _ _ (by decide))).trans (.put _ _ _ (by decide))).trans
    (.put _ _ _ (by decide))).trans (.setAcc _ _ (by decide))

theorem State.renamed_obj (s : State) (v k : Nat) : (s.renamed v).obj k = if k = Obj.coordinator then v
    else if k = Obj.idState then (if v = 0 then idUnassigned else idInUse) else if k = Obj.effectiveId then v
    else if k = Obj.nodeId then v else s.obj k := by
  show ((((s.put Obj.nodeId v).put Obj.effectiveId v).put Obj.idState (if v = 0 then idUnassigned else idInUse)).put Obj.coordinator v).obj k = _
  rw [State.put_obj, State.put_obj, State.put_obj, State.put_obj]

theorem State.idAssign_alone {s : State} {who : Requester} {v : Nat} (path : who = .mailbox ∨ who = .farif) (held : s.node = stHeld)
    (off : s.ringState = 0) (up : s.upSegment = false) (down : s.downSegment = false) :
    s.idAssign who v = ((s.renamed v).selectGm, stDone) := by
  have c : OnlyChanges [Obj.nodeId] [] s (s.put Obj.nodeId v) := .put s _ _ (by decide)
  have state : (s.put Obj.nodeId v).ringState = 0 := (c.obj (by decide)).trans off
  have keep : ∀ k ∉ [Obj.nodeId], (s.put Obj.nodeId v).obj k = s.obj k := fun _ => c.obj
  have upper : (s.put Obj.nodeId v).upSegment = false := by
    rw [← up, State.upSegment, State.upSegment, State.linkState, State.outUp, keep _ (by decide), keep _ (by decide)]
    rfl
  have lower : (s.put Obj.nodeId v).downSegment = false := by
    rw [← down, State.downSegment, State.downSegment, State.linkState, State.outUp, keep _ (by decide), keep _ (by decide)]
    rfl
  rw [State.idAssign, if_neg (by simp [path]), if_neg (by simp [held])]
  exact (if_neg (by simp [state, upper, lower])).trans rfl

theorem State.idAssign_unwelds {s : State} {who : Requester} {v : Nat} (path : who = .mailbox ∨ who = .farif) (held : s.node = stHeld)
    (formed : s.ringState ≠ 0) (own : s.ownId ≠ 0) : s.idAssign who v = ((s.put Obj.nodeId v).startUnweld (some v) false, stDone) := by
  have c : OnlyChanges [Obj.nodeId] [] s (s.put Obj.nodeId v) := .put s _ _ (by decide)
  have state : (s.put Obj.nodeId v).ringState ≠ 0 := fun h => formed ((c.obj (by decide)).symm.trans h)
  have id : (s.put Obj.nodeId v).ownId ≠ 0 := fun h => own ((c.obj (by decide)).symm.trans h)
  rw [State.idAssign, if_neg (by simp [path]), if_neg (by simp [held])]
  simp only [state, id, ne_eq, not_false_eq_true, true_or, if_true]

/-- An ID that the range of ID_ASSIGN takes. -/
theorem idAssign_form (snd : Sender) (value : Byte) (h : value.toNat ≤ 96) :
    formRefusal { name := "ID_ASSIGN", ix := 0x2002, n := 1, lo := 1, hi := 1, ty := .u8, acc := .wo, kept := .v, range := [(0, 96)] }
      (writeReq snd 0x2002 1 [value]) = none := by
  simp [formRefusal, writeReq, lengthRefusal, valueGood, maskedData, tySize, leVal_single, h, tyIsBytes]

theorem OnlyChanges.startProve {ks : List Nat} {ps : List Part} (s : State) (attempt : Nat) (failed : Bool) (hr : Part.ring ∈ ps)
    (ho : Part.out ∈ ps) (ht : Part.tb ∈ ps) : OnlyChanges ks ps s (s.startProve attempt failed) := by
  have go : ∀ n, OnlyChanges ks ps s (s.originate n) := fun n => .originate s n hr ho
  have both : ∀ (t : State) (x : RingState) (y : TimeState), OnlyChanges ks ps t { t with ring := x, tb := y } := fun t x y =>
    (OnlyChanges.setRing t x hr).trans (.setTb _ y ht)
  exact (go _).trans (both _ _ _)

theorem State.startUnweld_obj (s : State) (id : Option Nat) (standby : Bool) (k : Nat) :
    (s.startUnweld id standby).obj k = (s.put Obj.weldState 3).obj k := rfl

/-- Settles O27: each command by what it comes to past the checks of R470. -/
theorem ringCommands : Obligations.RingCommands := by
  refine ⟨fun s snd value a one whole coord => ?_, fun s snd value w a one own segment made up idle free => ?_,
    fun s snd value a path held low high off up down => ?_, fun s snd value a path held high formed own => ?_, fun s snd p a => ?_⟩
  · subst one
    have effect : s.commandWrite snd.who (writeReq snd 0x2011 0 [1]) none = (s.startProve 1, .now stDone 0 []) := by
      show s.proveCommand snd.who (writeReq snd 0x2011 0 [1]) none = _
      rw [State.proveCommand, if_neg (by simp [whole]), if_pos coord]
    exact Answers.command rfl a s.lookup_2011_0 rfl rfl rfl effect ⟨_, rfl, rfl, rfl⟩
      (.startProve s 1 false (by decide) (by decide) (by decide))
  · subst one
    have effect : s.commandWrite snd.who (writeReq snd 0x2012 0 [1]) none = (s.startRevert w, .now stDone 0 []) := by
      show s.revertCommand snd.who (writeReq snd 0x2012 0 [1]) none = _
      simp [State.revertCommand, segment, made, up, idle]
    obtain ⟨state, wraps, revert⟩ := State.startRevert_spec w free
    exact Answers.command rfl a s.lookup_2012_0 rfl rfl rfl effect ⟨state, revert, wraps⟩
      (.startRevert s w (by decide) (by decide) (by decide))
  · have effect : s.commandWrite snd.who (writeReq snd 0x2002 1 [value]) none = ((s.renamed value.toNat).selectGm, .now stDone 0 []) := by
      show justStatus (s.idAssign snd.who (leVal [value])) = _
      rw [leVal_single, State.idAssign_alone path held off up down]
      rfl
    have rename := OnlyChanges.renamed s value.toNat
    have gm : OnlyChanges [Obj.gmId, Obj.vgNextSeq, Obj.portState (s.obj Obj.ptpPort)] [.vgHead, .vgMain, .tb] (s.renamed value.toNat)
        (s.renamed value.toNat).selectGm :=
      .selectGm _ (by simp) (by simp) (by rw [rename.obj (by decide)]; simp) (by decide) (by decide) (by decide)
    have apart : ∀ k ∈ [Obj.effectiveId, Obj.nodeId, Obj.idState, Obj.coordinator],
        k ∉ [Obj.gmId, Obj.vgNextSeq, Obj.portState (s.obj Obj.ptpPort)] := by
      intro k hk
      have small : k < 0x2100 * 256 := by revert k; decide
      simp only [List.mem_cons, List.not_mem_nil, Obj.gmId, Obj.vgNextSeq, Obj.portState, or_false, not_or]
      omega
    refine Answers.command rfl a s.lookup_2002_1 rfl rfl (idAssign_form snd value high) effect ⟨?_, ?_, ?_, ?_, ?_⟩ ?_
    · rw [State.ownId, gm.obj (apart _ (by simp)), State.renamed_obj]
      rfl
    · rw [gm.obj (apart _ (by simp)), State.renamed_obj]
      rfl
    · rw [gm.obj (apart _ (by simp)), State.renamed_obj]
      have : value.toNat ≠ 0 := by omega
      simp [this]
    · rw [gm.obj (apart _ (by simp)), State.renamed_obj]
      rfl
    · rw [gm.2 .acc (by decide)]
      rfl
    · exact (rename.mono (by simp) (by decide)).trans (gm.mono (by simp) (by decide))
  · have effect : s.commandWrite snd.who (writeReq snd 0x2002 1 [value]) none =
        ((s.put Obj.nodeId value.toNat).startUnweld (some value.toNat) false, .now stDone 0 []) := by
      show justStatus (s.idAssign snd.who (leVal [value])) = _
      rw [leVal_single, State.idAssign_unwelds path held formed own]
      rfl
    have weld : ((s.put Obj.nodeId value.toNat).startUnweld (some value.toNat) false).obj Obj.weldState = 3 :=
      (State.startUnweld_obj _ _ _ _).trans (State.put_obj_same _ _ _)
    have id : ((s.put Obj.nodeId value.toNat).startUnweld (some value.toNat) false).obj Obj.nodeId = value.toNat :=
      (State.startUnweld_obj _ _ _ _).trans ((State.put_obj_other _ _ (by decide)).trans (State.put_obj_same _ _ _))
    refine Answers.command rfl a s.lookup_2002_1 rfl rfl (idAssign_form snd value high) effect ⟨id, weld, rfl⟩ ?_
    exact ((OnlyChanges.put s _ _ (by decide)).trans (.put _ _ _ (by decide))).trans (.setAcc _ _ (by decide))
  · have effect : s.commandWrite snd.who (writeReq snd (0x2020 + linkIdx p) 15 [0]) none =
        (s.clearSubs (0x2020 + linkIdx p) 1 14, .now stDone 0 []) := by cases p <;> rfl
    have form : formRefusal { name := "CLEAR", ix := 0x2020, n := 2, lo := 15, hi := 15, ty := .u8, acc := .wo, kept := .v, range := [(0, 0)] }
        (writeReq snd (0x2020 + linkIdx p) 15 [0]) = none := by cases p <;> rfl
    refine Answers.command rfl a (s.lookup_2020_15 p) rfl rfl form effect ?_ ?_
    · exact s.clearKeys_all _
    · exact .clearKeys _ _ _ (fun _ h => h)

end Sys2Proof.Machine
end

section
/-! SUPPORT. The sessions at their source: the session kept under its key, the copies sent again, the frames offered, and the settlement of
O34. -/
namespace Sys2Proof.Machine

/-! ## Sessions -/

theorem Session.same_iff {a b : Session} : a.same b = true ↔ a.role = b.role ∧ a.peer = b.peer ∧ a.cls2 = b.cls2 ∧ a.ring = b.ring := by
  simp [Session.same, and_assoc]

theorem State.setSession_mem (s : State) {e x : Session} (h : x ∈ s.acc.sessions) (same : x.same e = true) :
    e ∈ (s.setSession e).acc.sessions := by
  have found : s.acc.sessions.any (·.same e) = true := List.any_eq_true.mpr ⟨x, h, same⟩
  rw [State.setSession, if_pos found]
  exact List.mem_map.mpr ⟨x, h, if_pos same⟩

theorem State.outSession_mem {s : State} {peer : Nat} {class2 : Bool} {e : Session} (h : s.outSession peer class2 = some e) :
    e ∈ s.acc.sessions := List.mem_of_find?_eq_some h

theorem OnlyChanges.setSession {ks : List Nat} {ps : List Part} (s : State) (e : Session) (h : Part.acc ∈ ps) :
    OnlyChanges ks ps s (s.setSession e) := .setAcc s _ h

theorem OnlyChanges.storeCopy {ks : List Nat} {ps : List Part} (s : State) (e : Session) (seq : Nat) (payload : List Byte)
    (h : Part.dram ∈ ps) : OnlyChanges ks ps s (s.storeCopy e seq payload) :=
  .ite (.refl ks ps s) (.dramWrite h _ _ _)

/-! ## Frames offered -/

/-- The frames that `l` offers, from the ports `port` gives. -/
def State.offerAll {α : Type} (s : State) (l : List α) (port : α → Nat) (frame : α → Frame) : State :=
  forEach l (fun t c => t.offerRing (port c) (frame c)) s

theorem State.offerAll_entering {α : Type} (port : α → Nat) (frame : α → Frame) : ∀ (l : List α) (s : State),
    (s.offerAll l port frame).sw.entering =
      s.sw.entering ++ l.map (fun c => { port := port c, cls := (frame c).cls, packet := .ring (frame c) })
  | [], s => (List.append_nil _).symm
  | c :: r, s => by
    show ((s.offerRing (port c) (frame c)).offerAll r port frame).sw.entering = _
    rw [State.offerAll_entering port frame r]
    simp [State.offerRing]

theorem OnlyChanges.offerAll {α : Type} {ks : List Nat} {ps : List Part} (port : α → Nat) (frame : α → Frame) (h : Part.sw ∈ ps) :
    ∀ (l : List α) (s : State), OnlyChanges ks ps s (s.offerAll l port frame)
  | [], s => .refl ks ps s
  | _ :: r, s => (OnlyChanges.offerRing s _ _ ks h).trans (.offerAll port frame h r _)

/-! ## Copies sent again -/

/-- The frame of a copy that is sent again. -/
def SentCopy.again (c : SentCopy) : Frame := { c.frame with retx := true }

/-- The session after its copies that `p` picks have been sent again (R185). -/
def Session.resent (e : Session) (p : SentCopy → Bool) (now : Nat) : Session :=
  { e with retxCount := (e.retxCount + (e.copies.filter p).length) % 2 ^ 32,
           copies := e.copies.map (fun c => if p c then { c with sentAt := now } else c) }

/-- The node that has offered those copies and counted them. -/
def State.resentCopies (s : State) (e : Session) (p : SentCopy → Bool) : State :=
  (s.offerAll (e.copies.filter p) (issuerPort ·.issuer) SentCopy.again).bumpBy Obj.retransmitted (e.copies.filter p).length

theorem State.resend_eq (s : State) (e : Session) (p : SentCopy → Bool) :
    s.resend e p = (s.resentCopies e p).setSession (e.resent p s.now) := rfl

theorem OnlyChanges.resentCopies {ks : List Nat} {ps : List Part} (s : State) (e : Session) (p : SentCopy → Bool)
    (h : Obj.retransmitted ∈ ks) (hs : Part.sw ∈ ps) : OnlyChanges ks ps s (s.resentCopies e p) :=
  (OnlyChanges.offerAll _ _ hs _ s).trans (.bumpBy _ _ ps h)

theorem State.resentCopies_entering (s : State) (e : Session) (p : SentCopy → Bool) :
    ((s.resentCopies e p).sw.entering.drop s.sw.entering.length).map (·.packet) = (e.copies.filter p).map (Packet.ring ·.again) := by
  rw [State.resentCopies, State.bumpBy_sw, State.offerAll_entering, List.drop_left, List.map_map]
  rfl

theorem State.resentCopies_counted (s : State) (e : Session) (p : SentCopy → Bool) :
    (s.resentCopies e p).obj Obj.retransmitted = (s.obj Obj.retransmitted + (e.copies.filter p).length) % 2 ^ 32 := by
  have same : (s.offerAll (e.copies.filter p) (issuerPort ·.issuer) SentCopy.again).obj Obj.retransmitted = s.obj Obj.retransmitted :=
    (OnlyChanges.offerAll (ks := []) (ps := [.sw]) _ _ (by decide) _ s).obj (by decide)
  rw [State.resentCopies, State.bumpBy, State.put_obj_same, same]

/-- A command that waits until `at'` and then sends the copies that `p` picks again. -/
theorem Does.resend {i : Instr} {s : State} {e : Session} {p : SentCopy → Bool} {at' : Nat} {post : State → Prop} (on : s.rst.coreOn = true)
    (h : exec i s = .next (settleOn s ((s.waitUntil at').resend e p))) (mem : e ∈ s.acc.sessions)
    (told : ∀ u : State, (u.sw.entering.drop s.sw.entering.length).map (·.packet) = (e.copies.filter p).map (Packet.ring ·.again) →
      u.obj Obj.retransmitted = (s.obj Obj.retransmitted + (e.copies.filter p).length) % 2 ^ 32 → at' ≤ u.now →
      (∃ now, e.resent p now ∈ u.acc.sessions) → post u) : Does i s [Obj.retransmitted] [.acc, .sw, .time] post := by
  have waits : OnlyChanges [] [.time] s (s.waitUntil at') := .waitUntil s _ _ (by decide)
  have reached : at' ≤ (s.waitUntil at').now := s.le_now_waitUntil at'
  generalize s.waitUntil at' = t at h waits reached
  have sends : OnlyChanges [Obj.retransmitted] [.sw] t (t.resentCopies e p) := .resentCopies t e p (by decide) (by decide)
  have all : OnlyChanges [Obj.retransmitted] [.acc, .sw, .time] s ((t.resentCopies e p).setSession (e.resent p t.now)) :=
    ((waits.mono (by simp) (by decide)).trans (sends.mono (by simp) (by decide))).trans (.setSession _ _ (by decide))
  have sw : t.sw = s.sw := waits.2 .sw (by decide)
  have acc : (t.resentCopies e p).acc = s.acc := (sends.2 .acc (by decide)).trans (waits.2 .acc (by decide))
  have time : (t.resentCopies e p).time = t.time := sends.2 .time (by decide)
  have entering := t.resentCopies_entering e p
  have counted := t.resentCopies_counted e p
  rw [sw] at entering
  rw [waits.obj (by decide)] at counted
  refine Does.of on h (t.resend_eq e p) (told _ entering counted ?_ ⟨t.now, ?_⟩) all
  · exact reached.trans (le_of_eq (congrArg (· / 2 ^ 40) time.symm))
  · exact State.setSession_mem _ (x := e) (by rw [acc]; exact mem) (Session.same_iff.mpr ⟨rfl, rfl, rfl, rfl⟩)

/-! ## O34 -/

/-- The frame of a command as it is sent (R182). -/
def State.sentFrame (s : State) (e : Session) (class2 : Bool) (f : Frame) : Frame :=
  { f with src := s.ownId, session := sessionField class2 e.incarnation, seq := e.next, posted := false }

/-- The copy that its session keeps of a command sent. -/
def State.sentCopy (s : State) (e : Session) (class2 : Bool) (f : Frame) (i : Issuer) : SentCopy :=
  { seq := e.next, frame := s.sentFrame e class2 f, issuer := i, nonPosted := nonPostedFrame (s.sentFrame e class2 f), sentAt := s.now,
    completed := false }

def Issuer.engineNo : Issuer → Option Nat
  | .engine n => some n
  | _ => none

/-- The session after its next command has been sent. -/
def State.sentSession (s : State) (e : Session) (class2 : Bool) (f : Frame) (i : Issuer) (r : List (Nat × Frame × Issuer)) : Session :=
  { e with waiting := r, next := seqNext e.next, copies := e.copies ++ [s.sentCopy e class2 f i],
           issued := lastN 1024 (e.issued ++ (i.engineNo.map (fun n => (e.next, n))).toList) }

/-- The node once the session and the copy stand, before the frame is offered. -/
def State.keptCommand (s : State) (e : Session) (class2 : Bool) (f : Frame) (i : Issuer) (r : List (Nat × Frame × Issuer)) : State :=
  (s.storeCopy e e.next f.payload).setSession (s.sentSession e class2 f i r)

/-- A command that is no WRITE, of an open session whose windows allow it, is sent. -/
theorem sessionSend_eq {s : State} {peer no : Nat} {class2 : Bool} {e : Session} {f : Frame} {i : Issuer} {r : List (Nat × Frame × Issuer)}
    (found : s.outSession peer class2 = some e) (head : e.waiting = (no, f, i) :: r) (turn : s.issuedBefore no f i = false)
    (live : e.state ≠ 0) (type : f.type ≠ tyWrite) (can : s.canSend e f = true) : sessionSend s peer class2 =
      let t := s.keptCommand e class2 f i r
      { t with sw := { t.sw with entering := t.sw.entering ++
        [{ port := issuerPort i, cls := f.cls, packet := .ring (s.sentFrame e class2 f), engine := i.engineNo, message := no }] } } := by
  have posted : ∀ b : Bool, (f.type == tyWrite && b) = false := by simp [type]
  have opened : s.openOutgoing e = some (s, e) := if_pos live
  simp only [sessionSend, found, head, turn, opened, can, if_true, Bool.false_eq_true, if_false, posted]
  cases i <;> rfl

/-- Settles O34: the frame sent and the copies sent again by what they offer to the switch, the ACK by the one copy it accepts. -/
theorem sessionSource : Obligations.SessionSource := by
  refine ⟨fun s peer class2 e no f i r on found head turn live type window exec room => ?_,
    fun s peer class2 e c l on found first all => ?_, fun s peer seq e c l on found first all => ?_,
    fun s frame e c on inbox isAck found live inc done past copies seq nonPosted open' event => ?_⟩
  · have key : e.cls2 = class2 := by
      have keys := List.find?_some found
      simp only [Bool.and_eq_true, beq_iff_eq] at keys
      exact keys.2
    have can : s.canSend e f = true := by
      rw [State.canSend, if_neg live, room, key, decide_eq_true window, decide_eq_true exec]
      rfl
    have kept : OnlyChanges [] [.acc, .dram] s (s.keptCommand e class2 f i r) :=
      (OnlyChanges.storeCopy s _ _ _ (by decide)).trans (.setSession _ _ (by decide))
    have entering : (s.keptCommand e class2 f i r).sw = s.sw := kept.2 .sw (by decide)
    have acc : (s.storeCopy e e.next f.payload).acc = s.acc :=
      (OnlyChanges.storeCopy (ks := []) (ps := [.dram]) s e e.next f.payload (by decide)).2 .acc (by decide)
    have mem : s.sentSession e class2 f i r ∈ (s.keptCommand e class2 f i r).acc.sessions :=
      State.setSession_mem _ (x := e) (by rw [acc]; exact State.outSession_mem found) (Session.same_iff.mpr ⟨rfl, rfl, rfl, rfl⟩)
    refine Does.of on rfl (sessionSend_eq found head turn live type can) ⟨?_, ?_, _, mem, Session.same_iff.mpr ⟨rfl, rfl, rfl, rfl⟩, rfl,
      rfl, by simp [State.sentSession]⟩ ((kept.mono (by simp) (by decide)).trans (.setSw _ _ (by decide)))
    · simp [entering]
    · simp [entering, State.sentFrame]
  · have step : exec (.retxTimeout peer class2) s =
        .next (settleOn s ((s.waitUntil (c.sentAt + s.retxNs class2)).resend e (fun c => e.sentPast e.acked c.seq))) := by
      show Host.Outcome.next (settleOn s (retxTimeout s peer.val class2)) = _
      simp only [retxTimeout, found, first]
    subst all
    refine Does.resend on step (State.outSession_mem found) fun u entering counted due kept => ⟨entering, counted, due, ?_⟩
    obtain ⟨now, mem⟩ := kept
    exact ⟨_, mem, Session.same_iff.mpr ⟨rfl, rfl, rfl, rfl⟩, rfl, by simp [Session.resent]⟩
  · have step : exec (.execTimeout peer seq) s =
        .next (settleOn s ((s.waitUntil (c.sentAt + s.obj Obj.execTimeout * ms)).resend e (fun c => c.seq == seq.toNat))) := by
      show Host.Outcome.next (settleOn s (execTimeout s peer.val seq.toNat)) = _
      simp only [execTimeout, found, first]
    subst all
    exact Does.resend on step (State.outSession_mem found) fun u entering counted due _ => ⟨entering, counted, due⟩
  · have ne : c.seq ≠ e.acked := by
      intro h
      simp [Session.sentPast, ← seq, h] at past
    have status : e.eventStatus c stDone = stDone := by
      unfold Session.eventStatus
      cases c.issuer <;> simp
    have taken : s.takeFrame frame = s := by simp [State.takeFrame, inbox]
    have accepted : s.acceptUpTo e frame.seq stDone =
        (s.completeAt c.issuer c.seq stDone, { e with acked := frame.seq, copies := [{ c with completed := true }] }) := by
      have notWrite : c.frame.type ≠ tyWrite := by rw [event]; decide
      simp [State.acceptUpTo, copies, seq, seq ▸ ne, nonPosted, notWrite, open', forEach, status]
    have step : ackRx s frame = (s.completeAt c.issuer c.seq stDone).setSession
        { e with acked := frame.seq, copies := [{ c with completed := true }] } := by
      have open'' : ¬ (e.state = 0 ∨ e.incarnation ≠ frame.session % 2 ^ 14) := by simp [live, inc]
      have codes : stDone ≠ stPathDown ∧ stDone ≠ stInternal ∧ stDone ≠ stRetry := by decide
      simp only [ackRx, taken, isAck, done, found, open'', past, codes, accepted, if_true, if_false, and_false, Bool.false_eq_true]
    refine Does.of on rfl step ⟨rfl, _, State.setSession_mem _ (x := e) (State.outSession_mem found)
      (Session.same_iff.mpr ⟨rfl, rfl, rfl, rfl⟩), Session.same_iff.mpr ⟨rfl, rfl, rfl, rfl⟩, rfl, rfl⟩
      ((OnlyChanges.setAcc s _ (by decide)).trans (.setSession _ _ (by decide)))

end Sys2Proof.Machine
end

section
/-! SUPPORT. The captures of a field cell and the log of their records, and the settlement of O37. -/
namespace Sys2Proof.Machine

section Cells
variable {ks : List Nat} {ps : List Part}

/-! ## Cells -/

theorem OnlyChanges.setFc (s : State) (x : CellsState) (h : Part.fc ∈ ps) : OnlyChanges ks ps s { s with fc := x } :=
  .ofParts rfl fun p hp => by cases p <;> first | rfl | exact absurd h hp

theorem OnlyChanges.setCell (s : State) (n : Nat) (c : Cell) (h : Part.fc ∈ ps) : OnlyChanges ks ps s (s.setCell n c) := .setFc s _ h

@[simp] theorem State.setCell_cell (s : State) (n : Nat) (c : Cell) : (s.setCell n c).cell n = c := sparsePut_same _ _ _ _

/-! ## Capture records -/

/-- The cell after the first record since its queue was read, for the SOE writer alone. -/
structure Cell.Recorded (c d : Cell) (level : Bool) : Prop where
  waiting : d.waiting = c.waiting
  burst : d.burst = c.burst
  last : d.lastLevel = some level
  queue : d.queue.map (fun r => (r.level, r.lost, r.soe, r.engine, r.edgeSeq)) = [(level, false, true, false, (c.edgeSeq + 1) % 2 ^ 16)]

theorem State.record_first {s : State} {n : Nat} {level : Bool} {cross : Nat} (far : (s.cell n).lastCross = none)
    (read : (s.cell n).queue = []) (soe : s.soeReads n = true) (engine : s.engineReads n = false) :
    (s.cell n).Recorded ((s.record n level cross).cell n) level := by
  unfold State.record
  simp only [far, read, soe, engine, Option.any_none, Bool.false_eq_true, false_and, if_false]
  constructor <;> simp [State.cell, State.setCell]

theorem OnlyChanges.record (s : State) (n : Nat) (level : Bool) (cross : Nat) (h : Part.fc ∈ ps) :
    OnlyChanges ks ps s (s.record n level cross) :=
  .ite (.setCell s _ _ h) ((OnlyChanges.setCell s _ _ h).trans (.setFc _ _ h))

/-- A record of a cell whose filter has let its edge go: waits and bursts are as `c` has them. -/
theorem State.record_after {s : State} {n : Nat} {level : Bool} {cross at' : Nat} {c : Cell} (far : c.lastCross = none) (read : c.queue = [])
    (soe : s.soeReads n = true) (engine : s.engineReads n = false) :
    c.Recorded ((((s.waitUntil at').setCell n c).record n level cross).cell n) level := by
  have cell : ((s.waitUntil at').setCell n c).cell n = c := State.setCell_cell _ n c
  have h := ((s.waitUntil at').setCell n c).record_first (n := n) (level := level) (cross := cross) (by rw [cell]; exact far)
    (by rw [cell]; exact read) soe engine
  rwa [cell] at h

theorem State.record_after_now {s : State} {n : Nat} {level : Bool} {cross at' : Nat} {c : Cell} :
    at' ≤ (((s.waitUntil at').setCell n c).record n level cross).now := by
  have waited : at' ≤ (s.waitUntil at').now := s.le_now_waitUntil at'
  generalize s.waitUntil at' = t at waited
  have time : ((t.setCell n c).record n level cross).time = t.time :=
    (OnlyChanges.record (ks := []) (ps := [.fc]) _ n level cross (by decide)).2 .time (by decide)
  rw [State.now, time]
  exact waited

theorem OnlyChanges.recordAfter {s : State} {n : Nat} {level : Bool} {cross at' : Nat} {c : Cell} :
    OnlyChanges [] [.fc, .time] s (((s.waitUntil at').setCell n c).record n level cross) :=
  ((OnlyChanges.waitUntil s _ _ (by decide)).trans (.setCell _ _ _ (by decide))).trans (.record _ _ _ _ (by decide))

/-! ## The chatter second -/

theorem OnlyChanges.soeOnly (s : State) (n time : Nat) (h : Part.fc ∈ ps) : OnlyChanges ks ps s (s.soeOnly n time) :=
  .ite (.setCell s _ _ h) (.refl ks ps s)

theorem State.soeOnly_counts (s : State) (n time : Nat) :
    ((s.soeOnly n time).cell n).rawEdges = (s.cell n).rawEdges ∧ ((s.soeOnly n time).cell n).second = (s.cell n).second := by
  unfold State.soeOnly
  dsimp only
  split
  · rw [State.setCell_cell]
    exact ⟨rfl, rfl⟩
  · exact ⟨rfl, rfl⟩

/-- A second that stayed below the limit ends the chatter (R222). -/
theorem State.chatterUpTo_next {s : State} {n q : Nat} (next : q = (s.cell n).second + 1) (chatter : s.cellFlag n csChatter = true)
    (below : (s.cell n).rawEdges < s.obj (Obj.chatterLimit n)) : s.chatterUpTo n q =
    ((s.setCell n { s.cell n with second := q, rawEdges := 0 }).setCellFlag n csChatter false).soeOnly n (q * sec * 256) := by
  have later : ¬ q ≤ (s.cell n).second := by omega
  rw [State.chatterUpTo, if_neg later]
  simp [chatter, below, next]

end Cells

/-! ## The log of records -/

/-- The oldest record of a queue of one, that the SOE writer alone reads. -/
theorem readOut_last {r : Capture} (engine : r.engine = false) : readOut [{ r with soe := false }] = [] := by simp [readOut, engine]

theorem soeRecordWrite_cell {s : State} {n : Nat} {r : Capture} (queue : (s.cell n).queue = [r]) (soe : r.soe = true)
    (engine : r.engine = false) (room : s.fc.soe.queue.length < 4096) : soeRecordWrite s (some n) =
    let t := s.setCell n { s.cell n with queue := [], soeLost := false }
    { t with fc := { t.fc with soe := { t.fc.soe with
      queue := s.fc.soe.queue ++ [(n, captureBits n { r with lost := r.lost || (s.cell n).soeLost })] } } } := by
  have left : ¬ 4096 ≤ s.fc.soe.queue.length := by omega
  simp [soeRecordWrite, queue, soe, left, readOut_last engine, List.mapIdx_cons, State.setCell]

def State.setSoe (s : State) (x : SoeState) : State := { s with fc := { s.fc with soe := x } }

theorem OnlyChanges.setSoe {ks : List Nat} {ps : List Part} (s : State) (x : SoeState) (h : Part.fc ∈ ps) :
    OnlyChanges ks ps s (s.setSoe x) := .setFc s _ h

/-- The log with the record `v` at place `a`. -/
def State.logRecord (s : State) (a v : Nat) : State :=
  (s.dramWrite a (leBytes 16 v)).put Obj.soeWritten ((s.obj Obj.soeWritten + 1) % 2 ^ 64)

theorem soeRecordWrite_log {s : State} {cell v : Nat} {rest : List (Nat × Nat)} (queue : s.fc.soe.queue = (cell, v) :: rest)
    (capacity : s.obj Obj.soeCapacity ≠ 0) (mode : s.obj Obj.soeFullMode = 0) (full : s.fc.soe.wasFull = false) :
    soeRecordWrite s none =
      let t := (s.setSoe { s.fc.soe with queue := rest }).logRecord
        (s.obj Obj.soeBase + 16 * (s.obj Obj.soeWritten % s.obj Obj.soeCapacity)) v
      t.setSoe { t.fc.soe with wasFull := false } := by
  have goes : (s.setSoe { s.fc.soe with queue := rest }).soeStops = false := by
    rw [State.soeStops, show (s.setSoe { s.fc.soe with queue := rest }).obj Obj.soeFullMode = 0 from mode]
    simp
  have empty : (s.setSoe { s.fc.soe with queue := rest }).fc.soe.wasFull = false := full
  have step : soeRecordWrite s none = (s.setSoe { s.fc.soe with queue := rest }).soeAppend v := by
    simp only [soeRecordWrite, queue]
    rfl
  have size : ¬ (s.setSoe { s.fc.soe with queue := rest }).obj Obj.soeCapacity = 0 := capacity
  rw [step, State.soeAppend, if_neg size, goes, empty]
  rfl

theorem OnlyChanges.logRecord {ks : List Nat} {ps : List Part} (s : State) (a v : Nat) (h : Obj.soeWritten ∈ ks) (hd : Part.dram ∈ ps) :
    OnlyChanges ks ps s (s.logRecord a v) := (OnlyChanges.dramWrite hd _ s a).trans (.put _ _ _ h)

theorem State.logRecord_dramByte (s : State) (a v x : Nat) : (s.logRecord a v).dramByte x =
    if a ≤ x ∧ x < a + 16 then (leBytes 16 v).getD (x - a) 0 else s.dramByte x := by
  have h := s.dramWrite_dramByte (leBytes 16 v) a x
  rw [leBytes_length] at h
  exact h

/-! ## Command objects of one byte -/

/-- A byte that is in the range of its command object has the form of R470. -/
theorem byteCommand_form {row : Row} {snd : Sender} {ix sub : Nat} {b : Byte} (ty : row.ty = .u8) (mask : row.mask = 0)
    (range : row.range.any (fun i => i.1 ≤ b.toNat && b.toNat ≤ i.2) = true) (low : ix < 0x9440 ∨ sub ≠ 2) (cell : sub ≠ 18)
    (name : ix ≠ 0x6000) : formRefusal row (writeReq snd ix sub [b]) = none := by
  have data : maskedData row [b] = [b] := if_pos (.inl mask)
  have high : bit b.toNat 12 = false := by
    have := b.isLt
    simp [bit, bits]; omega
  have length : lengthRefusal row 1 = none := by simp [lengthRefusal, ty, tySize]
  have scale : (0x9440 ≤ ix && ix < 0x9444 && sub == 2 && !withinFullScale (ix - 0x9000) b.toNat) = false := by
    rcases low with h | h
    · simp [show ¬ 0x9440 ≤ ix by omega]
    · simp [h]
  have good : valueGood row ix sub [b] = true := by
    simp [valueGood, ty, leVal_single, range, scale, high, cell, name]
  simp only [formRefusal, writeReq, ty, List.length_singleton, length, data, good, if_true]
  rfl

/-- The write of a CLEAR object. -/
theorem clear_form {row : Row} {snd : Sender} {ix sub : Nat} (ty : row.ty = .u8) (mask : row.mask = 0) (range : row.range = [(0, 0)])
    (low : ix < 0x9440 ∨ sub ≠ 2) (cell : sub ≠ 18) (name : ix ≠ 0x6000) : formRefusal row (writeReq snd ix sub [0]) = none :=
  byteCommand_form ty mask (by rw [range]; rfl) low cell name

/-! ## O37 -/

/-- Settles O37: the edges held back by the record they make, the log by the record it appends. -/
theorem captureFilters : Obligations.CaptureFilters := by
  refine ⟨fun s cell t0 l on waiting far read soe engine => ?_, fun s cell first last l on burst differs far read soe engine => ?_,
    fun s cell first last l on burst same => ?_, fun s cell on chatter below => ?_, fun s cell r on queue soe engine room => ?_,
    fun s cell v rest a on queue capacity mode full place => ?_, fun s snd value a low high => ?_, fun s snd cell a => ?_⟩
  · have step : glitchExpiry s cell.val = ((s.waitUntil (ceilDiv t0 256 + s.obj (Obj.glitchNs cell.val))).setCell cell.val
        { s.cell cell.val with waiting := none }).record cell.val l t0 := by
      simp only [glitchExpiry, waiting]
    obtain ⟨hw, -, hl, hq⟩ := State.record_after (s := s) (n := cell.val) (level := l) (cross := t0)
      (at' := ceilDiv t0 256 + s.obj (Obj.glitchNs cell.val)) (c := { s.cell cell.val with waiting := none }) far read soe engine
    exact Does.of on rfl step ⟨hw, State.record_after_now, hl, hq⟩ .recordAfter
  · have step : debounceStable s cell.val = ((s.waitUntil (ceilDiv last 256 + s.obj (Obj.debounceUs cell.val) * us)).setCell cell.val
        { s.cell cell.val with burst := none }).record cell.val l (if s.obj (Obj.debounceStamp cell.val) = 1 then last else first) := by
      simp only [debounceStable, burst]
      exact if_pos differs
    obtain ⟨-, hb, hl, hq⟩ := State.record_after (s := s) (n := cell.val) (level := l)
      (cross := if s.obj (Obj.debounceStamp cell.val) = 1 then last else first)
      (at' := ceilDiv last 256 + s.obj (Obj.debounceUs cell.val) * us) (c := { s.cell cell.val with burst := none }) far read soe engine
    exact Does.of on rfl step ⟨hb, State.record_after_now, hl, hq⟩ .recordAfter
  · have step : debounceStable s cell.val = (s.waitUntil (ceilDiv last 256 + s.obj (Obj.debounceUs cell.val) * us)).setCell cell.val
        { s.cell cell.val with burst := none } := by
      simp only [debounceStable, burst]
      exact if_neg (not_not_intro same)
    refine Does.of on rfl step ⟨?_, ?_⟩ ((OnlyChanges.waitUntil s _ _ (by decide)).trans (.setCell _ _ _ (by decide)))
    all_goals rw [State.setCell_cell]
  · have waits : OnlyChanges [] [.time] s (s.waitUntil (((s.cell cell.val).second + 1) * sec)) := .waitUntil s _ _ (by decide)
    have come := s.le_now_waitUntil (((s.cell cell.val).second + 1) * sec)
    have step := (s.waitUntil (((s.cell cell.val).second + 1) * sec)).chatterUpTo_next (n := cell.val) rfl chatter below
    have kept : (s.waitUntil (((s.cell cell.val).second + 1) * sec)).cell cell.val = s.cell cell.val := rfl
    rw [kept] at step
    have meaning : exec (.chatterSecond cell) s = .next (settleOn s ((s.waitUntil (((s.cell cell.val).second + 1) * sec)).chatterUpTo
      cell.val ((s.cell cell.val).second + 1))) := rfl
    generalize s.waitUntil (((s.cell cell.val).second + 1) * sec) = t at waits come step meaning
    have clears : OnlyChanges [Obj.cellState cell.val] [.fc] t ((t.setCell cell.val { s.cell cell.val with
        second := (s.cell cell.val).second + 1, rawEdges := 0 }).setCellFlag cell.val csChatter false) :=
      (OnlyChanges.setCell t _ _ (by decide)).trans (.setFlag _ _ _ _ (by simp))
    have only : ∀ u : State, OnlyChanges [] [.fc] u (u.soeOnly cell.val (((s.cell cell.val).second + 1) * sec * 256)) :=
      fun u => .soeOnly u _ _ (by decide)
    have all := clears.trans ((only _).mono (by simp) (by decide))
    refine Does.of on meaning step ⟨?_, ?_, ?_, ?_⟩ ((waits.mono (by simp) (by decide)).trans (all.mono (by simp) (by decide)))
    · rw [State.cellFlag, State.flag, (only _).obj (by simp)]
      exact State.setFlag_flag _ _ _ _ (by decide)
    · rw [(State.soeOnly_counts ..).1]
      exact congrArg Cell.rawEdges (State.setCell_cell ..)
    · rw [(State.soeOnly_counts ..).2]
      exact congrArg Cell.second (State.setCell_cell ..)
    · rw [State.now, all.2 .time (by decide)]
      exact come
  · refine Does.of on rfl (soeRecordWrite_cell queue soe engine room) ⟨?_, rfl⟩
      ((OnlyChanges.setCell s _ _ (by decide)).trans (.setFc _ _ (by decide)))
    exact congrArg Cell.queue (State.setCell_cell ..)
  · subst place
    have step := soeRecordWrite_log queue capacity mode full
    have takes : OnlyChanges [] [.fc] s (s.setSoe { s.fc.soe with queue := rest }) := .setSoe s _ (by decide)
    have taken : (s.setSoe { s.fc.soe with queue := rest }).fc.soe.queue = rest := rfl
    generalize s.setSoe { s.fc.soe with queue := rest } = t at step takes taken
    have logs : OnlyChanges [Obj.soeWritten] [.dram] t (t.logRecord _ v) := .logRecord t
      (s.obj Obj.soeBase + 16 * (s.obj Obj.soeWritten % s.obj Obj.soeCapacity)) v (by decide) (by decide)
    refine Does.of on rfl step ⟨?_, ?_, fun x => ?_⟩
      (((takes.mono (by simp) (by decide)).trans (logs.mono (by decide) (by decide))).trans (.setSoe _ _ (by decide)))
    · show (t.logRecord _ v).fc.soe.queue = rest
      rw [logs.2 .fc (by decide), taken]
    · show (t.logRecord _ v).obj Obj.soeWritten = _
      rw [State.logRecord, State.put_obj_same, takes.obj (by decide)]
    · refine (t.logRecord_dramByte ..).trans ?_
      rw [State.dramByte, takes.2 .dram (by decide)]
      rfl
  · have low' : ¬ (s.obj Obj.soeWritten < value.toNat) := by omega
    have high' : ¬ (value.toNat + s.obj Obj.soeCapacity < s.obj Obj.soeWritten) := by omega
    have val : leVal (leBytes 8 value.toNat) = value.toNat := by
      rw [leVal_leBytes]
      exact Nat.mod_eq_of_lt value.isLt
    have effect : s.objectEffect snd.who (writeReq snd 0x3210 6 (leBytes 8 value.toNat))
        { name := "SOE_READ", ix := 0x3210, n := 1, lo := 6, hi := 6, ty := .u64, acc := .rw, kept := .w } none =
        (s.put Obj.soeRead value.toNat, .now stDone 0 []) := by
      show justStatus (s.valueWrite _ Obj.soeRead (leBytes 8 value.toNat)) = _
      rw [State.valueWrite, val, if_neg (fun h => absurd h.1 (by decide)), if_neg (fun h => h.2.elim low' high'), if_neg (by decide),
        if_neg (by decide)]
      rfl
    have form : formRefusal { name := "SOE_READ", ix := 0x3210, n := 1, lo := 6, hi := 6, ty := .u64, acc := .rw, kept := .w }
        (writeReq snd 0x3210 6 (leBytes 8 value.toNat)) = none := rfl
    exact Answers.write rfl a s.lookup_3210_6 rfl form effect (by decide) (State.put_obj_same ..) (.put s _ _ (by decide))
  · have form : formRefusal { name := "CLEAR", ix := 0x3000, n := 320, lo := 33, hi := 33, ty := .u8, acc := .wo, kept := .v, range := [(0, 0)] }
        (writeReq snd (0x3000 + cell.val) 33 [0]) = none := clear_form rfl rfl rfl (.inr (by decide)) (by decide) (by omega)
    have effect : s.commandWrite snd.who (writeReq snd (0x3000 + cell.val) 33 [0]) none =
        (s.clearSubs (0x3000 + cell.val) 28 32, .now stDone 0 []) := by
      have := cell.isLt
      simp [State.commandWrite, State.commandMid, writeReq, justStatus, show ¬ (0x3000 + cell.val < 0x3000) by omega,
        show 0x3000 + cell.val < 0x6000 by omega, show 0x3000 + cell.val < 0x3140 by omega]
    refine Answers.command rfl a (s.lookup_3000_33 cell) rfl rfl form effect ?_ ?_
    · exact s.clearKeys_all _
    · exact .clearKeys _ _ _ (fun _ h => h)

end Sys2Proof.Machine
end

section
/-! SUPPORT. What settles at a node at rest: with nothing that waits to be delivered, no live commander and out of service, only the status
objects, the log of faults and the trackers can move. -/
namespace Sys2Proof.Machine

/-! ## Small pieces of settling -/

section Frames
variable {ks : List Nat} {ps : List Part}

theorem OnlyChanges.follow (s : State) {k : Nat} (v : Nat) (h : k ∈ ks) : OnlyChanges ks ps s (s.follow k v) :=
  .ite (.refl ks ps s) (.put s v ps h)

/-- The status objects that settling refreshes. -/
def refreshedKeys : List Nat := [Obj.timeState, Obj.timeFlags, Obj.holder, Obj.holderClaim, Obj.soeFlags, Obj.faultSummary]

theorem OnlyChanges.refreshStatus (s : State) : OnlyChanges refreshedKeys [] s s.refreshStatus :=
  ((((((OnlyChanges.follow s _ (by decide)).trans (.follow _ _ (by decide))).trans (.follow _ _ (by decide))).trans
    (.follow _ _ (by decide))).trans (.follow _ _ (by decide))).trans (.follow _ _ (by decide)))

theorem OnlyChanges.trackTimes (s before : State) : OnlyChanges ks [.lake] s (s.trackTimes before) :=
  .ofParts rfl fun p hp => by cases p <;> first | rfl | exact absurd (by decide) hp

theorem OnlyChanges.raiseAll (s before : State) : OnlyChanges ks [.bridge] s (s.raiseAll before) :=
  .ofParts rfl fun p hp => by cases p <;> first | rfl | exact absurd (by decide) hp

theorem OnlyChanges.foldl {α : Type} {f : State → α → State} (h : ∀ (t : State) (x : α), OnlyChanges ks ps t (f t x)) :
    ∀ (l : List α) (s : State), OnlyChanges ks ps s (l.foldl f s)
  | [], s => .refl ks ps s
  | x :: r, s => (h s x).trans (.foldl h r _)

theorem OnlyChanges.closeWhere (s : State) (p : OpenFault → Bool) : OnlyChanges [Obj.vgNextSeq] logParts s (s.closeWhere p) :=
  (OnlyChanges.foldl (fun t _ => .log t _ (by decide) (by decide) (by decide)) _ s).trans
    (.ofParts rfl fun p hp => by cases p <;> first | rfl | exact absurd (by decide) hp)

theorem OnlyChanges.closeFurther : ∀ (n : Nat) (s : State), OnlyChanges [Obj.vgNextSeq] logParts s (State.closeFurther n s)
  | 0, s => .refl _ _ s
  | n + 1, s => .ite ((OnlyChanges.closeWhere s _).trans (.closeFurther n _)) (.refl _ _ s)

end Frames

/-! ## A node out of service -/

/-- Nobody commands, and the node is out of service: settling moves it to no other state. -/
structure State.Unmanned (s : State) : Prop where
  on : s.rst.coreOn = true
  live : s.liveCommanders = []
  node : s.node = stHeld ∨ s.node = stLoading
  stage : s.obj Obj.stageState ≠ 3
  starting : s.rst.starting = none

/-- What settling does at such a node, once everything has been delivered. -/
def restKeys : List Nat := Obj.vgNextSeq :: refreshedKeys

def restParts : List Part := [.lake, .bridge, .rst, .vgHead, .vgMain, .vgOpen]

/-- The objects that rest looks at. -/
def restWatch : List Nat := [Obj.nodeState, Obj.stageState] ++ (List.range 8).map Obj.cmdrLive

/-- The claims have not changed: nobody commanded before either. -/
theorem State.Unmanned.claimsChanged {s before : State} (h : s.Unmanned) (idle : before.liveCommanders = []) : s.claimsChanged before = s := by
  rw [State.claimsChanged, if_neg (not_not_intro h.live), if_neg (not_not_intro idle)]

theorem State.Unmanned.noCommit {s : State} (h : s.Unmanned) : s.endCommit = s := if_neg fun g => h.stage g.1

theorem State.Unmanned.ofKeys {s t : State} (h : s.Unmanned) (keys : ∀ k ∈ restWatch, t.obj k = s.obj k) (rst : t.rst = s.rst) :
    t.Unmanned := by
  have live : t.liveCommanders = s.liveCommanders := by
    refine List.filter_congr fun i hi => ?_
    have key : Obj.cmdrLive (i - 1) ∈ restWatch := by
      revert i
      decide
    rw [keys _ key]
  have node : t.node = s.node := keys Obj.nodeState (by decide)
  have stage : t.obj Obj.stageState = s.obj Obj.stageState := keys _ (by decide)
  exact ⟨rst ▸ h.on, live ▸ h.live, node ▸ h.node, stage ▸ h.stage, rst ▸ h.starting⟩

theorem State.Unmanned.notServing {s : State} (h : s.Unmanned) : s.serving = false := by
  rcases h.node with h | h <;> simp [State.serving, h, stHeld, stLoading, stRunning, stDegraded]

/-- Such a node does not come into service. -/
theorem State.Unmanned.moveState {s : State} (h : s.Unmanned) : s.moveState = s := by
  have may : s.mayServe = false := by simp [State.mayServe, h.live]
  rcases h.node with h | h <;> simp [State.moveState, h, may, stHeld, stLoading, stRunning, stDegraded]

/-- The state from which such a node starts its hooks: only the time since LOADING is noted. -/
theorem State.Unmanned.stateHooks {s before : State} (h : s.Unmanned) (out : before.serving = false) :
    OnlyChanges restKeys restParts s (s.stateHooks before) := by
  have quiet : s.fcFollowAll = s := if_neg (by simp [h.notServing])
  have reached : ∀ l, ({ s with rst := { s.rst with leftAt := l } } : State).startReached = { s with rst := { s.rst with leftAt := l } } :=
    fun l => if_pos (.inl (by simp [h.starting]))
  have only : ∀ l, OnlyChanges restKeys restParts s { s with rst := { s.rst with leftAt := l } } := fun l =>
    .ofParts rfl fun p hp => by cases p <;> first | rfl | exact absurd (by decide) hp
  simp only [State.stateHooks, out, Bool.false_eq_true, false_and, if_false, quiet, reached]
  exact only _

/-- What such a node comes to once everything has been delivered. -/
theorem settle_delivered {before s : State} (h : s.Unmanned) (g : s.deliver.Unmanned) (silent : s.ptpSilence = s)
    (idle : before.liveCommanders = []) (out : before.serving = false) (split : before.ringState ≠ 4) :
    OnlyChanges restKeys restParts s.deliver (settle before s) := by
  have first : ((((s.ptpSilence.claimsChanged before).deliver).splitCloses before).endCommit).closeOver = s.deliver.closeOver := by
    have apart : s.deliver.splitCloses before = s.deliver := if_neg fun g => split g.1
    rw [silent, h.claimsChanged idle, apart, g.noCommit]
  have closes : OnlyChanges restKeys logParts s.deliver s.deliver.closeOver :=
    (OnlyChanges.closeFurther _ _).mono (by decide) (fun _ h => h)
  have refresh : ∀ t : State, OnlyChanges restKeys logParts t t.refreshStatus := fun t => (OnlyChanges.refreshStatus t).mono (by decide) (by decide)
  have told : OnlyChanges restKeys logParts s.deliver s.deliver.closeOver.refreshStatus := closes.trans (refresh _)
  have rest := g.ofKeys (fun k hk => told.obj (by revert k; decide)) (told.2 .rst (by decide))
  have moved := rest.moveState
  have hooks := rest.stateHooks out
  rw [settle, h.on]
  show OnlyChanges restKeys restParts s.deliver (((((((s.ptpSilence.claimsChanged before).deliver).splitCloses before).endCommit).closeOver.refreshStatus.moveState.stateHooks before).refreshStatus.trackTimes before).raiseAll before)
  rw [first, moved]
  exact ((told.mono (fun _ h => h) (by decide)).trans hooks).trans ((((refresh _).mono (fun _ h => h) (by decide)).trans
    ((OnlyChanges.trackTimes _ _).mono (fun _ h => h) (by decide))).trans ((OnlyChanges.raiseAll _ _).mono (fun _ h => h) (by decide)))

/-! ## A node at rest -/

/-- Nothing waits to be delivered, nobody commands, and the node is out of service. -/
structure State.AtRest (s : State) : Prop where
  on : s.rst.coreOn = true
  live : s.liveCommanders = []
  completions : s.acc.completions = []
  sessions : s.acc.sessions = []
  splices : s.acc.splicesLeft = []
  admitted : s.sw.admitted = []
  inbox : s.sw.inbox = []
  wakes : s.fc.wakes = []
  node : s.node = stHeld ∨ s.node = stLoading
  stage : s.obj Obj.stageState ≠ 3
  starting : s.rst.starting = none

theorem State.AtRest.deliver {s : State} (h : s.AtRest) : s.deliver = s.resumeRevert.nextSplice := by
  have completions : ({ s with acc := { s.acc with completions := [] } } : State) = s := by rw [← h.completions]
  have admitted : ({ s with sw := { s.sw with admitted := [] } } : State) = s := by rw [← h.admitted]
  have wakes : ({ s with fc := { s.fc with wakes := [] } } : State) = s := by rw [← h.wakes]
  have future : s.dropFuture = s := by
    unfold State.dropFuture
    split
    · rfl
    · exact ite_proj id rfl (by simp [h.sessions, forEach])
  have gather : s.gatherRequests = s := by simp [State.gatherRequests, h.sessions, forEach]
  have sme : s.smeGather = s := by simp [State.smeGather, h.inbox, forEach]
  simp only [State.deliver, h.completions, h.admitted, h.wakes, completions, admitted, wakes, forEach, List.foldl_nil, future, gather, sme]

theorem State.AtRest.noSplice {s : State} (h : s.AtRest) : s.nextSplice = s := by simp [State.nextSplice, h.splices]

/-- The parts that rest looks at. -/
def restWatched : List Part := [.rst, .acc, .sw, .fc]

theorem State.AtRest.unmanned {s : State} (h : s.AtRest) : s.Unmanned := ⟨h.on, h.live, h.node, h.stage, h.starting⟩

theorem State.AtRest.notServing {s : State} (h : s.AtRest) : s.serving = false := h.unmanned.notServing

/-- Rest outlasts changes elsewhere. -/
theorem State.AtRest.ofChanges {s t : State} {ks : List Nat} {ps : List Part} (h : s.AtRest) (c : OnlyChanges ks ps s t)
    (keys : ∀ k ∈ restWatch, k ∉ ks) (parts : ∀ p ∈ restWatched, p ∉ ps) : t.AtRest := by
  obtain ⟨on, live, node, stage, starting⟩ := h.unmanned.ofKeys (fun k hk => c.obj (keys k hk)) (c.2 .rst (parts _ (by decide)))
  have acc : t.acc = s.acc := c.2 .acc (parts _ (by decide))
  have sw : t.sw = s.sw := c.2 .sw (parts _ (by decide))
  have fc : t.fc = s.fc := c.2 .fc (parts _ (by decide))
  exact ⟨on, live, acc ▸ h.completions, acc ▸ h.sessions, acc ▸ h.splices, sw ▸ h.admitted, sw ▸ h.inbox, fc ▸ h.wakes, node, stage, starting⟩

/-- What a node at rest comes to once the revert has resumed. -/
theorem settle_atRest {before s : State} (h : s.AtRest) (g : s.resumeRevert.AtRest) (silent : s.ptpSilence = s)
    (idle : before.liveCommanders = []) (out : before.serving = false) (split : before.ringState ≠ 4) :
    OnlyChanges restKeys restParts s.resumeRevert (settle before s) := by
  have delivered : s.deliver = s.resumeRevert := by rw [h.deliver, g.noSplice]
  exact delivered ▸ settle_delivered h.unmanned (delivered ▸ g.unmanned) silent idle out split

/-! ## An idle node -/

/-- At rest, with no revert under way, no PTP source and a ring that is not split. -/
structure State.Idle (s : State) : Prop extends s.AtRest where
  revert : s.ring.revert = none
  source : s.obj Obj.timeSource ≠ 1
  whole : s.ringState ≠ 4

theorem settle_still {s u : State} (h : s.AtRest) (whole : s.ringState ≠ 4) (g : u.AtRest) (revert : u.ring.revert = none)
    (silent : u.ptpSilence = u) : OnlyChanges restKeys restParts u (settle s u) := by
  have resumed : u.resumeRevert = u := by simp [State.resumeRevert, revert]
  have c := settle_atRest g (resumed.symm ▸ g) silent h.live h.notServing whole
  rwa [resumed] at c

theorem settle_idle {s u : State} (h : s.Idle) (g : u.Idle) : OnlyChanges restKeys restParts u (settle s u) :=
  settle_still h.toAtRest h.whole g.toAtRest g.revert (if_neg fun c => g.source c.1)

def idleWatch : List Nat := Obj.timeSource :: Obj.ringState :: restWatch

def idleWatched : List Part := .ring :: restWatched

theorem State.Idle.ofChanges {s t : State} {ks : List Nat} {ps : List Part} (h : s.Idle) (c : OnlyChanges ks ps s t)
    (keys : ∀ k ∈ idleWatch, k ∉ ks) (parts : ∀ p ∈ idleWatched, p ∉ ps) : t.Idle where
  toAtRest := h.toAtRest.ofChanges c (fun k hk => keys k (List.mem_cons_of_mem _ (List.mem_cons_of_mem _ hk)))
    (fun p hp => parts p (List.mem_cons_of_mem _ hp))
  revert := c.2 .ring (parts _ (by decide)) ▸ h.revert
  source := fun e => h.source ((c.obj (keys _ (by decide))).symm.trans e)
  whole := fun e => h.whole ((c.obj (keys Obj.ringState (by decide))).symm.trans e)

/-- A response to the mailbox waits there and changes nothing else of the node. -/
theorem OnlyChanges.respondMailbox {ks : List Nat} (s : State) (r : ObjResp) : OnlyChanges ks [.out, .dict] s (s.respond .mailbox r none) :=
  .ofParts rfl fun p hp => by cases p <;> first | rfl | exact absurd (by decide) hp

/-- What a command from the mailbox comes to at an idle node agrees with its effect `u` and the response. -/
theorem settle_mailbox {s u : State} (h : s.Idle) (g : u.Idle) (r : ObjResp) :
    OnlyChanges restKeys restParts (u.respond .mailbox r none) (settle s (u.respond .mailbox r none)) :=
  settle_idle h (g.ofChanges (OnlyChanges.respondMailbox (ks := []) u r) (by simp) (by decide))

/-- A request from the mailbox that passes the checks, at an idle node. -/
theorem mailbox_settles {i : Instr} {s t : State} {who : Requester} {r : ObjReq} {st flags : Nat} {d : List Byte} {row : Row}
    (hi : exec i s = .next (settleOn s (s.request who r))) (box : who = .mailbox)
    (a : s.admits who r) (short : r.data.length ≤ (if r.opcode = 2 ∨ r.opcode = 4 then r.length else 0))
    (look : s.lookup r.index r.sub = .ok row) (code : codeRefusal row.acc (isWriteOp r.opcode) = none) (form : formRefusal row r = none)
    (effect : s.objectEffect who r row none = (t, .now st flags d)) (claim : st ≠ stClaimLost) (h : s.Idle) (g : t.Idle) :
    ∃ e, exec i s = .next e ∧ OnlyChanges restKeys restParts (t.respond .mailbox (respTo t r st flags d) none) e := by
  have request : s.request who r = (t.countRefusal st).respond who (respTo t r st flags d) none :=
    State.request_effect a short look code form effect
  refine ⟨_, ?_, settle_mailbox h g (respTo t r st flags d)⟩
  rw [hi, request, State.countRefusal_other claim, box]
  simp [settleOn, h.on]

/-- The state that the statement of an answer to the mailbox speaks of, and what it comes to, at an idle node. -/
theorem AnswersWith.settles {i : Instr} {s e : State} {who : Requester} {r : ObjReq} {st flags : Nat} {d : List Byte} {ks : List Nat}
    {ps : List Part} {post : State → Prop} (a : AnswersWith i s who r st flags d ks ps post) (box : who = .mailbox)
    (meaning : exec i s = .next e) (h : s.Idle) (idle : ∀ u, post u → OnlyChanges ks ps s u → u.Idle) :
    ∃ u, post u ∧ OnlyChanges ks ps s u ∧ OnlyChanges restKeys restParts (u.respond .mailbox (respTo u r st flags d) none) e := by
  obtain ⟨u, he, hp, hc⟩ := a
  have same : e = _ := Host.Outcome.next.inj (meaning.symm.trans he)
  subst box
  exact ⟨u, hp, hc, same ▸ settle_mailbox h (idle u hp hc) _⟩

/-- The same for a command without an answer. -/
theorem Does.settles {i : Instr} {s e : State} {ks : List Nat} {ps : List Part} {post : State → Prop} (a : Does i s ks ps post)
    (meaning : exec i s = .next e) (h : s.Idle) (idle : ∀ u, post u → OnlyChanges ks ps s u → u.Idle) :
    ∃ u, post u ∧ OnlyChanges ks ps s u ∧ OnlyChanges restKeys restParts u e := by
  obtain ⟨u, he, hp, hc⟩ := a
  have same : e = _ := Host.Outcome.next.inj (meaning.symm.trans he)
  exact ⟨u, hp, hc, same ▸ settle_idle h (idle u hp hc)⟩

end Sys2Proof.Machine
end

section
/-! SUPPORT. The refutation of O43: a flush of the transmit FIFO withdraws from the switch the frames of the engine that wait at its inputs,
which the statement keeps as they are. -/
namespace Sys2Proof.Machine

/-- A node in HELD that answers and is idle. -/
def idleNode : State := { wOn with rst := { wOn.rst with starting := none } }

theorem idleNode_idle : idleNode.Idle where
  on := rfl
  live := by decide
  completions := rfl
  sessions := rfl
  splices := rfl
  admitted := rfl
  inbox := rfl
  wakes := rfl
  node := .inl (by decide)
  stage := by decide
  starting := rfl
  revert := rfl
  source := by decide
  whole := by decide

/-- A frame of engine 0 that waits at its input of the switch. -/
def waitingFrame : Offered := { port := portEngines, cls := 3, packet := .ring { cls := 3, type := tyWrite, src := 5, dst := 7 }, engine := some 0 }

/-- An idle node whose engine 0 has an open message, and a frame in the switch. -/
def sendingNode : State :=
  { idleNode with sw := { idleNode.sw with entering := [waitingFrame] }, eng := { idleNode.eng with fifos := [(0, { opened := [1] })] } }

theorem sendingNode_idle : sendingNode.Idle := { idleNode_idle with }

theorem sendingNode_admits : sendingNode.admits wSnd.who (writeReq wSnd 0x4200 21 [2]) := by
  refine ⟨by decide, by decide, by decide, trivial, by decide, rfl, by decide, by decide⟩

/-- The flush of the transmit FIFO takes the frame away. -/
theorem sendingNode_flushes : (sendingNode.fifoFlush 0 2).Idle ∧ (sendingNode.fifoFlush 0 2).sw.entering = [] := by
  refine ⟨⟨⟨?_, ?_, ?_, ?_, ?_, ?_, ?_, ?_, ?_, ?_, ?_⟩, ?_, ?_, ?_⟩, ?_⟩ <;> decide

/-- Refutes O43: at `sendingNode` the frame that waits in the switch is gone after the flush, and the statement leaves the switch as it is. -/
theorem not_engineFifos : ¬ Obligations.EngineFifos := by
  rintro ⟨-, -, -, -, -, flush, -⟩
  have told := flush sendingNode wSnd 0 sendingNode_admits (by decide) (by decide) (by decide) (by decide)
  obtain ⟨idle, empty⟩ := sendingNode_flushes
  obtain ⟨e, meaning, effect⟩ := mailbox_settles (i := .fifoFlushTx wSnd 0) (t := sendingNode.fifoFlush 0 2) (d := []) rfl rfl
    sendingNode_admits (by decide) (sendingNode.lookup_4200_21 0) rfl (byteCommand_form rfl rfl (by decide) (.inl (by decide)) (by decide) (by decide))
    (show _ = (_, Answer.now stDone 0 []) from rfl) (by decide) sendingNode_idle idle
  obtain ⟨u, -, change, settled⟩ := AnswersWith.settles told rfl meaning sendingNode_idle
    (fun u _ c => sendingNode_idle.ofChanges c (by decide) (by decide))
  have kept : e.sw.entering = [waitingFrame] := by
    have switch : e.sw = u.sw := settled.2 .sw (by decide)
    rw [switch, change.2 .sw (by decide)]
    rfl
  have gone : e.sw = (sendingNode.fifoFlush 0 2).sw := effect.2 .sw (by decide)
  rw [gone, empty] at kept
  exact absurd kept (by decide)

end Sys2Proof.Machine
end

section
/-! SUPPORT. The refutation of O13: a subindex past 255 names an object of the next record, and the objects with a rule of their own are left
out by the index of the request alone. -/
namespace Sys2Proof.Machine

/-- Subindex 258 of record 0x709F is CTX_VALUE of check unit 0, subindex 2 of record 0x70A0. -/
def contextWrite : ObjReq := { opcode := 2, index := 0x709F, sub := 258, length := 4, data := [1, 0, 0, 0], tag := 7 }

def contextRow : Row := { name := "CTX_VALUE", ix := 0x70A0, n := 24, lo := 2, hi := 2, ty := .u32, acc := .rw, kept := .w, dflt := 0xFFFFFFFF }

theorem lookup_contextWrite : idleNode.lookup contextWrite.index contextWrite.sub = .ok contextRow :=
  idleNode.lookup_row (by decide) (by decide)

theorem idleNode_admits_contextWrite : idleNode.admits .mailbox contextWrite := by
  refine ⟨by decide, by decide, by decide, trivial, by decide, rfl, by decide, by decide⟩

/-- Refutes O13: the write to the context goes to the check unit, and the number of the dictionary keeps its default. -/
theorem not_objectRequests : ¬ Obligations.ObjectRequests := by
  rintro ⟨-, write, -⟩
  have told := write idleNode .mailbox contextWrite contextRow (0x709F * 256 + 258) idleNode_admits_contextWrite rfl
    (by rw [lookup_contextWrite]; rfl) rfl rfl rfl (by decide) (by decide) rfl (by decide)
  obtain ⟨e, meaning, effect⟩ := mailbox_settles (i := .objectWrite .mailbox contextWrite) (t := idleNode.setCkCtx 0 0 { value := some 1 })
    (d := []) rfl rfl idleNode_admits_contextWrite (by decide) lookup_contextWrite rfl rfl
    (show _ = (_, Answer.now stDone 0 []) from rfl) (by decide) idleNode_idle
    (idleNode_idle.ofChanges (ks := []) (ps := [.ck]) (.ofParts rfl fun p hp => by cases p <;> first | rfl | exact absurd (by decide) hp)
      (by simp) (by decide))
  obtain ⟨u, value, change, settled⟩ := AnswersWith.settles told rfl meaning idleNode_idle
    (fun u _ c => idleNode_idle.ofChanges c (by decide) (by decide))
  have written : e.obj (0x709F * 256 + 258) = 1 := (settled.obj (by decide)).trans value
  have kept : e.obj (0x709F * 256 + 258) = 0xFFFFFFFF := (effect.obj (by decide)).trans (by decide)
  omega

end Sys2Proof.Machine
end

section
/-! SUPPORT. The refutation of O14: the mailbox takes as many bytes as LENGTH tells, and the claim is judged by those. -/
namespace Sys2Proof.Machine

/-- A segment for record 0x1107 whose subindex leads to the program of engine 0, with LENGTH 0 and a byte beyond it. -/
def longSegment : ObjReq := { opcode := 4, index := 0x1107, sub := (0x4400 - 0x1107) * 256, data := [1], tag := 7 }

/-- An idle node at which the service link writes that record. -/
def segmentNode : State :=
  { idleNode with dict := { idleNode.dict with sessions := [{ index := 0x1107, who := .farif, data := [], last := 0 }] } }

theorem segmentNode_idle : segmentNode.Idle := { idleNode_idle with }

theorem segmentNode_admits : segmentNode.admits .mailbox longSegment := by
  refine ⟨by decide, by decide, by decide, trivial, by decide, rfl, by decide, by decide⟩

/-- The segment as the mailbox gives it is empty, and an empty order to leave HELD needs the highest claim. -/
theorem segmentNode_refuses : segmentNode.request .mailbox longSegment =
    (segmentNode.bump Obj.claimRefusals).respond .mailbox (respTo segmentNode (mailboxData .mailbox longSegment) stClaimLost) none := by
  rfl

def programRow : Row := { name := "PROGRAM", ix := 0x4400, n := 64, lo := 0, hi := 0, ty := .domain 13376 true 1, acc := .rws, kept := .p }

theorem lookup_longSegment : segmentNode.lookup longSegment.index longSegment.sub = .ok programRow :=
  segmentNode.lookup_row (by decide) (by decide)

/-- Refutes O14: the other requester of `segmentNode` does not meet RETRY but CLAIM_LOST, which is counted. -/
theorem not_domainTransfers : ¬ Obligations.DomainTransfers := by
  rintro ⟨-, -, -, -, -, -, other, -⟩
  have told := other segmentNode .mailbox longSegment programRow 13376 true 1 { index := 0x1107, who := .farif, data := [], last := 0 }
    segmentNode_admits (by rw [lookup_longSegment]; rfl) rfl rfl rfl (by decide)
  have meaning : exec (.segWrite .mailbox longSegment) segmentNode = .next (settle segmentNode
      ((segmentNode.bump Obj.claimRefusals).respond .mailbox (respTo segmentNode (mailboxData .mailbox longSegment) stClaimLost) none)) := by
    rw [← segmentNode_refuses]
    rfl
  have counted : (segmentNode.bump Obj.claimRefusals).Idle :=
    segmentNode_idle.ofChanges (OnlyChanges.bump (ks := [Obj.claimRefusals]) segmentNode [] (by decide)) (by decide) (by decide)
  obtain ⟨u, rfl, -, settled⟩ := AnswersWith.settles told rfl meaning segmentNode_idle
    (fun u _ c => segmentNode_idle.ofChanges c (by simp) (by decide))
  have effect := settle_mailbox segmentNode_idle counted (respTo segmentNode (mailboxData .mailbox longSegment) stClaimLost)
  have one := (effect.obj (k := Obj.claimRefusals) (by decide)).symm.trans (settled.obj (by decide))
  exact absurd one (by decide)

end Sys2Proof.Machine
end

section
/-! SUPPORT. The refutation of O30: a master port that begins to send where the port of the time source has left SLAVE state loses the source,
and the count of good Syncs starts anew. -/
namespace Sys2Proof.Machine

/-- An idle node that takes its time from PTP port 0, which is not in SLAVE state, with port 1 enabled. -/
def clockNode : State :=
  let t := ((((idleNode.put Obj.timeSource 1).put (Obj.ptpRole 1) 1).put (Obj.ethMode 1) 1).put (Obj.linkState 1) 1).put Obj.timeFlags 2
  { t with tb := { t.tb with ptpGood := 5 } }

theorem clockNode_atRest : clockNode.AtRest := by
  refine ⟨?_, ?_, ?_, ?_, ?_, ?_, ?_, ?_, ?_, ?_, ?_⟩ <;> decide

theorem clockNode_sends : (ptpMasterPortSend clockNode 1).tb.ptpGood = 0 ∧ (ptpMasterPortSend clockNode 1).AtRest ∧
    (ptpMasterPortSend clockNode 1).ring.revert = none ∧ ¬ (ptpMasterPortSend clockNode 1).obj (Obj.portState 0) = ptpSlave ∧
    (ptpMasterPortSend clockNode 1).obj Obj.ptpPort = 0 := by
  refine ⟨?_, ⟨?_, ?_, ?_, ?_, ?_, ?_, ?_, ?_, ?_, ?_, ?_⟩, ?_, ?_, ?_⟩ <;> decide

/-- A port that is not in SLAVE state does not fall silent. -/
theorem State.ptpSilence_notSlave {s : State} (port : s.obj Obj.ptpPort = 0) (state : ¬ s.obj (Obj.portState 0) = ptpSlave) : s.ptpSilence = s :=
  if_neg fun c => state (port ▸ c.2.1)

/-- Refutes O30: at `clockNode` the count of good Syncs falls to 0, and the statement leaves the time base as it is. -/
theorem not_timeSources : ¬ Obligations.TimeSources := by
  rintro ⟨-, -, -, -, -, -, -, -, send, -⟩
  obtain ⟨u, meaning, -, change⟩ := send clockNode 1 (by decide) (by decide) (by decide) (by decide) (by decide) (by decide)
  have same : settle clockNode u = settle clockNode (ptpMasterPortSend clockNode 1) :=
    Host.Outcome.next.inj (meaning.symm.trans (congrArg Host.Outcome.next (settleOn_on _ clockNode_atRest.on)))
  have rest : u.AtRest := clockNode_atRest.ofChanges change (by decide) (by decide)
  have kept := settle_still clockNode_atRest (by decide) rest (by rw [change.2 .ring (by decide)]; rfl)
    (State.ptpSilence_notSlave (by rw [change.obj (by decide)]; decide) (by rw [change.obj (by decide)]; decide))
  obtain ⟨lost, atRest, revert, state, port⟩ := clockNode_sends
  have effect := settle_still clockNode_atRest (by decide) atRest revert (State.ptpSilence_notSlave port state)
  have five : u.tb.ptpGood = 5 := by rw [change.2 .tb (by decide)]; rfl
  have equal : u.tb = (ptpMasterPortSend clockNode 1).tb := by
    rw [← effect.2 .tb (by decide), ← kept.2 .tb (by decide), same]
  rw [equal, lost] at five
  exact absurd five (by decide)

end Sys2Proof.Machine
end

section
/-! SUPPORT. The refutation of O33: a change of the link of another port makes a node whose PTP port is not in SLAVE state lose its source,
and the ring selects its grandmaster anew. -/
namespace Sys2Proof.Machine

/-- `clockNode` while its source counts as valid and no grandmaster has been selected. -/
def sourceNode : State := { clockNode with tb := { clockNode.tb with source := 2 } }

theorem sourceNode_atRest : sourceNode.AtRest := { clockNode_atRest with }

theorem sourceNode_selects : (ethLinkStateChange sourceNode 1 false 0).obj Obj.gmId = 5 ∧ (ethLinkStateChange sourceNode 1 false 0).AtRest ∧
    (ethLinkStateChange sourceNode 1 false 0).ring.revert = none ∧
    ¬ (ethLinkStateChange sourceNode 1 false 0).obj (Obj.portState 0) = ptpSlave ∧
    (ethLinkStateChange sourceNode 1 false 0).obj Obj.ptpPort = 0 := by
  refine ⟨?_, ⟨?_, ?_, ?_, ?_, ?_, ?_, ?_, ?_, ?_, ?_, ?_⟩, ?_, ?_, ?_⟩ <;> decide

/-- Refutes O33: at `sourceNode` GM_ID becomes the node's own ID, and the statement leaves GM_ID as it is. -/
theorem not_switchOutputs : ¬ Obligations.SwitchOutputs := by
  rintro ⟨-, -, -, -, link, -⟩
  obtain ⟨u, meaning, -, change⟩ := link sourceNode 1 false 0 (by decide)
  have same : settle sourceNode u = settle sourceNode (ethLinkStateChange sourceNode 1 false 0) :=
    Host.Outcome.next.inj (meaning.symm.trans (congrArg Host.Outcome.next (settleOn_on _ sourceNode_atRest.on)))
  have rest : u.AtRest := sourceNode_atRest.ofChanges change (by decide) (by decide)
  have kept := settle_still sourceNode_atRest (by decide) rest (by rw [change.2 .ring (by decide)]; rfl)
    (State.ptpSilence_notSlave (by rw [change.obj (by decide)]; decide) (by rw [change.obj (by decide)]; decide))
  obtain ⟨selected, atRest, revert, state, port⟩ := sourceNode_selects
  have effect := settle_still sourceNode_atRest (by decide) atRest revert (State.ptpSilence_notSlave port state)
  have zero : u.obj Obj.gmId = 0 := by rw [change.obj (by decide)]; decide
  have equal : u.obj Obj.gmId = (ethLinkStateChange sourceNode 1 false 0).obj Obj.gmId := by
    rw [← effect.obj (by decide), ← kept.obj (by decide), same]
  rw [equal, selected] at zero
  exact absurd zero (by decide)

end Sys2Proof.Machine
end

section
/-! SUPPORT. The refutation of O32: a frame with a bad FCS on a port of a redundant pair in HSR mode has been offered to the other port of the
pair as its header came, and a drop there is counted. -/
namespace Sys2Proof.Machine

/-- An idle node with Ethernet port 0 enabled, in HSR mode. -/
def hsrNode : State := (idleNode.put (Obj.ethMode 0) 1).put (Obj.redMode 0) 2

def badFrame : EthFrame := { fcsGood := false, red := some (1, 10) }

theorem hsrNode_idle : hsrNode.Idle :=
  idleNode_idle.ofChanges (ks := [Obj.ethMode 0, Obj.redMode 0]) (ps := []) ((OnlyChanges.put _ _ _ (by decide)).trans (.put _ _ _ (by decide)))
    (by decide) (by decide)

theorem hsrNode_drops : (ethernetRx hsrNode 0 badFrame).obj (Obj.outDrops 3 3) = 1 ∧ (ethernetRx hsrNode 0 badFrame).Idle := by
  refine ⟨?_, ⟨?_, ?_, ?_, ?_, ?_, ?_, ?_, ?_, ?_, ?_, ?_⟩, ?_, ?_, ?_⟩ <;> decide

/-- Refutes O32: at `hsrNode` the drop at the other port of the pair is counted, and the statement leaves its counter as it is. -/
theorem not_switchAdmission : ¬ Obligations.SwitchAdmission := by
  rintro ⟨-, -, -, -, -, bad, -⟩
  have told := bad hsrNode 0 badFrame (by decide) (by decide) (by decide) rfl
  obtain ⟨dropped, idle⟩ := hsrNode_drops
  have meaning : exec (.ethernetRx 0 badFrame) hsrNode = .next (settle hsrNode (ethernetRx hsrNode 0 badFrame)) :=
    congrArg Host.Outcome.next (settleOn_on _ hsrNode_idle.on)
  obtain ⟨u, -, change, settled⟩ := Does.settles told meaning hsrNode_idle (fun u _ c => hsrNode_idle.ofChanges c (by decide) (by decide))
  have effect := settle_idle hsrNode_idle idle
  have zero : u.obj (Obj.outDrops 3 3) = 0 := by rw [change.obj (by decide)]; decide
  rw [← settled.obj (by decide), effect.obj (by decide), dropped] at zero
  exact absurd zero (by decide)

end Sys2Proof.Machine
end

section
/-! SUPPORT. A revert that resumes as a command settles (R92): outside a splice it leaves the counters of faults and what waits to be delivered
alone. -/
namespace Sys2Proof.Machine

/-! ## What waits to be delivered -/

/-- What the blocks have to deliver is the same in both states. -/
structure State.SameQueues (s t : State) : Prop where
  completions : t.acc.completions = s.acc.completions
  sessions : t.acc.sessions = s.acc.sessions
  splices : t.acc.splicesLeft = s.acc.splicesLeft
  joining : t.acc.joining = s.acc.joining
  admitted : t.sw.admitted = s.sw.admitted
  inbox : t.sw.inbox = s.sw.inbox

theorem State.SameQueues.of {s t : State} (acc : t.acc = s.acc) (sw : t.sw = s.sw) : s.SameQueues t :=
  ⟨by rw [acc], by rw [acc], by rw [acc], by rw [acc], by rw [sw], by rw [sw]⟩

theorem State.SameQueues.trans {s t u : State} (h : s.SameQueues t) (g : t.SameQueues u) : s.SameQueues u :=
  ⟨g.completions.trans h.completions, g.sessions.trans h.sessions, g.splices.trans h.splices, 
    g.joining.trans h.joining, g.admitted.trans h.admitted, g.inbox.trans h.inbox⟩

theorem State.AtRest.ofQueues {s t : State} {ks : List Nat} {ps : List Part} (h : s.AtRest) (q : s.SameQueues t) (c : OnlyChanges ks ps s t)
    (keys : ∀ k ∈ restWatch, k ∉ ks) (rst : Part.rst ∉ ps) (fc : Part.fc ∉ ps) : t.AtRest := by
  have calm : ({ s with acc := t.acc, sw := t.sw } : State).AtRest :=
    { h with completions := q.completions.trans h.completions, sessions := q.sessions.trans h.sessions, splices := q.splices.trans h.splices,
             admitted := q.admitted.trans h.admitted, inbox := q.inbox.trans h.inbox }
  refine calm.ofChanges (ks := ks) (ps := ps.filter (fun p => p ∉ restWatched)) ⟨c.1, fun p hp => ?_⟩ keys (fun p hp => by simp [hp])
  by_cases acc : p = .acc
  · exact acc ▸ rfl
  by_cases sw : p = .sw
  · exact sw ▸ rfl
  · have out : p ∉ ps := fun m => hp (List.mem_filter.mpr ⟨m, decide_eq_true fun w => by
      simp only [restWatched, List.mem_cons, List.not_mem_nil, or_false] at w
      rcases w with rfl | rfl | rfl | rfl
      · exact rst m
      · exact acc rfl
      · exact sw rfl
      · exact fc m⟩)
    have same := c.2 p out
    cases p <;> first | exact same | exact absurd rfl acc | exact absurd rfl sw

/-! ## The revert that resumes -/

def resumeKeys : List Nat := Obj.wraps 1 :: closeKeys

def resumeParts : List Part := [.ring, .tb, .acc, .out, .sw]

/-- What a revert that ends outside a splice may change. -/
def State.Resumes (s t : State) : Prop := OnlyChanges resumeKeys resumeParts s t ∧ s.SameQueues t

theorem State.Resumes.trans {s t u : State} (h : s.Resumes t) (g : t.Resumes u) : s.Resumes u := ⟨h.1.trans g.1, h.2.trans g.2⟩

/-- A change that leaves ACCEPT and the switch alone. -/
theorem State.Resumes.of {s t : State} {ks : List Nat} {ps : List Part} (c : OnlyChanges ks ps s t) (keys : ∀ k ∈ ks, k ∈ resumeKeys)
    (parts : ∀ p ∈ ps, p ∈ resumeParts) (acc : Part.acc ∉ ps) (sw : Part.sw ∉ ps) : s.Resumes t :=
  ⟨c.mono keys parts, .of (c.2 .acc acc) (c.2 .sw sw)⟩

theorem State.Resumes.refl (s : State) : s.Resumes s := .of (.refl [] [] s) (by simp) (by simp) (by simp) (by simp)

theorem State.enterRing_resumes (s : State) (p : Path) (entered : Nat) (f : Frame) : s.Resumes (s.enterRing p entered f) := by
  unfold State.enterRing
  dsimp only
  split
  · exact .refl s
  · exact ⟨.setSw s _ (by decide), ⟨rfl, rfl, rfl, rfl, rfl, rfl⟩⟩

theorem State.enterAll_resumes (p : Path) : ∀ (l : List (Nat × Frame)) (s : State), s.Resumes (forEach l (fun t f => t.enterRing p f.1 f.2) s)
  | [], s => .refl s
  | f :: r, s => (s.enterRing_resumes p f.1 f.2).trans (State.enterAll_resumes p r _)

theorem State.endWrap_resumes {s : State} (u d : Nat) (splice : s.acc.splice = none) : s.Resumes (s.endWrap u d) := by
  obtain ⟨carried, h⟩ := State.endWrap_eq u d splice
  have drop : s.Resumes (s.dropWraps u d) := by
    refine ⟨.dropWraps s u d (by decide) (by decide) (by decide) (by decide), ?_⟩
    exact ⟨rfl, rfl, rfl, rfl, rfl, rfl⟩
  rw [h]
  split
  · exact drop.trans (.of (ks := closeKeys) (ps := [.ring, .tb, .out]) (.ringWholeAgain _ carried (by decide) (by decide)) (by decide) (by decide)
      (by decide) (by decide))
  · exact drop.trans (.of (ks := [Obj.coordinator]) (ps := []) (.put _ _ _ (by decide)) (by decide) (by decide) (by decide) (by decide))

theorem State.completeRevert_resumes {s : State} (u d : Nat) (stored : List (Nat × Frame)) (splice : s.acc.splice = none)
    (joining : s.acc.joining = false) : s.Resumes (s.completeRevert u d stored) := by
  have ended := State.endWrap_resumes u d splice
  have stores := ended.trans (State.enterAll_resumes .a stored _)
  have told : ∀ n, s.Resumes ((forEach stored (fun t f => t.enterRing .a f.1 f.2) (s.endWrap u d)).originate n) := fun n =>
    stores.trans (.of (ks := []) (ps := [.ring, .out]) (.originate _ n (by decide) (by decide)) (by simp) (by decide) (by decide) (by decide))
  have alone : ∀ n, ((forEach stored (fun t f => t.enterRing .a f.1 f.2) (s.endWrap u d)).originate n).weldWith =
      (forEach stored (fun t f => t.enterRing .a f.1 f.2) (s.endWrap u d)).originate n := fun n =>
    if_neg fun c => by
      have := (told n).2.joining.trans joining
      simp [this] at c
  rw [State.completeRevert, alone]
  exact told _

theorem State.turn_resumes (s : State) (w : WrapState) : s.Resumes (s.turn w .b) :=
  .of (ks := [Obj.wraps 1]) (ps := [.ring]) (((OnlyChanges.setRing s _ (by decide)).trans (.bump _ _ (by decide))).trans (.setRing _ _ (by decide)))
    (by decide) (by decide) (by decide) (by decide)

theorem State.completeDark_resumes (s : State) (r : RevertState) : s.Resumes (s.completeDark r) := by
  have clear : s.Resumes { s with ring := { s.ring with revert := none } } :=
    .of (ks := []) (ps := [.ring]) (.setRing s _ (by decide)) (by simp) (by decide) (by decide) (by decide)
  unfold State.completeDark
  dsimp only
  split
  · exact (clear.trans (State.turn_resumes _ _)).trans (State.enterAll_resumes .b r.stored _)
  · exact clear.trans (State.enterAll_resumes .b r.stored _)

/-- Outside a splice and at a node that has joined. -/
theorem State.resumeRevert_resumes {s : State} (splice : s.acc.splice = none) (joining : s.acc.joining = false) : s.Resumes s.resumeRevert := by
  unfold State.resumeRevert
  split
  · rename_i r _
    split
    · unfold State.revertDone
      split
      · exact s.completeDark_resumes r
      · exact State.completeRevert_resumes r.u r.d r.stored splice joining
    · exact .refl s
  · exact .refl s

/-- What a node at rest comes to where a revert may resume. -/
theorem settle_resumes {s u : State} (h : s.AtRest) (whole : s.ringState ≠ 4) (g : u.AtRest) (splice : u.acc.splice = none)
    (joining : u.acc.joining = false) (source : u.obj Obj.timeSource ≠ 1) :
    OnlyChanges (restKeys ++ resumeKeys) (restParts ++ resumeParts) u (settle s u) := by
  obtain ⟨change, queues⟩ := State.resumeRevert_resumes splice joining
  have rest : u.resumeRevert.AtRest := g.ofQueues queues change (by decide) (by decide) (by decide)
  have settled := settle_atRest g rest (if_neg fun c => source c.1) h.live h.notServing whole
  exact (change.mono (fun _ m => List.mem_append_right _ m) (fun _ m => List.mem_append_right _ m)).trans
    (settled.mono (fun _ m => List.mem_append_left _ m) (fun _ m => List.mem_append_left _ m))

end Sys2Proof.Machine
end

section
/-! SUPPORT. The refutations of O19 and O20: a link that fails while its fault is open already opens no further fault, and LASTING_FAULTS stands
still. -/
namespace Sys2Proof.Machine

/-- An idle node with link A in the state `st`, in full training, whose lasting faults of the link and of its stepping are open. -/
def faultyNode (st : Nat) : State :=
  let t := idleNode.put Obj.pathAState st
  { t with ring := { t.ring with aIn := { t.ring.aIn with full := true } }
           vgOpen := [{ entry := { index := 0x2020, sub := 8, inst := 0 } }, { entry := { index := 0x2020, sub := 0, inst := 0 } }] }

theorem faultyNode_changes (st : Nat) : OnlyChanges [Obj.pathAState] [.ring, .vgOpen] idleNode (faultyNode st) := by
  refine (OnlyChanges.put idleNode st _ (by decide)).trans (.ofParts rfl fun p hp => ?_)
  cases p <;> first | rfl | exact absurd (by decide) hp

theorem faultyNode_atRest (st : Nat) : (faultyNode st).AtRest :=
  idleNode_idle.toAtRest.ofChanges (faultyNode_changes st) (by decide) (by decide)

theorem faultyNode_source (st : Nat) : (faultyNode st).obj Obj.timeSource ≠ 1 := fun e =>
  idleNode_idle.source (((faultyNode_changes st).obj (by decide)).symm.trans e)

theorem faultyNode_whole (st : Nat) : (faultyNode st).ringState ≠ 4 := fun e =>
  idleNode_idle.whole (((faultyNode_changes st).obj (by decide)).symm.trans e)

/-- A statement of what a command does that leaves ACCEPT, the switch and the source of time alone, where the command leaves the node at rest
and counts no lasting fault. -/
theorem faultyNode_keeps {i : Instr} {st : Nat} {v : State} {ks : List Nat} {ps : List Part} {post : State → Prop}
    (told : Does i (faultyNode st) ks ps post) (meaning : exec i (faultyNode st) = .next (settleOn (faultyNode st) v))
    (keys : ∀ k ∈ Obj.timeSource :: restWatch, k ∉ ks) (parts : ∀ p ∈ restWatched, p ∉ ps) (rest : v.AtRest) (splice : v.acc.splice = none)
    (joining : v.acc.joining = false) (source : v.obj Obj.timeSource ≠ 1) :
    ∃ u, post u ∧ u.obj (Obj.lastingFaults 0) = v.obj (Obj.lastingFaults 0) := by
  obtain ⟨u, he, hp, change⟩ := told
  have start := faultyNode_atRest st
  have same : settle (faultyNode st) u = settle (faultyNode st) v :=
    Host.Outcome.next.inj (he.symm.trans (meaning.trans (congrArg Host.Outcome.next (settleOn_on _ start.on))))
  have acc : u.acc = (faultyNode st).acc := change.2 .acc (parts _ (by decide))
  have kept := settle_resumes start (faultyNode_whole st) (start.ofChanges change (fun k hk => keys k (List.mem_cons_of_mem _ hk)) parts)
    (by rw [acc]; rfl) (by rw [acc]; rfl) (fun e => faultyNode_source st ((change.obj (keys _ (by simp))).symm.trans e))
  have effect := settle_resumes start (faultyNode_whole st) rest splice joining source
  refine ⟨u, hp, ?_⟩
  rw [← kept.obj (by decide), ← effect.obj (by decide), same]

/-- Refutes O19: link A of `faultyNode` fails at the end of its training while its fault is open. -/
theorem not_linkTraining : ¬ Obligations.LinkTraining := by
  rintro ⟨-, -, -, -, fails, -⟩
  have told := fails (faultyNode lkTrain) .a (by decide) (by decide) (by decide) (by decide)
  have rest : (trainingTimeout (faultyNode lkTrain) .a).AtRest := by
    refine ⟨?_, ?_, ?_, ?_, ?_, ?_, ?_, ?_, ?_, ?_, ?_⟩ <;> decide
  obtain ⟨u, ⟨-, -, count, -⟩, same⟩ := faultyNode_keeps told rfl (by decide) (by decide) rest (by decide) (by decide) (by decide)
  exact absurd (same.symm.trans count) (by decide)

/-- The neighbour across link A steps another way. -/
def otherStepping : Hello := { reverse := lkUp, stepping := 1, effectiveId := 7, configuredId := 7, identity := 2 }

/-- Refutes O20: link A of `faultyNode` is UP, hears a stepping mismatch, and its fault of the stepping is open. -/
theorem not_linkComesUp : ¬ Obligations.LinkComesUp := by
  rintro ⟨-, -, -, -, -, mismatch, -⟩
  have told := mismatch (faultyNode lkUp) .a otherStepping (by decide) (.inr (.inl (by decide))) (by decide) (.inr (by decide))
  have rest : (helloRx (faultyNode lkUp) .a otherStepping).AtRest := by
    refine ⟨?_, ?_, ?_, ?_, ?_, ?_, ?_, ?_, ?_, ?_, ?_⟩ <;> decide
  obtain ⟨u, ⟨-, -, count, -⟩, same⟩ := faultyNode_keeps told rfl (by decide) (by decide) rest (by decide) (by decide) (by decide)
  exact absurd (same.symm.trans count) (by decide)

end Sys2Proof.Machine
end

section
/-! SUPPORT. The refutation of O36: while the node is frozen by a break the end of the drain waits. -/
namespace Sys2Proof.Machine

/-- An idle node that drains, in the freeze of a break. -/
def frozenNode : State :=
  { idleNode with acc := { idleNode.acc with unweld := some { start := 0 } }, ring := { idleNode.ring with freezeUntil := some 1 } }

theorem frozenNode_idle : frozenNode.Idle := { idleNode_idle with }

/-- Refutes O36: `frozenNode` stays as it is, and the statement has it send its UNWELD_REQ. -/
theorem not_membership : ¬ Obligations.Membership := by
  rintro ⟨-, -, -, -, -, -, -, -, drain, -⟩
  obtain ⟨u, meaning, ⟨state, acc, -⟩, change⟩ := drain frozenNode { start := 0 } (by decide) rfl rfl rfl (by decide) (by decide)
  have waits : unweldDrainEnd frozenNode = frozenNode := by decide
  have same : settle frozenNode u = settle frozenNode frozenNode := by
    have actual : exec .unweldDrainEnd frozenNode = .next (settle frozenNode frozenNode) :=
      congrArg Host.Outcome.next ((settleOn_on _ frozenNode_idle.on).trans (by rw [waits]))
    exact Host.Outcome.next.inj (meaning.symm.trans actual)
  have queues : frozenNode.SameQueues u := by
    constructor <;> first | rw [acc] | rw [change.2 .sw (by decide)]
  have rest : u.AtRest := frozenNode_idle.toAtRest.ofQueues queues change (by decide) (by decide) (by decide)
  have sent := settle_resumes frozenNode_idle.toAtRest frozenNode_idle.whole rest (by rw [acc]; rfl) (by rw [acc]; rfl)
    (fun e => frozenNode_idle.source ((change.obj (by decide)).symm.trans e))
  have kept := settle_idle frozenNode_idle frozenNode_idle
  have zero : frozenNode.obj Obj.weldState = 0 := by decide
  rw [← kept.obj (by decide), ← same, sent.obj (by decide), state] at zero
  exact absurd zero (by decide)

end Sys2Proof.Machine
end

section
/-! SUPPORT. The refutation of O50: every run counts its corrected words in ECC_CORRECTED, which reduces the counter modulo 2^32. -/
namespace Sys2Proof.Machine

/-- An idle node whose SME has a cyclic run due, and whose counter of corrected words is out of its 32 bits. -/
def wideCounter : State :=
  let t := (idleNode.put Obj.smeState smeRunning).put Obj.eccCorrected (2 ^ 32)
  { t with sme := { t.sme with cyclic := some 0 } }

theorem wideCounter_idle : wideCounter.Idle := by
  refine ⟨⟨?_, ?_, ?_, ?_, ?_, ?_, ?_, ?_, ?_, ?_, ?_⟩, ?_, ?_, ?_⟩ <;> decide

/-- The snapshot of the run. -/
def wideSnapshot : MapSnapshot :=
  { wideCounter.snapshot none with
    lake := wideCounter.slotsNamed, blocks := wideCounter.sme.blocks, epoch := 0, applyAt := wideCounter.sampleOf 0 + wideCounter.applyNs,
    sampleAt := wideCounter.sampleOf (0 - 1) }

/-- What pass P of the run makes, which pass T agrees with. -/
def widePass : MapPass := (wideCounter.attempt wideCounter.sme.map wideSnapshot none).1

theorem widePass_agrees : wideCounter.attempt wideCounter.sme.map wideSnapshot none = (widePass, none) := by decide

/-- Refutes O50: the cyclic run of `wideCounter` takes ECC_CORRECTED to 0, and the statement leaves it as it is. -/
theorem not_gooseAndMap : ¬ Obligations.GooseAndMap := by
  rintro ⟨-, -, -, -, -, cyclic, -⟩
  have told := cyclic wideCounter 0 0 wideSnapshot widePass (by decide) (by decide) widePass_agrees (by decide) (by decide) (by decide)
    (by decide) (by decide) rfl (by decide) rfl
  have rest : (cyclicRun wideCounter [] 0).Idle := by
    refine ⟨⟨?_, ?_, ?_, ?_, ?_, ?_, ?_, ?_, ?_, ?_, ?_⟩, ?_, ?_, ?_⟩ <;> decide
  obtain ⟨u, -, change, effect⟩ := told.settles (congrArg Host.Outcome.next (settleOn_on _ wideCounter_idle.on)) wideCounter_idle
    (fun u _ c => wideCounter_idle.ofChanges c (by decide) (by decide))
  have kept : OnlyChanges restKeys restParts (cyclicRun wideCounter [] 0) (settle wideCounter (cyclicRun wideCounter [] (0 : Fin 3))) :=
    settle_idle wideCounter_idle rest
  have zero : (cyclicRun wideCounter [] 0).obj Obj.eccCorrected = 0 := by decide
  rw [← kept.obj (by decide), effect.obj (by decide), change.obj (by decide)] at zero
  exact absurd zero (by decide)

end Sys2Proof.Machine
end

section
/-! SUPPORT. The bridge as master of the host bus, and the settlement of O49. -/
namespace Sys2Proof.Machine

section Parts
variable {ks : List Nat} {ps : List Part}

theorem OnlyChanges.setBridge (s : State) (x : BridgeState) (h : Part.bridge ∈ ps) : OnlyChanges ks ps s { s with bridge := x } :=
  .ofParts rfl fun p hp => by cases p <;> first | rfl | exact absurd h hp

theorem OnlyChanges.completeAt (s : State) (i : Issuer) (seq status : Nat) (h : Part.acc ∈ ps) : OnlyChanges ks ps s (s.completeAt i seq status) :=
  .setAcc s _ h

end Parts

/-! ## Requests in the queue -/

/-- The head of the queue is done: the bridge gives the bus back. -/
def State.releaseBus (s : State) : State :=
  { s with bridge := { s.bridge with queue := s.bridge.queue.drop 1, requesting := false, granted := false } }.emit (.hostRequest false)

theorem OnlyChanges.releaseBus {ks : List Nat} {ps : List Part} (s : State) (h : Part.bridge ∈ ps) (g : Part.out ∈ ps) :
    OnlyChanges ks ps s s.releaseBus := (OnlyChanges.setBridge s _ h).trans (.emit _ _ _ g)

/-- A request of an engine's window has its outcome there. -/
theorem State.masterDone_window {r : MasterReq} {t : Nat} {f : Frame} (origin : r.origin = .block (.window t) f) (s : State) (status : Nat) :
    s.masterDone r status = s.releaseBus.completeAt (.window t) 0 status := by
  unfold State.masterDone
  rw [origin]
  rfl

/-- The request with its next cycle done. -/
def MasterReq.next (r : MasterReq) (data : List Byte) : MasterReq :=
  { r with pos := r.pos + r.chunk, got := if r.write then r.got else r.got ++ slice data 0 r.chunk, retries := 0 }

theorem State.masterCycles_done {r : MasterReq} (h : r.length ≤ r.pos) (n : Nat) (s : State) (data : List Byte) :
    State.masterCycles n s r data = (s, r) := by
  cases n with
  | zero => rfl
  | succ n => simp [State.masterCycles, h]

/-- A request that fits in one cycle is done with the first. -/
theorem State.masterCycles_once {r : MasterReq} {n : Nat} (n1 : 1 ≤ n) (open' : r.pos < r.length) (last : r.length ≤ r.pos + r.chunk) (s : State)
    (data : List Byte) : State.masterCycles n s r data =
      (s.emit (.hostMaster r.write (r.address + r.pos) (if r.write then slice r.data r.pos r.chunk else [])), r.next data) := by
  obtain ⟨m, rfl⟩ := Nat.exists_eq_add_of_le' n1
  simp only [State.masterCycles, if_neg (Nat.not_le.mpr open')]
  exact State.masterCycles_done last m _ _

/-- The request from its first cycle on. -/
def MasterReq.started (r : MasterReq) (now : Nat) : MasterReq := { r with began := some (r.began.getD now) }

/-- Before any cycle the head of the queue is kept. -/
theorem State.masterStep_zero {s : State} {r : MasterReq} {q : List MasterReq} (queue : s.bridge.queue = r :: q) (open' : r.pos < r.length)
    (data : List Byte) : s.masterStep 0 data =
      ({ s with bridge := { s.bridge with queue := r.started s.now :: q } }, some (r.started s.now)) := by
  simp only [State.masterStep, queue, State.masterCycles]
  exact if_neg (Nat.not_le.mpr open')

/-- A write of one cycle is done. -/
theorem State.masterStep_once {s : State} {r : MasterReq} {q : List MasterReq} {n : Nat} (queue : s.bridge.queue = r :: q) (n1 : 1 ≤ n)
    (start : r.pos = 0) (some' : 0 < r.length) (write : r.write = true) (one : r.length ≤ 64 - r.address % 64) (data : List Byte) :
    s.masterStep n data =
      ((s.emit (.hostMaster true r.address (slice r.data 0 r.length))).masterDone ((r.started s.now).next data) stDone, none) := by
  have chunk : (r.started s.now).chunk = r.length := by simp [MasterReq.chunk, MasterReq.started, start]; omega
  have cycles := State.masterCycles_once (r := r.started s.now) n1 (by simpa [MasterReq.started, start] using some')
    (by rw [chunk]; simp [MasterReq.started, start]) s data
  have whole : ((r.started s.now).next data).length ≤ ((r.started s.now).next data).pos := by
    show r.length ≤ r.pos + (r.started s.now).chunk
    rw [chunk]
    exact Nat.le_add_left ..
  rw [chunk] at cycles
  simp only [State.masterStep, queue]
  rw [show ({ r with began := some (r.began.getD s.now) } : MasterReq) = r.started s.now from rfl, cycles]
  simp only [if_pos whole]
  simp [MasterReq.started, start, write]

/-! ## O49 -/

/-- Settles O49: each command by the request at the head of the queue. -/
theorem hostBusMaster : Obligations.HostBusMaster := by
  refine ⟨fun s r q on queue idle enabled length pending => ?_,
    fun s cycles data r q t f on asks n1 queue origin start some' write one => ?_,
    fun s data r q on asks queue open' limit => ?_,
    fun s data r q t f on asks queue origin start some' => ?_, fun s snd a => ?_⟩
  · have step : masterRequest s = { s with bridge := { s.bridge with requesting := true } }.emit (.hostRequest true) := by
      simp [masterRequest, queue, idle, enabled, length, pending]
    exact Does.of on rfl step ⟨rfl, rfl⟩ ((OnlyChanges.setBridge s _ (by decide)).trans (.emit _ _ _ (by decide)))
  · have step : busGrant s cycles data =
        (s.emit (.hostMaster true r.address (slice r.data 0 r.length))).releaseBus.completeAt (.window t) 0 stDone := by
      simp only [busGrant, asks, State.masterStep_once queue n1 start some' write one]
      exact State.masterDone_window (r := (r.started s.now).next data) origin _ _
    refine Does.of on rfl step ⟨congrArg (List.drop 1) queue, rfl, rfl, rfl, ?_⟩
      (((OnlyChanges.emit s _ _ (by decide)).trans (.releaseBus _ (by decide) (by decide))).trans (.completeAt _ _ _ _ (by decide)))
    exact List.append_assoc ..
  · have step : masterRetry s 0 data = { s.bump Obj.mstRetries with bridge :=
        { s.bridge with queue := { r with retries := r.retries + 1, began := some (r.began.getD s.now) } :: q, granted := true } } := by
      have under : ¬ (s.obj Obj.mstRetryLimit ≠ 0 ∧ s.obj Obj.mstRetryLimit < r.retries + 1) := by omega
      simp only [masterRetry, asks, State.masterStep_zero queue open']
      exact if_neg under
    exact Does.of on rfl step ⟨rfl, State.put_obj_same ..⟩ ((OnlyChanges.bump s _ (by decide)).trans (.setBridge _ _ (by decide)))
  · have step : mstWaitTimeout s 0 data =
        ({ s with bridge := { s.bridge with queue := r.started s.now :: q } }.bump Obj.mstTimeouts).releaseBus.completeAt (.window t) 0 stTimeout := by
      simp only [mstWaitTimeout, asks, State.masterStep_zero queue (start ▸ some')]
      exact State.masterDone_window (r := r.started s.now) origin _ _
    refine Does.of on rfl step ⟨rfl, rfl, rfl, rfl, State.put_obj_same .., rfl⟩
      ((((OnlyChanges.setBridge s _ (by decide)).trans (.bump _ _ (by decide))).trans (.releaseBus _ (by decide) (by decide))).trans
        (.completeAt _ _ _ _ (by decide)))
  · have form : formRefusal { name := "CLEAR", ix := 0x6001, n := 1, lo := 6, hi := 6, ty := .u8, acc := .wo, kept := .v, range := [(0, 0)] }
        (writeReq snd 0x6001 6 [0]) = none := clear_form rfl rfl rfl (.inl (by decide)) (by decide) (by decide)
    exact Answers.command rfl a s.lookup_6001_6 rfl rfl form rfl (s.clearKeys_all _) (.clearKeys _ _ _ (fun _ h => h))

end Sys2Proof.Machine
end

section
/-! SUPPORT. What the steps of the power entry share while the core has no power, and the settlement of O53. -/
namespace Sys2Proof.Machine

/-- A command of the power entry, whose meaning comes to `u`. -/
theorem Does.ofPower {i : Instr} {s v u : State} {ks : List Nat} {ps : List Part} {post : State → Prop}
    (h : exec i s = .next (settle s v)) (e : v = u) (p : post u) (c : OnlyChanges ks ps s u) : Does i s ks ps post :=
  ⟨u, e ▸ h, p, c⟩

/-! ## Gates and power-good -/

/-- What is left of the power entry's state with every gate off. -/
def PowerState.gatesOff (p : PowerState) : PowerState :=
  { p with ramp := none, gateFull := false, test := none, retest := none, transfer := none, faultTimer := 0, on1 := false, on2 := false }

/-- With no feed test on the way the gates go off in the power entry's own state. -/
theorem State.gatesOff_untested {s : State} (h : s.pe.test = none) : s.gatesOff = s.setPe s.pe.gatesOff := by
  simp only [State.gatesOff, State.gateOff, h]
  rfl

/-- Without core power and with power-good low its fall is a node that is OFF. -/
theorem State.pgoodFall_off {s : State} (off : s.rst.coreOn = false) (low : s.pe.pgood = false) : s.pgoodFall = s.put Obj.nodeState 0 := by
  have same : s.setPe { s.pe with pgood := false } = s := by
    show { s with pe := { s.pe with pgood := false } } = s
    rw [← low]
  rw [State.pgoodFall, same, State.coreDown, off]
  rfl

/-- The same for a state of the power entry outside LIMIT. -/
theorem State.gatesOff_setPe {s : State} {p : PowerState} (limit : p.state ≠ peLimit) (untested : p.test = none) :
    (s.setPe p).endLimit.gatesOff = s.setPe p.gatesOff := by
  have kept : (s.setPe p).endLimit = s.setPe p := if_neg limit
  rw [kept]
  exact State.gatesOff_untested (s := s.setPe p) untested

/-- The state of a power entry without its supply. -/
def PowerState.unpowered (tick : Nat) : PowerState :=
  { alive := false, tick := tick, state := peOff, pgood := false, gateFull := false, on1 := false, on2 := false,
    feed1 := { up := false, goodSince := none, warnSince := none }, feed2 := { up := false, goodSince := none, warnSince := none }, samples := [] }

theorem State.endLimit_other {s : State} (h : s.pe.state ≠ peLimit) : s.endLimit = s := if_neg h

/-! ## The last-fault record -/

theorem State.setPe_setPe (s : State) (p q : PowerState) : (s.setPe p).setPe q = s.setPe q := rfl

theorem State.put_blob (s : State) (k v j : Nat) : (s.put k v).blob j = s.blob j := rfl

/-- The fields of a record of R402. -/
theorem faultRecord_bits {before retries cause rest : Nat} (b : before < 256) (r : retries < 256) (c : cause < 256) :
    let v := leVal (leBytes 16 (before * 2 ^ 8 + retries * 2 ^ 16 + cause * 2 ^ 24 + rest * 2 ^ 32))
    bits v 31 24 = cause ∧ bits v 15 8 = before := by
  simp only [leVal_leBytes, bits]
  omega

theorem State.recordFault_bits (s : State) {cause before : Nat} (b : before < 256) (c : cause < 256) :
    bits (leVal ((s.recordFault cause before).blob Obj.peLastFault)) 31 24 = cause ∧
      bits (leVal ((s.recordFault cause before).blob Obj.peLastFault)) 15 8 = before := by
  have record := faultRecord_bits b (show min 255 s.pe.retryCount < 256 by omega) c (rest := min 255 ((s.feed 2).mv / 200) +
    min 255 ((s.feed 1).mv / 200) * 2 ^ 8 + min 0xFFFF (samplePeak s.pe.samples / 10) * 2 ^ 16 + s.rtcNow * 2 ^ 32)
  rw [State.recordFault, State.putBlob_blob, if_pos rfl]
  convert record using 5 <;> ring

theorem State.recordFault_blob {s : State} {cause before k : Nat} (h : k ≠ Obj.peLastFault) : (s.recordFault cause before).blob k = s.blob k := by
  rw [State.recordFault, State.putBlob_blob, if_neg h]

theorem OnlyChanges.recordFault {ks : List Nat} {ps : List Part} (s : State) (cause before : Nat) (h : Part.blobs ∈ ps) :
    OnlyChanges ks ps s (s.recordFault cause before) := .putBlob s _ _ _ h

/-! ## The start of a ramp -/

/-- With feed 1 alone good the ramp starts there. -/
theorem State.startRamp_first {s : State} (off : s.rst.coreOn = false) : s.startRamp [1] =
    (s.setPe { s.pe with state := peRamp, retryAt := none, ramp := some { path := 1, start := s.pe.tick }, on1 := true, on2 := false,
                         gateFull := false, transfer := none }).put Obj.nodeState 1 := by
  have path : s.startPath [1] = 1 := by
    simp only [State.startPath]
    split <;> rename_i h <;> simp_all
  simp only [State.startRamp, path]
  exact if_neg (by simp [State.setPe, off])

theorem State.rampFeeds_first {s : State} {counted : Bool} (good : s.feedGood 1 = true) (other : s.feedGood 2 = false)
    (due : counted = true → s.pe.feed1.goodSince.any (fun q => q + max 1 (s.peCfg Obj.insertDelay * 1000) ≤ s.pe.tick) = true) :
    s.rampFeeds counted = [1] := by
  cases counted with
  | false => simp [State.rampFeeds, good, other]
  | true =>
    have one : (s.feed 1).goodSince.any (fun q => q + max 1 (s.peCfg Obj.insertDelay * 1000) ≤ s.pe.tick) = true := due rfl
    simp only [State.rampFeeds, List.filter_cons, List.filter_nil, good, other, one]
    rfl

/-- The effect of a ramp that starts on feed 1. -/
theorem Does.rampStart {i : Instr} {s v t : State} {x : PowerState} (h : exec i s = .next (settle s v)) (e : v = t.startRamp [1])
    (here : t = s.setPe x) (off : s.rst.coreOn = false) {post : State → Prop}
    (p : post ((t.setPe { t.pe with state := peRamp, retryAt := none, ramp := some { path := 1, start := t.pe.tick }, on1 := true, on2 := false,
                                    gateFull := false, transfer := none }).put Obj.nodeState 1)) :
    Does i s [Obj.nodeState] [.pe] post := by
  subst here
  exact Does.ofPower h (e.trans (State.startRamp_first off)) p
    (((OnlyChanges.setPe s _ _ (by decide)).trans (.setPe _ _ _ (by decide))).trans (.put _ _ _ (by decide)))

/-! ## The end of a ramp -/

theorem rampComplete_ramp {s : State} {p : Ramp} (st : s.pe.state = peRamp) (ramp : s.pe.ramp = some p) :
    rampComplete s = (if p.whole.isSome then s else s.rampWhole p).fullyOn := by
  simp only [rampComplete, ramp, if_pos st]

/-- What the MP copies of the measurements of a ramp. -/
theorem State.copyMeasures_obj (s : State) : s.copyMeasures.obj Obj.lastRampUs = s.pe.lastLength ∧
    s.copyMeasures.obj Obj.lastInrushUc = s.pe.lastCharge ∧ s.copyMeasures.obj Obj.lastRampMj = s.pe.lastEnergy ∧
      s.copyMeasures.obj Obj.lastLimitMj = s.pe.lastLimit := by
  simp only [State.copyMeasures, State.put_obj]
  exact ⟨rfl, rfl, rfl, rfl⟩

theorem OnlyChanges.copyMeasures (s : State) (ps : List Part) :
    OnlyChanges [Obj.lastInrushUc, Obj.lastRampMj, Obj.lastRampUs, Obj.lastLimitMj] ps s s.copyMeasures :=
  (((OnlyChanges.put s _ _ (by decide)).trans (.put _ _ _ (by decide))).trans (.put _ _ _ (by decide))).trans (.put _ _ _ (by decide))

/-! ## O53 -/

/-- Settles O53: what each event of the power entry makes of its own state. -/
theorem powerEntryStates : Obligations.PowerEntryStates := by
  refine ⟨fun s q gone here alive low off untested => ?_, fun s alive low hold disabled limit st fresh good off untested => ?_,
    fun s n alive disabled long => ?_, fun s q off st good other since => ?_, fun s q off st due good other => ?_,
    fun s p st ramp whole => ?_, fun s p st ramp whole => ?_, fun s high => ?_, fun s low off untested => ?_, fun s n dead => ?_⟩
  · have step : removal s = (s.setPe { s.pe.gatesOff with
        tick := max s.pe.tick (q + 10000), state := peOff, latched := false, retryAt := none, retryCount := 0, removed := true }).put
          Obj.nodeState 0 := by
      have still : ¬ (s.pe.removed = true ∨ (!s.pe.alive) = true) := by simp [here, alive]
      simp only [removal, gone, if_neg still, State.remove]
      rw [State.gatesOff_untested (s := s.waitTick (q + 10000)) untested]
      exact State.pgoodFall_off off low
    exact Does.ofPower rfl step ⟨State.put_obj_same .., rfl⟩ ((OnlyChanges.setPe s _ _ (by decide)).trans (.put _ _ _ (by decide)))
  · have step : peEnLow s = ((s.setPe { s.pe.gatesOff with peEn := false, enLow := some s.pe.tick, state := peDisabled }).recordFault
        causePeEn s.pe.state).put Obj.nodeState 0 := by
      have goes : ¬ (s.pe.state = peHold ∨ s.pe.state = peDisabled) := by simp [hold, disabled]
      have quiet : (s.setPe { s.pe with peEn := false, enLow := some (s.pe.enLow.getD s.pe.tick) }).endLimit.gatesOff =
          s.setPe { s.pe.gatesOff with peEn := false, enLow := some s.pe.tick } := by
        rw [fresh]
        exact State.gatesOff_setPe limit untested
      rw [peEnLow, if_pos alive, State.disable]
      dsimp only
      have recorded : (s.setPe { s.pe.gatesOff with peEn := false, enLow := some s.pe.tick, state := peDisabled }).feedGood 1 = true := good
      rw [if_neg goes, quiet, fresh, State.setPe_setPe, if_pos ⟨rfl, .inl recorded⟩]
      refine State.pgoodFall_off ?_ ?_
      · rw [State.recordFault, State.putBlob_rst]
        exact off
      · rw [State.recordFault, State.putBlob_pe]
        exact low
    have off' : OnlyChanges [Obj.nodeState] [.pe] s (s.setPe
      { s.pe.gatesOff with peEn := false, enLow := some s.pe.tick, state := peDisabled }) := .setPe s _ _ (by decide)
    have entry : (s.setPe { s.pe.gatesOff with peEn := false, enLow := some s.pe.tick, state := peDisabled }).pe =
      { s.pe.gatesOff with peEn := false, enLow := some s.pe.tick, state := peDisabled } := rfl
    generalize s.setPe { s.pe.gatesOff with peEn := false, enLow := some s.pe.tick, state := peDisabled } = t at step off' entry
    obtain ⟨cause, before⟩ := t.recordFault_bits (cause := causePeEn) (show s.pe.state < 256 by omega) (by decide)
    refine Does.ofPower rfl step ⟨State.put_obj_same .., entry, ?_, ?_, fun k hk => ?_⟩
      (((off'.mono (by decide) (by decide)).trans (.recordFault _ _ _ (by decide))).trans (.put _ _ _ (by decide)))
    · rw [State.put_blob, cause]
    · rw [State.put_blob, before]
    · rw [State.put_blob, State.recordFault_blob hk, State.blob, off'.2 .blobs (by decide)]
      rfl
  · have step : peEnHigh s n = s.setPe { s.pe with peEn := true, enLow := none, latched := false, state := peInsert, retryAt := none } := by
      have clear : (s.pe.latched && decide (n / 1000 < 10)) = false := by
        rw [decide_eq_false (by omega), Bool.and_false]
      simp only [peEnHigh, alive, if_true, State.enable, clear]
      exact if_pos disabled
    exact Does.ofPower rfl step rfl (.setPe s _ _ (by decide))
  · have step : insertDelayExpiry s = (s.waitTick (q + max 1 (s.peCfg Obj.insertDelay * 1000))).startRamp [1] := by
      have due : ([1, 2].filter (fun n => s.feedGood n)).filterMap
          (fun n => (s.feed n).goodSince.map (· + max 1 (s.peCfg Obj.insertDelay * 1000))) =
            [q + max 1 (s.peCfg Obj.insertDelay * 1000)] := by
        have one : (s.feed 1).goodSince = some q := since
        simp [good, other, one]
      have feeds : (s.waitTick (q + max 1 (s.peCfg Obj.insertDelay * 1000))).rampFeeds true = [1] := State.rampFeeds_first good other fun _ => by
        have kept : (s.waitTick (q + max 1 (s.peCfg Obj.insertDelay * 1000))).pe.feed1.goodSince = some q := since
        rw [kept]
        exact decide_eq_true (le_max_right ..)
      simp only [insertDelayExpiry, due, List.min?_singleton, if_pos st, feeds]
    exact Does.rampStart rfl step rfl off ⟨rfl, State.put_obj_same ..⟩
  · have step : retryTimeExpiry s = (s.waitTick q).startRamp [1] := by
      have feeds : (s.waitTick q).rampFeeds false = [1] := State.rampFeeds_first good other (by simp)
      have passed : (s.waitTick q).pe.retryAt.any (fun r => r ≤ (s.waitTick q).pe.tick) = true := by
        simp [State.waitTick, State.setPe, due]
      have here : (s.waitTick q).pe.state = peTripped := st
      simp only [retryTimeExpiry, due, if_pos st, State.mayRamp, here, feeds, passed]
      rfl
    exact Does.rampStart rfl step rfl off ⟨rfl, State.put_obj_same ..⟩
  · have step : rampComplete s = s.fullyOn := (rampComplete_ramp st ramp).trans (congrArg State.fullyOn (if_pos whole))
    exact Does.ofPower rfl step rfl (.setPe s _ _ (by decide))
  · have step : rampComplete s = (s.rampWhole p).fullyOn := (rampComplete_ramp st ramp).trans (congrArg State.fullyOn (if_neg (by simp [whole])))
    obtain ⟨length, charge, energy, limit⟩ := State.copyMeasures_obj (s.setPe { s.pe with
      ramp := some { p with whole := some (s.pe.tick - p.start) }, lastCharge := p.charge / 1000 % 2 ^ 32,
      lastEnergy := p.energy / 10 ^ 9 % 2 ^ 32, lastLength := (s.pe.tick - p.start) % 2 ^ 32 })
    exact Does.ofPower rfl step ⟨rfl, length, charge, energy, limit⟩
      (((OnlyChanges.setPe s _ _ (by decide)).trans (.copyMeasures _ _)).trans (.setPe _ _ _ (by decide)))
  · have step : retryCountReset s = (s.setPe { s.pe with tick := max s.pe.tick (s.pe.pgoodSince + 10000000), retryCount := 0 }).put
        Obj.retryCount 0 := by
      simp only [retryCountReset, if_pos high, show 10 * secTicks = 10000000 by decide]
      rfl
    exact Does.ofPower rfl step ⟨rfl, State.put_obj_same ..⟩ ((OnlyChanges.setPe s _ _ (by decide)).trans (.put _ _ _ (by decide)))
  · have step : hkDomainReset s = ((s.setPe s.pe.gatesOff).put Obj.nodeState 0).setPe (.unpowered s.pe.tick) := by
      rw [hkDomainReset, State.gatesOff_untested untested, State.pgoodFall_off (s := s.setPe s.pe.gatesOff) off low]
      rfl
    exact Does.ofPower rfl step ⟨(s.setPe s.pe.gatesOff).put_obj_same Obj.nodeState 0, rfl, rfl, rfl, rfl, rfl, rfl, rfl, rfl, rfl, rfl, rfl, rfl⟩
      (((OnlyChanges.setPe s _ _ (by decide)).trans (.put _ _ _ (by decide))).trans (.setPe _ _ _ (by decide)))
  · have step : hkDomainCleanStart s n = { s with
        pe := { s.pe with alive := true, state := peOff }, tb := { s.tb with rtcTime := s.tb.rtcTime + n * 1000000000 / 32768 },
        rst := { s.rst with onVbat := false, standby := false, wokenBy := none } } := by
      rw [hkDomainCleanStart, dead]
      rfl
    refine Does.ofPower rfl step ⟨rfl, rfl, rfl⟩ (.ofParts rfl fun p hp => ?_)
    cases p <;> first | rfl | exact absurd (by decide) hp

end Sys2Proof.Machine
end

section
/-! SUPPORT. The refutations of O55, O56 and O58. A fault of R15 that waits for another to close is not closed by the return of its feed, and
while RST_N is low the core does not start when power-good rises (R17, log entry 142). -/
namespace Sys2Proof.Machine

/-- What settles with core power has told status objects; a command that leaves the core without power and them untold therefore leads to
its own result alone. -/
theorem Leads.dark {i : Instr} {s v : State} {post : State → Prop} (h : Leads i s post) (meaning : exec i s = .next (settle s v))
    (off : v.rst.coreOn = false) (untold : v.obj Obj.holder ≠ v.holderNow) : post v := by
  obtain ⟨u, he, hp⟩ := h
  have same : settle s u = v := (Host.Outcome.next.inj (he.symm.trans meaning)).trans (settle_off s off)
  cases on : u.rst.coreOn with
  | false => exact (settle_off s on).symm.trans same ▸ hp
  | true =>
    obtain ⟨t, ht⟩ := settle_refreshes s on
    have told : (settle s u).Told := ht ▸ t.refreshStatus_told.trackRaise s
    obtain ⟨-, holder, -⟩ := same ▸ told
    exact absurd holder untold

/-! ## O55 -/

/-- A node without core power whose first feed is good again; the fault of that feed waits for another to close. The holder that it shows is
long gone. -/
def waitingFault : State :=
  let t := State.reset.put Obj.holder 5
  { t with rst := { t.rst with coreOn := false }
           pe := { t.pe with feed1 := { goodSince := some 0, lasting := true } }
           vgOpen := [{ entry := { index := 0x7810, sub := 0x0D, inst := 1 }, untilClosed := [1] }] }

/-- Refutes O55: the fault of `waitingFault` stays open. -/
theorem not_powerEntryPaths : ¬ Obligations.PowerEntryPaths := by
  rintro ⟨-, -, -, -, -, -, -, -, -, -, -, closes, -⟩
  have told := closes waitingFault 0 0 _ (by decide) (by decide) rfl (by decide) (by decide) (by decide)
  obtain ⟨closed, -⟩ := told.dark (v := feedFaultClose waitingFault 1) rfl (by decide) (by decide)
  exact absurd closed (by decide)

/-! ## O56 and O58 -/

/-- A node whose core has no power while RST_N is low, ready for power-good to rise; the holder that it shows is long gone. -/
def heldInReset (standby : Bool) : State :=
  let t := State.reset.put Obj.holder 5
  { t with rst := { t.rst with starting := none, coreOn := false, lowUntil := 10 ^ 9, standby := standby }
           pe := { t.pe with tick := 10 ^ 8, state := if standby then peOn else peSettle, pgood := false } }

/-- Refutes O56: at the end of the settle time the core of `heldInReset` stays without power. -/
theorem not_resetKinds : ¬ Obligations.ResetKinds := by
  rintro ⟨-, -, -, -, settles, -⟩
  have told := settles (heldInReset false) _ (by decide) (by decide) (by decide) (by decide) (by decide) (by decide) (by decide) (by decide) rfl
  obtain ⟨-, -, -, -, -, -, -, on, -⟩ := told.dark (v := settleExpiry (heldInReset false)) rfl (by decide) (by decide)
  exact absurd on (by decide)

/-- Refutes O58: WAKE_N ends STANDBY at `heldInReset`, whose core stays without power. -/
theorem not_powerStates : ¬ Obligations.PowerStates := by
  rintro ⟨-, -, -, -, -, wakes, -⟩
  have told := wakes (heldInReset true) (by decide) (by decide) (by decide) (by decide) (by decide) (by decide) (by decide) (by decide) (by decide)
  obtain ⟨-, on, -⟩ := told.dark (v := wakeN (heldInReset true)) rfl (by decide) (by decide)
  exact absurd on (by decide)

end Sys2Proof.Machine
end

section
/-! SUPPORT. What the fall of the core supplies keeps, and the settlement of O54. -/
namespace Sys2Proof.Machine

/-! ## The reset of the core -/

/-- A store of which only some keys are kept. -/
theorem sparseGet_filter {α : Type} (d : Nat → α) (p : Nat → Bool) (k : Nat) : ∀ l : List (Nat × α),
    sparseGet d (l.filter (fun e => p e.1)) k = if p k then sparseGet d l k else d k
  | [] => by simp [sparseGet]
  | (i, v) :: r => by
    have rest := sparseGet_filter d p k r
    by_cases h : p i = true
    · simp only [List.filter_cons, h, if_true, sparseGet, rest]
      by_cases e : k = i
      · simp [e, h]
      · simp [e]
    · simp only [List.filter_cons, h, sparseGet]
      by_cases e : k = i
      · subst e
        simpa [h] using rest
      · simpa [e] using rest

section Frames
variable {ks : List Nat} {ps : List Part}

theorem OnlyChanges.account (s : State) (n t : Nat) (h : Part.fc ∈ ps) : OnlyChanges ks ps s (s.account n t) :=
  .ite (.refl ks ps s) (.ite (.setCell s _ _ h) (.setCell s _ _ h))

theorem OnlyChanges.cellsReleased (s : State) (h : Part.fc ∈ ps) : OnlyChanges ks ps s s.cellsReleased :=
  (OnlyChanges.foldl (fun t n => (OnlyChanges.account t n _ h).trans (.setCell _ _ _ h)) _ _).trans (.setFc _ _ h)

theorem OnlyChanges.startWrites (h : Part.acc ∈ ps) : ∀ (n : Nat) (s : State), OnlyChanges ks ps s (State.startWrites n s)
  | 0, s => .refl ks ps s
  | n + 1, s => by
    rw [State.startWrites]
    split
    · exact .refl ks ps s
    · exact .ite (.refl ks ps s) ((OnlyChanges.setAcc s _ h).trans (OnlyChanges.startWrites h n _))

theorem OnlyChanges.setMram (s : State) (d : Nat) (m : MramDevice) (h : Part.acc ∈ ps) : OnlyChanges ks ps s (s.setMram d m) :=
  .ite (.setAcc s _ h) (.setAcc s _ h)

theorem OnlyChanges.tookFree (s : State) (h : Part.free ∈ ps) : OnlyChanges ks ps s s.tookFree :=
  .ofParts rfl fun p hp => by cases p <;> first | rfl | exact absurd h hp

theorem OnlyChanges.tornRecord (s : State) (l : List Nat) (ring : Nat) (r : JRecord) (h : Part.acc ∈ ps) (g : Part.free ∈ ps) :
    OnlyChanges ks ps s (s.tornRecord l ring r) :=
  .foldl (fun t d => (OnlyChanges.setMram t d _ h).trans (.tookFree _ g)) _ _

end Frames

/-- The node as a reset of its core finds it: the cells are released, and the writes under way to the journal end torn. -/
def State.stopped (s : State) : State :=
  let t := State.startWrites 4 s.cellsReleased
  forEach t.inFlight (fun t x => t.tornRecord t.mramsUp x.ring x.record) t

theorem OnlyChanges.stopped (s : State) : OnlyChanges [] [.fc, .acc, .free] s s.stopped :=
  ((OnlyChanges.cellsReleased s (by decide)).trans (.startWrites (by decide) _ _)).trans
    (.foldl (fun t x => .tornRecord t _ _ _ (by decide) (by decide)) _ _)

/-- A reset of the core up to the objects that follow its kind. -/
theorem State.coreReset_cases (s : State) (kind : Nat) : ∃ (base : State) (retired : Nat),
    (base.objs = s.stopped.objs.filter (fun e => keepObj kind e.1) ∧ base.pe = s.stopped.pe ∧
      base.dram = (if keepsDram kind then s.stopped.dram else [])) ∧
    (s.coreReset kind = base.put Obj.cellsRetired retired ∨
      s.coreReset kind = (base.put Obj.cellsRetired retired).setFlag Obj.faultSummary fsDebugBroke true) := by
  by_cases broke : (decide (kind ≠ 1) && s.flag Obj.faultSummary fsDebugBroke) = true
  · refine ⟨_, _, ?_, .inr (if_pos broke)⟩
    exact ⟨rfl, rfl, rfl⟩
  · refine ⟨_, _, ?_, .inl (if_neg broke)⟩
    exact ⟨rfl, rfl, rfl⟩

/-- What a reset of the core keeps of the dictionary's numbers. -/
theorem State.coreReset_obj (s : State) (kind : Nat) {k : Nat} (h : k ≠ Obj.cellsRetired) (g : k ≠ Obj.faultSummary) :
    (s.coreReset kind).obj k = if keepObj kind k then s.obj k else scalarDefault k := by
  obtain ⟨base, retired, ⟨objs, -, -⟩, e⟩ := s.coreReset_cases kind
  have kept : base.obj k = if keepObj kind k then s.obj k else scalarDefault k := by
    rw [State.obj, objs, sparseGet_filter, ← (OnlyChanges.stopped s).obj (k := k) (by simp)]
    rfl
  rcases e with e | e
  · rw [e, State.put_obj_other _ _ h, kept]
  · rw [e, State.setFlag, State.put_obj_other _ _ g, State.put_obj_other _ _ h, kept]

/-- The power entry runs on, and DRAM keeps its content where the kind holds it in self-refresh. -/
theorem State.coreReset_outside (s : State) (kind : Nat) :
    (s.coreReset kind).pe = s.pe ∧ (s.coreReset kind).dram = if keepsDram kind then s.dram else [] := by
  obtain ⟨base, retired, ⟨-, pe, dram⟩, e⟩ := s.coreReset_cases kind
  have kept := OnlyChanges.stopped s
  rw [kept.2 .pe (by decide)] at pe
  rw [kept.2 .dram (by decide)] at dram
  rcases e with e | e <;> rw [e] <;> exact ⟨pe, dram⟩

/-! ## A trip -/

/-- Whether a trip after the retries of `s` latches (R391). -/
def State.latches (s : State) : Bool :=
  let n := s.pe.retryCount + 1
  s.peCfg Obj.retryLimit = 0 || (s.peCfg Obj.retryLimit ≠ 255 && s.peCfg Obj.retryLimit < n)

/-- The power entry after a trip, with power-good as it was. -/
def State.tripped (s : State) (p : PowerState) : PowerState :=
  { p.gatesOff with
    retryCount := s.pe.retryCount + 1, latched := s.latches, state := if s.latches then peLatched else peTripped,
    retryAt := if s.latches then none else some (p.tick + s.peCfg Obj.retryTime * 1000) }

/-- A trip up to the fall of power-good. -/
def State.tripCounted (s : State) (cause : Nat) : State :=
  ((s.endLimit.setPe (s.tripped s.endLimit.pe)).recordFault cause s.pe.state).bump Obj.trips

theorem OnlyChanges.endLimit {ks : List Nat} {ps : List Part} (s : State) (h : Obj.lastLimitMj ∈ ks ∨ s.pe.state ≠ peLimit)
    (g : Part.pe ∈ ps) : OnlyChanges ks ps s s.endLimit := by
  rcases h with h | h
  · exact .ite ((OnlyChanges.put s _ ps h).trans (.setPe _ _ _ g)) (.refl ks ps s)
  · exact (State.endLimit_other h).symm ▸ .refl ks ps s

theorem OnlyChanges.tripCounted {ks : List Nat} {ps : List Part} (s : State) (cause : Nat)
    (h : Obj.lastLimitMj ∈ ks ∨ s.pe.state ≠ peLimit) (g : Obj.trips ∈ ks) (hp : Part.pe ∈ ps) (hb : Part.blobs ∈ ps) :
    OnlyChanges ks ps s (s.tripCounted cause) :=
  (((OnlyChanges.endLimit s h hp).trans (.setPe _ _ _ hp)).trans (.recordFault _ _ _ hb)).trans (.bump _ _ g)

theorem State.endLimit_limit {s : State} (h : s.pe.state = peLimit) : s.endLimit =
    (s.put Obj.lastLimitMj (s.pe.limitEnergy / 10 ^ 9 % 2 ^ 32)).setPe
      { s.pe with limitEnergy := 0, lastLimit := s.pe.limitEnergy / 10 ^ 9 % 2 ^ 32 } := if_pos h

/-- The end of a limiting interval ends no feed test and leaves power-good as it is. -/
theorem State.endLimit_kept (s : State) : s.endLimit.pe.test = s.pe.test ∧ s.endLimit.pe.pgood = s.pe.pgood :=
  ⟨ite_proj (fun t : State => t.pe.test) rfl rfl, ite_proj (fun t : State => t.pe.pgood) rfl rfl⟩

/-- The gates go off, in a feed test after its result is INCOMPLETE. -/
theorem State.trip_untested {s : State} (cause : Nat) (untested : s.pe.test = none) :
    s.trip cause = ((s.tripCounted cause).pgoodFall).peLog cause := by
  rw [State.trip, State.gatesOff_untested (s.endLimit_kept.1.trans untested)]
  rfl

theorem State.recordFault_rst (s : State) (cause before : Nat) : (s.recordFault cause before).rst = s.rst := by
  rw [State.recordFault, State.putBlob_rst]

theorem State.recordFault_pe (s : State) (cause before : Nat) : (s.recordFault cause before).pe = s.pe := by
  rw [State.recordFault, State.putBlob_pe]

theorem State.tripCounted_pe (s : State) (cause : Nat) : (s.tripCounted cause).pe = s.tripped s.endLimit.pe := by
  rw [State.tripCounted, State.bump_pe, State.recordFault_pe]
  rfl

theorem State.tripCounted_rst (s : State) (cause : Nat) : (s.tripCounted cause).rst = s.rst := by
  rw [State.tripCounted, State.bump_rst, State.recordFault_rst]
  exact ite_proj (fun t : State => t.rst) rfl rfl

/-- What a trip is: its count and its record. -/
theorem State.tripCounted_facts (s : State) {cause : Nat} (st : s.pe.state < 256) (c : cause < 256) :
    (s.tripCounted cause).obj Obj.trips = (s.obj Obj.trips + 1) % 2 ^ 32 ∧
      bits (leVal ((s.tripCounted cause).blob Obj.peLastFault)) 31 24 = cause ∧
        ∀ k, k ≠ Obj.peLastFault → (s.tripCounted cause).blob k = s.blob k := by
  have limit : OnlyChanges [Obj.lastLimitMj] [.pe] s s.endLimit := .endLimit s (.inl (by decide)) (by decide)
  have entry := limit.trans (.setPe _ (s.tripped s.endLimit.pe) _ (by decide))
  have blobs := entry.2 .blobs (by decide)
  rw [State.tripCounted]
  generalize s.endLimit.setPe (s.tripped s.endLimit.pe) = t at entry blobs
  have recorded : OnlyChanges [] [.blobs] t (t.recordFault cause s.pe.state) := .recordFault t _ _ (by decide)
  refine ⟨?_, ?_, fun k hk => ?_⟩
  · rw [State.bump_obj, if_pos rfl, recorded.obj (by decide), entry.obj (by decide)]
  · exact (t.recordFault_bits st c).1
  · show (t.recordFault cause s.pe.state).blob k = s.blob k
    rw [State.recordFault_blob hk]
    exact congrArg (fun b => sparseGet bytesDefault b k) blobs

/-! ## A trip without core power -/

/-- The trip is logged in the head alone. -/
theorem State.trip_off {s : State} (cause : Nat) (off : s.rst.coreOn = false) (low : s.pe.pgood = false) (untested : s.pe.test = none) :
    s.trip cause = ((s.tripCounted cause).put Obj.nodeState 0).logHead { index := 0x7840, detail := cause } := by
  have dark : (s.tripCounted cause).rst.coreOn = false := s.tripCounted_rst cause ▸ off
  have down : (s.tripCounted cause).pe.pgood = false := by
    rw [State.tripCounted_pe]
    exact s.endLimit_kept.2.trans low
  rw [State.trip_untested cause untested, State.pgoodFall_off dark down, State.peLog, State.put_rst, dark]
  rfl

theorem OnlyChanges.logHead {ks : List Nat} {ps : List Part} (s : State) (e : VgEntry) (h : Obj.vgNextSeq ∈ ks) (g : Part.vgHead ∈ ps) :
    OnlyChanges ks ps s (s.logHead e) :=
  (OnlyChanges.put s _ ps h).trans (.ofParts rfl fun p hp => by cases p <;> first | rfl | exact absurd g hp)

theorem State.logHead_obj {s : State} {e : VgEntry} {k : Nat} (h : k ≠ Obj.vgNextSeq) : (s.logHead e).obj k = s.obj k :=
  State.put_obj_other _ _ h

theorem State.logHead_last (s : State) (e : VgEntry) :
    ((s.logHead e).vgHead.getLast?.map (fun e => (e.index, e.detail))) = some (e.index, e.detail) := by
  show ((lastN 32 (s.vgHead ++ [_])).getLast?.map _) = _
  rw [lastN, List.getLast?_drop]
  simp

/-- A trip of a node without core power, from the state `t` of its power entry. -/
theorem Does.tripOff {i : Instr} {s t : State} {cause : Nat} {ks : List Nat} {post : State → Prop}
    (h : exec i s = .next (settle s (t.trip cause))) (start : OnlyChanges [] [.pe] s t) (off : s.rst.coreOn = false) (low : t.pe.pgood = false)
    (untested : t.pe.test = none) (st : t.pe.state < 256) (c : cause < 256) (keys : ∀ k ∈ [Obj.trips, Obj.vgNextSeq, Obj.nodeState], k ∈ ks)
    (limit : Obj.lastLimitMj ∈ ks ∨ t.pe.state ≠ peLimit)
    (p : ∀ u : State, u.pe = t.tripped t.endLimit.pe → u.obj Obj.trips = (s.obj Obj.trips + 1) % 2 ^ 32 →
      bits (leVal (u.blob Obj.peLastFault)) 31 24 = cause → (∀ k, k ≠ Obj.peLastFault → u.blob k = s.blob k) →
      (u.vgHead.getLast?.map (fun e => (e.index, e.detail))) = some (0x7840, cause) →
      u.obj Obj.lastLimitMj = t.endLimit.obj Obj.lastLimitMj → post u) : Does i s ks [.pe, .blobs, .vgHead] post := by
  have dark : t.rst.coreOn = false := (congrArg ResetState.coreOn (start.2 .rst (by decide))).trans off
  obtain ⟨trips, record, others⟩ := t.tripCounted_facts st c
  have counted : OnlyChanges ks [.pe, .blobs, .vgHead] t (t.tripCounted cause) := .tripCounted t cause limit (keys _ (by simp)) (by decide) (by decide)
  have last : (t.tripCounted cause).obj Obj.lastLimitMj = t.endLimit.obj Obj.lastLimitMj := by
    have recorded : OnlyChanges [Obj.trips] [.pe, .blobs] t.endLimit (t.tripCounted cause) :=
      ((OnlyChanges.setPe _ _ _ (by decide)).trans (.recordFault _ _ _ (by decide))).trans (.bump _ _ (by decide))
    exact recorded.obj (by decide)
  have pe := t.tripCounted_pe cause
  refine Does.ofPower h (State.trip_off cause dark low untested) ?_ ((start.mono (by simp) (by decide)).trans ((counted.trans
    (.put _ _ _ (keys _ (by simp)))).trans (.logHead _ _ (keys _ (by simp)) (by decide))))
  generalize t.tripCounted cause = w at trips record others last pe
  have kept : OnlyChanges [Obj.nodeState, Obj.vgNextSeq] [.vgHead] w ((w.put Obj.nodeState 0).logHead { index := 0x7840, detail := cause }) :=
    (OnlyChanges.put w _ _ (by decide)).trans (.logHead _ _ (by decide) (by decide))
  have blobs : ∀ k, ((w.put Obj.nodeState 0).logHead { index := 0x7840, detail := cause }).blob k = w.blob k := fun k =>
    congrArg (fun b => sparseGet bytesDefault b k) (kept.2 .blobs (by decide))
  refine p _ pe ?_ ?_ (fun k hk => ?_) (State.logHead_last ..) ?_
  · rw [kept.obj (by decide), trips, start.obj (by simp)]
  · rw [blobs, record]
  · rw [blobs, others k hk]
    exact congrArg (fun b => sparseGet bytesDefault b k) (start.2 .blobs (by decide))
  · rw [kept.obj (by decide), last]

/-! ## O54 -/

theorem State.latches_retry {s : State} (h : s.peCfg Obj.retryLimit = 255 ∨ s.pe.retryCount + 1 ≤ s.peCfg Obj.retryLimit) : s.latches = false := by
  simp only [State.latches, Bool.or_eq_false_iff, Bool.and_eq_false_iff, decide_eq_false_iff_not]
  omega

theorem State.latches_over {s : State} (h : s.peCfg Obj.retryLimit ≠ 255) (g : s.peCfg Obj.retryLimit ≤ s.pe.retryCount) : s.latches = true := by
  simp only [State.latches, Bool.or_eq_true, Bool.and_eq_true, decide_eq_true_eq]
  omega

theorem State.tripped_retry {s : State} (h : s.latches = false) (p : PowerState) : s.tripped p = { p.gatesOff with
    retryCount := s.pe.retryCount + 1, latched := false, state := peTripped, retryAt := some (p.tick + s.peCfg Obj.retryTime * 1000) } := by
  rw [State.tripped, h]
  rfl

def State.atTick (s : State) (q : Nat) : State := s.setPe { s.pe with tick := q }

theorem State.waitTick_ahead (s : State) (n : Nat) : s.waitTick (s.pe.tick + n) = s.atTick (s.pe.tick + n) := by
  rw [State.waitTick, Nat.max_eq_right (Nat.le_add_right ..), State.atTick]

theorem peConducts_lt {st : Nat} (h : peConducts st = true) : st < 256 := by
  simp only [peConducts, Bool.or_eq_true, beq_iff_eq, peRamp, peSettle, peOn, peLimit] at h
  omega

/-! ## A trip with core power -/

def State.setRst (s : State) (r : ResetState) : State := { s with rst := r }

theorem State.setPe_obj (s : State) (p : PowerState) (k : Nat) : (s.setPe p).obj k = s.obj k := rfl

theorem OnlyChanges.setRst {ks : List Nat} {ps : List Part} (s : State) (r : ResetState) (h : Part.rst ∈ ps) :
    OnlyChanges ks ps s (s.setRst r) := .ofParts rfl fun p hp => by cases p <;> first | rfl | exact absurd h hp

/-- A trip from ON up to the fall of power-good; a feed test ends INCOMPLETE. -/
theorem State.trip_on {s : State} (cause : Nat) (st : s.pe.state = peOn) : ∃ w : State, s.trip cause = w.pgoodFall.peLog cause ∧
    OnlyChanges [Obj.testResult, Obj.trips] [.pe, .blobs] s w ∧ w.obj Obj.trips = (s.obj Obj.trips + 1) % 2 ^ 32 ∧
      w.pe.on1 = false ∧ w.pe.on2 = false ∧ w.pe.gateFull = false := by
  have gates : OnlyChanges [Obj.testResult] [.pe] s s.gatesOff :=
    (OnlyChanges.ite (c := s.pe.test.isSome = true) (.put s _ _ (by decide)) (.refl _ _ s)).trans
      ((OnlyChanges.setPe _ _ _ (by decide)).trans (.setPe _ _ _ (by decide)))
  have off : s.gatesOff.pe.on1 = false ∧ s.gatesOff.pe.on2 = false ∧ s.gatesOff.pe.gateFull = false := ⟨rfl, rfl, rfl⟩
  have other : s.endLimit = s := State.endLimit_other (by rw [st]; decide)
  rw [State.trip, other]
  dsimp only
  generalize s.gatesOff = t at gates off
  refine ⟨_, rfl, ?_, ?_, off⟩
  · exact ((gates.mono (by decide) (by decide)).trans (.setPe _ _ _ (by decide))).trans
      ((OnlyChanges.recordFault _ _ _ (by decide)).trans (.bump _ _ (by decide)))
  · rw [State.bump_obj, if_pos rfl, (OnlyChanges.recordFault (ks := []) (ps := [.blobs]) _ _ _ (by decide)).obj (by decide),
      State.setPe_obj, gates.obj (by decide)]


/-- The core supplies fall outside STANDBY, and the trip is logged in the head. -/
theorem State.pgoodFall_on {s : State} (on : s.rst.coreOn = true) (awake : s.rst.standby = false) (cause : Nat) :
    ∃ u : State, s.pgoodFall.peLog cause = ((u.put Obj.nodeState 0).setRst { u.rst with coreOn := false, offTick := s.pe.tick }).logHead
      { index := 0x7840, detail := cause } ∧ u = (s.setPe { s.pe with pgood := false }).coreReset 1 := by
  have powered : (s.setPe { s.pe with pgood := false }).rst.coreOn = true := on
  have wake : (s.setPe { s.pe with pgood := false }).rst.standby = false := awake
  refine ⟨_, ?_, rfl⟩
  rw [State.pgoodFall, State.coreDown, powered, wake]
  rfl

/-- Settles O54: without core power by what a trip counts, records and logs, with it by what the reset of the core keeps. -/
theorem powerEntryTrips : Obligations.PowerEntryTrips := by
  refine ⟨fun s off low other untested conducts retries => ?_, fun s off low other untested conducts limited past => ?_,
    fun s high on standby st => ?_, fun s p off low other untested st ramp retries => ?_, fun s off low st untested retries => ?_⟩
  · have step : exec .shortTrip s = .next (settle s (s.trip causeShort)) :=
      congrArg (fun t => Host.Outcome.next (settle s t)) (if_pos conducts)
    refine Does.tripOff step (.refl _ _ s) off low untested (peConducts_lt conducts) (by decide) (by decide) (.inr other)
      fun u pe trips record others log _ => ⟨?_, trips, record, others, log⟩
    rw [pe, State.tripped_retry (State.latches_retry retries), State.endLimit_other other]
    rfl
  · have step : exec .shortTrip s = .next (settle s (s.trip causeShort)) :=
      congrArg (fun t => Host.Outcome.next (settle s t)) (if_pos conducts)
    refine Does.tripOff step (.refl _ _ s) off low untested (peConducts_lt conducts) (by decide) (by decide) (.inr other)
      fun u pe _ _ _ _ _ => ?_
    rw [pe, State.tripped, State.latches_over limited past]
    exact ⟨rfl, rfl, rfl, rfl, rfl, rfl, rfl⟩
  · have conducts : peConducts s.pe.state = true := by rw [st]; rfl
    have step : exec .shortTrip s = .next (settle s (s.trip causeShort)) :=
      congrArg (fun t => Host.Outcome.next (settle s t)) (if_pos conducts)
    obtain ⟨w, trips', change, trips, on1, on2, gate⟩ := State.trip_on causeShort st
    obtain ⟨u, fall, reset⟩ := State.pgoodFall_on (s := w) ((congrArg ResetState.coreOn (change.2 .rst (by decide))).trans on)
      ((congrArg ResetState.standby (change.2 .rst (by decide))).trans standby) causeShort
    obtain ⟨pe, dram⟩ := (w.setPe { w.pe with pgood := false }).coreReset_outside 1
    have objs : ∀ k, k ≠ Obj.cellsRetired → k ≠ Obj.faultSummary → u.obj k = if keepObj 1 k then w.obj k else scalarDefault k := fun k h g => by
      rw [reset, State.coreReset_obj _ _ h g]
      rfl
    rw [← reset] at pe dram
    have dark : OnlyChanges [Obj.nodeState, Obj.vgNextSeq] [.rst, .vgHead] u (((u.put Obj.nodeState 0).setRst
        { u.rst with coreOn := false, offTick := w.pe.tick }).logHead { index := 0x7840, detail := causeShort }) :=
      ((OnlyChanges.put u _ _ (by decide)).trans (.setRst _ _ (by decide))).trans (.logHead _ _ (by decide) (by decide))
    refine ⟨_, step.trans (by rw [trips', fall]), ?_⟩
    have state : (((u.put Obj.nodeState 0).setRst { u.rst with coreOn := false, offTick := w.pe.tick }).logHead
        { index := 0x7840, detail := causeShort }).obj Obj.nodeState = 0 := by
      rw [State.logHead_obj (by decide)]
      exact u.put_obj_same Obj.nodeState 0
    have core : (((u.put Obj.nodeState 0).setRst { u.rst with coreOn := false, offTick := w.pe.tick }).logHead
        { index := 0x7840, detail := causeShort }).rst.coreOn = false := rfl
    generalize ((u.put Obj.nodeState 0).setRst { u.rst with coreOn := false, offTick := w.pe.tick }).logHead
      { index := 0x7840, detail := causeShort } = x at dark state core
    have pe' : x.pe = { w.pe with pgood := false } := (dark.2 .pe (by decide)).trans pe
    refine ⟨?_, ?_, ?_, ?_, core, state, fun k hk => ?_, (dark.2 .dram (by decide)).trans dram, ?_⟩
    · rw [pe']
    · rw [pe', on1]
    · rw [pe', on2]
    · rw [pe', gate]
    · simp only [List.mem_cons, List.not_mem_nil, or_false, not_or] at hk
      obtain ⟨h1, h2, h3, h4, h5⟩ := hk
      rw [dark.obj (by simp [h1, h5]), objs k h2 h3]
      by_cases result : k = Obj.testResult
      · subst result
        rfl
      · rw [change.obj (by simp [result, h4])]
    · rw [dark.obj (by decide), objs _ (by decide) (by decide), trips]
      rfl
  · have step : exec .rampTimeout s = .next (settle s ((s.waitTick (p.start + s.peCfg Obj.rampLimit * 1000)).trip causeRampTimeout)) := by
      have timed : rampTimeout s = (s.waitTick (p.start + s.peCfg Obj.rampLimit * 1000)).trip causeRampTimeout := by
        simp only [rampTimeout, ramp]
        exact if_pos (.inl st)
      exact congrArg (fun t => Host.Outcome.next (settle s t)) timed
    refine Does.tripOff step (.setPe s _ _ (by decide)) off low untested (show s.pe.state < 256 by rw [st]; decide) (by decide) (by decide)
      (.inr other) fun u pe trips record others log _ => ⟨?_, trips, record, others, log⟩
    rw [pe, State.tripped_retry (State.latches_retry (s := s.waitTick _) retries), State.endLimit_other (s := s.waitTick _) other]
    rfl
  · have step : exec .faultTimeExpiry s = .next (settle s
        ((s.atTick (s.pe.tick + (s.peCfg Obj.faultTime - s.pe.faultTimer))).trip causeOvercurrent)) :=
      congrArg (fun t => Host.Outcome.next (settle s t)) ((if_pos st).trans (by rw [State.waitTick_ahead]))
    generalize s.pe.tick + (s.peCfg Obj.faultTime - s.pe.faultTimer) = q at step ⊢
    have limiting : (s.atTick q).pe.state = peLimit := st
    have retry : (s.atTick q).latches = false := State.latches_retry (s := s) retries
    refine Does.tripOff step (.setPe s _ _ (by decide)) off low untested (show s.pe.state < 256 by rw [st]; decide) (by decide) (by decide)
      (.inl (by decide)) fun u pe trips record others log last => ⟨?_, trips, record, others, log, ?_⟩
    · rw [pe, State.tripped_retry retry, State.endLimit_limit limiting]
      rfl
    · rw [last, State.endLimit_limit limiting]
      exact State.put_obj_same ..

end Sys2Proof.Machine
end

section
/-! SUPPORT. The boot record, and the settlement of O59. -/
namespace Sys2Proof.Machine

/-! ## The boot record -/

/-- The next sequence number is newer than the one it follows, and not the other way round. -/
theorem seqNewer_next (a : Nat) : seqNewer (seqNext a) a = true ∧ seqNewer a (seqNext a) = false := by
  have apart : a ≠ seqNext a := by simp only [seqNext]; omega
  have ahead : seqSub (seqNext a) a = 1 := by simp only [seqSub, seqNext]; omega
  have behind : seqSub a (seqNext a) = 2 ^ 32 - 1 := by simp only [seqSub, seqNext]; omega
  simp [seqNewer, ahead, behind, apart.symm]

section Frames
variable {ks : List Nat} {ps : List Part}

theorem OnlyChanges.setFw (s : State) (x : FwState) (h : Part.fw ∈ ps) : OnlyChanges ks ps s { s with fw := x } :=
  .ofParts rfl fun p hp => by cases p <;> first | rfl | exact absurd h hp

theorem OnlyChanges.setImage (s : State) (n : Nat) (i : SlotImage) (h : Part.fw ∈ ps) : OnlyChanges ks ps s (s.setImage n i) :=
  .ite (.setFw s _ h) (.setFw s _ h)

theorem OnlyChanges.refreshSlot (s : State) (n : Nat) (hn : n ≤ 1) (h : ∀ k ∈ bootKeys, k ∈ ks) (g : Part.blobs ∈ ps) :
    OnlyChanges ks ps s (s.refreshSlot n) := by
  have keys : ∀ k ∈ [Obj.slotState n, Obj.imgVersion n, Obj.imgDictRev n, Obj.imgConfigFormat n, Obj.imgLength n, Obj.imgKeyId n,
      Obj.imgWritten n], k ∈ ks := fun k hk => h k (by
    rw [bootKeys]
    exact List.mem_append_right _ (List.mem_flatMap.mpr ⟨n, by simp; omega, hk⟩))
  have put : ∀ (t : State) (k v : Nat), k ∈ [Obj.slotState n, Obj.imgVersion n, Obj.imgDictRev n, Obj.imgConfigFormat n, Obj.imgLength n,
      Obj.imgKeyId n, Obj.imgWritten n] → OnlyChanges ks ps t (t.put k v) := fun t k v hk => .put t v ps (keys k hk)
  exact (((((((put s _ _ (by simp)).trans (put _ _ _ (by simp))).trans (put _ _ _ (by simp))).trans (put _ _ _ (by simp))).trans
    (put _ _ _ (by simp))).trans (put _ _ _ (by simp))).trans (put _ _ _ (by simp))).trans (.putBlob _ _ _ _ g)

theorem OnlyChanges.refreshBoot (s : State) (h : ∀ k ∈ bootKeys, k ∈ ks) (g : Part.blobs ∈ ps) : OnlyChanges ks ps s s.refreshBoot := by
  have put : ∀ (t : State) (k v : Nat), k ∈ bootKeys → OnlyChanges ks ps t (t.put k v) := fun t k v hk => .put t v ps (h k hk)
  exact ((((((put s _ _ (by decide)).trans (put _ _ _ (by decide))).trans (put _ _ _ (by decide))).trans (put _ _ _ (by decide))).trans
    (put _ _ _ (by decide))).trans (put _ _ _ (by decide))).trans
      ((OnlyChanges.refreshSlot _ 0 (by decide) h g).trans (.refreshSlot _ 1 (by decide) h g))

end Frames

theorem State.refreshSlot_blob (s : State) (n k : Nat) (h : k ≠ Obj.imgHash n) : (s.refreshSlot n).blob k = s.blob k := by
  rw [State.refreshSlot, State.putBlob_blob, if_neg h]
  rfl

/-- The hashes of the slots are the only bytes that follow the boot record. -/
theorem State.refreshBoot_blob (s : State) {k : Nat} (h0 : k ≠ Obj.imgHash 0) (h1 : k ≠ Obj.imgHash 1) : s.refreshBoot.blob k = s.blob k := by
  rw [State.refreshBoot, State.refreshSlot_blob _ 1 k h1, State.refreshSlot_blob _ 0 k h0]
  rfl

/-- The firmware with both copies of the boot record. -/
def FwState.withBoot (f : FwState) (a b : Option BootRecord) : FwState := { f with boot0 := a, boot1 := b }

/-- A write of the boot record replaces its older copy, and reads back. -/
theorem State.writeBoot_cases (s : State) (r : BootRecord) : ∃ a b : Option BootRecord,
    s.writeBoot r = ({ s with fw := s.fw.withBoot a b } : State).refreshBoot ∧
      ({ s with fw := s.fw.withBoot a b } : State).boot = { r with seq := seqNext s.boot.seq } := by
  obtain ⟨newer, older⟩ := seqNewer_next s.boot.seq
  cases h0 : s.fw.boot0 with
  | none =>
    cases h1 : s.fw.boot1 with
    | none =>
      refine ⟨some { r with seq := seqNext s.boot.seq }, some { r with seq := seqNext s.boot.seq }, ?_, ?_⟩
      · simp only [State.writeBoot, h0, h1]
        rfl
      · exact ite_proj id rfl rfl
    | some b =>
      have now : s.boot = b := by simp only [State.boot, h0, h1]
      refine ⟨some { r with seq := seqNext s.boot.seq }, some b, ?_, ?_⟩
      · simp only [State.writeBoot, h0, h1]
        rfl
      · rw [now] at older ⊢
        exact if_neg (by simp [older])
  | some a =>
    cases h1 : s.fw.boot1 with
    | none =>
      have now : s.boot = a := by simp only [State.boot, h0, h1]
      refine ⟨some a, some { r with seq := seqNext s.boot.seq }, ?_, ?_⟩
      · simp only [State.writeBoot, h0, h1]
        rfl
      · rw [now] at newer ⊢
        exact if_pos newer
    | some b =>
      by_cases second : seqNewer b.seq a.seq = true
      · have now : s.boot = b := by simp only [State.boot, h0, h1, second, if_true]
        refine ⟨some { r with seq := seqNext s.boot.seq }, some b, ?_, ?_⟩
        · simp only [State.writeBoot, h0, h1, second, if_true]
          rfl
        · rw [now] at older ⊢
          exact if_neg (by simp [older])
      · have now : s.boot = a := by simp only [State.boot, h0, h1, if_neg second]
        refine ⟨some a, some { r with seq := seqNext s.boot.seq }, ?_, ?_⟩
        · simp only [State.writeBoot, h0, h1, if_neg second]
          rfl
        · rw [now] at newer ⊢
          exact if_pos newer

theorem State.writeBoot_boot (s : State) (r : BootRecord) : (s.writeBoot r).boot = { r with seq := seqNext s.boot.seq } := by
  obtain ⟨a, b, write, reads⟩ := s.writeBoot_cases r
  rw [write]
  exact reads

theorem State.writeBoot_fw (s : State) (r : BootRecord) : ∃ a b, (s.writeBoot r).fw = s.fw.withBoot a b := by
  obtain ⟨a, b, write, -⟩ := s.writeBoot_cases r
  exact ⟨a, b, write ▸ rfl⟩

theorem State.writeBoot_blob (s : State) (r : BootRecord) {k : Nat} (h0 : k ≠ Obj.imgHash 0) (h1 : k ≠ Obj.imgHash 1) :
    (s.writeBoot r).blob k = s.blob k := by
  obtain ⟨a, b, write, -⟩ := s.writeBoot_cases r
  rw [write, State.refreshBoot_blob _ h0 h1]
  rfl

theorem OnlyChanges.writeBoot {ks : List Nat} {ps : List Part} (s : State) (r : BootRecord) (h : ∀ k ∈ bootKeys, k ∈ ks) (f : Part.fw ∈ ps)
    (g : Part.blobs ∈ ps) : OnlyChanges ks ps s (s.writeBoot r) := by
  obtain ⟨a, b, write, -⟩ := s.writeBoot_cases r
  exact write ▸ (OnlyChanges.setFw s _ f).trans (.refreshBoot _ h g)

/-! ## The slots -/

@[simp] theorem BootRecord.setSlot_slotState (r : BootRecord) (n v : Nat) : (r.setSlot n v).slotState n = v := by
  by_cases h : n = 0 <;> simp [BootRecord.setSlot, BootRecord.slotState, h]

theorem State.putSlotState_slotState (s : State) (n v : Nat) : (s.putSlotState n v).boot.slotState n = v := by
  rw [State.putSlotState, State.writeBoot_boot]
  exact BootRecord.setSlot_slotState s.boot n v

theorem State.writeBoot_image (s : State) (r : BootRecord) (n : Nat) : (s.writeBoot r).image n = s.image n := by
  obtain ⟨a, b, fw⟩ := s.writeBoot_fw r
  rw [State.image, fw]
  rfl

theorem State.writeBoot_download (s : State) (r : BootRecord) : (s.writeBoot r).fw.download = s.fw.download := by
  obtain ⟨a, b, fw⟩ := s.writeBoot_fw r
  rw [fw]
  rfl

/-- A slot takes another state; its image and the open download stay. -/
theorem State.putSlotState_facts (s : State) (n v : Nat) : (s.putSlotState n v).boot.slotState n = v ∧
    (∀ m, (s.putSlotState n v).image m = s.image m) ∧ (s.putSlotState n v).fw.download = s.fw.download ∧
      (∀ k, k ≠ Obj.imgHash 0 → k ≠ Obj.imgHash 1 → (s.putSlotState n v).blob k = s.blob k) ∧
        OnlyChanges bootKeys [.fw, .blobs] s (s.putSlotState n v) :=
  ⟨s.putSlotState_slotState n v, s.writeBoot_image _, s.writeBoot_download _, fun _ h0 h1 => s.writeBoot_blob _ h0 h1,
    .writeBoot s _ (fun _ h => h) (by decide) (by decide)⟩

theorem State.setImage_image_same (s : State) (n : Nat) (i : SlotImage) : (s.setImage n i).image n = i := by
  by_cases h : n = 0 <;> simp [State.setImage, State.image, h]

theorem State.setImage_image_other (s : State) {n : Nat} (hn : n ≤ 1) (i : SlotImage) : (s.setImage n i).image (1 - n) = s.image (1 - n) := by
  rcases Nat.le_one_iff_eq_zero_or_eq_one.mp hn with rfl | rfl <;> rfl

theorem State.setImage_boot (s : State) (n : Nat) (i : SlotImage) : (s.setImage n i).boot = s.boot := ite_proj State.boot rfl rfl

theorem State.setImage_blob (s : State) (n : Nat) (i : SlotImage) (k : Nat) : (s.setImage n i).blob k = s.blob k :=
  ite_proj (fun t => State.blob t k) rfl rfl

/-! ## Image frames -/

def State.setDownload (s : State) (d : Option Download) : State := { s with fw := { s.fw with download := d } }

theorem OnlyChanges.setDownload {ks : List Nat} {ps : List Part} (s : State) (d : Option Download) (h : Part.fw ∈ ps) :
    OnlyChanges ks ps s (s.setDownload d) := .setFw s _ h

/-- The open download with its 10 s restarted. -/
def State.frameTaken (s : State) : State :=
  match s.fw.download with
  | some d => s.setDownload (some { d with last := s.now })
  | none => s

theorem State.frameTaken_open {s : State} {d : Download} (h : s.fw.download = some d) :
    s.frameTaken = s.setDownload (some { d with last := s.now }) := by rw [State.frameTaken, h]

theorem State.frameTaken_none {s : State} (h : s.fw.download = none) : s.frameTaken = s := by rw [State.frameTaken, h]

/-- A frame that the node takes runs its effect, and is answered. -/
theorem State.imgFrame_taken {s : State} (on : s.rst.coreOn = true) (locked : s.fw.linkRate.isSome = true) (out : s.node ≠ stLoading)
    (runs : s.paused = false) (type : Nat) (f : State → State × Nat) :
    s.imgFrame type f = (f s.frameTaken).1.imgResp type (f s.frameTaken).2 := by
  have up : s.farifUp = true := by simp [State.farifUp, on, locked]
  have takes : ¬ (s.node = stLoading ∨ s.paused = true) := by simp [out, runs]
  rw [State.imgFrame, up, if_neg (by decide), if_neg takes, State.frameTaken]
  rfl

theorem State.imgResp_answers (s : State) (type status : Nat) :
    (s.imgResp type status).answersImage type status ∧ (s.imgResp type status).out.length = s.out.length + 1 := by
  refine ⟨?_, by simp [State.imgResp, State.emit]⟩
  rw [State.imgResp, State.answersImage, State.emit, List.getLast?_concat]
  exact ⟨rfl, rfl⟩

/-! ## The end of a download -/

/-- A download that ends without a pass. -/
theorem State.abortDownload_open {s : State} {d : Download} (h : s.fw.download = some d) :
    s.abortDownload = (((s.setDownload none).putSlotState d.slot 4).put Obj.dlState 0).bump Obj.dlAborts := by
  rw [State.abortDownload, h]
  rfl

/-- What is left of it, and what stays as it is. -/
theorem State.abortDownload_facts {s : State} {d : Download} (h : s.fw.download = some d) :
    s.abortDownload.fw.download = none ∧ s.abortDownload.obj Obj.dlState = 0 ∧ s.abortDownload.boot.slotState d.slot = 4 ∧
      s.abortDownload.obj Obj.dlAborts = (s.obj Obj.dlAborts + 1) % 2 ^ 32 ∧ (s.abortDownload.image d.slot) = s.image d.slot ∧
        (∀ k, k ≠ Obj.imgHash 0 → k ≠ Obj.imgHash 1 → s.abortDownload.blob k = s.blob k) ∧
          OnlyChanges (bootKeys ++ [Obj.dlState, Obj.dlAborts]) [.fw, .blobs] s s.abortDownload := by
  rw [State.abortDownload_open h]
  obtain ⟨state, image, download, blobs, write⟩ := (s.setDownload none).putSlotState_facts d.slot 4
  generalize (s.setDownload none).putSlotState d.slot 4 = t at write download image state blobs
  have change := (OnlyChanges.setDownload s none (ks := bootKeys) (ps := [.fw, .blobs]) (by decide)).trans write
  refine ⟨download, ?_, state, ?_, image _, blobs, ((change.mono (fun _ h => List.mem_append_left _ h) (by decide)).trans
    (.put _ _ _ (by simp))).trans (.bump _ _ (by simp))⟩
  · rw [State.bump_obj, if_neg (by decide), State.put_obj_same]
  · rw [State.bump_obj, if_pos rfl, State.put_obj_other _ _ (by decide), change.obj (by decide)]

/-! ## The frames on a download -/

/-- A slot is erased for a download of `total` bytes. -/
def State.imageBegun (s : State) (slot total : Nat) : State :=
  let t := ((s.setImage slot {}).putSlotState slot 1).put Obj.dlState 1
  (((t.put Obj.dlSlot slot).put Obj.dlReceived 0).put Obj.dlTotal total).setDownload (some { slot := slot, total := total, last := t.now })

theorem State.beginImage_free {s : State} {slot total : Nat} (free : s.fw.download = none) (slots : slot ≤ 1) (small : 4352 ≤ total)
    (large : total ≤ 33554432) (may : s.node = stRecovery ∨ slot ≠ s.boot.active) : s.beginImage slot total = (s.imageBegun slot total, stDone) := by
  have sizes : ¬ (1 < slot ∨ total < 4352 ∨ 33554432 < total) := by omega
  have allowed : ¬ (s.node ≠ stRecovery ∧ slot = s.boot.active) := fun g => may.elim g.1 (fun h => h g.2)
  have closed : s.abortDownload = s := by rw [State.abortDownload, free]
  rw [State.beginImage, if_neg sizes, if_neg allowed, closed]
  rfl

/-- Data of the open download is programmed behind what stands there. -/
def State.imageGrown (s : State) (d : Download) (offset : Nat) (data : List Byte) : State :=
  (((s.setImage d.slot { s.image d.slot with data := (s.image d.slot).data ++ data }).put Obj.dlReceived (s.obj Obj.dlReceived + data.length))).setDownload
    (some { d with lastFrame := some (offset, data) })

theorem State.dataImage_next {s : State} {d : Download} {offset : Nat} {data : List Byte} (open' : s.fw.download = some d)
    (erased : d.erased = true) (fresh : d.lastFrame.all (fun l => l.1 != offset) = true) (some' : data ≠ []) (long : data.length ≤ 1024)
    (next : offset = s.obj Obj.dlReceived) (fits : offset + data.length ≤ d.total) :
    s.dataImage offset data = (s.imageGrown d offset data, stDone) := by
  have sizes : ¬ (data = [] ∨ 1024 < data.length) := by simp [some', long]
  have place : ¬ (offset ≠ s.obj Obj.dlReceived ∨ d.total < s.obj Obj.dlReceived + data.length) := by omega
  have once : ¬ (d.lastFrame.any (fun l => l.1 == offset)) = true := by
    cases h : d.lastFrame with
    | none => simp
    | some l => simpa [h] using fresh
  have ready : ¬ (!d.erased) = true := by simp [erased]
  simp only [State.dataImage, open', if_neg ready, if_neg sizes, if_neg once, if_neg place]
  rfl

/-- The complete image has passed its check. -/
def State.imagePassed (s : State) (slot : Nat) : State :=
  (((s.setImage slot { s.image slot with written := s.now }).put Obj.dlState 0).setDownload none).putSlotState slot 5

theorem State.imagePassed_facts (s : State) (slot : Nat) : (s.imagePassed slot).fw.download = none ∧ (s.imagePassed slot).obj Obj.dlState = 0 ∧
    (s.imagePassed slot).boot.slotState slot = 5 ∧ ((s.imagePassed slot).image slot).data = (s.image slot).data ∧
      (∀ k, k ≠ Obj.imgHash 0 → k ≠ Obj.imgHash 1 → (s.imagePassed slot).blob k = s.blob k) ∧
        OnlyChanges (bootKeys ++ [Obj.dlState]) [.fw, .blobs] s (s.imagePassed slot) := by
  have stamped := s.setImage_image_same slot { s.image slot with written := s.now }
  have blobs := s.setImage_blob slot { s.image slot with written := s.now }
  have change : OnlyChanges (bootKeys ++ [Obj.dlState]) [.fw, .blobs] s (s.setImage slot { s.image slot with written := s.now }) :=
    .setImage s _ _ (by decide)
  rw [State.imagePassed]
  generalize s.setImage slot { s.image slot with written := s.now } = t at stamped blobs change
  obtain ⟨state, image, download, bytes, write⟩ := ((t.put Obj.dlState 0).setDownload none).putSlotState_facts slot 5
  refine ⟨download, ?_, state, ?_, fun k h0 h1 => (bytes k h0 h1).trans (blobs k), ((change.trans (.put _ _ _ (by simp))).trans
    (.setDownload _ _ (by decide))).trans (write.mono (fun _ h => List.mem_append_left _ h) (fun _ h => h))⟩
  · rw [write.obj (by decide)]
    exact t.put_obj_same Obj.dlState 0
  · rw [image slot]
    show (t.image slot).data = _
    rw [stamped]

section EndImage
variable {s : State} {d : Download} (open' : s.fw.download = some d) (whole : ¬ s.obj Obj.dlReceived < d.total)
include open' whole

theorem State.endImage_fails {st : Nat} (check : s.imageStatus (s.image d.slot).data = some st) : s.endImage = (s.abortDownload, st) := by
  simp only [State.endImage, open', if_neg whole, check]

theorem State.endImage_passes (check : s.imageStatus (s.image d.slot).data = none) : s.endImage = (s.imagePassed d.slot, stDone) := by
  simp only [State.endImage, open', if_neg whole, check]
  rfl

end EndImage

/-! ## O59 -/

/-- An image frame that the node takes, whose effect comes to `t`. -/
theorem Does.image {i : Instr} {s t : State} {type st : Nat} {f : State → State × Nat} {ks : List Nat} {ps qs : List Part}
    {post : State → Prop} (meaning : exec i s = .next (settleOn s (s.imgFrame type f))) (on : s.rst.coreOn = true)
    (locked : s.fw.linkRate.isSome = true) (out : s.node ≠ stLoading) (runs : s.paused = false) (effect : f s.frameTaken = (t, st))
    (change : OnlyChanges ks ps s t) (silent : Part.out ∉ ps) (parts : ∀ p ∈ .out :: ps, p ∈ qs)
    (p : ∀ o, (t.emit o).answersImage type st → (t.emit o).out.length = s.out.length + 1 → post (t.emit o)) : Does i s ks qs post := by
  have step : s.imgFrame type f = t.imgResp type st := by rw [State.imgFrame_taken on locked out runs, effect]
  obtain ⟨answers, length⟩ := t.imgResp_answers type st
  rw [change.2 .out silent] at length
  exact Does.of on meaning step (p _ answers length)
    ((change.mono (fun _ h => h) (fun q h => parts q (List.mem_cons_of_mem _ h))).trans (.emit _ _ _ (parts _ (by simp))))

theorem OnlyChanges.frameTaken {ks : List Nat} {ps : List Part} (s : State) (h : Part.fw ∈ ps) : OnlyChanges ks ps s s.frameTaken := by
  cases d : s.fw.download with
  | none => exact (State.frameTaken_none d).symm ▸ .refl ks ps s
  | some d' => exact (State.frameTaken_open d).symm ▸ .setDownload s _ h

/-- The same for a download that a frame has just been taken for. -/
theorem State.abortTaken_facts {s : State} {d : Download} (h : s.fw.download = some d) :
    s.frameTaken.fw.download = some { d with last := s.now } ∧ s.frameTaken.abortDownload.fw.download = none ∧
      s.frameTaken.abortDownload.obj Obj.dlState = 0 ∧ s.frameTaken.abortDownload.boot.slotState d.slot = 4 ∧
        s.frameTaken.abortDownload.obj Obj.dlAborts = (s.obj Obj.dlAborts + 1) % 2 ^ 32 ∧
          s.frameTaken.abortDownload.image d.slot = s.image d.slot ∧
            (∀ k, k ≠ Obj.imgHash 0 → k ≠ Obj.imgHash 1 → s.frameTaken.abortDownload.blob k = s.blob k) ∧
              OnlyChanges (bootKeys ++ [Obj.dlState, Obj.dlAborts]) [.fw, .blobs] s s.frameTaken.abortDownload := by
  rw [State.frameTaken_open h]
  obtain ⟨gone, state, failed, aborts, image, blobs, change⟩ :=
    State.abortDownload_facts (s := s.setDownload (some { d with last := s.now })) (d := { d with last := s.now }) rfl
  exact ⟨rfl, gone, state, failed, aborts, image, blobs, (OnlyChanges.setDownload s _ (by decide)).trans change⟩

/-- Settles O59: each frame by its effect on the open download, its slot and the boot record. -/
theorem downloads : Obligations.Downloads := by
  refine ⟨fun s slot total on locked out runs none' low small large may => ?_, fun s d on open' fresh low => ?_,
    fun s offset data d on locked out runs open' erased last some' long next fits low => ?_,
    fun s d on locked out runs open' whole low => ?_, fun s d on locked out runs open' low => ?_, fun s d on open' low => ?_,
    fun s on locked out runs none' => ?_, fun s rate on free => ?_, fun s on => ?_⟩
  · have effect : s.frameTaken.beginImage slot.toNat total.toNat = (s.imageBegun slot.toNat total.toNat, stDone) := by
      rw [State.frameTaken_none none', State.beginImage_free none' low small large may]
    obtain ⟨state, image, -, blobs, write⟩ := (s.setImage slot.toNat {}).putSlotState_facts slot.toNat 1
    have erased := image slot.toNat
    rw [State.setImage_image_same] at erased
    have change := (OnlyChanges.setImage s slot.toNat {} (ks := bootKeys) (ps := [.fw, .blobs]) (by decide)).trans write
    have bytes := fun k h0 h1 => (blobs k h0 h1).trans (s.setImage_blob slot.toNat {} k)
    rw [State.imageBegun] at effect
    generalize (s.setImage slot.toNat {}).putSlotState slot.toNat 1 = w at effect state erased bytes change
    have now : (w.put Obj.dlState 1).now = s.now := congrArg (· / 2 ^ 40) (change.2 .time (by decide))
    rw [now] at effect
    have objs : OnlyChanges (bootKeys ++ [Obj.dlState, Obj.dlSlot, Obj.dlReceived, Obj.dlTotal]) [.fw, .blobs] w
        ((((w.put Obj.dlState 1).put Obj.dlSlot slot.toNat).put Obj.dlReceived 0).put Obj.dlTotal total.toNat) :=
      (((OnlyChanges.put _ _ _ (by simp)).trans (.put _ _ _ (by simp))).trans (.put _ _ _ (by simp))).trans (.put _ _ _ (by simp))
    refine Does.image (f := fun t => t.beginImage slot.toNat total.toNat) rfl on locked out runs effect
      (((change.mono (fun _ h => List.mem_append_left _ h) (fun _ h => h)).trans objs).trans (.setDownload _ _ (by decide)))
      (by decide) (by decide) fun o answers length => ⟨rfl, erased, state, ?_, ?_, ?_, ?_, bytes, answers, length⟩
    all_goals
      change ((((w.put Obj.dlState 1).put Obj.dlSlot slot.toNat).put Obj.dlReceived 0).put Obj.dlTotal total.toNat).obj _ = _
      simp only [State.put_obj]
      rfl
  · obtain ⟨state, -, download, blobs, write⟩ := (s.setDownload (some { d with erased := true })).putSlotState_facts d.slot 2
    have step : eraseComplete s = ((s.setDownload (some { d with erased := true })).putSlotState d.slot 2).put Obj.dlState 2 := by
      rw [eraseComplete, open']
      exact if_neg (by simp [fresh])
    generalize (s.setDownload (some { d with erased := true })).putSlotState d.slot 2 = t at state download blobs write step
    exact Does.of on rfl step ⟨download, state, State.put_obj_same .., blobs⟩
      ((OnlyChanges.setDownload s _ (by decide)).trans ((write.mono (fun _ h => List.mem_append_left _ h) (by decide)).trans
        (.put _ _ _ (by simp))))
  · have same : s.frameTaken = s.setDownload (some { d with last := s.now }) := State.frameTaken_open open'
    have effect : s.frameTaken.dataImage offset.toNat data =
        ((s.setDownload (some { d with last := s.now })).imageGrown { d with last := s.now } offset.toNat data, stDone) := by
      rw [same]
      exact State.dataImage_next (d := { d with last := s.now }) rfl erased last some' long next fits
    have grown := State.setImage_image_same (s.setDownload (some { d with last := s.now })) d.slot
      { s.image d.slot with data := (s.image d.slot).data ++ data }
    have other := State.setImage_image_other (s.setDownload (some { d with last := s.now })) low
      { s.image d.slot with data := (s.image d.slot).data ++ data }
    have boot := State.setImage_boot (s.setDownload (some { d with last := s.now })) d.slot
      { s.image d.slot with data := (s.image d.slot).data ++ data }
    refine Does.image (ps := [.fw]) (f := fun t => t.dataImage offset.toNat data) rfl on locked out runs effect
      ((((OnlyChanges.setDownload s _ (by decide)).trans (.setImage _ _ _ (by decide))).trans (.put _ _ _ (by decide))).trans
        (.setDownload _ _ (by decide))) (by decide) (by decide)
      fun o answers length => ⟨grown, other, rfl, ?_, boot, answers, length⟩
    refine (State.put_obj_same ..).trans ?_
    rw [next]
    rfl
  · have reached : ¬ (s.obj Obj.dlReceived < d.total) := Nat.not_lt.mpr whole
    obtain ⟨taken, gone, state, failed, aborts, image, blobs, change⟩ := State.abortTaken_facts open'
    have same : s.frameTaken = s.setDownload (some { d with last := s.now }) := State.frameTaken_open open'
    cases check : s.imageStatus (s.image d.slot).data with
    | none =>
      have effect : s.frameTaken.endImage = (s.frameTaken.imagePassed d.slot, stDone) :=
        State.endImage_passes (d := { d with last := s.now }) taken (by rw [same]; exact reached) (by rw [same]; exact check)
      clear change aborts
      obtain ⟨none', shown, state, data, blobs, passed⟩ := s.frameTaken.imagePassed_facts d.slot
      have all : OnlyChanges (bootKeys ++ [Obj.dlState]) [.fw, .blobs] s (s.frameTaken.imagePassed d.slot) :=
        (OnlyChanges.frameTaken s (by decide)).trans passed
      generalize s.frameTaken.imagePassed d.slot = t at effect none' shown state data blobs all
      have more : ∀ k ∈ bootKeys ++ [Obj.dlState], k ∈ bootKeys ++ [Obj.dlState, Obj.dlAborts] := by decide
      refine Does.image (f := fun t => t.endImage) rfl on locked out runs effect
        (all.mono more (fun _ h => h)) (by decide) (by decide)
        fun o answers length => ⟨none', shown, state.trans (if_pos rfl).symm, ?_, ?_, fun k h0 h1 => ?_, answers, length⟩
      · exact (all.obj (by decide)).trans (if_pos rfl).symm
      · exact data.trans (by rw [same]; rfl)
      · exact (blobs k h0 h1).trans (by rw [same]; rfl)
    | some st =>
      have effect : s.frameTaken.endImage = (s.frameTaken.abortDownload, st) :=
        State.endImage_fails (d := { d with last := s.now }) taken (by rw [same]; exact reached) (by rw [same]; exact check)
      refine Does.image (f := fun t => t.endImage) rfl on locked out runs effect change (by decide) (by decide)
        fun o answers length => ⟨gone, state, ?_, ?_, ?_, blobs, answers, length⟩
      · exact failed
      · exact aborts
      · exact congrArg SlotImage.data image
  · obtain ⟨taken, gone, state, failed, aborts, -, blobs, change⟩ := State.abortTaken_facts open'
    exact Does.image (f := fun t => t.abortImage) rfl on locked out runs rfl change (by decide) (by decide)
      fun o answers length => ⟨gone, state, failed, aborts, blobs, answers, length⟩
  · have waits : OnlyChanges (bootKeys ++ [Obj.dlState, Obj.dlAborts]) [.fw, .blobs, .time] s (s.waitUntil (d.last + 10 * sec)) :=
      .waitUntil s _ _ (by decide)
    obtain ⟨gone, state, failed, aborts, -, blobs, change⟩ := State.abortDownload_facts (s := s.waitUntil (d.last + 10 * sec)) open'
    have step : downloadTimeout s = (s.waitUntil (d.last + 10 * sec)).abortDownload := by rw [downloadTimeout, open']
    refine Does.of on rfl step ⟨gone, state, failed, aborts, blobs, ?_⟩ (waits.trans (change.mono (fun _ h => h) (by decide)))
    rw [State.now, change.2 .time (by decide)]
    exact s.le_now_waitUntil _
  · have effect : (s.frameTaken, stDone) = (s, stDone) := by rw [State.frameTaken_none none']
    exact Does.image (f := fun t => (t, stDone)) rfl on locked out runs effect (.refl [] [] s) (by decide) (by decide)
      fun o answers length => ⟨answers, length⟩
  · exact Does.of on rfl (if_pos ⟨on, by simp [free]⟩) rfl (.setFw s _ (by decide))
  · exact Does.of on rfl rfl rfl (.setFw s _ (by decide))

end Sys2Proof.Machine
end

section
/-! SUPPORT. Writes of FW_CMD and RECOVER_START, and the settlement of O60. -/
namespace Sys2Proof.Machine

/-- A sender's write of a command object that answers with the status `st`. -/
theorem Answers.commandStatus {i : Instr} {s t : State} {snd : Sender} {ix sub st : Nat} {data : List Byte} {row : Row} {ks : List Nat}
    {ps : List Part} {post : State → Prop} (hi : exec i s = .next (settleOn s (s.senderWrite snd ix sub data)))
    (a : s.admits snd.who (writeReq snd ix sub data)) (look : s.lookup ix sub = .ok row) (acc : row.acc = .wo) (mask : maskedData row data = data)
    (form : formRefusal row (writeReq snd ix sub data) = none)
    (effect : s.commandWrite snd.who (writeReq snd ix sub data) none = (t, .now st 0 [])) (own : st ≠ stClaimLost) (p : post t)
    (c : OnlyChanges ks ps s t) : Answers i s snd.who (writeReq snd ix sub data) st [] ks ps post := by
  refine Answers.write hi a look (by rw [acc]; rfl) form ?_ own p c
  have write : s.objectEffect snd.who (writeReq snd ix sub data) row none = s.commandWrite snd.who
      { writeReq snd ix sub data with data := maskedData row data, length := (maskedData row data).length } none := by
    show s.writeEffect snd.who (writeReq snd ix sub data) row none = _
    rw [State.writeEffect, acc]
    rfl
  rw [write, mask]
  exact effect

/-- A check of an image answers with a status of its own. -/
theorem State.imageStatus_own (s : State) (d : List Byte) {st : Nat} (h : s.imageStatus d = some st) : st ≠ stClaimLost := by
  have range : stOutOfRange ≠ stClaimLost := by decide
  have integrity : stIntegrity ≠ stClaimLost := by decide
  unfold State.imageStatus at h
  dsimp only at h
  split at h
  · exact Option.some.inj h ▸ range
  split at h
  · exact Option.some.inj h ▸ range
  split at h
  · exact Option.some.inj h ▸ range
  split at h
  · exact Option.some.inj h ▸ integrity
  split at h
  · exact Option.some.inj h ▸ integrity
  · simp at h

theorem State.writeBoot_fwKept (s : State) (r : BootRecord) : (s.writeBoot r).fw.pauseAt = s.fw.pauseAt := by
  obtain ⟨a, b, fw⟩ := s.writeBoot_fw r
  rw [fw]
  rfl

/-- A write of FW_CMD. -/
theorem Answers.fwCommand {i : Instr} {s t : State} {snd : Sender} {b : Byte} {st : Nat} {ks : List Nat} {ps : List Part} {post : State → Prop}
    (hi : exec i s = .next (settleOn s (s.senderWrite snd 0x1300 5 [b]))) (a : s.admits snd.who (writeReq snd 0x1300 5 [b]))
    (range : 1 ≤ b.toNat ∧ b.toNat ≤ 3) (effect : s.fwCommand b.toNat = (t, st)) (own : st ≠ stClaimLost) (p : post t)
    (c : OnlyChanges ks ps s t) : Answers i s snd.who (writeReq snd 0x1300 5 [b]) st [] ks ps post := by
  have form : formRefusal { name := "FW_CMD", ix := 0x1300, n := 1, lo := 5, hi := 5, ty := .u8, acc := .wo, kept := .v, range := [(1, 3)] }
      (writeReq snd 0x1300 5 [b]) = none := byteCommand_form rfl rfl (by simp [range]) (.inl (by decide)) (by decide) (by decide)
  have command : s.commandWrite snd.who (writeReq snd 0x1300 5 [b]) none = justStatus (s.fwCommand (leVal [b])) := rfl
  rw [leVal_single, effect] at command
  exact Answers.commandStatus hi a s.lookup_1300_5 rfl rfl form command own p c

/-- The copy of the slot that had been sent out is erased. -/
def State.exportErased (s : State) : State :=
  let t := ((s.put Obj.exportFormat 0).put Obj.exportTime 0).put Obj.exportLength 0
  let t := (t.putBlob Obj.exportConfig []).newGeneration 0x1331
  { t with fw := { t.fw with exported := none } }

theorem OnlyChanges.exportErased {ks : List Nat} {ps : List Part} (s : State) (h : ∀ k ∈ [Obj.exportFormat, Obj.exportTime, Obj.exportLength], k ∈ ks)
    (f : Part.fw ∈ ps) (b : Part.blobs ∈ ps) (d : Part.dict ∈ ps) : OnlyChanges ks ps s s.exportErased :=
  (((((OnlyChanges.put s _ _ (h _ (by simp))).trans (.put _ _ _ (h _ (by simp)))).trans (.put _ _ _ (h _ (by simp)))).trans
    (.putBlob _ _ _ _ b)).trans (.setDict _ _ d)).trans (.setFw _ _ f)

theorem State.exportErased_facts (s : State) : s.exportErased.obj Obj.exportFormat = 0 ∧ s.exportErased.obj Obj.exportLength = 0 ∧
    s.exportErased.obj Obj.exportTime = 0 ∧ s.exportErased.blob Obj.exportConfig = [] ∧
      ∀ k, k ≠ Obj.exportConfig → s.exportErased.blob k = s.blob k := by
  have objs : ∀ k, s.exportErased.obj k = (((s.put Obj.exportFormat 0).put Obj.exportTime 0).put Obj.exportLength 0).obj k := fun _ => rfl
  have blobs : ∀ k, s.exportErased.blob k = (s.putBlob Obj.exportConfig []).blob k := fun _ => rfl
  simp only [objs, blobs, State.put_obj, State.putBlob_blob]
  exact ⟨rfl, rfl, rfl, rfl, fun k h => if_neg h⟩

/-- The boot record names the other slot on trial, and the pause runs. -/
def State.pauseStarted (s : State) : State :=
  let t := s.writeBoot { s.boot with active := 1 - s.boot.active, prev := s.boot.active, trial := true }
  { t with fw := { t.fw with pauseAt := none, pause := some t.now, pausedIn := t.node } }

theorem State.pauseBegins_idle {s : State} (engines : s.eng.engines = []) (q : Nat) : s.pauseBegins q = (s.waitUntil q).pauseStarted := by
  have quiet : (s.waitUntil q).shiftersNow = s.waitUntil q := by
    simp [State.shiftersNow, engines, forEach]
  have write : OnlyChanges bootKeys [.fw, .blobs] (s.waitUntil q) ((s.waitUntil q).writeBoot
    { (s.waitUntil q).boot with active := 1 - (s.waitUntil q).boot.active, prev := (s.waitUntil q).boot.active, trial := true }) :=
    .writeBoot _ _ (fun _ h => h) (by decide) (by decide)
  have still : ((s.waitUntil q).pauseStarted).eng.engines = [] := (congrArg EnginesState.engines (write.2 .eng (by decide))).trans engines
  rw [State.pauseBegins, quiet]
  show forEach (((s.waitUntil q).pauseStarted.eng.engines.filter _).map _) _ (s.waitUntil q).pauseStarted = _
  rw [still]
  rfl

/-- The slot that recovery picks is active, and a WARM reset is due. -/
def State.recovered (s : State) (slot : Nat) : State :=
  let t := s.writeBoot { s.boot with active := slot, prev := 1 - slot, trial := false, failed := 0 }
  t.setRst { t.rst with due := some (5, 3, t.now + ms) }

/-- Settles O60: each command by the boot record that it writes, or by what it leaves of the firmware's state. -/
theorem activation : Obligations.Activation := by
  refine ⟨fun s snd b a boot act valid closed stage stage' store sme idle awake => ?_, fun s q on due engines act => ?_,
    fun s snd a trial => ?_, fun s q on from' trial ring => ?_, fun s snd a => ?_, fun s slot on locked out runs closed recovery low valid => ?_⟩
  · subst boot
    have free : s.activateRefusal = none := by
      have quiet : ¬ (s.fw.download.isSome = true ∨ s.obj Obj.stageState = 2 ∨ s.obj Obj.stageState = 3 ∨ s.obj Obj.storeState = 1 ∨
          s.obj Obj.smeState = smeTesting ∨ s.fw.pauseAt.isSome = true ∨ s.paused = true ∨ s.holding = true) := by
        simp [closed, stage, stage', store, sme, idle, awake, a.2.1]
      rw [State.activateRefusal, if_neg (not_not_intro valid), if_neg quiet]
    cases check : s.imageStatus (s.image (1 - s.boot.active)).data with
    | none =>
      have effect : s.fwCommand 1 = (({ s.put Obj.actState 2 with fw := { s.fw with pauseAt := some (s.now + ms) } } : State), stDone) := by
        simp only [State.fwCommand, if_true, free, check]
      refine Answers.fwCommand (b := 1) rfl a (by decide) effect (by decide)
        ⟨fun _ => ⟨s.put_obj_same Obj.actState 2, rfl⟩, fun h => absurd rfl h, fun _ _ _ => rfl⟩
        ((OnlyChanges.put s _ _ (by simp)).trans (.setFw _ _ (by decide)))
    | some st =>
      have effect : s.fwCommand 1 = (s.writeBoot { s.boot.setSlot (1 - s.boot.active) 4 with result := 4 }, st) := by
        simp only [State.fwCommand, if_true, free, check]
      have reads := s.writeBoot_boot { s.boot.setSlot (1 - s.boot.active) 4 with result := 4 }
      have write : OnlyChanges bootKeys [.fw, .blobs] s (s.writeBoot { s.boot.setSlot (1 - s.boot.active) 4 with result := 4 }) :=
        .writeBoot s _ (fun _ h => h) (by decide) (by decide)
      refine Answers.fwCommand (b := 1) rfl a (by decide) effect (s.imageStatus_own _ check)
        ⟨fun h => absurd h (by simp), fun _ => ⟨write.obj (by decide), ?_, ?_, ?_, ?_⟩, fun k h0 h1 => s.writeBoot_blob _ h0 h1⟩
        (write.mono (fun _ h => List.mem_cons_of_mem _ h) (fun _ h => h))
      · rw [State.writeBoot_fwKept, idle]
      · rw [reads]
        exact BootRecord.setSlot_slotState s.boot _ 4
      · rw [reads]
      · rw [reads]
        exact ite_proj BootRecord.active rfl rfl
  · have step : activationPause s none = (s.waitUntil q).pauseStarted := by
      rw [activationPause, due]
      exact State.pauseBegins_idle engines q
    have waits : OnlyChanges bootKeys [.fw, .blobs, .time] s (s.waitUntil q) := .waitUntil s _ _ (by decide)
    have come := s.le_now_waitUntil q
    have same : (s.waitUntil q).boot = s.boot := rfl
    have blob : ∀ k, (s.waitUntil q).blob k = s.blob k := fun _ => rfl
    have node : (s.waitUntil q).node = s.node := rfl
    generalize s.waitUntil q = t at step waits come same blob node
    have reads := t.writeBoot_boot { t.boot with active := 1 - t.boot.active, prev := t.boot.active, trial := true }
    have write : OnlyChanges bootKeys [.fw, .blobs] t (t.writeBoot { t.boot with active := 1 - t.boot.active, prev := t.boot.active, trial := true }) :=
      .writeBoot _ _ (fun _ h => h) (by decide) (by decide)
    have bytes := fun k h0 h1 => (t.writeBoot_blob { t.boot with active := 1 - t.boot.active, prev := t.boot.active, trial := true } (k := k) h0 h1).trans (blob k)
    rw [State.pauseStarted] at step
    rw [same] at reads write bytes step
    generalize t.writeBoot { s.boot with active := 1 - s.boot.active, prev := s.boot.active, trial := true } = w at step reads write bytes
    refine Does.of on rfl step ⟨rfl, rfl, ?_, ?_, ?_, ?_, ?_, bytes⟩
      ((waits.trans (write.mono (fun _ h => h) (by decide))).trans (.setFw _ _ (by decide)))
    · exact (write.obj (k := Obj.nodeState) (by decide)).trans node
    · exact congrArg BootRecord.active reads
    · exact congrArg BootRecord.prev reads
    · exact congrArg BootRecord.trial reads
    · show q ≤ w.now
      rw [State.now, write.2 .time (by decide)]
      exact come
  · obtain ⟨_, _, fw⟩ := s.writeBoot_fw { s.boot with trial := false }
    have reads := s.writeBoot_boot { s.boot with trial := false }
    have effect : s.fwCommand 2 = (s.writeBoot { s.boot with trial := false }, stDone) :=
      congrArg (fun t : State => (t, stDone)) (if_pos trial)
    refine Answers.fwCommand (b := 2) rfl a (by decide) effect (by decide) ⟨?_, ?_, ?_, fun k h0 h1 => s.writeBoot_blob _ h0 h1⟩
      (.writeBoot s _ (fun _ h => h) (by decide) (by decide))
    all_goals rw [reads]
  · have step : trialExpiry s = (s.waitUntil (q + s.obj Obj.trialTime * sec)).writeBoot { s.boot with trial := false } := by
      have due : trialExpiry s = (s.waitUntil (q + s.obj Obj.trialTime * sec)).confirmTrial := by
        simp only [trialExpiry, from']
        exact if_pos ⟨trial, ring⟩
      exact due.trans (if_pos trial)
    have waits : OnlyChanges bootKeys [.fw, .blobs, .time] s (s.waitUntil (q + s.obj Obj.trialTime * sec)) := .waitUntil s _ _ (by decide)
    have come := s.le_now_waitUntil (q + s.obj Obj.trialTime * sec)
    have blob : ∀ k, (s.waitUntil (q + s.obj Obj.trialTime * sec)).blob k = s.blob k := fun _ => rfl
    generalize s.waitUntil (q + s.obj Obj.trialTime * sec) = t at step waits come blob
    have reads := t.writeBoot_boot { s.boot with trial := false }
    have write : OnlyChanges bootKeys [.fw, .blobs] t (t.writeBoot { s.boot with trial := false }) :=
      .writeBoot _ _ (fun _ h => h) (by decide) (by decide)
    refine Does.of on rfl step ⟨?_, ?_, ?_, fun k h0 h1 => (t.writeBoot_blob _ h0 h1).trans (blob k)⟩
      (waits.trans (write.mono (fun _ h => h) (by decide)))
    · rw [reads]
    · rw [reads]
    · rw [State.now, write.2 .time (by decide)]
      exact come
  · obtain ⟨format, length, time, config, bytes⟩ := s.exportErased_facts
    exact Answers.fwCommand (b := 3) rfl a (by decide) (show s.fwCommand 3 = (s.exportErased, stDone) from rfl) (by decide)
      ⟨rfl, format, length, time, config, bytes⟩ (.exportErased s (by decide) (by decide) (by decide) (by decide))
  · have effect : s.frameTaken.recover slot.toNat = (s.recovered slot.toNat, stDone) := by
      have ready : ¬ (1 < slot.toNat ∨ s.boot.slotState slot.toNat ≠ 5) := by simp [low, valid]
      rw [State.frameTaken_none closed, State.recover, if_neg (not_not_intro recovery), if_neg ready]
      rfl
    have reads := s.writeBoot_boot { s.boot with active := slot.toNat, prev := 1 - slot.toNat, trial := false, failed := 0 }
    have write : OnlyChanges bootKeys [.fw, .blobs] s
        (s.writeBoot { s.boot with active := slot.toNat, prev := 1 - slot.toNat, trial := false, failed := 0 }) :=
      .writeBoot s _ (fun _ h => h) (by decide) (by decide)
    have bytes := fun k h0 h1 =>
      s.writeBoot_blob { s.boot with active := slot.toNat, prev := 1 - slot.toNat, trial := false, failed := 0 } (k := k) h0 h1
    rw [State.recovered] at effect
    generalize s.writeBoot { s.boot with active := slot.toNat, prev := 1 - slot.toNat, trial := false, failed := 0 } = t at effect reads write bytes
    refine Does.image (f := fun t => t.recover slot.toNat) rfl on locked out runs effect
      ((write.mono (fun _ h => h) (by decide)).trans (.setRst (ps := [.fw, .blobs, .rst]) t _ (by decide))) (by decide) (by decide)
      fun o answers length => ⟨?_, ?_, ?_, ?_, ?_, bytes, answers, length⟩
    · exact congrArg BootRecord.active reads
    · exact congrArg BootRecord.prev reads
    · exact congrArg BootRecord.trial reads
    · exact congrArg BootRecord.failed reads
    · show { t.rst with due := some (5, 3, t.now + ms) } = _
      rw [State.now, write.2 .rst (by decide), write.2 .time (by decide)]
      rfl

end Sys2Proof.Machine
end

section
/-! SUPPORT. Reception of a UART channel, and the settlement of O46. -/
namespace Sys2Proof.Machine

/-! ## Channels -/

/-- Objects of different sub-indices. -/
theorem key_ne {a b i j : Nat} (h : i % 256 ≠ j % 256) : a * 256 + i ≠ b * 256 + j := by omega

@[simp] theorem State.setChan_chan (s : State) (n : Nat) (c : UartChan) : (s.setChan n c).chan n = c := sparsePut_same _ _ _ _

section Frames
variable {ks : List Nat} {ps : List Part}

theorem OnlyChanges.setChan (s : State) (n : Nat) (c : UartChan) (h : Part.uart ∈ ps) : OnlyChanges ks ps s (s.setChan n c) :=
  .ofParts rfl fun p hp => by cases p <;> first | rfl | exact absurd h hp

theorem OnlyChanges.followLine (s : State) (n : Nat) (h : Obj.lineState n ∈ ks) : OnlyChanges ks ps s (s.followLine n) :=
  .ite (.refl ks ps s) (.put s _ ps h)

end Frames

/-- A channel that works has a line in service. -/
theorem State.chanOn_line {s : State} {n : Nat} (h : s.chanOn n = true) : s.obj (Obj.lineState n) ≠ 0 := by
  simp only [State.chanOn, Bool.and_eq_true, decide_eq_true_eq] at h
  exact h.1.2

/-- LINE_STATE of a line in service that is not in a break. -/
theorem State.followLine_idle {s : State} {n : Nat} {c : UartChan} (line : s.obj (Obj.lineState n) ≠ 0) (high : c.breakFrom = none)
    (quiet : c.sending = none) :
    (s.setChan n c).followLine n = (s.setChan n c).put (Obj.lineState n) (if c.message.isSome then 2 else 1) := by
  have here : (s.setChan n c).obj (Obj.lineState n) ≠ 0 := line
  simp [State.followLine, here, high, quiet]

/-- LINE_STATE of a line in a break. -/
theorem State.followLine_break {s : State} {n b : Nat} (line : s.obj (Obj.lineState n) ≠ 0) (low : (s.chan n).breakFrom = some b) :
    s.followLine n = s.put (Obj.lineState n) (if s.flag (Obj.uartFlags n) ufStuck then 5 else 4) := by
  simp [State.followLine, line, low]

/-! ## A character -/

/-- A channel that hears the line, sends nothing, and is not in a break. -/
structure State.Listens (s : State) (n : Nat) : Prop where
  works : s.chanOn n = true
  outside : s.obj (Obj.uartMode n) ≠ 3
  high : (s.chan n).breakFrom = none
  driver : s.deAsserted n = false
  quiet : (s.chan n).sending = none

section Listening
variable {s : State} {n : Nat} (h : s.Listens n)
include h

theorem State.Listens.hears : s.chanHears n = true := by simp [State.chanHears, h.works, h.outside, h.driver]

theorem State.Listens.noEcho {start : Nat} (past : (s.chan n).lastTx ≤ start) : s.echoes n start = false := by
  simp only [State.echoes, h.quiet, Bool.and_eq_false_iff, decide_eq_false_iff_not]
  exact .inr (.inr (Nat.not_lt.mpr past))

/-- What is heard of a character that is no false start and no break. -/
theorem State.Listens.character {char : UartChar} {ch : UartHeard} (read : ch = s.sampled n char) (start : ch.falseStart = false)
    (low : ch.low = false) (past : (s.chan n).lastTx ≤ char.start) : uartCharacterRx s n char = s.uartHear n ch := by
  have stamp : ch.start = char.start := by rw [read]; rfl
  have listens : ¬ ((!s.chanHears n) = true ∨ (s.chan n).breakFrom ≠ none) := by simp [h.hears, h.high]
  rw [uartCharacterRx, ← read]
  rw [if_neg listens, start, low, stamp, h.noEcho past]
  rfl

end Listening

/-- A message with one more character. -/
def UartOpen.heard (m : UartOpen) (ch : UartHeard) (bytes : List Byte) : UartOpen :=
  { m with
    data := m.data ++ bytes, parity := m.parity || ch.parityBad, framing := m.framing || ch.framingBad, noise := m.noise || ch.noise,
    firstErr := match m.firstErr with
      | some e => some e
      | none => if ch.parityBad || ch.framingBad || ch.noise then some m.data.length else none }

theorem UartOpen.heard_good {ch : UartHeard} (parity : ch.parityBad = false) (framing : ch.framingBad = false) (noise : ch.noise = false)
    (m : UartOpen) (bytes : List Byte) : m.heard ch bytes = { m with data := m.data ++ bytes } := by
  simp only [UartOpen.heard, parity, framing, noise, Bool.or_false]
  cases m.firstErr <;> rfl

/-- The channel with an open message whose last character ended at `last`. -/
def UartChan.hearing (c : UartChan) (m : UartOpen) (last : Nat) : UartChan := { c with message := some m, lastRx := last }

/-- The bytes of a character in its message. -/
def State.heardBytes (s : State) (n : Nat) (ch : UartHeard) : List Byte := leBytes (s.charBytes n) (ch.value % 2 ^ s.obj (Obj.dataBits n))

/-- A character that does not fill its message. -/
theorem State.uartGather_open {s : State} {n : Nat} {ch : UartHeard} {m : UartOpen}
    (opened : (s.chan n).message.getD { first := uartStamp ch.start } = m) (cfg : (s.chan n).rxBefore = [])
    (short : m.data.length + s.charBytes n < s.obj (Obj.rxMax n)) : s.uartGather n ch =
      (s.setChan n ((s.chan n).hearing (m.heard ch (s.heardBytes n ch)) (ch.start + s.charNs n))).followLine n := by
  have limit : (s.setChan n ((s.chan n).hearing (m.heard ch (s.heardBytes n ch)) (ch.start + s.charNs n))).rxCfg n
      (Obj.rxMax n) = s.obj (Obj.rxMax n) := by
    rw [State.rxCfg, State.setChan_chan]
    show (List.lookup _ (s.chan n).rxBefore).getD _ = _
    rw [cfg]
    rfl
  have room : ¬ (s.obj (Obj.rxMax n) ≤ (m.heard ch (s.heardBytes n ch)).data.length) := by
    simp only [UartOpen.heard, State.heardBytes, List.length_append, leBytes_length]
    omega
  unfold State.uartGather
  simp only [opened]
  refine Eq.trans (if_neg ?_) rfl
  rw [← limit] at room
  exact room

/-- The channel after a character that does not fill its message. -/
theorem Does.character {i : Instr} {s t : State} {n : Nat} {ch : UartHeard} {m : UartOpen} {ks : List Nat} {post : State → Prop}
    (on : s.rst.coreOn = true) (meaning : exec i s = .next (settleOn s (t.uartGather n ch))) (line : t.obj (Obj.lineState n) ≠ 0)
    (opened : (t.chan n).message.getD { first := uartStamp ch.start } = m) (cfg : (t.chan n).rxBefore = [])
    (high : (t.chan n).breakFrom = none) (quiet : (t.chan n).sending = none)
    (short : m.data.length + t.charBytes n < t.obj (Obj.rxMax n)) (change : OnlyChanges ks [.uart] s t) (key : Obj.lineState n ∈ ks)
    (p : ∀ u : State, u.chan n = (t.chan n).hearing (m.heard ch (t.heardBytes n ch)) (ch.start + t.charNs n) →
      u.obj (Obj.lineState n) = 2 → (∀ k, k ≠ Obj.lineState n → u.obj k = t.obj k) → post u) : Does i s ks [.uart] post := by
  have step : t.uartGather n ch = (t.setChan n
      ((t.chan n).hearing (m.heard ch (t.heardBytes n ch)) (ch.start + t.charNs n))).put (Obj.lineState n) 2 := by
    rw [State.uartGather_open opened cfg short,
      State.followLine_idle (c := (t.chan n).hearing (m.heard ch (t.heardBytes n ch)) (ch.start + t.charNs n)) line high quiet]
    rfl
  exact Does.of on meaning step (p _ (State.setChan_chan ..) (State.put_obj_same ..) fun k hk => State.put_obj_other _ _ hk)
    ((change.trans (.setChan _ _ _ (by decide))).trans (.put _ _ _ key))

/-! ## Reading back what is sent -/

/-- The value of some bits is that of the number they are the bits of. -/
theorem sumOf_testBit (d v : Nat) : sumOf ((List.range d).map (fun i => ofBool (v.testBit i) * 2 ^ i)) = v % 2 ^ d := by
  induction d with
  | zero => simp [sumOf, Nat.mod_one]
  | succ d ih =>
    have bit : (v / 2 ^ d) % 2 = ofBool (v.testBit d) := by
      rw [Nat.testBit_eq_decide_div_mod_eq]
      rcases Nat.mod_two_eq_zero_or_one (v / 2 ^ d) with h | h <;> simp [h, ofBool]
    have parts : sumOf ((List.range (d + 1)).map (fun i => ofBool (v.testBit i) * 2 ^ i)) =
        sumOf ((List.range d).map (fun i => ofBool (v.testBit i) * 2 ^ i)) + ofBool (v.testBit d) * 2 ^ d := by
      simp [sumOf, List.range_succ, List.foldl_append]
    rw [parts, ih, pow_succ, Nat.mod_mul, bit, Nat.mul_comm]

/-- Three equal samples at the level that carries `l`. -/
def State.steady (s : State) (n : Nat) (l : Bool) : BitLevels :=
  let b := l != s.flag (Obj.uartInvert n) 1
  { early := b, mid := b, late := b }

/-- Steady samples are read as what they carry. -/
theorem State.bitRead_steady (s : State) (n : Nat) (l : Bool) : s.bitRead n (s.steady n l) = l := by
  unfold State.bitRead State.steady
  cases l <;> cases s.flag (Obj.uartInvert n) 1 <;> simp

theorem State.map_bitRead_steady (s : State) (n : Nat) (ls : List Bool) : (ls.map (s.steady n)).map (s.bitRead n) = ls := by
  simp [List.map_map, Function.comp_def, State.bitRead_steady]

/-- Steady samples carry no noise. -/
theorem State.steady_quiet (s : State) (n : Nat) (ls : List Bool) :
    (ls.map (s.steady n)).any (fun b => b.early != b.mid || b.mid != b.late) = false := by
  simp [State.steady]

/-- What is heard of steady samples, one for each bit of a character. -/
theorem State.sampled_steady (s : State) (n start : Nat) (ls : List Bool)
    (whole : ls.length = 2 + s.obj (Obj.dataBits n) + (if s.obj (Obj.uartParity n) = 0 then 0 else 1)) :
    s.sampled n { start := start, bits := ls.map (s.steady n) } =
      { value := sumOf ((List.range (s.obj (Obj.dataBits n))).map
          (fun i => ofBool (((ls.drop 1).take (s.obj (Obj.dataBits n))).getD i false) * 2 ^ i)), start := start,
        parityBad := (parityBit (s.obj (Obj.uartParity n)) ((ls.drop 1).take (s.obj (Obj.dataBits n)))).any
          (fun p => ls.getD (1 + s.obj (Obj.dataBits n)) p != p),
        framingBad := ls.getLast? == some false, noise := false, falseStart := ls.headD true, low := ls.all not } := by
  have taken : (ls.map (s.steady n) ++ List.replicate ls.length ({} : BitLevels)).take ls.length = ls.map (s.steady n) := by
    rw [List.take_append_of_le_length (by simp), List.take_of_length_le (by simp)]
  unfold State.sampled
  simp only [← whole, taken, s.map_bitRead_steady, s.steady_quiet, Bool.and_false]
  cases parityBit (s.obj (Obj.uartParity n)) ((ls.drop 1).take (s.obj (Obj.dataBits n))) <;> rfl

/-- The data bits that a channel sends for a value. -/
def State.dataLevels (s : State) (n v : Nat) : List Bool := (List.range (s.obj (Obj.dataBits n))).map v.testBit

theorem State.charLevels_eq (s : State) (n v : Nat) : s.charLevels n v ++ [true] =
    false :: (s.dataLevels n v ++ ((parityBit (s.obj (Obj.uartParity n)) (s.dataLevels n v)).toList ++ [true])) := by
  simp [State.charLevels, State.dataLevels]

/-- There is a parity bit where the parity is not 0. -/
theorem parityBit_length (kind : Nat) (data : List Bool) : (parityBit kind data).toList.length = if kind = 0 then 0 else 1 := by
  unfold parityBit
  split <;> simp_all

/-- A character reads back as the value it carries, at the settings it was sent with. -/
theorem charLevels_read (s : State) (n v start : Nat) (h : v < 2 ^ s.obj (Obj.dataBits n)) :
    s.sampled n { start := start, bits := (s.charLevels n v ++ [true]).map (fun l =>
      let b := l != s.flag (Obj.uartInvert n) 1; { early := b, mid := b, late := b }) } = { value := v, start := start } := by
  have size : (s.dataLevels n v).length = s.obj (Obj.dataBits n) := by simp [State.dataLevels]
  have whole : (s.charLevels n v ++ [true]).length = 2 + s.obj (Obj.dataBits n) + (if s.obj (Obj.uartParity n) = 0 then 0 else 1) := by
    rw [State.charLevels_eq, List.length_cons, List.length_append, List.length_append, parityBit_length, size, List.length_singleton]
    omega
  have data : ((s.charLevels n v ++ [true]).drop 1).take (s.obj (Obj.dataBits n)) = s.dataLevels n v := by
    rw [State.charLevels_eq, List.drop_one, List.tail_cons, List.take_append_of_le_length (by omega), List.take_of_length_le (by omega)]
  have value : sumOf ((List.range (s.obj (Obj.dataBits n))).map (fun i => ofBool ((s.dataLevels n v).getD i false) * 2 ^ i)) = v := by
    have bits : (List.range (s.obj (Obj.dataBits n))).map (fun i => ofBool ((s.dataLevels n v).getD i false) * 2 ^ i) =
        (List.range (s.obj (Obj.dataBits n))).map (fun i => ofBool (v.testBit i) * 2 ^ i) :=
      List.map_congr_left fun i hi => by simp [State.dataLevels, List.mem_range.mp hi]
    rw [bits, sumOf_testBit, Nat.mod_eq_of_lt h]
  have parity : ∀ p, parityBit (s.obj (Obj.uartParity n)) (s.dataLevels n v) = some p →
      (s.charLevels n v ++ [true]).getD (1 + s.obj (Obj.dataBits n)) p = p := fun p hp => by
    rw [State.charLevels_eq, hp, Nat.add_comm, List.getD_cons_succ, List.getD_append_right _ _ _ _ (by omega), size, Nat.sub_self]
    rfl
  refine (s.sampled_steady n start _ whole).trans ?_
  rw [data, value]
  have good : (parityBit (s.obj (Obj.uartParity n)) (s.dataLevels n v)).any
      (fun p => (s.charLevels n v ++ [true]).getD (1 + s.obj (Obj.dataBits n)) p != p) = false := by
    cases hp : parityBit (s.obj (Obj.uartParity n)) (s.dataLevels n v) with
    | none => rfl
    | some p => exact (congrArg (· != p) (parity p hp)).trans (bne_self_eq_false p)
  have ends : (s.charLevels n v ++ [true]).getLast? = some true := List.getLast?_concat
  have high : (s.charLevels n v ++ [true]).all not = false := by rw [List.all_append]; exact Bool.and_false _
  rw [good, ends, high]
  rfl

/-! ## Records -/

/-- A record goes to the buffer, where RX_DEST names it alone and it has room. -/
theorem State.uartDeliver_buffer {s : State} {n : Nat} {m : UartOpen} {close : Nat} {brk : Bool} (dest : s.rxCfg n (Obj.rxDest n) = 1)
    (room : (s.chan n).rx.length < 64) : s.uartDeliver n m close brk = s.setChan n
      { s.chan n with rx := (s.chan n).rx ++ [uartRecord m close brk (s.chan n).lost], lost := false } := by
  have free : ¬ (64 ≤ (s.chan n).rx.length) := Nat.not_le.mpr room
  have one : Nat.testBit 1 0 = true := rfl
  have two : Nat.testBit 1 1 = false := rfl
  unfold State.uartDeliver
  simp only [dest, one, two, free, false_and, if_true, if_false, decide_false, Bool.or_false, Bool.false_eq_true]

/-- The channel with one record more in its buffer. -/
def UartChan.recorded (c : UartChan) (m : UartOpen) (close : Nat) (brk : Bool) : UartChan :=
  { c with rx := c.rx ++ [uartRecord m close brk c.lost], lost := false }

/-- The channel after the end of its message, with the record in its buffer. -/
def UartChan.closed (c : UartChan) (m : UartOpen) (close : Nat) : UartChan := UartChan.recorded { c with message := none } m close false

/-- A node with a message of a channel counted and its record in the buffer. -/
def State.counted (s : State) (n close : Nat) (m : UartOpen) : State :=
  ((s.setChan n { s.chan n with message := none }).bump (Obj.rxMessages n)).setChan n ((s.chan n).closed m close)

/-- The end of a message of a channel whose record goes to the buffer. -/
theorem State.uartClose_buffer {s : State} {n close : Nat} {m : UartOpen} (opened : (s.chan n).message = some m)
    (cfg : (s.chan n).rxBefore = []) (dest : s.obj (Obj.rxDest n) = 1) (room : (s.chan n).rx.length < 64) :
    s.uartClose n close = ((s.counted n close m).setChan n ((s.chan n).closed m close)).followLine n := by
  have chan : ((s.setChan n { s.chan n with message := none }).bump (Obj.rxMessages n)).chan n = { s.chan n with message := none } :=
    State.setChan_chan ..
  have aim : ((s.setChan n { s.chan n with message := none }).bump (Obj.rxMessages n)).rxCfg n (Obj.rxDest n) = 1 := by
    rw [State.rxCfg, chan]
    show (List.lookup _ (s.chan n).rxBefore).getD _ = _
    rw [cfg]
    exact (State.put_obj_other _ _ (key_ne (by decide))).trans dest
  unfold State.uartClose
  simp only [opened]
  rw [State.uartDeliver_buffer aim (by rw [chan]; exact room), State.setChan_chan, chan]
  simp only [State.counted, UartChan.closed, UartChan.recorded, cfg]

/-- The counter of a message that ends. -/
theorem State.counted_messages (s : State) (n close : Nat) (m : UartOpen) :
    (s.counted n close m).obj (Obj.rxMessages n) = (s.obj (Obj.rxMessages n) + 1) % 2 ^ 32 := State.put_obj_same ..

theorem State.counted_other (s : State) (n close : Nat) (m : UartOpen) {k : Nat} (h : k ≠ Obj.rxMessages n) :
    (s.counted n close m).obj k = s.obj k := State.put_obj_other _ _ h

theorem OnlyChanges.counted {ks : List Nat} {ps : List Part} (s : State) (n close : Nat) (m : UartOpen) (key : Obj.rxMessages n ∈ ks)
    (part : Part.uart ∈ ps) : OnlyChanges ks ps s (s.counted n close m) :=
  ((OnlyChanges.setChan s n _ part).trans (.bump _ _ key)).trans (.setChan _ _ _ part)

/-- A read of RX_POLL takes the oldest record. -/
theorem State.readObject_rxPoll {s : State} {row : Row} {b : List Byte} {q : List (List Byte)} (n : Fin 32)
    (rx : (s.chan n.val).rx = b :: q) (view : Bool) :
    s.readObject row (0x5880 + n.val) 8 view = (s.setChan n.val { s.chan n.val with rx := q }, b) := by
  have small := n.isLt
  rw [State.readObject, if_neg (by omega), if_neg (by omega), if_pos (by omega), Nat.add_sub_cancel_left, State.uartRxRead]
  simp only [rx]

/-! ## Breaks -/

/-- The channel in a break that began at `start`. -/
def UartChan.lowFrom (c : UartChan) (start : Nat) : UartChan := { c with breakFrom := some start }

/-- The channel in a break that began at `start`, with its record in the buffer. -/
def UartChan.broken (c : UartChan) (start : Nat) : UartChan := (c.lowFrom start).recorded { first := uartStamp start } 2 true

/-- A break on a channel that listens, with no message open. -/
theorem State.Listens.breaks {s : State} {n start : Nat} (h : s.Listens n) (stuck : s.flag (Obj.uartFlags n) ufStuck = false)
    (cfg : (s.chan n).rxBefore = []) (closed : (s.chan n).message = none) (dest : s.obj (Obj.rxDest n) = 1)
    (room : (s.chan n).rx.length < 64) : uartBreak s n start =
      ((s.setChan n ((s.chan n).lowFrom start)).put (Obj.lineState n) 4).setChan n ((s.chan n).broken start) := by
  have noEcho : (if s.drivesDe n then (s.chan n).sending else none) = none := by simp [h.quiet]
  have same : s.uartClose n 2 = s := by simp [State.uartClose, closed]
  have low : (s.setChan n ((s.chan n).lowFrom start)).chan n = (s.chan n).lowFrom start := State.setChan_chan ..
  have calm : (s.setChan n ((s.chan n).lowFrom start)).flag (Obj.uartFlags n) ufStuck = false := stuck
  have line : (s.setChan n ((s.chan n).lowFrom start)).followLine n = (s.setChan n ((s.chan n).lowFrom start)).put (Obj.lineState n) 4 := by
    rw [State.followLine_break (s := s.setChan n ((s.chan n).lowFrom start)) (b := start) (State.chanOn_line h.works)
      (congrArg (·.breakFrom) low), calm]
    rfl
  have chan : ((s.setChan n ((s.chan n).lowFrom start)).put (Obj.lineState n) 4).chan n = (s.chan n).lowFrom start := low
  have aim : ((s.setChan n ((s.chan n).lowFrom start)).put (Obj.lineState n) 4).rxCfg n (Obj.rxDest n) = 1 := by
    rw [State.rxCfg, chan]
    show (List.lookup _ (s.chan n).rxBefore).getD _ = _
    rw [cfg]
    exact (State.put_obj_other _ _ (key_ne (by decide))).trans dest
  have record := State.uartDeliver_buffer (m := { first := uartStamp start }) (close := 2) (brk := true) aim (by rw [chan]; exact room)
  rw [chan, ← line] at record
  rw [uartBreak]
  simp only [noEcho, same]
  refine Eq.trans (if_neg (by simp [h.hears, h.high])) (record.trans ?_)
  rw [line]
  rfl

/-- The channel after the end of a break. -/
def UartChan.highAt (c : UartChan) (now : Nat) : UartChan := { c with breakFrom := none, lastRx := now }

/-- A transient fault that no open one covers is one entry of the log. -/
theorem State.transientFault_uncovered (s : State) (index sub inst status detail : Nat) :
    s.transientFault index sub inst status detail false =
      s.log { index := index, sub := sub, inst := inst, status := status, detail := detail, kind := 1 } := by
  rw [State.transientFault]
  exact if_neg (by simp)

theorem State.log_obj_other (s : State) (e : VgEntry) {k : Nat} (h : k ≠ Obj.vgNextSeq) : (s.log e).obj k = s.obj k :=
  State.put_obj_other s _ h

/-- LINE_STATE is no object of the verdigris log. -/
theorem lineState_vgNextSeq {n : Nat} (h : n < 32) : Obj.lineState n ≠ Obj.vgNextSeq := by
  show (0x5880 + n) * 256 + 1 ≠ 0xF000 * 256 + 1
  omega

/-- The end of a break within LINE_LIMIT, with no message open and none sent. -/
theorem uartBreakEnd_counted {s : State} {n b : Nat} (low : (s.chan n).breakFrom = some b) (quiet : (s.chan n).sending = none)
    (closed : (s.chan n).message = none) (line : s.obj (Obj.lineState n) ≠ 0)
    (within : s.obj (Obj.lineLimit n) = 0 ∨ s.now ≤ b + s.obj (Obj.lineLimit n) * ms) : uartBreakEnd s n =
      ((((s.setChan n ((s.chan n).highAt s.now)).put (Obj.lineState n) 1).bump (Obj.breaks n)).log
        { index := 0x5880 + n, sub := 0x10, inst := n, status := 0, detail := 0, kind := 1 }) := by
  have high : (s.setChan n ((s.chan n).highAt s.now)).followLine n =
      (s.setChan n ((s.chan n).highAt s.now)).put (Obj.lineState n) 1 := by
    rw [State.followLine_idle (c := (s.chan n).highAt s.now) line rfl quiet, if_neg (by simp [UartChan.highAt, closed])]
  have limit : ((s.setChan n ((s.chan n).highAt s.now)).put (Obj.lineState n) 1).obj (Obj.lineLimit n) = s.obj (Obj.lineLimit n) :=
    State.put_obj_other _ _ (key_ne (by decide))
  have short : ¬ (s.obj (Obj.lineLimit n) ≠ 0 ∧ b + s.obj (Obj.lineLimit n) * ms < s.now) := fun ⟨limited, late⟩ =>
    within.elim limited (Nat.not_le.mpr late)
  unfold uartBreakEnd
  simp only [low]
  refine (congrArg (fun t => State.breakOver t n b s.now) high).trans ?_
  rw [State.breakOver, limit, if_neg short, State.transientFault_uncovered]

/-- A break that is longer than LINE_LIMIT allows. -/
theorem State.stuckNow_set {s : State} {n b : Nat} (low : (s.chan n).breakFrom = some b) (line : s.obj (Obj.lineState n) ≠ 0)
    (stuck : s.flag (Obj.uartFlags n) ufStuck = false) : s.stuckNow n =
      (((s.setFlag (Obj.uartFlags n) ufStuck true).put (Obj.lineState n) 5).lastingFault (0x5880 + n) 2 n 0 0 false) := by
  have flag : (s.setFlag (Obj.uartFlags n) ufStuck true).flag (Obj.uartFlags n) ufStuck = true := State.setFlag_flag _ _ _ _ (by decide)
  have here : (s.setFlag (Obj.uartFlags n) ufStuck true).obj (Obj.lineState n) ≠ 0 := by
    rw [State.setFlag, State.put_obj_other _ _ (key_ne (by decide))]
    exact line
  rw [State.stuckNow, if_neg (by simp [stuck]),
    State.followLine_break (s := s.setFlag (Obj.uartFlags n) ufStuck true) (b := b) here low, if_pos flag]

/-! ## O46 -/

/-- Settles O46: a character and a break are heard, a record goes to the buffer, each by its own equation of the model, and the steady
samples of what a channel sends read back as the value. -/
theorem uartReceive : Obligations.UartReceive := by
  refine ⟨fun s channel char ch m on works outside high driver quiet read start low past cfg parity framing noise stuck open' short => ?_,
    fun s channel char ch m on works outside high driver quiet read start low past cfg parity framing open' first short => ?_,
    fun s channel char ch on works outside high driver quiet read start => ?_,
    fun s channel char ch on works outside high driver quiet read start low past cfg parity framing noise stuck open' short => ?_,
    charLevels_read, fun s channel m on open' works unit cfg quiet high dest room => ?_, fun s snd channel b q a rx => ?_,
    fun s channel start on works outside driver quiet stuck cfg high closed dest room => ?_,
    fun s channel b on low quiet closed line within => ?_, fun s channel b on low line limit stuck => ?_⟩
  · have good : s.uartHear channel.val ch = s.uartGather channel.val ch := by
      simp [State.uartHear, parity, framing, noise, State.goodCharacter, stuck]
    have step := (State.Listens.character ⟨works, outside, high, driver, quiet⟩ read start low past).trans good
    have stamp : ch.start = char.start := by rw [read]; rfl
    refine Does.character (m := m) on (congrArg (fun t => Host.Outcome.next (settleOn s t)) step) (State.chanOn_line works)
      (by rw [open']; rfl) cfg high quiet short (.refl _ _ s) (by simp) fun u chan line _ => ?_
    rw [chan]
    exact ⟨congrArg some (UartOpen.heard_good parity framing noise m _), line, rfl, stamp ▸ rfl⟩
  · have counted : s.uartHear channel.val ch = (s.bump (Obj.parityErrors channel.val)).uartGather channel.val ch := by
      simp [State.uartHear, parity, framing]
    have step := (State.Listens.character ⟨works, outside, high, driver, quiet⟩ read start low past).trans counted
    have others : ∀ k, k ≠ Obj.parityErrors channel.val → (s.bump (Obj.parityErrors channel.val)).obj k = s.obj k :=
      fun k hk => State.put_obj_other _ _ hk
    have size : (s.bump (Obj.parityErrors channel.val)).charBytes channel.val = s.charBytes channel.val := by
      rw [State.charBytes, others (Obj.dataBits channel.val) (key_ne (by decide))]; rfl
    have bytes : (s.bump (Obj.parityErrors channel.val)).heardBytes channel.val ch = s.heardBytes channel.val ch := by
      rw [State.heardBytes, size, others (Obj.dataBits channel.val) (key_ne (by decide))]; rfl
    have marks : m.heard ch (s.heardBytes channel.val ch) = { m with
        data := m.data ++ s.heardBytes channel.val ch, parity := true, noise := m.noise || ch.noise, firstErr := some m.data.length } := by
      simp [UartOpen.heard, parity, framing, first]
    refine Does.character (m := m) on (congrArg (fun t => Host.Outcome.next (settleOn s t)) step)
      (by rw [others (Obj.lineState channel.val) (key_ne (by decide))]; exact State.chanOn_line works)
      ((congrArg (·.getD { first := uartStamp ch.start }) open').trans rfl) cfg high quiet
      (by rw [size, others (Obj.rxMax channel.val) (key_ne (by decide))]; exact short) (.bump s _ (by simp)) (by simp) fun u chan _ same => ?_
    rw [chan, same (Obj.parityErrors channel.val) (key_ne (by decide)), bytes, marks]
    exact ⟨rfl, State.put_obj_same ..⟩
  · have step : uartCharacterRx s channel.val char = s.bump (Obj.noiseEvents channel.val) := by
      have listens : ¬ ((!s.chanHears channel.val) = true ∨ (s.chan channel.val).breakFrom ≠ none) := by
        simp [State.Listens.hears ⟨works, outside, high, driver, quiet⟩, high]
      rw [uartCharacterRx, ← read, if_neg listens, start]
      rfl
    exact Does.of on (congrArg (fun t => Host.Outcome.next (settleOn s t)) rfl) step (State.put_obj_same ..) (.bump s _ (by simp))
  · have good : s.uartHear channel.val ch = s.uartGather channel.val ch := by
      simp [State.uartHear, parity, framing, noise, State.goodCharacter, stuck]
    have step := (State.Listens.character ⟨works, outside, high, driver, quiet⟩ read start low past).trans good
    have stamp : ch.start = char.start := by rw [read]; rfl
    refine Does.character (m := { first := uartStamp ch.start }) on (congrArg (fun t => Host.Outcome.next (settleOn s t)) step)
      (State.chanOn_line works) (by rw [open']; rfl) cfg high quiet (by simpa using short) (.refl _ _ s) (by simp) fun u chan line _ => ?_
    rw [chan]
    exact ⟨(congrArg some (UartOpen.heard_good parity framing noise _ _)).trans (stamp ▸ rfl), line, stamp ▸ rfl⟩
  · have now : uartGapClose s channel.val = (s.waitUntil ((s.chan channel.val).lastRx + s.rxGapNs channel.val)).uartClose channel.val 0 := by
      have gap : s.rxCfg channel.val (Obj.gapUnit channel.val) ≠ 0 := by rw [State.rxCfg, cfg]; exact unit
      rw [uartGapClose, if_neg (by simp [works, open', gap])]
    have close := State.uartClose_buffer (s := s.waitUntil ((s.chan channel.val).lastRx + s.rxGapNs channel.val)) (close := 0)
      open' cfg dest room
    have line := State.followLine_idle (n := channel.val) (c := (s.chan channel.val).closed m 0)
      (s := (s.waitUntil ((s.chan channel.val).lastRx + s.rxGapNs channel.val)).counted channel.val 0 m)
      (by rw [State.counted_other _ _ _ _ (key_ne (by decide))]; exact State.chanOn_line works) high quiet
    refine Does.of on rfl (now.trans (close.trans line)) ?_ ?_
    · have chan := State.setChan_chan ((s.waitUntil ((s.chan channel.val).lastRx + s.rxGapNs channel.val)).counted channel.val 0 m)
        channel.val ((s.chan channel.val).closed m 0)
      refine ⟨congrArg (·.message) chan, congrArg (·.rx) chan, ?_, State.put_obj_same .., State.le_now_waitUntil ..⟩
      exact (State.put_obj_other _ _ (key_ne (by decide))).trans (State.counted_messages _ _ 0 m)
    · exact (((OnlyChanges.waitUntil s _ _ (by decide)).trans (.counted _ _ _ _ (by simp) (by decide))).trans
        (.setChan _ _ _ (by decide))).trans (.put _ _ _ (by simp))
  · refine Answers.read rfl a (s.lookup_5880_8 channel) rfl rfl (t := s.setChan channel.val { s.chan channel.val with rx := q }) ?_ (by decide)
      (State.setChan_chan ..) (.setChan _ _ _ (by decide))
    exact congrArg (fun (x : State × List Byte) => (x.1, Answer.now stDone 0 x.2)) (State.readObject_rxPoll channel rx _)
  · have step := State.Listens.breaks (start := start) ⟨works, outside, high, driver, quiet⟩ stuck cfg closed dest room
    exact Does.of on rfl step ⟨State.setChan_chan .., State.put_obj_same ..⟩
      (((OnlyChanges.setChan _ _ _ (by decide)).trans (.put _ _ _ (by simp))).trans (.setChan _ _ _ (by decide)))
  · refine Does.of on rfl (uartBreakEnd_counted low quiet closed line within) ⟨State.setChan_chan .., ?_, ?_⟩ ?_
    · exact (State.log_obj_other _ _ (lineState_vgNextSeq channel.isLt)).trans
        ((State.put_obj_other _ _ (key_ne (by decide))).trans (State.put_obj_same ..))
    · refine (State.log_obj_other _ _ (key_ne (by decide))).trans ((State.put_obj_same _ _ _).trans ?_)
      exact congrArg (fun x => (x + 1) % 2 ^ 32) (State.put_obj_other _ _ (key_ne (by decide)))
    · exact (((OnlyChanges.setChan _ _ _ (by decide)).trans (.put _ _ _ (by simp))).trans (.bump _ _ (by simp))).trans
        (.log _ _ (by simp) (by decide) (by decide))
  · have step : lineStuck s channel.val = (s.waitUntil (b + s.obj (Obj.lineLimit channel.val) * ms + 1)).stuckNow channel.val := by
      unfold lineStuck
      simp only [low]
      exact if_neg (by simp [limit, stuck])
    have set := State.stuckNow_set (s := s.waitUntil (b + s.obj (Obj.lineLimit channel.val) * ms + 1)) low line stuck
    have fault (t : State) := OnlyChanges.lastingFault t (0x5880 + channel.val) 2 channel.val 0 0 false (ks := [Obj.vgNextSeq]) (ps := logParts)
      (by simp) (by decide) (by decide) (by decide)
    have flags : Obj.uartFlags channel.val ∉ [Obj.vgNextSeq] :=
      mt List.mem_singleton.mp (key_ne (a := 0x5880 + channel.val) (i := 2) (b := 0xF000) (j := 1) (by decide))
    have line : Obj.lineState channel.val ∉ [Obj.vgNextSeq] := mt List.mem_singleton.mp (lineState_vgNextSeq channel.isLt)
    have apart : Obj.uartFlags channel.val ≠ Obj.lineState channel.val := key_ne (by decide)
    refine Does.of on rfl (step.trans set) ⟨?_, ?_, State.openFault_open .., ?_⟩ ?_
    · rw [State.flag, (fault _).1 _ flags, State.put_obj_other _ _ apart]
      exact State.setFlag_flag _ _ _ _ (by decide)
    · exact ((fault _).1 _ line).trans (State.put_obj_same ..)
    · have time := (fault (((s.waitUntil (b + s.obj (Obj.lineLimit channel.val) * ms + 1)).setFlag (Obj.uartFlags channel.val) ufStuck
        true).put (Obj.lineState channel.val) 5)).2 .time (by decide)
      have later := s.le_now_waitUntil (b + s.obj (Obj.lineLimit channel.val) * ms + 1)
      exact lt_of_lt_of_eq (Nat.lt_of_succ_le later) (congrArg (· / 2 ^ 40) time).symm
    · exact (((OnlyChanges.waitUntil _ _ _ (by decide)).trans (.setFlag _ _ _ _ (by simp))).trans (.put _ _ _ (by simp))).trans
        (.lastingFault _ _ _ _ _ _ _ (by simp) (by decide) (by decide) (by decide))

end Sys2Proof.Machine
end

section
/-! SUPPORT. What the blocks deliver as a command settles, at a node out of service for whose answers nobody waits: it keeps the objects that
tell the broken segment. -/
namespace Sys2Proof.Machine

/-! ## Some objects and parts kept -/

/-- The objects that tell which segment is broken and that a node out of service rests on. -/
def calmKeys : List Nat := Obj.wrapSegment :: restWatch

/-- Those objects and some parts are the same in both states. -/
def State.Keeps (ps : List Part) (s t : State) : Prop := (∀ k ∈ calmKeys, t.obj k = s.obj k) ∧ ∀ p ∈ ps, p.same s t

section Keeps
variable {ps : List Part} {s t u : State}

theorem State.Keeps.refl (s : State) : s.Keeps ps s := ⟨fun _ _ => rfl, fun p _ => Part.same_refl s p⟩

theorem State.Keeps.trans (h : s.Keeps ps t) (g : t.Keeps ps u) : s.Keeps ps u :=
  ⟨fun k hk => (g.1 k hk).trans (h.1 k hk), fun p hp => Part.same_trans (h.2 p hp) (g.2 p hp)⟩

theorem State.Keeps.mono {qs : List Part} (h : s.Keeps ps t) (sub : ∀ p ∈ qs, p ∈ ps) : s.Keeps qs t := ⟨h.1, fun p hp => h.2 p (sub p hp)⟩

theorem State.Keeps.of {ks : List Nat} {qs : List Part} (c : OnlyChanges ks qs s t) (keys : ∀ k ∈ calmKeys, k ∉ ks) (parts : ∀ p ∈ ps, p ∉ qs) :
    s.Keeps ps t := ⟨fun k hk => c.1 k (keys k hk), fun p hp => c.2 p (parts p hp)⟩

/-- A write to an object of a sub-index above 4. -/
theorem State.Keeps.put {a j v : Nat} (h : 4 < j % 256) : s.Keeps ps (s.put (a * 256 + j) v) := by
  refine .of (OnlyChanges.put s v [] (List.mem_singleton_self _)) (fun k hk m => ?_) (by simp)
  have sub : k % 256 ≤ 4 := (by decide : ∀ k ∈ calmKeys, k % 256 ≤ 4) k hk
  have same : k = a * 256 + j := List.mem_singleton.mp m
  omega

theorem State.Keeps.unmanned (h : s.Keeps [.rst] t) (g : s.Unmanned) : t.Unmanned :=
  g.ofKeys (fun k hk => h.1 k (List.mem_cons_of_mem _ hk)) (h.2 .rst (by decide))

/-- What each step keeps, under a condition that it carries over. -/
theorem State.Keeps.forEachOf {α : Type} {f : State → α → State} {P : State → Prop} (stay : ∀ {s t : State}, P s → s.Keeps ps t → P t)
    (h : ∀ (t : State) (x : α), P t → t.Keeps ps (f t x)) : ∀ (l : List α) (s : State), P s → s.Keeps ps (forEach l f s)
  | [], s, _ => .refl s
  | x :: r, s, p => (h s x p).trans (.forEachOf stay h r _ (stay p (h s x p)))

theorem State.Keeps.forEach {α : Type} {f : State → α → State} (h : ∀ (t : State) (x : α), t.Keeps ps (f t x)) :
    ∀ (l : List α) (s : State), s.Keeps ps (forEach l f s)
  | [], s => .refl s
  | x :: r, s => (h s x).trans (.forEach h r _)

end Keeps

/-! ## What the blocks deliver -/

/-- Nobody waits for an answer, no engine has a message in the switch, and no engine is to be woken. -/
structure State.NobodyWaits (s : State) : Prop where
  window : s.bridge.pending = none
  objects : s.dict.outstanding = []
  fifos : s.eng.fifos = []
  wakes : s.fc.wakes = []

/-- The parts that the answers leave alone. -/
def waitParts : List Part := [.rst, .bridge, .dict, .eng, .fc]

theorem State.NobodyWaits.ofParts {s t : State} (h : s.NobodyWaits) (same : ∀ p ∈ waitParts, p.same s t) : t.NobodyWaits := by
  have bridge : t.bridge = s.bridge := same .bridge (by decide)
  have dict : t.dict = s.dict := same .dict (by decide)
  have eng : t.eng = s.eng := same .eng (by decide)
  have fc : t.fc = s.fc := same .fc (by decide)
  exact ⟨bridge ▸ h.window, dict ▸ h.objects, eng ▸ h.fifos, fc ▸ h.wakes⟩

theorem State.NobodyWaits.ofKeeps {s t : State} (h : s.NobodyWaits) (k : s.Keeps waitParts t) : t.NobodyWaits := h.ofParts k.2

theorem OnlyChanges.queueLateError (s : State) (r : LateError) : OnlyChanges [Obj.leqLost, Obj.leqFlags] [.acc] s (s.queueLateError r) :=
  .ite ((OnlyChanges.bump s _ (by decide)).trans (.setFlag _ _ _ _ (by decide))) (.setAcc s _ (by decide))

/-- A completion for which nobody waits. -/
theorem State.NobodyWaits.deliverOne {s : State} (h : s.NobodyWaits) (c : Completion) : s.Keeps waitParts (s.deliverOne c) := by
  unfold State.deliverOne
  split
  case h_1 _ tag _ =>
    have none : s.windowArrive tag c.status [] = s := by simp [State.windowArrive, h.window]
    exact none.symm ▸ .refl s
  case h_2 =>
    simp only [h.objects, List.find?_nil, ite_self]
    exact .refl s
  case h_3 _ n _ =>
    split
    · exact .refl s
    · exact .put (j := 23) (by decide)
  case h_4 => exact .refl s
  case h_5 _ f _ =>
    split
    · exact .refl s
    · exact .of (.queueLateError s _) (by decide) (by decide)
  case h_6 => exact .refl s

/-- Messages that no engine has in the switch. -/
theorem State.NobodyWaits.messageGone {s : State} (h : s.NobodyWaits) (n no : Nat) (admitted : Bool) : s.messageGone n no admitted = s := by
  have closed : (s.fifo n).closed = [] := by rw [State.fifo, h.fifos]; rfl
  simp [State.messageGone, closed]

theorem State.NobodyWaits.allGone {s : State} (h : s.NobodyWaits) :
    ∀ l : List (Nat × Nat × Bool), forEach l (fun t m => t.messageGone m.1 m.2.1 m.2.2) s = s
  | [] => rfl
  | m :: r => by
    show forEach r _ (s.messageGone m.1 m.2.1 m.2.2) = s
    rw [h.messageGone]
    exact State.NobodyWaits.allGone h r

/-! ## Work that is withdrawn -/

/-- What the end of work at its destination may change. -/
def workParts : List Part := .acc :: .sw :: logParts

theorem OnlyChanges.queueWrite (s : State) (ring : Nat) (r : JRecord) (acceptance : Bool) :
    OnlyChanges [Obj.vgNextSeq] workParts s (s.queueWrite ring r acceptance) :=
  ((OnlyChanges.startWrites (by decide) 4 s).trans (.setAcc _ _ (by decide))).trans (.startWrites (by decide) 4 _)

theorem OnlyChanges.sendLateError (s : State) (peer : Nat) (r : LateError) (failed : Option WorkRef) :
    OnlyChanges [Obj.vgNextSeq] workParts s (s.sendLateError peer r failed) := by
  refine .ite ?_ (.log s _ (by decide) (by decide) (by decide))
  unfold State.issue
  dsimp only
  split
  · exact (OnlyChanges.setAcc s _ (by decide)).trans (.setSession _ _ (by decide))
  · exact (OnlyChanges.setAcc s _ (by decide)).trans (.setSession _ _ (by decide))

theorem OnlyChanges.reportFailure (s : State) (e : Session) (r : JRecord) : OnlyChanges [Obj.vgNextSeq] workParts s (s.reportFailure e r) :=
  .ite (.log s _ (by decide) (by decide) (by decide)) (.ite (.sendLateError s _ _ _) (.refl _ _ s))

theorem OnlyChanges.advanceWork : ∀ (n : Nat) (s : State) (e : Session) (owed : Bool),
    OnlyChanges [Obj.vgNextSeq] workParts s (State.advanceWork n s e owed).1
  | 0, s, _, _ => .refl _ _ s
  | n + 1, s, e, owed => by
    rw [State.advanceWork]
    dsimp only
    split
    · split
      · exact .refl _ _ s
      · split
        · exact (OnlyChanges.offerRing s _ _ _ (by decide)).trans (.advanceWork n _ _ _)
        · exact .advanceWork n _ _ _
    · split
      · exact .offerRing s _ _ _ (by decide)
      · exact .refl _ _ s

theorem OnlyChanges.freeEntries (s : State) : OnlyChanges [Obj.vgNextSeq] workParts s s.freeEntries :=
  .foldl (fun t _ => (OnlyChanges.setAcc t _ (by decide)).trans (.foldl (fun t _ => .setMram t _ _ (by decide)) _ _)) _ s

theorem OnlyChanges.settleWork (s : State) (e : Session) : OnlyChanges [Obj.vgNextSeq] workParts s (s.settleWork e) :=
  have advanced := (OnlyChanges.advanceWork (e.work.length + 1) s e false).trans
    (.setSession _ (State.advanceWork (e.work.length + 1) s e false).2 (by decide))
  advanced.trans (.freeEntries _)

theorem OnlyChanges.finishWork (s : State) (r : WorkRef) (result : Nat) : OnlyChanges [Obj.vgNextSeq] workParts s (s.finishWork r result) := by
  unfold State.finishWork
  split
  · exact .refl _ _ s
  · split
    · exact .refl _ _ s
    · exact ((OnlyChanges.queueWrite s _ _ _).trans (.reportFailure _ _ _)).trans (.settleWork _ _)

section Parts
variable {ks : List Nat}

theorem OnlyChanges.setCan (s : State) (n : Nat) (c : CanCtl) : OnlyChanges ks [.fc, .can, .uart] s (s.setCan n c) :=
  .ofParts rfl fun p hp => by cases p <;> first | rfl | exact absurd (by decide) hp

theorem OnlyChanges.setEng (s : State) (x : EnginesState) : OnlyChanges ks [.eng] s { s with eng := x } :=
  .ofParts rfl fun p hp => by cases p <;> first | rfl | exact absurd (by decide) hp

theorem OnlyChanges.setSme (s : State) (x : SmeState) (y : SwitchState) : OnlyChanges ks [.sw, .sme] s { s with sw := y, sme := x } :=
  .ofParts rfl fun p hp => by cases p <;> first | rfl | exact absurd (by decide) hp

end Parts

theorem OnlyChanges.withdrawWork (s : State) (r : WorkRef) (index : Nat) : OnlyChanges [] [.fc, .can, .uart] s (s.withdrawWork r index) :=
  .ite (.setCell s _ _ (by decide)) (.ite (.setCan s _ _)
    (.ite (.setChan s _ _ (by decide)) (.refl _ _ s)))

theorem State.dropFuture_keeps (s : State) : s.Keeps [.rst] s.dropFuture := by
  unfold State.dropFuture
  split
  · exact .refl s
  · split
    · exact .refl s
    · exact .forEach (fun t _ => (State.Keeps.of (.withdrawWork t _ _) (by decide) (by decide)).trans
        (.of (.finishWork _ _ _) (by decide) (by decide))) _ s

/-- Out of service no cell follows a FIFO. -/
theorem State.Unmanned.fcFollow {s : State} (h : s.Unmanned) (n : Nat) : s.fcFollow n = s := by
  have idle : ∀ cell above polarity, s.fcDrive cell above polarity = s := fun _ _ _ => if_neg (by simp [h.notServing])
  rw [State.fcFollow, idle, idle]

theorem State.Unmanned.requestFifo {s : State} (h : s.Unmanned) (n : Nat) (w : FifoWrite) : s.Keeps [.rst] (s.requestFifo n w) := by
  have kept : ∀ (x : EnginesState) (v : Nat), s.Keeps [.rst] (({ s with eng := x } : State).put (Obj.fifoFlags n) v) := fun x v =>
    (State.Keeps.of (ks := []) (.setEng s x) (by simp) (by decide)).trans (.put (j := 19) (by decide))
  unfold State.requestFifo State.setFifo
  dsimp only
  split
  · rw [((kept _ _).unmanned h).fcFollow]
    exact kept _ _
  · exact kept _ _

theorem State.Unmanned.gatherRequests {s : State} (h : s.Unmanned) : s.Keeps [.rst] s.gatherRequests := by
  refine .forEachOf (fun h k => k.unmanned h) (fun t e g => ?_) _ s h
  split
  · split
    · split
      · dsimp only
        split
        · exact g.requestFifo _ _
        · exact .refl t
      · exact .refl t
    · exact .refl t
  · exact .refl t

theorem State.smeGather_keeps (s : State) : s.Keeps [.rst] s.smeGather := by
  refine .forEach (fun t e => ?_) _ s
  split
  · dsimp only
    split
    · exact .of (ks := []) (.setSme t _ _) (by simp) (by decide)
    · exact .refl t
  · exact .refl t

/-- What the blocks deliver before the revert resumes keeps the objects that tell the broken segment. -/
theorem State.NobodyWaits.deliver {s : State} (h : s.NobodyWaits) (g : s.Unmanned) : ∃ t, s.Keeps [.rst] t ∧ s.deliver = t.resumeRevert.nextSplice := by
  have taken : s.Keeps waitParts { s with acc := { s.acc with completions := [] } } :=
    .of (ks := []) (.setAcc s _ (List.mem_singleton_self Part.acc)) (by simp) (by decide)
  have answered := taken.trans (.forEachOf State.NobodyWaits.ofKeeps (fun _ c g => g.deliverOne c) s.acc.completions _ (h.ofKeeps taken))
  refine ⟨_, ?_, rfl⟩
  generalize forEach s.acc.completions State.deliverOne _ = t at answered
  have admitted : s.Keeps waitParts { t with sw := { t.sw with admitted := [] } } :=
    answered.trans (.of (ks := []) (.setSw t _ (List.mem_singleton_self Part.sw)) (by simp) (by decide))
  have idle := h.ofKeeps admitted
  dsimp only
  rw [idle.allGone, idle.wakes]
  have woken : s.Keeps [.rst] { ({ t with sw := { t.sw with admitted := [] } } : State) with fc := { t.fc with wakes := [] } } :=
    (admitted.mono (by decide)).trans (.of (ks := []) (.setFc _ _ (List.mem_singleton_self Part.fc)) (by simp) (by decide))
  have dropped := woken.trans (State.dropFuture_keeps _)
  exact (dropped.trans (dropped.unmanned g).gatherRequests).trans (State.smeGather_keeps _)

end Sys2Proof.Machine
end

section
/-! SUPPORT. A revert that resumes and a splice that starts as a command settles, in any state of the ring, and the refutation of O22. -/
namespace Sys2Proof.Machine

/-! ## The end of a revert, in a splice or outside it -/

/-- A splice that the end of its wrap ends too. -/
def State.leftSplice (s : State) : State :=
  { s.put Obj.lastSpliceEpochs s.acc.spliceEpochs with acc := { s.acc with splice := none } }

theorem State.endWrap_splice {s : State} (u d : Nat) (h : s.acc.splice.isSome = true) : s.endWrap u d = s.leftSplice.endWrap u d := by
  have none : s.leftSplice.acc.splice.isSome = false := rfl
  simp only [State.endWrap, h, none, if_true, Bool.false_eq_true, if_false]
  rfl

/-- The objects that a revert which resumes may change. -/
def anyResumeKeys : List Nat := Obj.weldState :: Obj.lastSpliceEpochs :: resumeKeys

theorem State.Resumes.change {s t : State} (h : s.Resumes t) : OnlyChanges anyResumeKeys resumeParts s t :=
  h.1.mono (fun _ m => List.mem_cons_of_mem _ (List.mem_cons_of_mem _ m)) (fun _ m => m)

theorem OnlyChanges.endWrap (s : State) (u d : Nat) : OnlyChanges anyResumeKeys resumeParts s (s.endWrap u d) := by
  cases h : s.acc.splice.isSome with
  | false => exact (State.endWrap_resumes u d (Option.isSome_eq_false_iff.mp h |> Option.isNone_iff_eq_none.mp)).change
  | true =>
    rw [State.endWrap_splice u d h]
    exact ((OnlyChanges.put s _ _ (by decide)).trans (.setAcc _ _ (by decide))).trans (State.endWrap_resumes u d rfl).change

theorem OnlyChanges.weldWith {s : State} (held : s.node = stHeld) : OnlyChanges anyResumeKeys [.acc] s s.weldWith := by
  have stays : ∀ t : State, t.node = stHeld → ¬ (t.node = stLoading ∧ t.rst.loaded = true) := fun t h c => by simp [h, stHeld, stLoading] at c
  refine .ite ?_ (.refl _ _ s)
  have c : OnlyChanges anyResumeKeys [.acc] s (({ s with acc := { s.acc with joining := false } } : State).put Obj.weldState (if s.ownId = 0 then 0 else 2)) :=
    (OnlyChanges.setAcc s _ (by decide)).trans (.put _ _ _ (by decide))
  have node : _ = stHeld := (c.obj (k := Obj.nodeState) (by decide)).trans held
  unfold State.weldedIn
  dsimp only
  rw [if_neg (stays _ node)]
  exact c

/-- A notice that a revert is done has gone out. -/
def State.ToldDone (s : State) : Prop := ∃ n : Notice, n.kind = 4 ∧ Out.notice .a n ∈ s.out

theorem State.originate_told {s : State} {n : Notice} (kind : n.kind = 4) (fault : s.ring.outFault = false) : (s.originate n).ToldDone :=
  ⟨{ n with origin := if n.origin = 0 then s.ownId else n.origin, seq := s.nextNotice }, kind, State.sendBoth_mem s.useNotice { n with origin := if n.origin = 0 then s.ownId else n.origin, seq := s.nextNotice } fault⟩

/-- The end of a revert is told, unless the transmitter has a fault. -/
theorem State.completeRevert_told {s : State} (u d : Nat) (stored : List (Nat × Frame)) (held : s.node = stHeld) :
    OnlyChanges anyResumeKeys resumeParts s (s.completeRevert u d stored) ∧
      ((s.completeRevert u d stored).ring.outFault = false → (s.completeRevert u d stored).ToldDone) := by
  have before : OnlyChanges anyResumeKeys resumeParts s (forEach stored (fun t f => t.enterRing .a f.1 f.2) (s.endWrap u d)) :=
    (OnlyChanges.endWrap s u d).trans (State.enterAll_resumes .a stored _).change
  rw [State.completeRevert]
  generalize forEach stored (fun t f => t.enterRing .a f.1 f.2) (s.endWrap u d) = t at before
  generalize hn : ({ kind := 0x04, origin := s.ownId, u := u, d := d, time := s.now } : Notice) = n
  have told : OnlyChanges anyResumeKeys resumeParts s (t.originate n) := before.trans (.originate t n (by decide) (by decide))
  have weld := OnlyChanges.weldWith (s := t.originate n) ((told.obj (k := Obj.nodeState) (by decide)).trans held)
  have ring : (t.originate n).weldWith.ring = (t.originate n).ring := weld.2 .ring (by decide)
  have out : (t.originate n).weldWith.out = (t.originate n).out := weld.2 .out (by decide)
  refine ⟨told.trans (weld.mono (fun _ m => m) (by decide)), fun clear => ?_⟩
  obtain ⟨seen, sent⟩ := State.originate_ring t n
  have fault : t.ring.outFault = false := by rw [ring, sent] at clear; exact clear
  obtain ⟨m, kind, mem⟩ := State.originate_told (n := n) (hn ▸ rfl) fault
  exact ⟨m, kind, out ▸ mem⟩

theorem OnlyChanges.enterAll {ks : List Nat} (p : Path) (l : List (Nat × Frame)) (s : State) :
    OnlyChanges ks [.ring, .sw] s (forEach l (fun t f => t.enterRing p f.1 f.2) s) :=
  .foldl (fun t _ => .ite (.refl _ _ t) (.setSw t _ (by decide))) l s

theorem OnlyChanges.completeDark (s : State) (r : RevertState) : OnlyChanges [Obj.wraps 1] [.ring, .sw] s (s.completeDark r) := by
  have clear : OnlyChanges [Obj.wraps 1] [.ring, .sw] s { s with ring := { s.ring with revert := none } } := .setRing s _ (by decide)
  unfold State.completeDark
  dsimp only
  split
  · exact (clear.trans (((OnlyChanges.setRing _ _ (by decide)).trans (.bump _ _ (by decide))).trans (.setRing _ _ (by decide)))).trans
      (.enterAll _ _ _)
  · exact clear.trans (.enterAll _ _ _)

/-- A revert that resumes leaves the broken segment as it is told, or tells its end. -/
theorem State.resumeRevert_told {s : State} (held : s.node = stHeld) : OnlyChanges anyResumeKeys resumeParts s s.resumeRevert ∧
    (s.resumeRevert.obj Obj.wrapSegment = s.obj Obj.wrapSegment ∨ (s.resumeRevert.ring.outFault = false → s.resumeRevert.ToldDone)) := by
  unfold State.resumeRevert
  split
  · rename_i r _
    split
    · unfold State.revertDone
      split
      · have c := OnlyChanges.completeDark s r
        exact ⟨c.mono (by decide) (by decide), .inl (c.obj (by decide))⟩
      · obtain ⟨c, told⟩ := State.completeRevert_told r.u r.d r.stored held
        exact ⟨c, .inr told⟩
    · exact ⟨.refl _ _ s, .inl rfl⟩
  · exact ⟨.refl _ _ s, .inl rfl⟩

/-! ## The start of a splice -/

/-- The node `x` is being spliced in. -/
def State.splicing (s : State) (x : Present) : State :=
  ((({ s with ring := { s.ring with wraps := s.spliceWraps x }, acc := { s.acc with splice := some s.now, spliceEpochs := 0 } } : State).setFlag
    Obj.faultSummary fsWrapActive true).showWraps)

theorem State.startSplice_cases (s : State) (x : Present) : s.startSplice x = s.splicing x ∨
    ∃ w, s.startSplice x = (s.splicing x).startRevert w :=
  (ite_eq_or_eq _ _ _).symm.imp id fun e => ⟨_, e⟩

theorem State.startSplice_spec (s : State) (x : Present) : (s.startSplice x).acc.splice.isSome = true ∧
    OnlyChanges [Obj.faultSummary, Obj.ringState, Obj.wrapSegment] [.ring, .acc, .out] s (s.startSplice x) := by
  have c : OnlyChanges [Obj.faultSummary, Obj.ringState, Obj.wrapSegment] [.ring, .acc, .out] s (s.splicing x) :=
    (((OnlyChanges.setRing s _ (by decide)).trans (.setAcc _ _ (by decide))).trans (.setFlag _ _ _ _ (by decide))).trans
      (.showWraps _ (by decide) (by decide))
  obtain e | ⟨w, e⟩ := s.startSplice_cases x
  · exact e ▸ ⟨rfl, c⟩
  · have start := OnlyChanges.startRevert (ks := [Obj.ringState]) (ps := [.ring, .out]) (s.splicing x) w (by decide) (by decide) (by decide)
    have acc : (s.startSplice x).acc = (s.splicing x).acc := e ▸ start.2 .acc (by decide)
    exact ⟨acc ▸ rfl, e ▸ c.trans (start.mono (by decide) (by decide))⟩

/-- The next splice waits, or it is under way. -/
theorem State.nextSplice_cases (s : State) : s.nextSplice = s ∨ (s.nextSplice.acc.splice.isSome = true ∧
    OnlyChanges [Obj.faultSummary, Obj.ringState, Obj.wrapSegment] [.ring, .acc, .out] s s.nextSplice) := by
  unfold State.nextSplice
  split
  · rename_i x r _
    split
    · have start := State.startSplice_spec { s with acc := { s.acc with splicesLeft := r } } x
      exact .inr ⟨start.1, (OnlyChanges.setAcc s _ (by decide)).trans start.2⟩
    · exact .inl rfl
  · exact .inl rfl

/-! ## O22 -/

/-- A node that PTP does not lead hears no silence of it. -/
theorem State.ptpSilence_other {s : State} (h : s.obj Obj.timeSource ≠ 1) : s.ptpSilence = s := if_neg fun c => h c.1

/-- At a node in HELD for whose answers nobody waits, settling leaves the broken segment as the command told it, unless a splice gets under way
or the end of a revert is told on a transmitter without fault. -/
theorem settle_segment {s u : State} (before : s.Unmanned) (whole : s.ringState ≠ 4) (g : u.Unmanned) (held : u.node = stHeld)
    (waits : u.NobodyWaits) (source : u.obj Obj.timeSource ≠ 1) (noSplice : (settle s u).acc.splice = none)
    (clear : (settle s u).ring.outFault = false) (untold : ¬ (settle s u).ToldDone) :
    (settle s u).obj Obj.wrapSegment = u.obj Obj.wrapSegment := by
  obtain ⟨t, kept, delivered⟩ := waits.deliver g
  have heldT : t.node = stHeld := (kept.1 Obj.nodeState (by decide)).trans held
  obtain ⟨resumed, segment⟩ := State.resumeRevert_told heldT
  have rest : t.resumeRevert.Unmanned := (kept.unmanned g).ofKeys (fun k hk => resumed.obj (by revert k; decide)) (resumed.2 .rst (by decide))
  have next := t.resumeRevert.nextSplice_cases
  have calm : u.deliver.Unmanned := by
    rw [delivered]
    obtain e | ⟨-, c⟩ := next
    · exact e.symm ▸ rest
    · exact rest.ofKeys (fun k hk => c.obj (by revert k; decide)) (c.2 .rst (by decide))
  have settled := settle_delivered (before := s) g calm (State.ptpSilence_other source) before.live before.notServing whole
  rw [delivered] at settled
  have acc : (settle s u).acc = t.resumeRevert.nextSplice.acc := settled.2 .acc (by decide)
  obtain e | ⟨splice, -⟩ := next
  · rw [e] at settled
    have ring : (settle s u).ring = t.resumeRevert.ring := settled.2 .ring (by decide)
    have out : (settle s u).out = t.resumeRevert.out := settled.2 .out (by decide)
    obtain same | told := segment
    · exact (settled.obj (by decide)).trans (same.trans (kept.1 _ (by decide)))
    · obtain ⟨n, kind, mem⟩ := told (ring ▸ clear)
      exact absurd ⟨n, kind, out ▸ mem⟩ untold
  · rw [← acc, noSplice] at splice
    cases splice

/-- An idle node of a split ring, with a record of the segment to its neighbour 7 in which it has no part, and B-in in training. -/
def splitNode : State :=
  let t := idleNode.put Obj.pathBState lkTrain
  { t with ring := { t.ring with bIn := { t.ring.bIn with neighbour := 7 }, wraps := [{ u := 5, d := 7, detection := 0 }, { u := 8, d := 9, detection := 0 }] } }

theorem splitNode_idle : splitNode.AtRest ∧ splitNode.NobodyWaits ∧ splitNode.node = stHeld ∧ splitNode.ringState ≠ 4 := by
  refine ⟨⟨?_, ?_, ?_, ?_, ?_, ?_, ?_, ?_, ?_, ?_, ?_⟩, ⟨?_, ?_, ?_, ?_⟩, ?_, ?_⟩ <;> decide

/-- B-in times out: the record stands already, and WRAP_SEGMENT tells the other break. -/
theorem splitNode_timesOut : (bInTimeout splitNode).AtRest ∧ (bInTimeout splitNode).obj Obj.wrapSegment = 8 * 256 + 9 ∧
    (bInTimeout splitNode).acc.splice = none ∧ (bInTimeout splitNode).ring.revert = none ∧ (bInTimeout splitNode).ring.outFault = false ∧
    (bInTimeout splitNode).obj Obj.timeSource ≠ 1 ∧ (bInTimeout splitNode).out =
      [.notice .a { kind := 1, origin := 5, u := 5, d := 7, time := (bInTimeout splitNode).now, seq := splitNode.nextNotice }] := by
  refine ⟨⟨?_, ?_, ?_, ?_, ?_, ?_, ?_, ?_, ?_, ?_, ?_⟩, ?_, ?_, ?_, ?_, ?_, ?_⟩ <;> decide

/-- Refutes O22: at `splitNode` WRAP_SEGMENT tells the newest record of the ring, which is not this node's own segment. -/
theorem not_breakAndWrap : ¬ Obligations.BreakAndWrap := by
  rintro ⟨-, -, -, -, timeout⟩
  obtain ⟨rest, waits, held, whole⟩ := splitNode_idle
  obtain ⟨settles, segment, splice, revert, fault, source, out⟩ := splitNode_timesOut
  obtain ⟨u, meaning, ⟨-, own, -⟩, change⟩ := timeout splitNode rest.on (by decide) rfl rfl (by decide) (by decide)
  have same : settle splitNode (bInTimeout splitNode) = settle splitNode u :=
    Host.Outcome.next.inj ((congrArg Host.Outcome.next (settleOn_on _ rest.on)).symm.trans meaning)
  have silent : (bInTimeout splitNode).ptpSilence = bInTimeout splitNode := State.ptpSilence_other source
  have effect := settle_still rest whole settles revert silent
  rw [same] at effect
  have untold : ¬ (settle splitNode u).ToldDone := by
    rintro ⟨n, kind, mem⟩
    rw [effect.2 .out (by decide), out, List.mem_singleton] at mem
    injection mem with _ sent
    rw [sent] at kind
    exact absurd kind (by decide)
  have acc : (settle splitNode u).acc = (bInTimeout splitNode).acc := effect.2 .acc (by decide)
  have ring : (settle splitNode u).ring = (bInTimeout splitNode).ring := effect.2 .ring (by decide)
  have told := settle_segment rest.unmanned whole (rest.unmanned.ofKeys (fun k hk => change.obj (by revert k; decide)) (change.2 .rst (by decide)))
    ((change.obj (k := Obj.nodeState) (by decide)).trans held)
    (waits.ofParts fun p hp => change.2 p (by revert p; decide))
    (by rw [change.obj (by decide)]; decide) (acc ▸ splice) (ring ▸ fault) untold
  rw [effect.obj (by decide), segment, own] at told
  exact absurd told (by decide)

end Sys2Proof.Machine
end
